-- ==== Sys2Proof/Word.lean ====
section
/-!
DEFINITION. Word.lean: the byte type and the values an object can hold. Quantities and counters of the block are natural numbers or
integers; only what the spec treats as bits is a bit vector.
-/

namespace Sys2Proof

/-- A byte as it stands in a memory, a record or a frame. -/
abbrev Byte := BitVec 8

/-- The largest U32, at which a saturating counter stops. -/
abbrev u32Max : Nat := 0xFFFFFFFF

/-- A network instant in ticks. A step moves every stored one (R103), which can carry it below 0: as a TS64 it is then read modulo 2^64. -/
abbrev Instant := Int

end Sys2Proof
end

