-- ==== Sys2Proof/Syntax.lean ====
section
/-!
DEFINITION. Syntax.lean: the commands of the block, one constructor a row of `spec/opcode_table.json`. The table gives no operands
(every row's "fields" is empty): the operands here are the data the spec names for the event (an address, a value, a measured
quantity), log entry 6. The first operand `dt` of every command is the number of timestamp-clock edges (10 ns at the crystal rate, R94)
since the command before it, log entry 2.
-/

namespace Sys2Proof

/-- The two entries (Table 2-1), with their codes in event 0x0106. -/
inductive Entry where
  | mains | aux
deriving DecidableEq, Repr

/-- The two CAN channels. -/
inductive CanChannel where
  | a | b
deriving DecidableEq, Repr

/-- Channels of Table 15-2 over which a request arrives. -/
inductive DictChannel where
  | plain | zops | modbus | service
deriving DecidableEq, Repr

/-- Who writes: the requester (node ID, 0x00 for the service port) and its channel (R433). -/
structure Req where
  node : Nat
  chan : DictChannel
deriving DecidableEq, Repr

/-- Engines that own exchange buffers, with FREE (Table 8-6). -/
inductive Owner where
  | free | le | ce | me
deriving DecidableEq, Repr

/-- Kinds of LE access (Table 7-8). -/
inductive AccessKind where
  | load | store | fetch | tagWrite
deriving DecidableEq, Repr

/-- Store areas of Table 14-2. -/
inductive Area where
  | config | event | ledger
deriving DecidableEq, Repr

/-- Clock counts of one monitor window (Table 3-2). -/
structure ClockCounts where
  le : Nat
  ce : Nat
  ios : Nat
  ts : Nat
  me : Nat
  can : Nat
  sd : Nat
deriving DecidableEq, Repr

/-- What an entry's front end shows at a qualification or disqualification (Table 2-1). -/
structure EntrySample where
  entry : Entry
  /-- the instantaneous rectified voltage of the mains entry, or the voltage of the auxiliary entry, mV -/
  mv : Nat
  /-- ticks for which the voltage has stayed without a break where `mv` lies: below 20 V on the mains entry; inside its window, below it
  or above it on the auxiliary entry -/
  held : Nat
  /-- a half-cycle ends now -/
  halfCycleEnd : Bool
  /-- peak of the half-cycle that ended last, and of the one before it, V -/
  peak : Nat
  before : Nat
deriving DecidableEq, Repr

/-- The 1 ms measurement of the power controller (R68, R79). -/
structure PowerSample where
  /-- peak of the most recent half-cycle, V -/
  mainsPeak : Nat
  auxMv : Nat
  holdupMv : Nat
  /-- logic draw, mW -/
  logicMw : Nat
  /-- the two field supplies, mV -/
  fs1Mv : Nat
  fs2Mv : Nat
deriving DecidableEq, Repr

/-- What the hardware presents to the unit at a freeze: the quantities that are sampled once a cycle. -/
structure Sensors where
  fs1Mv : Nat
  fs2Mv : Nat
  /-- power-good state of each domain -/
  domainGood : BitVec 56
  /-- voltage at each output's pin, mV, entry n for CHn; 0 beyond the list -/
  pinMv : List Nat
  /-- bank rails at 18 V or above, bit b for bank b -/
  railHigh : BitVec 4
  /-- bank rails at 5 V or below -/
  railLow : BitVec 4
  /-- references 1 and 2 and the power controller's bandgap, in one unit -/
  ref1 : Nat
  ref2 : Nat
  bandgap : Nat
  /-- words of exchange RAM and reads of image flash in which a single-bit error was corrected since the last freeze (R253, R375) -/
  xchCorrected : Nat := 0
  imageCorrected : Nat := 0
deriving DecidableEq, Repr

/-- The bits that a modulator has emitted since its decimator's last sample, of channel b or a. -/
structure BitRun where
  chanB : Bool
  bits : List Bool
deriving DecidableEq, Repr

/-- How a word is interpreted (R186); a TS64 or U64 is two unsigned halves. -/
inductive WordType where
  | bool | unsigned | signed
deriving DecidableEq, Repr

/-- Operations of a logic image's code (Table 6-2). -/
inductive LogicOp where
  | add | sub | mul
  | eq | ne | lt | le | gt | ge
  | and | or | not
  /-- y where x is TRUE, else z -/
  | select
  | div | shiftLeft | shiftRight | bitAnd | bitOr | bitXor
  /-- load `const` -/
  | const
deriving DecidableEq, Repr

/-- One instruction of the code as both passes execute it: safety RAM byte offsets of its operands and of the word it writes. The spec gives
no encoding of the code (log entry 6). -/
structure LogicInstr where
  op : LogicOp
  /-- type of the operands; a comparison writes a BOOL, a shift's y is unsigned, a select's x is a BOOL -/
  type : WordType
  x : Nat
  y : Nat
  z : Nat
  const : BitVec 32
  dst : Nat
deriving DecidableEq, Repr

/-- A request of a step (R565): the requester, and the instruction of the code that both passes come to next, if it is one of Table 6-2. -/
structure StepRequest where
  r : Req
  instr : Option LogicInstr
deriving DecidableEq, Repr

/-- What the two passes of a cycle did: instructions of Table 6-2 that both executed, then what else they wrote. A unit without a hardware fault has no trap, no difference and no override. -/
structure PassResult where
  plainUs : Nat
  shadowUs : Nat
  instrs : List LogicInstr
  /-- further writes of the plain pass to the output and instance-state areas: safety RAM offset and native value, in order -/
  plainWrites : List (Nat × BitVec 32)
  /-- further writes of the shadow pass: offset of the native twin, the type of the word and the coded word, in order -/
  shadowWrites : List (Nat × WordType × BitVec 64)
  /-- a shadow read found a word that fails R189: offset of its native twin -/
  trapAt : Option Nat
  /-- slots whose native output word is found inverted at the hand-over -/
  plainDiff : BitVec 32
  /-- coded output words found altered at the hand-over: slot and word -/
  codedOut : List (Nat × BitVec 64)
  /-- the plain pass executed the instruction at `HALT_POINT` (R565) -/
  reachesHalt : Bool
deriving DecidableEq, Repr

/-- A running timer: its start instant in network ticks and the preset it latched in µs (R383). -/
structure Timer where
  start : Instant
  preset : Nat
deriving DecidableEq, Repr

/-- An edge detector: last input value and its edge time (R384). -/
structure Edge where
  value : Bool
  time : Instant
deriving DecidableEq, Repr

/-- One block of the active image: what the image declares and the state the block keeps. -/
structure Block where
  /-- ID (12 bits; 13 Table 13-3; from the image) -/
  id : Nat := 0
  /-- `INST_TYPE` (8 bits; 12 Table 12-1; from the image) -/
  type : Nat := 0
  /-- PRESET_IMMEDIATE (1 bit; 13 Table 13-3; from the image) -/
  presetImmediate : Bool := false
  /-- STATE_OFFSET (32 bits; 13 Table 13-3; from the image) -/
  stateOffset : Nat := 0
  /-- `INST_PARAM` words 0 to 15 (32 bits each; 12 R358; from the image) -/
  params : List Nat := List.replicate 16 0
  /-- t_run, or t_x for an instance that an exchange brought (64 bits; 12 R343, 13 R382; spec: t_run) -/
  since : Instant := 0
  /-- `INST_STATE` (8 bits; 12 R341; spec: the initial state 0x00) -/
  state : Nat := 0
  /-- `INST_OUT` (8 bits; 12 Table 12-9; spec: 0x00) -/
  out : BitVec 8 := 0
  /-- `INST_CAUSE` (8 bits; 12 R359; spec: 0x00) -/
  cause : Nat := 0
  /-- `INST_DISC_LAST` µs (32 bits; 12 R343; spec: 0) -/
  discLast : Nat := 0
  /-- `INST_DISC_MAX` µs (32 bits; 12 Table 12-9; spec: 0) -/
  discMax : Nat := 0
  /-- `INST_CHANGE_TIME` (64 bits; 12 Table 12-9; spec: t_run) -/
  changeTime : Instant := 0
  /-- `INST_DEMAND_COUNT` (32 bits, sat; 12 Table 12-9; spec: 0) -/
  demandCount : Nat := 0
  /-- `INST_LEVEL`: M or V_L (I32; 12 Table 12-9; spec: 0) -/
  level : Int := 0
  /-- `INST_BASELINE`: B or V_B (I32; 12 Table 12-9; spec: 0) -/
  baseline : Int := 0
  /-- ACK_REQUIRED (1 bit; 12 R344; spec: 0) -/
  ackRequired : Bool := false
  /-- the baseline is to be taken from the next valid cycle (1 bit; 12 R347; spec: yes) -/
  baselineDue : Bool := true
  /-- discrepancy clock of the MIX run, or the PRE_MAX timer of a DC_CONTACTOR (12 R343, Table 12-4; spec: stopped) -/
  mix : Option Timer := none
  /-- level condition timers CONT, STEP1, STEP2, STEP3 (12 R348; spec: stopped) -/
  cond : List (Option Timer) := [none, none, none, none]
  /-- invalid-cycle timer (12 R346; spec: stopped) -/
  invalid : Option Timer := none
  /-- state timer: test, pre-charge, stopping, opening or closing (12 R350, R351; spec: stopped) -/
  timer : Option Timer := none
  /-- departure timers of the A/POS and the B/NEG feedback, or of TX_FB (12 R349; spec: stopped) -/
  fbA : Option Timer := none
  fbB : Option Timer := none
  /-- grid and battery dwell (12 R355; spec: stopped) -/
  dwellGrid : Option Timer := none
  dwellBatt : Option Timer := none
  /-- last values of the two inputs: CH_A and CH_B, or the feedback inputs (13 Table 13-7; spec: not yet evaluated) -/
  inA : Option Edge := none
  inB : Option Edge := none
  /-- last value of the acknowledge input (13 Table 13-7; spec: not yet evaluated) -/
  ackIn : Option Edge := none
  /-- edge time of the rise of the acknowledge input that is now 1 (12 R345; spec: none) -/
  press : Option Instant := none
  /-- that rise was seen while the block waited (1 bit; 12 R345, R360; spec: no) -/
  pressValid : Bool := false
  /-- that press has been held beyond 3 s (1 bit; 12 R345; spec: no) -/
  pressLong : Bool := false
  /-- the OPENING in progress was entered from STOPPING after OFF_DELAY (1 bit; 21 R591; spec: no) -/
  plannedOpening : Bool := false
  /-- toggle phase count in cycles (12 R353; spec: 0) -/
  toggle : Nat := 0
  /-- `TOGGLE_CYCLES` as latched when the phase began (5 bits; 13 R383; spec: 0) -/
  togglePreset : Nat := 0
  /-- edge time of the change that began the MIX run (64 bits; 12 R343; DC 1: 0) -/
  mixFrom : Instant := 0
  /-- the MIX run in progress has raised its discrepancy fault (1 bit; 12 R343; spec: no) -/
  mixFault : Bool := false
  /-- a discrepancy fault waits for the DEMAND state to take it (1 bit; 12 R343, R344; spec: no) -/
  discDue : Bool := false
  /-- conditions of RCD_TRIP that have tripped: CONT, STEP1, STEP2, STEP3, invalid input (5 bits; 12 R346, R348; spec: none) -/
  trips : BitVec 5 := 0
  /-- the request in force of the interlock (8 bits; 12 R354; spec: 0x00 at entry to Run) -/
  dirRequest : Nat := 0
deriving DecidableEq, Repr


/-- One connection of the active map. -/
structure Connection where
  connId : Nat := 0
  /-- 0x01 producer, 0x02 consumer -/
  role : Nat := 0
  peer : Nat := 0
  words : Nat := 0
  period : Nat := 1
  wdTime : Nat := 0
  slot : Nat := 0
  /-- `CONN_STATE` (8 bits; 17 Table 17-11; spec: 0x00 at release) -/
  state : Nat := 0
  /-- node of the consumer's current source, 0 for PEER (8 bits; 18 R531; spec: PEER) -/
  source : Nat := 0
  /-- `CONN_SEQ_LAST` (16 bits; 17 Table 17-14; spec: 0 at release) -/
  seqLast : Nat := 0
  /-- next SEQ of a producer, LAST of a consumer (16 bits; 17 R491, R493; spec: 0) -/
  seqNext : Nat := 0
  /-- the next frame carries RESYNC = 1 (1 bit; 17 R491; spec: set at entry to Run) -/
  resync : Bool := false
  /-- `CONN_TIME_LAST` (64 bits; 17 Table 17-14; spec: 0 at release) -/
  timeLast : Instant := 0
  /-- instant the watchdog counts from (64 bits; 17 R494; DC 1: 0) -/
  wdFrom : Instant := 0
  /-- payload to enter the next freeze (17 R492; spec: 0) -/
  payload : List (BitVec 32) := []
  /-- payload and CONN_OK in the last frozen image (17 R492; spec: 0) -/
  fPayload : List (BitVec 32) := []
  fOk : Bool := false
  /-- local instant of the last RESYNC_REQUEST sent (17 R492; spec: none) -/
  requestedAt : Option Nat := none
  /-- `CONN_CRC_ERRORS` (32 bits, sat; 17 R493; spec: 0 at release) -/
  crcErrors : Nat := 0
  /-- `CONN_SEQ_ERRORS` (32 bits, sat; 17 R493; spec: 0 at release) -/
  seqErrors : Nat := 0
  /-- `CONN_WD_EXPIRY_COUNT` (32 bits, sat; 17 R494; spec: 0 at release) -/
  wdExpiries : Nat := 0
deriving DecidableEq, Repr


/-- A snapshot frame: its bytes (Table 18-4), and in `blocks` the instance state that its native words carry: the spec gives no layout of an
instance's state words, so the model carries both (log entry 7). -/
structure SnapshotFrame where
  bytes : List Byte
  blocks : List Block
deriving DecidableEq, Repr

/-- Why the CE discards a Modbus frame (R544). -/
inductive ModbusDiscard where
  | badCrc | otherAddress | gap | overlap
deriving DecidableEq, Repr

/-- The commands: one constructor a row of the table, in its order. -/
inductive Instr where
  /-- ENTRY_QUALIFIED (R56) -/
  | entryQualified (dt : Nat) (x : EntrySample) (holdupMv : Nat)
  /-- ENTRY_DISQUALIFIED (R56) -/
  | entryDisqualified (dt : Nat) (x : EntrySample)
  /-- POWER_FAIL_WARNING (R61) -/
  | powerFailWarning (dt : Nat)
  /-- RIDE_THROUGH_END (R63) -/
  | rideThroughEnd (dt : Nat) (holdupMv : Nat)
  /-- GATE_REOPEN (R64) -/
  | gateReopen (dt : Nat) (holdupMv : Nat)
  /-- LOGIC_SUPPLY_START (R58) -/
  | logicSupplyStart (dt : Nat) (holdupMv : Nat)
  /-- HOLDUP_CHARGE_TIMED (R59) -/
  | holdupChargeTimed (dt : Nat) (startMv chargeUs : Nat)
  /-- HOLDUP_PAUSE_START (R60) -/
  | holdupPauseStart (dt : Nat) (holdupMv : Nat)
  /-- HOLDUP_PAUSE_END (R60), with the `LOGIC_POWER` measurement of its instant -/
  | holdupPauseEnd (dt : Nat) (holdupMv logicMw : Nat)
  /-- RAIL_FAULT (R67) -/
  | railFault (dt : Nat)
  /-- LOGIC_OVERDRAW (R68) -/
  | logicOverdraw (dt : Nat) (x : PowerSample)
  /-- DOMAIN_POWER_UP (R74) -/
  | domainPowerUp (dt : Nat) (pd : Nat)
  /-- DOMAIN_MISMATCH (R75) -/
  | domainMismatch (dt : Nat)
  /-- CLOCK_MONITOR_WINDOW (R91) -/
  | clockMonitorWindow (dt : Nat) (counts : ClockCounts)
  /-- PLL_LOCK_LOSS (R92) -/
  | pllLockLoss (dt : Nat)
  /-- PLL_LOCK (R90) -/
  | pllLock (dt : Nat) (lockUs : Nat) (counts : ClockCounts)
  /-- PLL_LOCK_RETRY (R109) -/
  | pllLockRetry (dt : Nat)
  /-- SYNC_ROUND_START (R99) -/
  | syncRoundStart (dt : Nat)
  /-- FOLLOW_UP_SEND (R99); a channel whose controller missed the start-of-frame of the SYNC holds no capture of it -/
  | followUpSend (dt : Nat) (missedA missedB : Bool)
  /-- SYNC (R100) -/
  | sync (dt : Nat) (ch : CanChannel) (master priority round : Nat)
  /-- FOLLOW_UP (R100) -/
  | followUp (dt : Nat) (master : Nat) (validA validB : Bool) (round ma mb : Nat)
  /-- TIME_STEP_APPLY (R103) -/
  | timeStepApply (dt : Nat)
  /-- ROUND_INSTANT_NO_ROUND (R102) -/
  | roundInstantNoRound (dt : Nat)
  /-- SYNC_ROUND_TIMEOUT (R104) -/
  | syncRoundTimeout (dt : Nat)
  /-- SYNC_HOLDOVER_EXPIRY (R104) -/
  | syncHoldoverExpiry (dt : Nat)
  /-- TIME_MASTER_TIMEOUT (R98) -/
  | timeMasterTimeout (dt : Nat)
  /-- RATE_LIMIT_HOLD (R107) -/
  | rateLimitHold (dt : Nat)
  /-- WARM_RESET (R116) -/
  | warmReset (dt : Nat) (source : Nat)
  /-- RESET_RELEASE (R119) -/
  | resetRelease (dt : Nat) (crcOk : Bool)
  /-- BOOT_ENTRY (R120) -/
  | bootEntry (dt : Nat)
  /-- BIST_GROUP_COMPLETE (R129); `place` and `element` say where a group that exceeded its time had come to -/
  | bistGroupComplete (dt : Nat) (group : Nat) (failures : List (BitVec 64)) (place element : Nat)
  /-- COMPARATOR_INJECTION_TEST (R131) -/
  | comparatorInjectionTest (dt : Nat) (faulty : BitVec 7)
  /-- MPU_SEAL (R133) -/
  | mpuSeal (dt : Nat) (readbackDiffers sealFails : Bool)
  /-- STORE_RECOVERY (R416) -/
  | storeRecovery (dt : Nat) (elapsedUs : Nat)
  /-- RELEASE (R134) -/
  | release (dt : Nat)
  /-- BOOT_WATCHDOG_EXPIRY (R121) -/
  | bootWatchdogExpiry (dt : Nat)
  /-- RESET_REQUEST (R117) -/
  | resetRequest (dt : Nat) (r : Req) (value : Nat)
  /-- LE_ALIVE_WRITE (R42) -/
  | leAliveWrite (dt : Nat)
  /-- LE_STALL (R42) -/
  | leStall (dt : Nat)
  /-- CYCLE_BOUNDARY (R34) -/
  | cycleBoundary (dt : Nat) (sense : Sensors)
  /-- HAND_OVER (R35) -/
  | handOver (dt : Nat) (res : PassResult)
  /-- OUTPUT_PLACEMENT (R283) -/
  | outputPlacement (dt : Nat)
  /-- OUTPUT_WATCHDOG_EXPIRY (R283) -/
  | outputWatchdogExpiry (dt : Nat)
  /-- STATE_REQUEST_RUN (R38) -/
  | stateRequestRun (dt : Nat) (r : Req)
  /-- STATE_REQUEST_SERVICE (R38) -/
  | stateRequestService (dt : Nat) (r : Req)
  /-- STATE_REQUEST_HOLD (R38) -/
  | stateRequestHold (dt : Nat) (r : Req)
  /-- STATE_REQUEST_LOCKOUT_ACK (R41) -/
  | stateRequestLockoutAck (dt : Nat) (r : Req)
  /-- SAFESTOP_ACK (R50) -/
  | safestopAck (dt : Nat) (r : Req) (value : Nat)
  /-- RUN_ENCODING_COMPLETE (R209) -/
  | runEncodingComplete (dt : Nat) (differs : Option Nat)
  /-- BANK_SWITCH_CLOSE_CHECK (R276) -/
  | bankSwitchCloseCheck (dt : Nat) (railHigh : BitVec 4)
  /-- BANK_SWITCH_OPEN_CHECK (R276) -/
  | bankSwitchOpenCheck (dt : Nat) (bank : Nat) (railLow : Bool)
  /-- FIELD_SUPPLY_OUT_OF_RANGE (R281) -/
  | fieldSupplyOutOfRange (dt : Nat) (supply : Nat)
  /-- READBACK_FAULT (R278) -/
  | readbackFault (dt : Nat) (ch : Nat)
  /-- BANK_FAULT_CONDITION (R279) -/
  | bankFaultCondition (dt : Nat) (ch : Nat) (conditions : BitVec 4)
  /-- FAULT_CAUSE_CLEAR (R288) -/
  | faultCauseClear (dt : Nat) (cause : Nat)
  /-- INPUT_COMPARATOR_CHANGE (R96) -/
  | inputComparatorChange (dt : Nat) (ch mv : Nat)
  /-- FILTER_ELAPSED (R267) -/
  | filterElapsed (dt : Nat) (ch : Nat)
  /-- INIT_CLEAR (R269) -/
  | initClear (dt : Nat) (ch : Nat)
  /-- COUNTING_INPUT_CHANGE (R307) -/
  | countingInputChange (dt : Nat) (n mv : Nat)
  /-- CNT_TIMEOUT (R308) -/
  | cntTimeout (dt : Nat) (n : Nat)
  /-- GLINT_PRE_SAMPLE (R299) -/
  | glintPreSample (dt : Nat) (raw readback : BitVec 32)
  /-- GLINT_PULSE_START (R297) -/
  | glintPulseStart (dt : Nat)
  /-- GLINT_TEST_SAMPLE (R299) -/
  | glintTestSample (dt : Nat) (raw readback : BitVec 32)
  /-- GLINT_FAULT (R301) -/
  | glintFault (dt : Nat) (cause ch : Nat)
  /-- GLINT_PULSE_END (R297) -/
  | glintPulseEnd (dt : Nat)
  /-- GLINT_BLANKING_END (R300) -/
  | glintBlankingEnd (dt : Nat) (raw readback : BitVec 32)
  /-- ANALOG_SAMPLE_COMPLETE (R319) -/
  | analogSampleComplete (dt : Nat) (pair : Nat) (bitsA bitsB : Option (List Bool))
  /-- PAIR_DISAGREEMENT (R328) -/
  | pairDisagreement (dt : Nat) (pair : Nat)
  /-- MODULATOR_STUCK (R329) -/
  | modulatorStuck (dt : Nat) (pair : Nat) (emitted : BitRun)
  /-- AN_SYNC_REQUEST (R326) -/
  | anSyncRequest (dt : Nat) (r : Req) (value : Nat)
  /-- SYNCHRONISING_RESET (R325) -/
  | synchronisingReset (dt : Nat) (pair : Nat)
  /-- CLAIM (R244) -/
  | claim (dt : Nat) (port : Owner)
  /-- POST (R245) -/
  | post (dt : Nat) (port : Owner) (buffer : Nat) (target : Owner) (kind len : Nat)
  /-- RELEASE_BUFFER (R244) -/
  | releaseBuffer (dt : Nat) (port : Owner) (buffer : Nat)
  /-- REVOKE (R244) -/
  | revoke (dt : Nat) (port : Owner) (buffer : Nat)
  /-- ZEROING_COMPLETE (R244) -/
  | zeroingComplete (dt : Nat)
  /-- ZEROING_TIMEOUT (R256) -/
  | zeroingTimeout (dt : Nat)
  /-- POP (R248) -/
  | pop (dt : Nat) (port : Owner)
  /-- XCH_NON_OWNER_ACCESS (R258) -/
  | xchNonOwnerAccess (dt : Nat) (port : Owner) (buffer : Nat)
  /-- XCH_UNCORRECTABLE_READ (R253) of a 64-bit word of exchange RAM, 64 to a buffer -/
  | xchUncorrectableRead (dt : Nat) (word : Nat)
  /-- MPU_ACCESS_CHECK (R222) -/
  | mpuAccessCheck (dt : Nat) (kind : AccessKind) (addr width data : Nat)
  /-- ENTER_LOGIC (R228) -/
  | enterLogic (dt : Nat)
  /-- LEAVE_LOGIC (R228) -/
  | leaveLogic (dt : Nat)
  /-- TAG_WRITE (R217) -/
  | tagWrite (dt : Nat) (addr value : Nat)
  /-- LE_EXCEPTION_ENTRY (R229) -/
  | leExceptionEntry (dt : Nat) (isReturn : Bool)
  /-- OTP_SELECT (R161) -/
  | otpSelect (dt : Nat) (r : Req) (value : Nat)
  /-- OTP_DATA (R161) -/
  | otpData (dt : Nat) (r : Req) (value : Nat)
  /-- BURN (R163) -/
  | burn (dt : Nat) (r : Req)
  /-- FINALISE (R165) -/
  | finalise (dt : Nat) (r : Req)
  /-- ADVANCE (R166) -/
  | advance (dt : Nat) (r : Req)
  /-- TRIAL_APPLY (R167) -/
  | trialApply (dt : Nat) (r : Req)
  /-- TRIAL_CLEAR (R167) -/
  | trialClear (dt : Nat) (r : Req)
  /-- DEBUG_DISABLE (R162) -/
  | debugDisable (dt : Nat) (r : Req)
  /-- OTP_COMMAND_COMPLETE (R164) -/
  | otpCommandComplete (dt : Nat) (unburned weak : List Nat)
  /-- STORE_RECORD_COMMIT (R404) -/
  | storeRecordCommit (dt : Nat) (readBackOk : Bool)
  /-- SECTOR_ERASE_COMPLETE (R408) -/
  | sectorEraseComplete (dt : Nat) (verifyOk : Bool)
  /-- ERASE_CREDIT_ACCRUAL (R412) -/
  | eraseCreditAccrual (dt : Nat) (area : Area)
  /-- READ (R481) -/
  | read (dt : Nat) (r : Req) (index sub : Nat)
  /-- WRITE (R443) -/
  | write (dt : Nat) (r : Req) (reqSeq index sub type : Nat) (value : List Byte)
  /-- REGISTER_WRITE (R443) -/
  | registerWrite (dt : Nat) (r : Req) (index sub value : Nat)
  /-- SEGMENT (R482) -/
  | segment (dt : Nat) (ch : CanChannel) (node reqSeq offset : Nat) (data : List Byte) (last : Bool)
  /-- SEGMENT_TIMEOUT (R482) -/
  | segmentTimeout (dt : Nat) (ch : CanChannel) (node : Nat)
  /-- PREPARE (R444) -/
  | prepare (dt : Nat) (r : Req) (index sub type : Nat) (value : Nat)
  /-- CONFIRM (R446) -/
  | confirm (dt : Nat) (r : Req) (token code : Nat)
  /-- CONFIRM_WINDOW_EXPIRY (R447) -/
  | confirmWindowExpiry (dt : Nat) (node : Nat)
  /-- DICT_RESTORE (R452) -/
  | dictRestore (dt : Nat) (r : Req) (value : Nat)
  /-- IMAGE_ERASE (R376) -/
  | imageErase (dt : Nat) (r : Req)
  /-- IMAGE_ERASE_COMPLETE (R376) -/
  | imageEraseComplete (dt : Nat)
  /-- IMAGE_LOAD_ABANDON (R377) -/
  | imageLoadAbandon (dt : Nat) (r : Req)
  /-- IMAGE_DATA (R377) -/
  | imageData (dt : Nat) (r : Req) (data : List Byte)
  /-- BANK_VALIDATION_COMPLETE (R373) -/
  | bankValidationComplete (dt : Nat)
  /-- IMAGE_BANK_SELECT (R378) -/
  | imageBankSelect (dt : Nat) (r : Req) (value : Nat)
  /-- EXCHANGE_REQUEST (R379) -/
  | exchangeRequest (dt : Nat) (r : Req) (tx : Nat)
  /-- EXCHANGE_CANCEL (R379) -/
  | exchangeCancel (dt : Nat) (r : Req)
  /-- EXCHANGE_READY (R380) -/
  | exchangeReady (dt : Nat)
  /-- EXCHANGE_SWITCH (R381) -/
  | exchangeSwitch (dt : Nat) (trapAt : Option Nat)
  /-- IMAGE_CRC_SCAN (R375) -/
  | imageCrcScan (dt : Nat) (crc : Nat)
  /-- IMAGE_UNCORRECTABLE_READ (R375) -/
  | imageUncorrectableRead (dt : Nat)
  /-- INST_ACK (R345) -/
  | instAck (dt : Nat) (r : Req) (id value : Nat)
  /-- DIR_REQUEST (R354) -/
  | dirRequest (dt : Nat) (r : Req) (id value : Nat)
  /-- CAN_FRAME_RECEIVE (R479) -/
  | canFrameReceive (dt : Nat) (ch : CanChannel) (id : Nat) (data : List Byte) (fd ide esi : Bool)
  /-- HEARTBEAT_SEND (R485) -/
  | heartbeatSend (dt : Nat)
  /-- HEARTBEAT (R485) -/
  | heartbeat (dt : Nat) (node runState period : Nat)
  /-- NODE_PRESENCE_TIMEOUT (R485) -/
  | nodePresenceTimeout (dt : Nat) (node : Nat)
  /-- ANNOUNCE_SEND (R488) -/
  | announceSend (dt : Nat)
  /-- ANNOUNCE (R489) -/
  | announce (dt : Nat) (data : List Byte)
  /-- RESYNC_REQUEST (R491) -/
  | resyncRequest (dt : Nat) (data : List Byte)
  /-- RESYNC_REQUEST_REPEAT (R492) -/
  | resyncRequestRepeat (dt : Nat) (conn : Nat)
  /-- ZOPS_DATA_FRAME (R493) -/
  | zopsDataFrame (dt : Nat) (connId : Nat) (data : List Byte)
  /-- CONNECTION_WATCHDOG_EXPIRY (R494) -/
  | connectionWatchdogExpiry (dt : Nat) (conn : Nat)
  /-- BUS_OFF (R498) -/
  | busOff (dt : Nat) (ch : CanChannel)
  /-- BUS_OFF_RECOVERY_START (R498) -/
  | busOffRecoveryStart (dt : Nat) (ch : CanChannel)
  /-- BUS_OFF_RECOVERY_COMPLETE (R491) -/
  | busOffRecoveryComplete (dt : Nat) (ch : CanChannel)
  /-- STATUS (R517) -/
  | status (dt : Nat) (data : List Byte)
  /-- MIRROR_LINK_LOST (R517) -/
  | mirrorLinkLost (dt : Nat)
  /-- SNAPSHOT_RECEIVED (R521) -/
  | snapshotReceived (dt : Nat) (frame : SnapshotFrame)
  /-- SNAPSHOT_STALE (R522) -/
  | snapshotStale (dt : Nat)
  /-- TWIN_TOKEN_CHANGE (R514) -/
  | twinTokenChange (dt : Nat) (asserted : Bool)
  /-- TOKEN_CONTENTION (R538) -/
  | tokenContention (dt : Nat)
  /-- PRESENCE_LOOP_CHANGE (R516) -/
  | presenceLoopChange (dt : Nat) (intact : Bool)
  /-- ROLE_DECISION (R524) -/
  | roleDecision (dt : Nat)
  /-- TAKEOVER_DECISION (R527) -/
  | takeoverDecision (dt : Nat)
  /-- MIRROR_REPLACE (R533) -/
  | mirrorReplace (dt : Nat) (r : Req) (value : Nat)
  /-- REPLACEMENT_COPY_END (R533) -/
  | replacementCopyEnd (dt : Nat) (ok : Bool) (values : List (Nat × Nat)) (image : List Byte)
  /-- MODBUS_READ_HOLDING_REGISTERS (R549) -/
  | modbusReadHoldingRegisters (dt : Nat) (start quantity : Nat)
  /-- MODBUS_READ_INPUT_REGISTERS (R549) -/
  | modbusReadInputRegisters (dt : Nat) (start quantity : Nat)
  /-- READ_DEVICE_IDENTIFICATION (R552) -/
  | readDeviceIdentification (dt : Nat) (mei code objectId : Nat)
  /-- MODBUS_FRAME_DISCARD (R544) -/
  | modbusFrameDiscard (dt : Nat) (why : ModbusDiscard)
  /-- MODBUS_LE_TIMEOUT (R550) -/
  | modbusLeTimeout (dt : Nat)
  /-- TOOL_DETECT (R560) -/
  | toolDetect (dt : Nat) (low : Bool)
  /-- RESET_REQ (R560) -/
  | resetReq (dt : Nat) (low : Bool)
  /-- SERVICE_DICT_FRAME (R561) -/
  | serviceDictFrame (dt : Nat) (service index sub type : Nat) (value : List Byte)
  /-- SERVICE_CONFIRMED_FRAME (R561) -/
  | serviceConfirmedFrame (dt : Nat) (seq service index sub type : Nat) (value token code : Nat)
  /-- DEBUG_MEMORY_READ (R568) -/
  | debugMemoryRead (dt : Nat) (addr count : Nat)
  /-- DEBUG_MEMORY_WRITE (R568) -/
  | debugMemoryWrite (dt : Nat) (addr : Nat) (data : List Byte)
  /-- LOADER_ERASE (R573) -/
  | loaderErase (dt : Nat) (bank : Nat)
  /-- LOADER_WRITE (R573) -/
  | loaderWrite (dt : Nat) (bank offset : Nat) (data : List Byte)
  /-- LOADER_STATUS (R573) -/
  | loaderStatus (dt : Nat)
  /-- SPLIT_DEBUG (R564) -/
  | splitDebug (dt : Nat) (r : Req)
  /-- JOINT_HALT (R565) -/
  | jointHalt (dt : Nat) (r : Req)
  /-- RESUME (R565) -/
  | resume (dt : Nat) (r : Req)
  /-- STEP (R565) -/
  | step (dt : Nat) (x : StepRequest)
  /-- SIM_ENABLE (R569) -/
  | simEnable (dt : Nat) (r : Req) (value : Nat)
  /-- SIM_OUTPUTS (R569) -/
  | simOutputs (dt : Nat) (r : Req) (value : Nat)
  /-- SERVICE_BIST_REQUEST (R570) -/
  | serviceBistRequest (dt : Nat) (r : Req) (value : Nat)
  /-- SERVICE_BIST_COMPLETE (R571); `late` is a group that exceeded its time, 0 for none, and `place` where it had come to -/
  | serviceBistComplete (dt : Nat) (failures : List (BitVec 64)) (late place : Nat)
  /-- EVENT_READ_SEQ (R585) -/
  | eventReadSeq (dt : Nat) (r : Req) (value : Nat)
  /-- TIME_EPOCH_UTC (R587) -/
  | timeEpochUtc (dt : Nat) (r : Req) (value : Nat)
  /-- LEDGER_INTERVAL_ELAPSE (R592) -/
  | ledgerIntervalElapse (dt : Nat)
  /-- TEMP_SAMPLE (R609) -/
  | tempSample (dt : Nat) (tenths : Int)
  /-- DIE_TEMP_SAMPLE (R609) -/
  | dieTempSample (dt : Nat) (tenths : Int)
  /-- ILLEGAL_FUNCTION (R553) -/
  | illegalFunction (dt : Nat) (code : Nat)
  /-- PLL_LOCK_TIMEOUT (R109) -/
  | pllLockTimeout (dt : Nat)
  /-- DRIVER_THERMAL_RESTART (R271) -/
  | driverThermalRestart (dt : Nat) (ch : Nat)
  /-- COPY_REQUEST (R533) -/
  | copyRequest (dt : Nat)
deriving DecidableEq, Repr

end Sys2Proof
end

