-- ==== Sys2Proof/Decode.lean ====
section
/-!
DEFINITION. Decode.lean: commands from words of the opcode table.
-/

namespace Sys2Proof

/-- The command a word spells by the table's bits. No row of `spec/opcode_table.json` gives bits (every row's "fields" is empty), so no
word spells a command and every word is refused (log entry 9). -/
def decodeTableWord (_nbits _w : Nat) : Option Instr := none

end Sys2Proof
end

