-- ==== Sys2Proof/Config.lean ====
section
/-!
DEFINITION. Config.lean: what an implementation fixes, and the free values: constants without a body, so that nothing can be proved of
the value itself.
-/

namespace Sys2Proof.Config

/-- A value that the spec leaves open; `State.freeCount` counts the values drawn (log entry 5). -/
opaque freeValue : Nat → BitVec 64

/-- BOOT_ROM_VERSION (R20): fixed by the device, its value not stated. -/
opaque bootRomVersion : Nat

/-- LIB_VERSION of a firmware version (R358, Table 12-8): "firmware", its value not stated. -/
opaque libVersion : Nat → BitVec 32

/-- Byte offset of item i in the native output area (true) or input area (false): the spec gives no layout of the items (R184, R195,
R502; log entry 105). -/
opaque itemOffset : Bool → Nat → Nat

/-- Word k of the state that an instance keeps in its state region: the spec names its contents and gives no layout (R191, R209; log entry
135). -/
opaque stateWord : Block → Nat → BitVec 32

/-- CODE_CONSTANT of the twin's image, named by SEQUENCE and IMAGE_CRC, while no snapshot of the twin has shown it: STATUS does not carry it
(R511, R517; log entry 151). -/
opaque twinConstant : Nat → Nat → Nat

/-- Pulses beyond the first that a fuse takes, within the eight of R164: a property of the fuse that the spec does not state. -/
opaque fusePulses : Nat → Nat

/-- Whether the strict verify of a `FINALISE` in progress on a section, by its place in `OTP_REGION_STATUS`, comes to fail, so that the damage
marker is burned (R165): known only at its end. -/
opaque verifyFails : Nat → Bool

/-- What a division of the logic code gives for a divisor of 0: not stated (R188). -/
opaque divideByZero : BitVec 32 → BitVec 32

/-- What a shift of the logic code by 32 or more gives: not stated (R188). -/
opaque shiftBeyond : BitVec 32 → BitVec 32 → BitVec 32

end Sys2Proof.Config
end

