-- ==== Sys2Proof/Machine/State.lean ====
section
/-!
DEFINITION. Machine/State.lean: the whole state of the block, one structure per chapter of the spec, each field with its
width, the file and rule of `spec/` that names it and its reset value ("DC n": the model's own value, assumption log
entry n). `State.reset` is every field at that value. Plain data throughout.
-/

namespace Sys2Proof.Machine

/-! ### The runtime state machine (ch. 1) -/

/-- Runtime states of Table 1-5. -/
inductive RunState where
  | off | boot | test | hold | run | service | safeStop | lockout
deriving DecidableEq, Repr

/-- Fault classes of Table 1-7 with a unit-level effect; `event` is "event only". -/
inductive FaultClass where
  | event | recoverable | nonRecoverable
deriving DecidableEq, Repr

/-- A cause detected since the last boundary: its class, the network instant of detection and the DATA of its record. -/
structure Detected where
  cause : Nat
  cls : FaultClass
  time : Instant
  data : List Byte
deriving DecidableEq, Repr

/-- The runtime state machine, the cycle and the pending faults and requests. -/
structure Runtime where
  /-- `RUN_STATE` as a state (8 values; 01 R37, R44; spec: Off before any supply) -/
  state : RunState := .off
  /-- `STATE_ENTRY_TIME` (64 bits; 01 R44; DC 1: 0 before the first entry to Hold) -/
  entryTime : Nat := 0
  /-- `STATE_CAUSE` in force (16 bits; 01 R45; spec: 0x0000) -/
  stateCause : Nat := 0
  /-- T_cycle in force in µs (14 bits; 01 R46; spec: default 1000) -/
  cycleUs : Nat := 1000
  /-- the last boundary t_k, in network ticks (64 bits; 01 R33, R34; DC 1: 0) -/
  boundary : Nat := 0
  /-- the cycle and the network have started, at release (1 bit; 04 R134; spec: no) -/
  cycling : Bool := false
  /-- `CYCLE_COUNT` (32 bits, wraps; 01 R44; spec: 0 at release) -/
  cycleCount : Nat := 0
  /-- `OVERRUN_COUNT` (32 bits, sat; 01 R36, R44; spec: 0 at release) -/
  overrunCount : Nat := 0
  /-- `PASS_TIME_MAX` (32 bits; 01 R44; spec: 0 at release) -/
  passTimeMax : Nat := 0
  /-- the IOS's stall count (9 bits; 01 R42; DC 1: 0) -/
  stallCount : Nat := 0
  /-- this cycle carries a mark: hand-over or LE-alive write (1 bit; 01 R42; DC 1: no) -/
  leMark : Bool := false
  /-- the LE has popped its queue in this cycle (1 bit; 08 R250; DC 1: no) -/
  popped : Bool := false
  /-- passes of the last freeze are running (1 bit; 01 R34; DC 1: no) -/
  passesRunning : Bool := false
  /-- lockout latch as the store holds it (1 bit; 01 R41; spec: clear at store initialisation) -/
  lockoutLatch : Bool := false
  /-- `STATE_REQUEST` = 0x05 armed by the last start (1 bit; 01 R41, 04 R135; spec: no) -/
  ackArmed : Bool := false
  /-- split debug entered since the last reset (1 bit; 01 R53; spec: no) -/
  splitSinceReset : Bool := false
  /-- causes whose condition persists and that block Hold → Run and `SAFESTOP_ACK` (list of 16-bit causes; 01 R40, R50; spec: none) -/
  active : List Nat := []
  /-- causes detected since the last boundary with their class, to be evaluated there (01 R49; spec: none) -/
  detected : List Detected := []
  /-- Hold → Run or Service accepted, the coded state area being encoded: the target state (06 R209; spec: none) -/
  encoding : Option RunState := none
  /-- the encoding is complete: the state begins at the next boundary (1 bit; 06 R209; spec: no) -/
  encodingDone : Bool := false
  /-- `AUTO_START` waits for its evaluation on entry to Hold (1 bit; 01 R38; spec: no) -/
  autoStart : Bool := false
  /-- a warm reset accepted by `RESET_REQUEST` asserts at the next boundary (1 bit; 04 R117; spec: no) -/
  resetAtBoundary : Bool := false
  /-- t_run, the boundary at which Run began (64 bits; 09 R276, 12 R341; DC 1: 0) -/
  runSince : Nat := 0
  /-- t_k of the freeze that the running passes work on (64 bits; 01 R34, 20 R567; DC 1: 0) -/
  passTag : Instant := 0
  /-- that freeze has been evaluated by the library (1 bit; 01 R36; DC 1: no) -/
  libDone : Bool := false
deriving DecidableEq, Repr
/-! ### Power entry, holdup and domains (ch. 2) -/

/-- The 10 ms measurement pause of R60. -/
structure HoldupPause where
  /-- local instant of its start -/
  start : Nat
  /-- V_1 in mV -/
  v1 : Nat
  /-- sum in mW and number of the `LOGIC_POWER` measurements of the pause -/
  sum : Nat
  count : Nat
deriving DecidableEq, Repr

/-- What the charger of the holdup store does (R57, R60). -/
inductive Charger where
  /-- no entry qualified -/
  | off
  /-- fills the store at a constant 0.25 A -/
  | filling
  /-- supplies the logic load and keeps the store at 40 V -/
  | holding
  /-- held off for the measurement of R60 -/
  | heldOff
deriving DecidableEq, Repr

/-- The power controller. -/
structure Power where
  /-- rail supervisor trim in use (16 bits; 05 Table 5-3, Table 5-12; DC 109: mid-scale until the boot read) -/
  railTrim : Nat := 0x8000
  /-- MAINS_OK: the mains entry is qualified (1 bit; 02 R56, Table 2-8; spec: 0, nothing qualified in Off) -/
  mainsOk : Bool := false
  /-- AUX_OK: the auxiliary entry is qualified (1 bit; 02 R56; spec: 0) -/
  auxOk : Bool := false
  /-- the mains entry was disqualified for two peaks above 470 V and waits for a complete half-cycle in range (1 bit; 02 Table 2-1; spec: no) -/
  mainsOver : Bool := false
  /-- the charger (2 bits; 02 R57, R60; spec: off) -/
  charger : Charger := .off
  /-- the entry that supplies the charger (02 R57; spec: none) -/
  chargeFrom : Option Entry := none
  /-- limit in mA on the current of the auxiliary entry while the mains entry supplies the charger (8 bits; 02 R57; spec: none) -/
  auxLimitMa : Option Nat := none
  /-- ride-throughs counted before recovery has loaded `RIDETHROUGH_COUNT` (32 bits, sat; 02 R63; spec: 0) -/
  ridesEarly : Nat := 0
  /-- local instant at which the last qualified entry was disqualified (02 R61; spec: none) -/
  lostAt : Option Nat := none
  /-- `RIDETHROUGH_COUNT` (32 bits, sat; 02 R63, R79; spec: 0 at store initialisation) -/
  rideCount : Nat := 0
  /-- PFW_ACTIVE (1 bit; 02 R61; spec: 0) -/
  pfw : Bool := false
  /-- local instant the ride-through started (02 R63; DC 1: 0) -/
  rideSince : Nat := 0
  /-- GATE_CLOSED (1 bit; 02 R62; spec: 0) -/
  gateClosed : Bool := false
  /-- the logic domains are switched on (1 bit; 02 R58, R66; spec: off) -/
  logicOn : Bool := false
  /-- the charger is held off by the R60 pause (02 R60; spec: none) -/
  pause : Option HoldupPause := none
  /-- the estimate of this cold start is made (1 bit; 02 R60; spec: no) -/
  estimateMade : Bool := false
  /-- `HOLDUP_ESTIMATE` in µs (32 bits; 02 R59, R60; spec: 0 until made) -/
  estimate : Nat := 0
  /-- `MAINS_PEAK` in V (16 bits; 02 R79; spec: 0) -/
  mainsPeak : Nat := 0
  /-- `AUX_VOLTAGE` in mV (16 bits; 02 R79; from hardware, DC 1: 0) -/
  auxMv : Nat := 0
  /-- `HOLDUP_VOLTAGE` in mV (16 bits; 02 R79; from hardware, DC 1: 0) -/
  holdupMv : Nat := 0
  /-- `LOGIC_POWER` in mW (16 bits; 02 R68, R79; from hardware, DC 1: 0) -/
  logicMw : Nat := 0
  /-- `FS1_VOLTAGE` in mV (16 bits; 02 R69; from hardware, DC 1: 0) -/
  fs1Mv : Nat := 0
  /-- `FS2_VOLTAGE` in mV (16 bits; 02 R69; from hardware, DC 1: 0) -/
  fs2Mv : Nat := 0
  /-- local instant since which the logic draw lies above 9.0 W (02 R68; spec: none) -/
  overdrawSince : Option Nat := none
  /-- local instant since which the logic draw lies below 8.5 W (02 R68; spec: none) -/
  calmSince : Option Nat := none
  /-- `DOMAIN_STATUS`, bit n for PDnn (56 bits; 02 R75; spec: all off) -/
  domainStatus : BitVec 56 := 0
  /-- `DOMAIN_COMMAND` (56 bits; 02 R75; spec: all off) -/
  domainCommand : BitVec 56 := 0
  /-- domains whose power-good the controller excludes while switching, with the local instant the 50 µs end (02 R74, R75; spec: none) -/
  switching : List (Nat × Nat) := []
  /-- domains that mismatched at the last boundary (56 bits; 02 R75; spec: none) -/
  mismatchLast : BitVec 56 := 0
  /-- domains that mismatched at the last two boundaries (56 bits; 02 R75; spec: none) -/
  mismatchTwice : BitVec 56 := 0
  /-- domains that finished switching in the current cycle: excluded for one cycle more (56 bits; 02 R75; spec: none) -/
  switchedLast : BitVec 56 := 0
  /-- `BIST_POWER_PEAK` in mW (16 bits; 02 R77; from the last Test, DC 1: 0) -/
  bistPeak : Nat := 0
deriving DecidableEq, Repr
/-! ### Clocks and network time (ch. 3) -/

/-- Sync states of Table 3-3. -/
inductive SyncState where
  | free | locking | locked | holdover | master
deriving DecidableEq, Repr

/-- A time master this unit has heard: node, priority, network instant of its last valid round (R98). -/
structure HeardMaster where
  node : Nat
  priority : Nat
  last : Instant
deriving DecidableEq, Repr

/-- A SYNC round a receiver is collecting (R100): the frame's master, priority and round, with the captures held. -/
structure SyncCapture where
  master : Nat
  priority : Nat
  round : Nat
  la : Option Instant
  lb : Option Instant
  /-- its first FOLLOW_UP has been processed -/
  done : Bool
deriving DecidableEq, Repr

/-- The round a master is sending (R99). -/
structure MasterRound where
  /-- the round number carried in the frames -/
  round : Nat
  /-- network instant of the round -/
  instant : Nat
  ma : Option Nat
  mb : Option Nat
deriving DecidableEq, Repr

/-- The clock root, the monitor, the timestamp counter and the discipline. -/
structure Clock where
  /-- timestamp-clock edges since power-on, the model's time base for intervals no step touches (03 R94; DC 2: 0) -/
  localTicks : Nat := 0
  /-- network time in units of 2^-32 tick: 64-bit tick counter and 32-bit fraction (96 bits; 03 R94, R95; spec: 0 at every reset) -/
  net : Nat := 0
  /-- r, the frequency estimate in ppb (−200000 to 200000; 03 R102; spec: 0 at every reset) -/
  r : Int := 0
  /-- ρ, the rate adjustment in 2^-32 per edge, the resolution of the fractional accumulator (03 R94, log entry 11; spec: 0 at every reset) -/
  rho : Int := 0
  /-- `SYNC_STATE` (03 R104; spec: FREE) -/
  sync : SyncState := .free
  /-- consecutive accepted rounds within bound while LOCKING (3 bits; 03 R104; spec: 0) -/
  fourCount : Nat := 0
  /-- the previous round received recorded a departure (1 bit; 03 Table 3-4; spec: no) -/
  departure : Bool := false
  /-- a pending step in ticks (03 R102; spec: none) -/
  pendingStep : Option Int := none
  /-- network instant of the last valid round from any master, or of release (03 R98; spec: release instant 0) -/
  lastHeard : Instant := 0
  /-- network instant of the last accepted round, or of the entry to LOCKING from MASTER (03 R104; spec: none) -/
  lastAccepted : Option Instant := none
  /-- masters heard (03 R98; spec: none) -/
  masters : List HeardMaster := []
  /-- the rounds a receiver collects, one a master (03 R100; spec: none) -/
  captures : List SyncCapture := []
  /-- the round this master sends (03 R99; spec: none) -/
  sending : Option MasterRound := none
  /-- `SYNC_OFFSET_LAST` (I32; 03 R106; spec: 0) -/
  offsetLast : Int := 0
  /-- `SYNC_OFFSET_MAX` (32 bits; 03 R106; spec: 0) -/
  offsetMax : Nat := 0
  /-- `SYNC_REJECT_COUNT` (32 bits, sat; 03 R106; spec: 0 at release) -/
  rejectCount : Nat := 0
  /-- `STEP_COUNT` (32 bits, sat; 03 R106; spec: 0 at release) -/
  stepCount : Nat := 0
  /-- `TIME_EPOCH_UTC` (64 bits; 03 R106; spec: 0) -/
  epochUtc : Nat := 0
  /-- the round instant at which the slew in force ends (64 bits; 03 R102; spec: none) -/
  slewUntil : Option Instant := none
  /-- network instant of the last round this master started, or at which it became master (64 bits; 03 R99; DC 1: 0) -/
  roundLast : Nat := 0
  /-- LOCKED has been entered since reset, so `SYNC_OFFSET_MAX` counts (1 bit; 03 R106; spec: no) -/
  everLocked : Bool := false
  /-- a step took effect at a boundary that is still to be taken: the stepped time at which it lies (64 bits; 03 R103, R112; spec: none) -/
  steppedTo : Option Nat := none
  /-- local instant since which ρ is held at ±200 ppm (03 R107; spec: none) -/
  limitSince : Option Nat := none
  /-- network instant HOLDOVER was entered counting `SYNC_HOLDOVER` from the last accepted round (03 R104; DC 1: 0) -/
  holdoverSince : Instant := 0
  /-- PLL_LOCK (1 bit; 03 Table 3-7; spec: not locked) -/
  pllLock : Bool := false
  /-- MONITOR_OK (1 bit; 03 Table 3-7; spec: no window yet, 0) -/
  monitorOk : Bool := false
  /-- TRIM_VALID (1 bit; 03 Table 3-7; spec: Trim not yet checked, 0) -/
  trimValid : Bool := false
  /-- `ROOT_COUNT_LAST` (16 bits; 03 R106; from hardware, DC 1: 0) -/
  rootLast : Nat := 0
  /-- `ROOT_COUNT_MIN` (16 bits; 03 R106; spec: 65535 at release) -/
  rootMin : Nat := 65535
  /-- `ROOT_COUNT_MAX` (16 bits; 03 R106; spec: 0 at release) -/
  rootMax : Nat := 0
  /-- `PLL_LOCK_TIME` in µs (32 bits; 03 R106; from the last start, DC 1: 0) -/
  pllLockTime : Nat := 0
  /-- `RC_TRIM` (8 bits; 03 R106; spec: 0x80 while Trim is not valid) -/
  rcTrim : Nat := 0x80
deriving DecidableEq, Repr
/-! ### Reset, boot, BIST (ch. 4) -/

/-- Where the boot sequence of Table 4-3 stands. -/
inductive BootStep where
  /-- not booting (Off, or released) -/
  | idle
  /-- warm reset held asserted (Table 4-2) -/
  | resetHeld
  /-- Boot entry to PLL lock (steps 1 to 7) -/
  | waitLock
  /-- the lock failed; retries every 10 ms (R109) -/
  | lockRetry
  /-- locked and monitor window passed; OTP, banks and repairs next (steps 8 to 11) -/
  | locked
  /-- in Test, BIST group n next or in progress (1 to 8) -/
  | bist (group : Nat)
  /-- BIST complete: comparator test next (step 14) -/
  | comparator
  /-- MPU write and seal next (step 15) -/
  | mpuSeal
  /-- store recovery next (step 16) -/
  | recovery
  /-- release next (step 17) -/
  | release
  /-- boot stopped: three boot failures or no valid bank (R122, R125) -/
  | stopped
deriving DecidableEq, Repr

/-- The retained register of PD42 (R118). -/
structure Retained where
  /-- pending lockout latch (R85) -/
  latch : Bool := false
  /-- `STATE_CAUSE` held with it -/
  latchCause : Nat := 0
  /-- pending cause of a warm reset that leads to Lockout -/
  cause : Option Nat := none
  /-- a boot watchdog expiry since the previous release -/
  watchdogExpiry : Bool := false
  /-- save-in-progress flag of the event log RAM -/
  saveEvent : Bool := false
  /-- save-in-progress flag of the snapshot store -/
  saveSnapshot : Bool := false
  /-- consecutive boot failures -/
  bootFailures : Nat := 0
deriving DecidableEq, Repr

/-- A firmware bank's header as R125 reads it. -/
structure FwHeader where
  magic : Nat
  version : Nat
  length : Nat
  sequence : Nat
  bodyCrc : Nat
  headerCrc : Nat
deriving DecidableEq, Repr

/-- Reset, boot and BIST. -/
structure Boot where
  /-- position in Table 4-3 (04 R120; spec: Off) -/
  step : BootStep := .idle
  /-- this start is a cold start (1 bit; 04 R115; DC 1: no) -/
  cold : Bool := false
  /-- local instant reset was asserted (04 R119; DC 1: 0) -/
  resetAt : Nat := 0
  /-- local instant of Boot entry (04 R120; DC 1: 0) -/
  entryAt : Nat := 0
  /-- local instant of the PLL enable or of the last failed attempt (03 R109; DC 1: 0) -/
  retryAt : Nat := 0
  /-- local ticks the boot watchdog has run before a pause (04 R121; spec: 0) -/
  watchdogRun : Nat := 0
  /-- local instant the boot watchdog last started or resumed (04 R121; spec: not running) -/
  watchdogSince : Option Nat := none
  /-- the boot watchdog is paused (1 bit; 04 R121, R142; spec: no) -/
  watchdogPaused : Bool := false
  /-- the boot ROM retries the PLL lock (1 bit; 03 R109; spec: no) -/
  lockRetrying : Bool := false
  /-- no firmware bank was valid: the unit stays in Boot until a cold start (1 bit; 04 R122, R125; spec: no) -/
  noBank : Bool := false
  /-- cold starts and warm resets not yet counted in the objects (32 bits each; 04 R136; spec: 0) -/
  coldEarly : Nat := 0
  warmEarly : Nat := 0
  /-- PD49 stayed on over the warm reset that began this start (1 bit; 04 R119, 02 R78; spec: off at a cold start) -/
  meKept : Bool := false
  /-- local instant at which the BIST group of `step` starts or started (04 R120, R128, 02 R77; DC 1: 0) -/
  groupAt : Nat := 0
  /-- `RESET_CAUSE` (8 bits; 04 R116; from the last reset, DC 1: 0) -/
  resetCause : Nat := 0
  /-- `RESET_SOURCES` (8 bits; 04 R116; from the last reset, DC 1: 0) -/
  resetSources : BitVec 8 := 0
  /-- `COLD_START_COUNT` (32 bits, sat; 04 R136; spec: 0 at store initialisation) -/
  coldStarts : Nat := 0
  /-- `WARM_RESET_COUNT` (32 bits, sat; 04 R136; spec: 0 at store initialisation) -/
  warmResets : Nat := 0
  /-- `BOOT_DURATION` µs (32 bits; 04 R136; from the last start, DC 1: 0) -/
  bootDuration : Nat := 0
  /-- `BIST_DURATION` µs (32 bits; 04 R136; from the last BIST, DC 1: 0) -/
  bistDuration : Nat := 0
  /-- local instant BIST group 1 started (04 Table 4-3; DC 1: 0) -/
  bistAt : Nat := 0
  /-- `BIST_MODE` (8 bits; 04 R136; from the last BIST, DC 1: 0) -/
  bistMode : Nat := 0
  /-- `BIST_STATUS` GROUP_RUN (8 bits; 04 Table 4-12; DC 1: 0) -/
  groupRun : BitVec 8 := 0
  /-- `BIST_STATUS` GROUP_FAIL (8 bits; 04 Table 4-12; DC 1: 0) -/
  groupFail : BitVec 8 := 0
  /-- `BIST_FAIL_COUNT` (16 bits, sat; 04 R136; DC 1: 0) -/
  failCount : Nat := 0
  /-- `BIST_FAIL_RECORD` 1 to 8, in order of detection (64 bits each; 04 R129, R130; spec: 0 when unused) -/
  failRecords : List (BitVec 64) := []
  /-- `COMPARATOR_TEST` (8 bits; 04 R131; from the last start, DC 1: 0) -/
  comparator : BitVec 8 := 0
  /-- the injection register that the seal locks: the value XORed into the shadow signature (32 bits; 04 R131; spec: clear) -/
  injection : BitVec 32 := 0
  /-- the IOS's latch of the fault line during the test: assertions counted (04 R131; spec: 0) -/
  lineLatched : Nat := 0
  /-- `FW_BANK_ACTIVE` (8 bits; 04 R136; DC 1: 0) -/
  fwBank : Nat := 0
  /-- `FIRMWARE_VERSION` (32 bits; 00 R20; from the bank in use, DC 1: 0 before a start) -/
  fwVersion : Nat := 0
  /-- `RETAINED_STATUS` (8 bits; 04 Table 4-13; DC 1: 0) -/
  retainedStatus : BitVec 8 := 0
  /-- the retained register (04 R118; spec: zero at a cold start) -/
  retained : Retained := {}
  /-- VARIANT as taken at this start (8 bits; 00 R19, R21; spec: 0x00 until the Identity region is read) -/
  variant : Nat := 0
  /-- HARDWARE_ISSUE (8 bits; 00 R19; as VARIANT: 0) -/
  hardwareIssue : Nat := 0
  /-- SERIAL_NUMBER (32 bits; 00 R19; as VARIANT: 0) -/
  serial : Nat := 0
  /-- IDENTITY_STATUS (8 bits; 00 R19; DC 1: 0 before the first check) -/
  identityStatus : Nat := 0
  /-- DEVICE_UID (128 bits; 00 R21, 05 Table 5-3; as VARIANT: 0) -/
  uid : Nat := 0
deriving DecidableEq, Repr
/-! ### OTP and lifecycle (ch. 5) -/

/-- Sections of Table 5-2 and the Lifecycle region, in the order of Table 5-15. -/
inductive OtpSection where
  | identity | trim | repairT | repairR | lifecycle | keysFactory | keysOem | protection | user
deriving DecidableEq, Repr

/-- A burning OTP command in progress. -/
structure OtpRun where
  /-- code of Table 5-8: 0x01, 0x02, 0x03 or 0x06 -/
  code : Nat
  /-- the selected section, for `BURN` and `FINALISE` -/
  sel : OtpSection
  /-- ADV item index 0..4 for `ADVANCE`, 5 for `DEBUG_DISABLE` -/
  item : Nat
  /-- local instant of the start (64 bits; 05 R164; spec: the command's instant) -/
  since : Nat := 0
  /-- ticks in which its pulses ran before the pause that ended last (5 R164, R175; DC 1: 0) -/
  ran : Nat := 0
deriving DecidableEq, Repr

/-- The OTP array, its controller and what the last start read. -/
structure Otp where
  /-- fuse bank 0, one bit per fuse (4096 bits; 05 R147; DC 3: unburned) -/
  bank0 : BitVec 4096 := 0
  /-- fuse bank 1 (4096 bits; 05 R147; DC 3: unburned) -/
  bank1 : BitVec 4096 := 0
  /-- fuse bank 2 (4096 bits; 05 R147; DC 3: unburned) -/
  bank2 : BitVec 4096 := 0
  /-- fuses whose last pulse was cut short, `3·n + b` for bit n of bank b: they can read differently on repeated reads, and the banks hold
  what the last sensing read (12,288 fuses; 05 R176; DC 3: none) -/
  unstable : List Nat := []
  /-- `OTP_REGION_STATUS` (64 bits; 05 Table 5-15; from the last start, DC 1: 0) -/
  regionStatus : BitVec 64 := 0
  /-- `OTP_FUSE_DISAGREE` (16 bits; 05 R149; from the last start, DC 1: 0) -/
  disagree : Nat := 0
  /-- `OTP_SELECT` (8 bits; 05 R161; spec: 0x00) -/
  select : Nat := 0
  /-- `OTP_OFFSET` (16 bits; 05 R161; spec: 0) -/
  offset : Nat := 0
  /-- the staging area (512 bits; 05 R161; DC 1: 0) -/
  staging : BitVec 512 := 0
  /-- `OTP_OP_STATUS` (8 bits; 05 Table 5-16; spec: 0x00) -/
  opStatus : Nat := 0
  /-- `OTP_OP_PROGRESS` (16 bits; 05 R164; spec: 0) -/
  progress : Nat := 0
  /-- the burning command that runs (05 R162; spec: none) -/
  running : Option OtpRun := none
  /-- `LIFECYCLE_STATE` as read at the last start (8 bits; 05 R156, R166; DC 3: Raw, 0x01, of the blank array) -/
  lifecycle : Nat := 1
  /-- LC_VALID as read at the last start (1 bit; 05 Table 5-14; DC 3: valid, of the blank array) -/
  lcValid : Bool := true
  /-- LC_INCOMPLETE as read at the last start (1 bit; 05 Table 5-14; DC 3: no) -/
  lcIncomplete : Bool := false
  /-- DEBUG_DISABLED as read at the last start (1 bit; 05 Table 5-14; DC 3: no) -/
  debugDisabled : Bool := false
  /-- the shadow registers: select code and content (8 + 512 bits; 05 R167; spec: clear after every reset) -/
  shadow : Option (Nat × BitVec 512) := none
  /-- repair entries applied at this start (32 bits each; 05 R170; spec: none before step 11) -/
  applied : List (BitVec 32) := []
  /-- masked rows under the Repair fallback, as entries (05 R171; spec: none) -/
  masked : List (BitVec 32) := []
  /-- masked rows of the event log RAM (8 bits each; 05 R171; spec: none) -/
  maskedLog : List Nat := []
  /-- the Trim content as the boot read loaded it, none in the Trim fallback (448 bits; 05 R171; spec: none before the boot read) -/
  trim : Option (BitVec 448) := none
  /-- `KEY_FINGERPRINT` (32 bits; 05 R151; of the blank array: 0) -/
  keyFingerprint : BitVec 32 := 0
  /-- `BUILD_DAY` (16 bits; 05 R173; of the blank array: 0) -/
  buildDay : Nat := 0
  /-- `USER_VALID` (1 bit; 05 R173; DC 1: 0) -/
  userValid : Bool := false
  /-- the Keys region took its fallback at this start (1 bit; 05 Table 5-12; spec: no) -/
  keysFallback : Bool := false
  /-- the Identity region took its fallback at this start (1 bit; 05 Table 5-12; spec: no) -/
  identityFallback : Bool := false
  /-- the Protection Defaults region took its fallback at this start (1 bit; 05 Table 5-12; spec: no) -/
  protectionFallback : Bool := false
  /-- `BIST_FAIL_COUNT` = 0 and `COMPARATOR_TEST` = 0x7F at the last cold start (1 bit; 05 Table 5-9; DC 1: no) -/
  coldClean : Bool := false
deriving DecidableEq, Repr
/-! ### Shadow pass execution (ch. 6) -/

/-- Signatures, the window and the first pass fault. -/
structure Passes where
  /-- plain signature register (32 bits; 06 R191, R192; spec: 0xFFFF_FFFF at the start of a window) -/
  sigPlain : BitVec 32 := 0xFFFFFFFF
  /-- shadow signature register (32 bits; 06 R191, R192; spec: 0xFFFF_FFFF at the start of a window) -/
  sigShadow : BitVec 32 := 0xFFFFFFFF
  /-- `SIG_POSITION` (8 bits; 06 R192; spec: 0) -/
  position : Nat := 0
  /-- `SIG_WINDOW_ACTIVE` (8 bits; 06 R206; spec: `SIG_WINDOW` at release, default 8) -/
  windowActive : Nat := 8
  /-- `SIG_COMPARE_COUNT` (32 bits, sat; 06 R206; spec: 0 at release) -/
  compareCount : Nat := 0
  /-- `SIG_PLAIN_LAST` (32 bits; 06 R206; spec: 0 at release) -/
  plainLast : BitVec 32 := 0
  /-- `SIG_SHADOW_LAST` (32 bits; 06 R206; spec: 0 at release) -/
  shadowLast : BitVec 32 := 0
  /-- `SIG_STATUS` MISMATCH (1 bit; 06 Table 6-8; spec: 0 at release) -/
  mismatch : Bool := false
  /-- `SIG_STATUS` CODED_TRAP (1 bit; 06 Table 6-8; spec: 0 at release) -/
  codedTrap : Bool := false
  /-- `SIG_STATUS` DECODE_TRAP (1 bit; 06 Table 6-8; spec: 0 at release) -/
  decodeTrap : Bool := false
  /-- `SIG_STATUS` OUTPUT_DISAGREE (1 bit; 06 Table 6-8; spec: 0 at release) -/
  disagree : Bool := false
  /-- `SIG_STATUS` SPLIT: split debug entered (1 bit; 06 R202; spec: 0, cleared by reset) -/
  split : Bool := false
  /-- `SIG_STATUS` HALTED: both passes stand at a joint halt point (1 bit; 06 R203; spec: 0) -/
  halted : Bool := false
  /-- `FAULT_ADDRESS` (32 bits; 06 R199; spec: 0xFFFF_FFFF at release) -/
  faultAddress : Nat := 0xFFFFFFFF
  /-- `FAULT_CYCLE` (32 bits; 06 R199; spec: 0 at release) -/
  faultCycle : Nat := 0
  /-- a pass fault has been captured since release (1 bit; 06 R199; spec: no) -/
  captured : Bool := false
  /-- write folds that the plain and the shadow pass of a halted cycle made before the halt (32 bits each; 06 R191, R203; spec: 0) -/
  plainFolds : Nat := 0
  shadowFolds : Nat := 0
  /-- the slots that the shadow pass of this cycle commands, bit n for CHn (32 bits; 06 R183; spec: 0) -/
  shadowSlots : BitVec 32 := 0
  /-- the first input item or word of instance state whose coded twin fails its check in this cycle, by safety RAM offset (06 R189; spec: none) -/
  readTrap : Option Nat := none
  /-- `PLAIN_TIME_LAST` µs (32 bits; 06 R206; spec: 0 at release) -/
  plainTime : Nat := 0
  /-- `SHADOW_TIME_LAST` µs (32 bits; 06 R206; spec: 0 at release) -/
  shadowTime : Nat := 0
deriving DecidableEq, Repr
/-! ### The LE's memories and the MPU (ch. 7) -/

/-- LE memories behind Table 7-1, as canonical cell lists. -/
structure LeMem where
  /-- RAM cells (safety, shadow and event log RAM, exchange RAM, snapshot staging half) by LE address, an unlisted one reads 0 (8 bits each; 07 Table 7-1, 04 R127; spec: zero from the destructive BIST, DC 4 before it) -/
  ram : List Host.Cell := []
  /-- the items of the native input area: value and timestamp of each channel, values of each counting input, items of each analog channel
  (180 × 32 bits; 06 R183, R184, 07 Table 7-2; spec: 0 at release, DC 4 before it) -/
  inputs : List (BitVec 32) := List.replicate 180 0
  /-- their coded twins (180 × 64 bits; 06 R184, R185; spec: 0) -/
  inputsCoded : List (BitVec 64) := List.replicate 180 0
  /-- the output slots of CH00 to CH31 in the native output area (32 × 32 bits; 06 R195, 07 Table 7-2; spec: 0 at release, DC 4 before it) -/
  outputs : List (BitVec 32) := List.replicate 32 0
  /-- their coded twins (32 × 64 bits; 06 R185, R190; spec: 0) -/
  outputsCoded : List (BitVec 64) := List.replicate 32 0
  /-- the connection records in the mirrored areas, four words each in the order of the map (18 R518; DC 1: none written) -/
  connWords : List (BitVec 32) := []
  /-- their coded twins in shadow RAM (64 bits each; 18 R518; DC 1: none written) -/
  connTwins : List (BitVec 64) := []
  /-- flash cells (firmware banks, image banks) by LE address, an unlisted one reads the erased 0xFF (8 bits each; 07 Table 7-1; DC 4: erased) -/
  flash : List Host.Cell := []
  /-- colour tags by granule, an unlisted granule carries 0x0 (6,144 × 4 bits; 07 R215, R218; spec: 0x0) -/
  tags : List (Nat × Nat) := []
  /-- region registers of set A (16 × 64 bits; 07 R225; spec: 0 before step 15) -/
  setA : List (BitVec 64) := List.replicate 16 0
  /-- region registers of set B (16 × 64 bits; 07 R225; spec: 0 before step 15) -/
  setB : List (BitVec 64) := List.replicate 16 0
  /-- SEALED (1 bit; 07 R230; spec: clear at reset) -/
  isSealed : Bool := false
  /-- set B is in force (1 bit; 07 R228; spec: set A) -/
  inB : Bool := false
  /-- the set saved at each open interrupt or exception, innermost first (07 R229; spec: none) -/
  saved : List Bool := []
  /-- DENY_ALL (1 bit; 07 R227; from the last start, DC 1: 0) -/
  denyAll : Bool := false
  /-- VIOLATION (1 bit; 07 Table 7-7; spec: 0 at release) -/
  violation : Bool := false
  /-- `MPU_FAULT_ADDRESS` (32 bits; 07 R232; spec: 0 at release) -/
  faultAddress : Nat := 0
  /-- `MPU_FAULT_INFO` (32 bits; 07 Table 7-8; spec: 0 at release) -/
  faultInfo : BitVec 32 := 0
  /-- `MPU_FAULT_CYCLE` (32 bits; 07 R232; spec: 0 at release) -/
  faultCycle : Nat := 0
  /-- violations after the first, counted in the event log (32 bits; 07 R231; spec: 0 at release) -/
  laterViolations : Nat := 0
deriving DecidableEq, Repr
/-! ### Exchange RAM (ch. 8) -/

/-- What an engine hands over in a buffer: the target, KIND and payload of its POST (R245). -/
structure XchPost where
  target : Owner
  kind : Nat
  payload : List (BitVec 8)
deriving DecidableEq, Repr

/-- What the firmware of an engine has yet to do through its port (R247). -/
inductive XchTask where
  /-- RELEASE of a buffer -/
  | release (n : Nat)
  /-- REVOKE of a buffer -/
  | revoke (n : Nat)
  /-- CLAIM of a buffer for a payload -/
  | deliver (x : XchPost)
  /-- POST of a buffer that was claimed for a payload and holds it -/
  | handOver (n : Nat) (x : XchPost)
deriving DecidableEq, Repr

/-- What a command in progress does at the end of its zeroing. -/
inductive XchPending where
  /-- CLAIM: ownership passes to the issuer, which fills the buffer with what it claimed it for -/
  | claim (by_ : Owner) (post : Option XchPost)
  /-- POST to a target with KIND and LENGTH -/
  | post (target : Owner) (kind len : Nat)
  /-- RELEASE: the buffer becomes FREE -/
  | toFree
  /-- REVOKE: the same, counted at its end (R251) -/
  | revoke
deriving DecidableEq, Repr

/-- One buffer's descriptor (Table 8-6); its home follows from its number. -/
structure Buffer where
  owner : Owner := .free
  /-- BUSY: the command in progress -/
  busy : Option XchPending := none
  masked : Bool := false
  queued : Bool := false
  ue : Bool := false
  kind : Nat := 0
  seq : Nat := 0
  len : Nat := 0
  /-- network instant of the LE's last POST of this buffer (R251) -/
  postedAt : Instant := 0
  /-- the LE has popped it and not yet released it (R250) -/
  popped : Bool := false
deriving DecidableEq, Repr

/-- A command waiting at a port while the controller serves another (R247). -/
structure XchWaiting where
  port : Owner
  code : Nat
  buffer : Nat
  target : Owner
  kind : Nat
  len : Nat
  /-- network instant of its issue (R251) -/
  at_ : Instant
  /-- what the issuer claims a buffer for (R245) -/
  post : Option XchPost := none
deriving DecidableEq, Repr

/-- Commands that an idle controller met in one clock cycle, as the rotation takes them (R247, R259): what it had judged of them is judged
anew when another arrives in the same cycle. -/
structure Coincident where
  /-- local instant of their issue -/
  at_ : Nat
  /-- the port served last before them -/
  last : Owner
  commands : List XchWaiting
  /-- of the one accepted: its buffer's number and descriptor, its holder with that engine's queue, and what the port had been returned -/
  undo : Option (Nat × Buffer × Owner × List Nat × Nat)
deriving DecidableEq, Repr

/-- The exchange controller. -/
structure Exchange where
  /-- the 128 descriptors (64 bits each; 08 Table 8-6, R261; spec: FREE and zero after a reset) -/
  buffers : List Buffer := List.replicate 128 {}
  /-- inbound queue of the LE, buffer numbers oldest first (08 R248; spec: empty) -/
  leQueue : List Nat := []
  /-- inbound queue of the CE (08 R248; spec: empty) -/
  ceQueue : List Nat := []
  /-- inbound queue of the ME (08 R248; spec: empty) -/
  meQueue : List Nat := []
  /-- next post sequence of the LE queue (16 bits; 08 R248; spec: 0) -/
  leSeq : Nat := 0
  /-- next post sequence of the CE queue (16 bits; 08 R248; spec: 0) -/
  ceSeq : Nat := 0
  /-- next post sequence of the ME queue (16 bits; 08 R248; spec: 0) -/
  meSeq : Nat := 0
  /-- doorbells raised: LE, CE, ME (3 bits; 08 R248; DC 1: not raised) -/
  leBell : Bool := false
  ceBell : Bool := false
  meBell : Bool := false
  /-- the buffer being zeroed, the port that issued it and the local instant its zeroing started (08 R244, R247; spec: none) -/
  active : Option (Nat × Owner × Nat) := none
  /-- commands waiting at the other ports (08 R247; spec: none) -/
  waiting : List XchWaiting := []
  /-- the commands of the clock cycle in which an idle controller took its last one (08 R247, R259; spec: none) -/
  coincident : Option Coincident := none
  /-- what the firmware of the LE has yet to do through its port, in order (08 R247, R250 to R252; spec: none) -/
  leTasks : List XchTask := []
  /-- the same of the CE (08 R247, 17 R483; spec: none) -/
  ceTasks : List XchTask := []
  /-- the same of the ME (08 R247, 18 R522; spec: none) -/
  meTasks : List XchTask := []
  /-- the port served last (08 R247; DC 1: CE, so the LE is served first) -/
  lastServed : Owner := .ce
  /-- result of each port's last command: LE, CE, ME (8 bits each; 08 Table 8-5; DC 1: 0x00) -/
  leResult : Nat := 0
  ceResult : Nat := 0
  meResult : Nat := 0
  /-- the buffer number POP or CLAIM last returned to each port: LE, CE, ME (8 bits each; 08 R244, R248; DC 1: 0xFF) -/
  leReturn : Nat := 0xFF
  ceReturn : Nat := 0xFF
  meReturn : Nat := 0xFF
  /-- entries the LE popped in this cycle (5 bits; 08 R250; spec: 0) -/
  lePops : Nat := 0
  /-- `XCH_REVOKE_COUNT` (32 bits, sat; 08 R255; spec: 0 at release) -/
  revokeCount : Nat := 0
  /-- `XCH_STARVED_COUNT` (32 bits, sat; 08 R255; spec: 0 at release) -/
  starvedCount : Nat := 0
  /-- `XCH_REFUSED_COUNT` (32 bits, sat; 08 R255; spec: 0 at release) -/
  refusedCount : Nat := 0
  /-- `XCH_CORRECTED_COUNT` (32 bits, sat; 08 R255; spec: 0 at release) -/
  correctedCount : Nat := 0
  /-- `XCH_UNCORRECTED_COUNT` (32 bits, sat; 08 R255; spec: 0 at release) -/
  uncorrectedCount : Nat := 0
  /-- `XCH_LE_QUEUE_MAX` (8 bits; 08 R255; spec: 0 at release) -/
  leQueueMax : Nat := 0
  /-- `XCH_FAULT_BUFFER` (8 bits; 08 R255; spec: 0xFF at release) -/
  faultBuffer : Nat := 0xFF
deriving DecidableEq, Repr
/-! ### Field channels (ch. 9) -/

/-- A filter run: the comparator change that began it, and how long it still needs. -/
structure FilterRun where
  /-- network instant of the comparator change: the timestamp to be reported (R268) -/
  stamp : Instant
  /-- local instant at which the filter time elapses -/
  due : Nat
deriving DecidableEq, Repr

/-- What a glint blanking window holds of a test input (R300). -/
structure Blanked where
  /-- raw value at the pre-sample -/
  pre : Bool
  /-- the run that was in progress: its timestamp and the time it still needed -/
  run : Option (Instant × Nat)
deriving DecidableEq, Repr

/-- One field channel. -/
structure Channel where
  /-- the domain is on (1 bit; 09 Table 9-7 OFF; spec: off) -/
  on : Bool := false
  /-- mode in force (8 bits; 09 R264, R286; spec: default 0x00) -/
  mode : Nat := 0
  /-- voltage at the pin in mV (09 R266; from hardware, DC 1: 0) -/
  pinMv : Nat := 0
  /-- RAW comparator value (1 bit; 09 Table 9-7; DC 1: 0) -/
  raw : Bool := false
  /-- live filtered value (1 bit; 09 R267; spec: 0 at switch-on) -/
  filtered : Bool := false
  /-- FILTERED at the last freeze (1 bit; 09 Table 9-7; spec: 0) -/
  frozen : Bool := false
  /-- filter run in progress (09 R267; spec: none) -/
  run : Option FilterRun := none
  /-- INIT (1 bit; 09 R269; spec: 0 while off) -/
  init : Bool := false
  /-- local instant at which INIT clears (09 R269; DC 1: 0) -/
  initDue : Nat := 0
  /-- blanking window of its own glint code (10 R300; spec: none) -/
  blanked : Option Blanked := none
  /-- live timestamp of the last filtered change (64 bits; 09 R268; spec: 0) -/
  edgeLive : Instant := 0
  /-- filtered value and timestamp at a boundary that has passed and is still to be frozen (1 + 64 bits; 01 R47; spec: none) -/
  held : Option (Bool × Instant) := none
  /-- `CH_EDGE_TIME` as of the last freeze (64 bits; 09 R286; spec: 0 at release) -/
  edgeTime : Instant := 0
  /-- `CH_EDGE_COUNT` (32 bits, sat; 09 R286; spec: 0 at release) -/
  edgeCount : Nat := 0
  /-- COMMAND last placed (1 bit; 09 Table 9-7; spec: off) -/
  command : Bool := false
  /-- network instant the command last changed (64 bits; 09 R277; DC 1: 0) -/
  commandAt : Instant := 0
  /-- the driver sources: command after safe state, glint and bank switch (1 bit; 09 R271, R282; spec: off) -/
  driven : Bool := false
  /-- the driver pulls its pin towards 0 V, in an off-pulse (1 bit; 10 R302; spec: no) -/
  discharge : Bool := false
  /-- READBACK at the last freeze (1 bit; 09 Table 9-7; DC 1: 0) -/
  readback : Bool := false
  /-- consecutive compared freezes that mismatched (2 bits; 09 R278; spec: 0) -/
  mismatchRun : Nat := 0
  /-- consecutive compared freezes that matched (5 bits; 09 R288; DC 1: 0) -/
  matchRun : Nat := 0
  /-- READBACK_FAULT (1 bit; 09 Table 9-7; spec: 0) -/
  readbackFault : Bool := false
  /-- `CH_READBACK_MISMATCH_COUNT` (32 bits, sat; 09 R286; spec: 0 at release) -/
  mismatchCount : Nat := 0
  /-- driver conditions of Table 9-4 now present: overload, thermal, open load, short (4 bits; 09 R279; DC 1: none) -/
  conditions : BitVec 4 := 0
  /-- the driver has shut down thermally (1 bit; 09 R271; DC 1: no) -/
  thermalOff : Bool := false
deriving DecidableEq, Repr

/-- One field bank. -/
structure Bank where
  /-- the supply switch is commanded closed (1 bit; 09 R275; spec: open) -/
  closed : Bool := false
  /-- the rail read closed at the last cycle (1 bit; 09 Table 9-8; spec: open) -/
  railClosed : Bool := false
  /-- local instant the switch last opened (09 R276; spec: none) -/
  openedAt : Option Nat := none
  /-- consecutive cycles the rail read above 5 V while commanded open (2 bits; 09 R276; spec: 0) -/
  openHighRun : Nat := 0
  /-- the bank failed to close: its outputs stay off (1 bit; 09 R276; spec: no) -/
  closeFailed : Bool := false
  /-- FAULT_NOW (1 bit; 09 Table 9-8; DC 1: 0) -/
  faultNow : Bool := false
  /-- FAULT_LATCHED (1 bit; 09 Table 9-8; spec: 0 at release) -/
  faultLatched : Bool := false
  /-- consecutive freezes the fault bit read 0 (5 bits; 09 R288; DC 1: 0) -/
  clearRun : Nat := 0
deriving DecidableEq, Repr

/-- A field supply's window (R281). -/
structure FieldSupply where
  /-- out of range -/
  low : Bool := false
  /-- consecutive cycles out of range -/
  outRun : Nat := 0
  /-- local instant since which it has stayed in its window (R288) -/
  windowSince : Option Nat := none
deriving DecidableEq, Repr

/-- Output images handed over, not yet placed (R195): bit n is the slot of CHn. -/
structure OutImages where
  tag : Instant
  plain : BitVec 32
  shadow : BitVec 32
deriving DecidableEq, Repr

/-- The IOS's field side. -/
structure Field where
  /-- channels CH00 to CH31 (09 R264; spec: off) -/
  channels : List Channel := List.replicate 32 {}
  /-- banks B0 to B3 (09 R265; spec: open) -/
  banks : List Bank := List.replicate 4 {}
  /-- field supply 1 (09 R281; DC 1: not out of range) -/
  fs1 : FieldSupply := {}
  /-- field supply 2 (09 R281; DC 1: not out of range) -/
  fs2 : FieldSupply := {}
  /-- images handed over and not yet placed, oldest first: those of the last cycle and of this one (09 R272; spec: none) -/
  images : List OutImages := []
  /-- the placement instant of this cycle is still to come (1 bit; 01 R34; DC 1: no) -/
  placementDue : Bool := false
  /-- the first placement instant after release has come (1 bit; 04 R144; spec: no) -/
  outputsLive : Bool := false
  /-- an image has been placed since release (1 bit; 09 R282; spec: no) -/
  placed : Bool := false
  /-- the IOS safe state is latched, `SAFE_STATE_ACTIVE` (1 bit; 09 R282, R284; spec: 0 at release) -/
  safeState : Bool := false
  /-- the output watchdog is armed (1 bit; 09 R283; spec: no) -/
  wdArmed : Bool := false
  /-- network instant from which the watchdog arms (09 R283; spec: none) -/
  wdArmAt : Option Instant := none
  /-- `WD_MISSED` (8 bits, sat; 09 R283; spec: 0 at release) -/
  wdMissed : Nat := 0
  /-- `WD_EXPIRY_COUNT` (32 bits, sat; 09 R286; spec: 0 at release) -/
  wdExpiries : Nat := 0
  /-- the comparator's fault line is asserted (1 bit; 06 R198; spec: no) -/
  faultLine : Bool := false
  /-- the state's outputs are applied at the next placement instant, after leaving Run by a request or SafeStop (1 bit; 09 R285, 10 R311; spec: no) -/
  applyState : Bool := false
  /-- cycles spent in SafeStop (8 bits; 09 R288; spec: 0) -/
  safeStopCycles : Nat := 0
deriving DecidableEq, Repr
/-! ### Glint pulses and counting inputs (ch. 10) -/

/-- The glint slot in progress. -/
structure GlintSlot where
  code : Nat
  /-- network instants of pulse start, pulse end and blanking end -/
  start : Instant
  stop : Instant
  blankEnd : Instant
  /-- raw values of the test inputs at pre, bit per channel -/
  pre : Option (BitVec 32)
  /-- the sources' readbacks at pre -/
  preSrc : BitVec 32
  /-- the pulse has started, and which sources place one (0 for an empty slot) -/
  pulsing : BitVec 32
  /-- sources among them that were commanded off at pulse start: theirs is an on-pulse (32 bits; 10 Table 10-1, R304) -/
  onPulse : BitVec 32 := 0
  started : Bool
  /-- the test sample was taken: channels that read 0 at test after 1 at pre -/
  tested : Bool
  /-- the pulse has ended, and the blanking too -/
  ended : Bool
  finished : Bool
  /-- sources whose driver failed to switch off at test -/
  stuckOn : BitVec 32
  /-- an interruption before the test instant, or after it (R314) -/
  broken : Bool
deriving DecidableEq, Repr

/-- Glint: verdict counts and the slot. -/
structure Glint where
  /-- the slot in progress (10 R297; spec: none) -/
  slot : Option GlintSlot := none
  /-- FAULT of `GLINT_STATUS` (1 bit; 10 Table 10-5; spec: 0 at release) -/
  fault : Bool := false
  /-- `GLINT_FAULT_CHANNEL` (8 bits; 10 R310; spec: 0xFF at release) -/
  faultChannel : Nat := 0xFF
  /-- `GLINT_MISS_COUNT` per channel (32 × 32 bits, sat; 10 R310; spec: 0 at release) -/
  missCount : List Nat := List.replicate 32 0
  /-- consecutive own pulses missed, per channel (10 R301; spec: 0 at entry to Run) -/
  ownRun : List Nat := List.replicate 32 0
  /-- consecutive foreign drops, entry 8·n + d for CHn and code d (10 R301; spec: 0 at entry to Run) -/
  foreignRun : List Nat := List.replicate 256 0
  /-- causes detected and waiting for the next freeze, to be evaluated at the boundary after it (10 R311; spec: none) -/
  waiting : List Detected := []
  /-- causes carried by the last freeze (10 R311; spec: none) -/
  carried : List Detected := []
deriving DecidableEq, Repr

/-- One counting input, live and as of the last freeze. -/
structure Counter where
  /-- live count (32 bits, wraps; 10 R308; spec: 0 at release) -/
  value : Nat := 0
  /-- live `CNT_LAST_EDGE` (64 bits; 10 R308; spec: 0) -/
  last : Instant := 0
  /-- live `CNT_PERIOD` (32 bits; 10 R308; spec: 0) -/
  period : Nat := 0
  /-- changes counted since release or the last mode change, up to 2 (10 R308; spec: 0) -/
  seen : Nat := 0
  /-- local instant of the last counted change (10 R308; DC 1: 0) -/
  lastLocal : Nat := 0
  /-- network instant of the previous comparator change (10 R307; spec: none) -/
  lastChange : Option Instant := none
  /-- the first change after SUPPLY_LOW clears is not counted (1 bit; 10 R309; spec: no) -/
  skip : Bool := false
  /-- OVERRUN (1 bit; 10 Table 10-6; spec: 0 at release) -/
  overrun : Bool := false
  /-- STOPPED, live (1 bit; 10 Table 10-6; spec: 1) -/
  stopped : Bool := true
  /-- the three values and STOPPED at a boundary that has passed and is still to be frozen (01 R47, 10 R308; spec: none) -/
  held : Option (Nat × Instant × Nat × Bool) := none
  /-- frozen `CNT_VALUE`, `CNT_LAST_EDGE`, `CNT_PERIOD` and STOPPED (10 R308; spec: 0, 0, 0, 1 at release) -/
  fValue : Nat := 0
  fLast : Instant := 0
  fPeriod : Nat := 0
  fStopped : Bool := true
deriving DecidableEq, Repr
/-! ### Safety analog pairs (ch. 11) -/

/-- One channel of a pair: its decimator, interval accumulators and frozen items (Tables 11-3, 11-4). -/
structure AnChannel where
  /-- the modulator bits that the decimator spans, the last 3·R, oldest first (11 R319, R325; spec: cleared by a synchronising reset) -/
  bits : List Bool := []
  /-- the last bit of the modulator and how many equal ones it ends (11 R329; DC 1: none yet) -/
  lastBit : Bool := false
  equalBits : Nat := 0
  /-- last sample word (Table 11-3), live -/
  word : BitVec 32 := 0
  /-- last completed engineering value, live -/
  value : Int := 0
  /-- the last completed sample is VALID -/
  valid : Bool := false
  /-- e of the last valid sample of the interval -/
  last : Int := 0
  min : Int := 0
  max : Int := 0
  nvalid : Nat := 0
  ovr : Bool := false
  /-- completion time of the last sample of the interval -/
  time : Instant := 0
  /-- samples completed in the interval (R329) -/
  count : Nat := 0
  /-- frozen sample word and items of Table 11-4 -/
  fWord : BitVec 32 := 0
  fLast : Int := 0
  fMin : Int := 0
  fMax : Int := 0
  fNvalid : Nat := 0
  fFlags : BitVec 8 := 0
  fTime : Instant := 0
deriving DecidableEq, Repr

/-- What a pair gathered up to a boundary that has passed and whose freeze is still to come. -/
structure PairInterval where
  a : AnChannel
  b : AnChannel
  disagree : Bool
  synced : Bool
  syncInInterval : Bool
deriving DecidableEq, Repr

/-- One analog pair. -/
structure Pair where
  /-- enabled with its domains on (1 bit; 11 Table 11-7; spec: off) -/
  on : Bool := false
  /-- `AN_RATIO` in force (16 bits; 11 R334; spec: default 256) -/
  ratio : Nat := 256
  /-- channel a (11 R323, R324; spec: 0) -/
  a : AnChannel := {}
  /-- channel b (11 R323, R324; spec: 0) -/
  b : AnChannel := {}
  /-- pending synchronising reset: its sync instant t_s (11 R326; spec: none) -/
  syncAt : Option Nat := none
  /-- number n of the last sample since the last synchronising reset (11 R325; spec: 0) -/
  sinceSync : Nat := 0
  /-- local instant of the modulator clock edge at which that reset took place (11 R325; spec: none before one) -/
  syncEdge : Nat := 0
  /-- a synchronising reset has taken place since the pair was enabled or its ratio changed (1 bit; 11 R325, R334; spec: no) -/
  synced : Bool := false
  /-- SYNCING (1 bit; 11 Table 11-8; spec: 0) -/
  syncing : Bool := false
  /-- the interval contains a sync instant (1 bit; 11 R329; spec: no) -/
  syncInInterval : Bool := false
  /-- the interval that ended at a boundary whose freeze is still to come (the model's own field; log entry 121; none) -/
  held : Option PairInterval := none
  /-- DISAGREE at the last compared sample (1 bit; 11 Table 11-8; spec: 0) -/
  disagree : Bool := false
  /-- network instant of the first sample of the disagreeing run and of its latest (11 R328; spec: none) -/
  runFirst : Option Instant := none
  runLatest : Instant := 0
  /-- network instant since which every compared sample has agreed (11 R332; spec: none) -/
  agreeSince : Option Instant := none
  /-- DISAGREE_FAULT: cause 0x0804 of this pair is active (1 bit; 11 Table 11-8; spec: 0) -/
  disagreeFault : Bool := false
  /-- MOD_FAULT (1 bit; 11 Table 11-8; spec: 0 at release) -/
  modFault : Bool := false
  /-- REF_FAULT (1 bit; 11 Table 11-8; spec: 0 at release) -/
  refFault : Bool := false
  /-- cause 0x0803 of this pair was detected since release (1 bit; 11 R329; spec: no) -/
  countFault : Bool := false
  /-- `AN_DIFF_MAX` (32 bits, sat; 11 R331; spec: 0 at release) -/
  diffMax : Nat := 0
  /-- `AN_SYNC_TIME` (64 bits; 11 R331; spec: 0 at release) -/
  syncTime : Nat := 0
deriving DecidableEq, Repr

/-- The analog side of the IOS. -/
structure Analog where
  /-- pairs AN0 to AN3 (11 R319; spec: off) -/
  pairs : List Pair := List.replicate 4 {}
  /-- ANALOG_TRIM in force, gain [31:16] and offset [15:0] of AN0a to AN3b (8 × 32 bits; 11 R321, 05 R167; spec: the fallback G = 0x8000, OFF = 0) -/
  trim : List Nat := List.replicate 8 0x80000000
  /-- `AN_FAULT_CHANNEL` (8 bits; 11 R331; spec: 0xFF at release) -/
  faultChannel : Nat := 0xFF
  /-- causes set in the next frozen image, with their class (11 R330; spec: none) -/
  waiting : List Detected := []
  /-- causes carried by the last freeze, evaluated at the boundary after it (11 R330; spec: none) -/
  carried : List Detected := []
deriving DecidableEq, Repr
/-! ### The function library (ch. 12) -/

/-- The instances of the active image and the acknowledges on their way into the next freeze. -/
structure Library where
  /-- instances, in the evaluation order of R339 (12 R338; spec: none while no image is active) -/
  blocks : List Block := []
  /-- `LIB_VERSION` (32 bits; 12 R358; from the firmware, DC 1: 0 before a start) -/
  version : Nat := 0
  /-- `INST_ACK` accepted in this cycle, by ID (12 R345; spec: none) -/
  ackPending : List Nat := []
  /-- `INST_ACK` carried by the last freeze (12 R345; spec: none) -/
  ackFrozen : List Nat := []
  /-- `DIR_REQUEST` accepted in this cycle, the last one (12 R354; spec: none) -/
  dirPending : Option Nat := none
  /-- the last freeze carried a `DIR_REQUEST` (1 bit; 12 R354, 13 R393; spec: no) -/
  dirFrozen : Bool := false
deriving DecidableEq, Repr
/-! ### Logic images (ch. 13) -/

/-- `BANK_STATE` codes. -/
inductive BankState where
  | blank | erasing | loading | validating | valid | invalid
deriving DecidableEq, Repr

/-- One image bank's state beside its flash content. -/
structure ImageBank where
  /-- `BANK_STATE` (8 bits; 13 R388; from the last validation, DC 1: blank) -/
  state : BankState := .blank
  /-- `BANK_INVALID_REASON` (8 bits; 13 R373; DC 1: 0x01, blank) -/
  reason : Nat := 1
  /-- `BANK_ERASE_COUNT` (32 bits, sat; 13 R388; spec: 0 at store initialisation) -/
  erases : Nat := 0
  /-- the header was written last, so the load is complete (1 bit; 13 Table 13-6; DC 1: no) -/
  complete : Bool := false
deriving DecidableEq, Repr

/-- A pending online exchange (R379). -/
structure Exchanging where
  /-- t_x, or 0 for the first boundary after ready -/
  at_ : Nat
  ready : Bool
deriving DecidableEq, Repr

/-- Why a bank is being validated. -/
inductive ValidationFor where
  | load | release | select
deriving DecidableEq, Repr

/-- What the LE holds of the active image beside its instances and connections: header fields and the channel-use and analog-use
entries (Tables 13-1, 13-4, 13-5). -/
structure ActiveImage where
  sequence : Nat
  familyId : Nat
  crc : Nat
  declaredUs : Nat
  stateSize : Nat
  stackSize : Nat
  /-- words 0 and 1 of the 32 channel-use entries -/
  uses : List (Nat × Nat)
  /-- the four analog-use words -/
  analog : List Nat
deriving DecidableEq, Repr

/-- Images, loading, selection and exchange. -/
structure Images where
  /-- bank A (13 R366; see the bank's fields) -/
  bankA : ImageBank := {}
  /-- bank B (13 R366; see the bank's fields) -/
  bankB : ImageBank := {}
  /-- `IMAGE_ACTIVE_BANK` 0 none, 1 A, 2 B (8 bits; 13 R388; spec: 0x00 until selection) -/
  active : Nat := 0
  /-- the active image as the LE holds it (13 Tables 13-1, 13-4, 13-5; spec: none until selection) -/
  image : Option ActiveImage := none
  /-- `IMAGE_LOAD_OFFSET` (32 bits; 13 R388; spec: 0x80) -/
  loadOffset : Nat := 0x80
  /-- `IMAGE_LOAD_STATUS` (8 bits; 13 Table 13-10; spec: 0x00) -/
  loadStatus : Nat := 0
  /-- the validation in progress: bank and purpose (13 R374; spec: none) -/
  validating : Option (Nat × ValidationFor) := none
  /-- `EXCHANGE_STATUS` (8 bits; 13 Table 13-11; spec: 0x00 at release) -/
  exchangeStatus : Nat := 0
  /-- the pending exchange (13 R379; spec: none) -/
  pending : Option Exchanging := none
  /-- the switch was made; the exchange completes at the first hand-over: t_x and the former bank (13 R387; spec: none) -/
  switched : Option (Nat × Nat) := none
  /-- `EXCHANGE_COUNT` (32 bits, sat; 13 R388; spec: 0 at store initialisation) -/
  exchangeCount : Nat := 0
  /-- `EXCHANGE_TIME_LAST` (64 bits; 13 R388; spec: 0 at release) -/
  exchangeTime : Nat := 0
  /-- `IMAGE_ECC_CORRECTED` (32 bits, sat; 13 R388; spec: 0 at release) -/
  eccCorrected : Nat := 0
  /-- `CODE_CONSTANT` in use, 0 none (32 bits; 06 R206; spec: 0 while no image is selected) -/
  codeConstant : Nat := 0
deriving DecidableEq, Repr
/-! ### The non-volatile store (ch. 14) -/

/-- A record waiting to be programmed. -/
structure StoreRecord where
  area : Area
  /-- TYPE of Table 14-5 -/
  type : Nat
  payload : List (BitVec 8)
  /-- SEQ of the record whose content it carries, 0 for a first copy -/
  origin : Nat
  /-- it failed its read-back once -/
  retried : Bool
deriving DecidableEq, Repr

/-- Where an area stands. -/
structure AreaState where
  /-- next record SEQ (14 R403) -/
  seq : Nat := 1
  /-- next SECTOR_SEQ (14 R400) -/
  sectorSeq : Nat := 1
  /-- the write sector -/
  sector : Nat := 0
  /-- offset in it of the next unit -/
  pos : Nat := 0x20
  /-- erase credit (I32; 14 R412) -/
  credit : Int := 0
  /-- the sector being reclaimed -/
  reclaim : Option Nat := none
  /-- sectors to be retired once the items they hold are reclaimed (14 R415; spec: none) -/
  retiring : List Nat := []
  /-- local instant of the last accrual of the credit (14 R412; DC 1: 0) -/
  accruedAt : Nat := 0
deriving DecidableEq, Repr

/-- A sector erase in progress (R408). -/
structure Erase where
  /-- 0 to 127 for a sector, 0x80 and 0x81 for a ledger row -/
  sector : Nat
  count : Nat
  /-- the ledger entry: row 0 or 1 and index -/
  row : Nat
  entry : Nat
deriving DecidableEq, Repr

/-- The data store, its ledger and the store manager. -/
structure Store where
  /-- the 512 KiB array by store address, an unlisted byte reads 0xFF (8 bits each; 14 R395, R396; DC 4: erased) -/
  array : List Host.Cell := []
  /-- the ledger rows, LA at 0 and LB at 0x1000, an unlisted byte reads 0xFF (8 bits each; 14 R407; DC 4: erased) -/
  ledger : List Host.Cell := []
  /-- bytes of a program unit that a reset cut short, by store address (0x80000 onwards: the ledger rows), with their target: each bit reads 1
  or the target's, anew at every start (14 R398; spec: none) -/
  torn : List (Nat × BitVec 8) := []
  /-- next ENTRY_SEQ (32 bits; 14 R407; spec: from 1) -/
  entrySeq : Nat := 1
  /-- active row 0 for LA or 1 for LB, and its next entry (14 R407; DC 1: LA, entry 0) -/
  row : Nat := 0
  entry : Nat := 0
  /-- configuration area (14 R399; spec: credit 2000 at store initialisation) -/
  config : AreaState := { sector := 0, credit := 2000 }
  /-- event area (14 R399; spec: credit 5000 at store initialisation) -/
  event : AreaState := { sector := 32, credit := 5000 }
  /-- ledger area (14 R399; spec: credit 1000 at store initialisation) -/
  ledgerArea : AreaState := { sector := 112, credit := 1000 }
  /-- records requested and not yet committed, in request order (14 R404; spec: none) -/
  queue : List StoreRecord := []
  /-- records held back while the gate is closed, in request order (14 R406; spec: none) -/
  heldBack : List StoreRecord := []
  /-- records at the head of `queue` that were held back: no other program unit starts before they are persisted (14 R406, 02 R64; spec: 0) -/
  heldLeft : Nat := 0
  /-- programs of image or firmware flash that wait for those records: address and bytes, oldest first (02 R64; spec: none) -/
  deferred : List (Nat × List (BitVec 8)) := []
  /-- the erase in progress (14 R408; spec: none) -/
  erase : Option Erase := none
  /-- blocked sectors of this start (14 R409; spec: none) -/
  blocked : List Nat := []
  /-- retired sectors (14 R414, R415; spec: none) -/
  retired : List Nat := []
  /-- persisted objects with no valid record, key 256·index + subindex (14 R420; spec: none) -/
  missing : List Nat := []
  /-- keys of objects that hold a valid record (14 R404; spec: none) -/
  recorded : List Nat := []
  /-- `STORE_RECOVERY_TIME` µs (32 bits; 14 R422; from the last start, DC 1: 0) -/
  recoveryTime : Nat := 0
  /-- `STORE_SECTORS_REERASED` (8 bits; 14 R422; from the last start, DC 1: 0) -/
  reerased : Nat := 0
  /-- `STORE_RECORDS_REJECTED` (16 bits, sat; 14 R422; from the last start, DC 1: 0) -/
  rejected : Nat := 0
  /-- `STORE_READ_FAULTS` (32 bits, sat; 14 R422; spec: 0 at release) -/
  readFaults : Nat := 0
  /-- `STORE_ERASE_TOTAL` (32 bits, sat; 14 R422; spec: 0 at store initialisation) -/
  eraseTotal : Nat := 0
  /-- `STORE_REFUSED_COUNT` (32 bits, sat; 14 R422; spec: 0 at store initialisation) -/
  refusedCount : Nat := 0
  /-- `STORE_EVENT_DROPPED` (32 bits, sat; 14 R422; spec: 0 at store initialisation) -/
  eventDropped : Nat := 0
  /-- READY (1 bit; 14 Table 14-10; spec: 0 before recovery) -/
  ready : Bool := false
  /-- RECOVERED (1 bit; 14 Table 14-10; spec: 0) -/
  recovered : Bool := false
  /-- INITIALISED (1 bit; 14 Table 14-10; spec: 0) -/
  initialised : Bool := false
  /-- AREA_LOW: cause 0x0906 holds (1 bit; 14 Table 14-10; spec: 0) -/
  areaLow : Bool := false
deriving DecidableEq, Repr
/-! ### The object dictionary (ch. 15, 16) -/

/-- A pending slot of a confirmed write (R444). -/
structure PendingSlot where
  requester : Nat
  token : Nat
  index : Nat
  sub : Nat
  type : Nat
  value : Nat
  /-- local instant the PREPARE was accepted -/
  at_ : Nat
  channel : DictChannel
deriving DecidableEq, Repr

/-- An accepted write waiting for the next boundary (R443, R446): requester and channel, the write, and what its answer carries. -/
structure QueuedWrite where
  requester : Nat
  channel : DictChannel
  confirmed : Bool
  index : Nat
  sub : Nat
  /-- TYPE code -/
  type : Nat
  /-- the value; a DOMAIN's bytes as one little-endian number -/
  value : Nat
  /-- length of the value in bytes -/
  len : Nat
  /-- the CAN channel that carried the request, on which the answer goes (R478) -/
  via : Option CanChannel := none
  /-- REQ_SEQ of a plain write over CAN (R481) -/
  reqSeq : Option Nat := none
  /-- WRITE_TOKEN and CONFIRM_CODE of a CONFIRM -/
  token : Nat := 0
  code : Nat := 0
  /-- a value of a replacement copy (R533): no requester waits for it -/
  isCopy : Bool := false
  /-- of a step: the instruction of the code that both passes come to next (20 R565; DC 1: none) -/
  instr : Option LogicInstr := none
deriving DecidableEq, Repr

/-- The last response the dictionary sent: what the requester sees. -/
structure Response where
  requester : Nat
  index : Nat
  sub : Nat
  /-- TYPE code -/
  type : Nat
  /-- error code of Table 15-8, 0x0000 accepted -/
  error : Nat
  detail : Nat
  /-- value read, or stored value of a PREPARE; bytes as one little-endian number -/
  value : Nat
  /-- length of the value in bytes -/
  size : Nat
  /-- current value, token and CONFIRM_CODE of a PREPARE -/
  current : Nat
  token : Nat
  code : Nat
deriving DecidableEq, Repr

/-- The dictionary's own state. -/
structure Dict where
  /-- values in force of objects that differ from their literal default, key 256·index + subindex, ascending (per object; 15 R438, R439; spec: the literal defaults of ch. 16) -/
  values : List (Nat × Nat) := []
  /-- `WRITE_TOKEN_LAST` (32 bits; 15 R450; spec: 0 at release) -/
  token : Nat := 0
  /-- the pending slots, at most one a requester (17; 15 R444; spec: empty) -/
  slots : List PendingSlot := []
  /-- writes accepted and not yet applied (15 R443; spec: none) -/
  queued : List QueuedWrite := []
  /-- LAST REQ_SEQ of plain writes per requester (17 × 16 bits; 17 R481; spec: absent at release) -/
  reqSeq : List (Nat × Nat) := []
  /-- `SAFETY_WRITE_COUNT` (32 bits, sat; 15 R450; spec: 0 at store initialisation) -/
  safetyWrites : Nat := 0
  /-- `CONFIRM_FAIL_COUNT` (32 bits, sat; 15 R450; spec: 0 at release) -/
  confirmFails : Nat := 0
  /-- DICT_STATUS RESTORED (1 bit; 15 Table 15-11; spec: 0 at release) -/
  restored : Bool := false
  /-- DICT_STATUS CONFIG_CHANGED (1 bit; 15 Table 15-11; spec: 0 at release) -/
  configChanged : Bool := false
  /-- `LAST_ACCESS_ERROR` (64 bits; 15 R450; spec: 0 at release) -/
  lastError : BitVec 64 := 0
  /-- pending writes superseded by another write, at most one a requester: their CONFIRM gets 0x800D (15 R453; spec: none) -/
  superseded : List PendingSlot := []
  /-- the last response sent (15 R443; DC 1: none) -/
  response : Option Response := none
deriving DecidableEq, Repr
/-! ### The Zynte Object Protocol (ch. 17) -/

/-- A frame in a transmit queue: identifier and data. -/
structure CanFrame where
  id : Nat
  data : List (BitVec 8)
  brs : Bool
  /-- ESI as the frame was sent with it -/
  esi : Bool := false
deriving DecidableEq, Repr

/-- One CAN controller. -/
structure CanState where
  /-- ENABLED, `CAN_ENABLE` as in force (1 bit; 17 Table 17-15; spec: `CAN_ENABLE` default selects both) -/
  enabled : Bool := false
  /-- DISABLED (1 bit; 17 R498; spec: 0) -/
  disabled : Bool := false
  /-- BUS_OFF (1 bit; 17 R498; spec: 0) -/
  busOff : Bool := false
  /-- RECOVERING (1 bit; 17 R498; spec: 0) -/
  recovering : Bool := false
  /-- the recovery sequence has started (1 bit; 17 R498; spec: no) -/
  sequence : Bool := false
  /-- TEC (8 bits, sat; 17 Table 17-15; DC 1: 0) -/
  tec : Nat := 0
  /-- REC (8 bits, sat; 17 Table 17-15; DC 1: 0) -/
  rec_ : Nat := 0
  /-- local instant of the last frame with ESI = 1 (17 Table 17-15; spec: none) -/
  esiAt : Option Nat := none
  /-- local instants of the bus-offs of the last 60 s (17 R498; spec: none) -/
  busOffs : List Nat := []
  /-- `BUS_OFF_COUNT` (32 bits, sat; 17 R498; spec: 0 at release) -/
  busOffCount : Nat := 0
  /-- transmit queue, lowest identifier first, equal ones in order (17 R478; spec: empty) -/
  queue : List CanFrame := []
  /-- the last frame transmitted (17 R474; DC 1: none) -/
  sent : Option CanFrame := none
deriving DecidableEq, Repr

/-- A peer's last valid ANNOUNCE (R489). -/
structure Announced where
  node : Nat
  uid : Nat
  epoch : Nat
deriving DecidableEq, Repr

/-- A node heard by HEARTBEAT (R485). -/
structure HeardNode where
  node : Nat
  /-- local instant of its last HEARTBEAT -/
  at_ : Nat
  /-- its period in units of 10 ms -/
  period : Nat
deriving DecidableEq, Repr

/-- Session sequence of ZOP-S dictionary frames with one requester (R497). -/
structure DictSeq where
  node : Nat
  /-- LAST, none until the first frame after an ANNOUNCE -/
  last : Option Nat
  /-- next SEQ of our responses (16 bits; DC 1: 0) -/
  sent : Nat
  /-- channel and frame of the last response, empty before the first -/
  answer : List (BitVec 8)
deriving DecidableEq, Repr

/-- A segmented transfer open at the CE (R482). -/
structure Transfer where
  requester : Nat
  channel : CanChannel
  /-- SERVICE of its first frame (R481) -/
  service : Nat := 2
  index : Nat
  sub : Nat
  type : Nat
  reqSeq : Nat
  length : Nat
  data : List (BitVec 8)
  /-- local instant of its last segment -/
  at_ : Nat
deriving DecidableEq, Repr

/-- ZOP on the LE and the CE. -/
structure Zop where
  /-- `NODE_ID_ACTIVE` (8 bits; 17 R476; from the last start, spec: default 16) -/
  nodeId : Nat := 16
  /-- `HEARTBEAT_PERIOD` in force µs (32 bits; 17 R500; spec: default 100000) -/
  heartbeatUs : Nat := 100000
  /-- `ARB_RATE` and `DATA_RATE` in force (8 bits each; 17 R500; spec: defaults 0x01) -/
  arbRate : Nat := 1
  dataRate : Nat := 1
  /-- CAN A (17 R474) -/
  canA : CanState := {}
  /-- CAN B (17 R474) -/
  canB : CanState := {}
  /-- local instant the last HEARTBEAT was sent (17 R485; DC 1: 0) -/
  heartbeatAt : Nat := 0
  /-- nodes heard by HEARTBEAT, behind `NODES_PRESENT` (16 bits; 17 R485; spec: none at release) -/
  nodes : List HeardNode := []
  /-- `TX_DISCARD_COUNT` (32 bits, sat; 17 R500; spec: 0 at release) -/
  txDiscard : Nat := 0
  /-- `SESSION_STATE` (8 bits; 17 R487; spec: 0x00 from release) -/
  session : Nat := 0
  /-- `SESSION_EPOCH` (32 bits; 17 R487; spec: 0 at store initialisation) -/
  epoch : Nat := 0
  /-- local instant of the last ANNOUNCE sent (17 R488; spec: none) -/
  announcedAt : Option Nat := none
  /-- a RESYNC_REQUEST with an old EPOCH asks for an ANNOUNCE (1 bit; 17 R488; spec: no) -/
  announceDue : Bool := false
  /-- peers' announces (17 R489; spec: none) -/
  peers : List Announced := []
  /-- OEM_KEY as the session uses it (256 bits; 17 R487; spec: zero bytes while BLANK) -/
  key : BitVec 256 := 0
  /-- the connections of the active map (17 R495; spec: none while no image is active) -/
  conns : List Connection := []
  /-- `CONN_FAULT_ID` (8 bits; 17 R500; spec: 0xFF at release) -/
  connFault : Nat := 0xFF
  /-- ZOP-S dictionary sequences by requester (17 R497; spec: none) -/
  dictSeqs : List DictSeq := []
  /-- open segmented transfers (17 R482; spec: none) -/
  transfers : List Transfer := []
  /-- frames posted in the preceding T_cycle: identifier, data, local instant (17 R479; spec: none) -/
  posted : List (Nat × List (BitVec 8) × Nat) := []
  /-- buffers of kind 0x03 that the CE has posted in this cycle (2 bits; 17 R484; spec: 0) -/
  dictPosted : Nat := 0
  /-- payloads of kind 0x03 that the CE holds in CE RAM, in arrival order (17 R484; spec: none) -/
  held : List (List (BitVec 8)) := []
  /-- value bytes of a dictionary request whose last part the LE has yet to pop from a buffer (17 R483; spec: none) -/
  parts : List (BitVec 8) := []
  /-- value bytes of a dictionary response whose last part the CE has yet to pop (17 R483; spec: none) -/
  ceParts : List (BitVec 8) := []
  /-- every enabled channel was bus-off or disabled at once, and none has recovered since (1 bit; 17 R491; spec: no) -/
  allDown : Bool := false
  /-- local instant of the last conflicting frame, for cause 0x0A09 (17 R503; spec: none) -/
  conflictAt : Option Nat := none
deriving DecidableEq, Repr
/-! ### Mirror pairs (ch. 18) -/

/-- The twin's last STATUS (Table 18-3). -/
structure TwinStatus where
  role : Nat
  runState : Nat
  flags : BitVec 8
  node : Nat
  stopTarget : Nat
  boundary : Nat
  imageSequence : Nat
  imageCrc : Nat
  pairConfigCrc : Nat
  loadSequence : Nat
  loadImageCrc : Nat
  snapSeq : Nat
  exchangeTx : Nat
  /-- CODE_CONSTANT of the twin's active image, carried by its snapshots, 0 before one has shown it (R511) -/
  codeConstant : Nat
deriving DecidableEq, Repr

/-- The mirror engine and the pair. -/
structure Mirror where
  /-- `MIRROR_ROLE` (8 bits; 18 R510; spec: 0x00 at release) -/
  role : Nat := 0
  /-- `OUTPUT_TOKEN`: own token asserted (1 bit; 18 R514; spec: 0 at release) -/
  token : Bool := false
  /-- TWIN_TOKEN as the IOS senses it (1 bit; 18 R514; DC 1: 0) -/
  twinToken : Bool := false
  /-- network instant the twin's token last changed (64 bits; 18 R515, R527; DC 1: 0) -/
  twinTokenAt : Instant := 0
  /-- a frame with TOKEN_CLAIM = 1 arrived since the token fell (1 bit; 18 R527; spec: no) -/
  claimSince : Bool := false
  /-- the twin's last STATUS (64 bytes; 18 R517; spec: none) -/
  twin : Option TwinStatus := none
  /-- a valid frame arrived since the last boundary (1 bit; 18 R517; spec: no) -/
  frameSeen : Bool := false
  /-- consecutive boundaries without a valid frame (2 bits; 18 R517; spec: 0) -/
  missed : Nat := 0
  /-- LINK_OK: the link is not lost (1 bit; 18 R517, Table 18-9; spec: 1 on a pair member at release) -/
  linkOk : Bool := false
  /-- LOOP_OK (1 bit; 18 Table 18-9; DC 1: 0) -/
  loopOk : Bool := false
  /-- TOKEN_FAULT: cause 0x0B04 holds (1 bit; 18 Table 18-9; spec: 0) -/
  tokenFault : Bool := false
  /-- CONTENTION since this network instant (18 R538; spec: none) -/
  contentionSince : Option Instant := none
  /-- REPLACE: 0 idle, 1 copying, 2 done, 3 failed (2 bits; 18 Table 18-9; spec: 0) -/
  replace : Nat := 0
  /-- PAIR_STOP_SEEN and its STOP_TARGET (18 Table 18-9, R526; spec: none) -/
  pairStop : Option Nat := none
  /-- PAIR_STOP to send in the next STATUS, with its target (18 R526; spec: none) -/
  sendStop : Option Nat := none
  /-- STATUS frames and snapshots this unit sent at the last boundary or hand-over (18 R517, R519; spec: none) -/
  sentStatus : Option TwinStatus := none
  sentSnapshot : Option SnapshotFrame := none
  /-- `SNAPSHOT_SEQ_SENT` (32 bits, wraps; 18 R518; spec: 0 at release) -/
  seqSent : Nat := 0
  /-- `SNAPSHOT_SEQ_COMMITTED` (32 bits, wraps; 18 R522; spec: 0 at release) -/
  seqCommitted : Nat := 0
  /-- newest complete snapshot in the store (2 halves of 64 KiB; 18 R519, R521; spec: none after a cold start) -/
  store : Option SnapshotFrame := none
  /-- the snapshot committed at the last boundary: its TAG and channel slots (18 R523, R527; spec: none) -/
  committed : Option (Nat × BitVec 32) := none
  /-- the snapshot in the store arrived since the entry to Run (1 bit; 18 R521, R522; spec: no) -/
  storeNew : Bool := false
  /-- SEQUENCE and IMAGE_CRC that the retained newest snapshot named at the entry to Run (18 R525; spec: none) -/
  retainedImage : Option (Nat × Nat) := none
  /-- consecutive stale boundaries, 4 once recorded (3 bits; 18 R522; spec: 0) -/
  stale : Nat := 0
  /-- snapshots committed in succession while joining (4 bits; 18 R525; spec: 0) -/
  joined : Nat := 0
  /-- `SNAPSHOT_REJECT_COUNT` (32 bits, sat; 18 R535; spec: 0 at release) -/
  rejectCount : Nat := 0
  /-- `LINK_ERROR_COUNT` (32 bits, sat; 18 R535; spec: 0 at release) -/
  linkErrors : Nat := 0
  /-- `TAKEOVER_COUNT` (32 bits, sat; 18 R528; spec: 0 at store initialisation) -/
  takeovers : Nat := 0
  /-- `TAKEOVER_TIME_LAST` (64 bits; 18 R528; spec: 0 at release) -/
  takeoverTime : Nat := 0
  /-- a replacement copy is being served to the twin (1 bit; 18 R533; spec: no) -/
  serving : Bool := false
  /-- mirrored outputs are placed only from images tagged at or after this boundary (64 bits; 18 R528; spec: none before a takeover) -/
  placeFrom : Instant := 0
  /-- event records waiting for a tail (bytes; 18 R519; spec: none) -/
  tail : List (List (BitVec 8)) := []
  /-- the bank that a replacement copy loaded waits for Hold to be selected (8 bits; 18 R533; spec: none) -/
  selectDue : Option Nat := none
  /-- this boundary entered Run: the role is to be decided (1 bit; 18 R524; spec: no) -/
  roleDue : Bool := false
deriving DecidableEq, Repr
/-! ### The Modbus window (ch. 19) -/

/-- The RS-485 window. -/
structure Modbus where
  /-- the request of the unit not yet answered: PDU bytes and the local instant it ended (19 R544, R550; spec: none) -/
  outstanding : Option (List (BitVec 8) × Nat) := none
  /-- REQ_SEQ of its request to the LE, which the answer repeats, so that a late answer finds no request (16 bits; 19 R549, R550; DC 1: 0) -/
  tag : Nat := 0
  /-- the last response frame, address to CRC (19 R549; DC 1: none) -/
  response : List (BitVec 8) := []
  /-- `MODBUS_REQUEST_COUNT` (32 bits, sat; 19 R544; spec: 0 at release) -/
  requests : Nat := 0
  /-- `MODBUS_EXCEPTION_COUNT` (32 bits, sat; 19 R544; spec: 0 at release) -/
  exceptions : Nat := 0
  /-- `MODBUS_CRC_ERRORS` (32 bits, sat; 19 R544; spec: 0 at release) -/
  crcErrors : Nat := 0
deriving DecidableEq, Repr
/-! ### Debug and service (ch. 20) -/

/-- A debug request accepted and taking effect at the next boundary. -/
inductive DebugPending where
  | split | halt | resume | step (i : Option LogicInstr) | sim (on : Bool) | simOutputs (value : BitVec 32) | bist
deriving DecidableEq, Repr

/-- The service port and the debug conditions. -/
structure Service where
  /-- a session is open: TOOL_DETECT low (1 bit; 20 R560; DC 1: closed) -/
  session : Bool := false
  /-- local instant RESET_REQ went low (20 R560; spec: none) -/
  resetLowAt : Option Nat := none
  /-- `DEBUG_SESSION_COUNT` (32 bits, sat; 20 R560; spec: 0 at store initialisation) -/
  sessions : Nat := 0
  /-- sessions opened before this release, to be counted at it (32 bits; 20 R560; spec: 0) -/
  openedEarly : Nat := 0
  /-- requests to take effect at the next boundary, in pop order (20 R564, R576; spec: none) -/
  pending : List DebugPending := []
  /-- `HALT_POINT` (32 bits; 20 Table 16-20; spec: 0) -/
  haltPoint : Nat := 0
  /-- HALT_ARMED (1 bit; 20 Table 20-4; spec: 0) -/
  haltArmed : Bool := false
  /-- SIM_ACTIVE (1 bit; 20 Table 20-4; spec: 0) -/
  simActive : Bool := false
  /-- `SIM_OUTPUTS` in effect (32 bits; 20 R569; spec: 0 at release) -/
  simOutputs : BitVec 32 := 0
  /-- SERVICE_BIST: it runs, from this state (1 bit + state; 20 R570; spec: none) -/
  bistFrom : Option RunState := none
  /-- `SERVICE_BIST_STATUS` (8 bits; 20 Table 20-5; spec: 0x00 at release) -/
  bistStatus : Nat := 0
  /-- the passes stand halted at this CODE offset (20 R565; spec: none) -/
  haltedAt : Option Nat := none
  /-- t_k of the halted cycle (64 bits; 20 R567; DC 1: 0) -/
  haltedTag : Instant := 0
  /-- the output watchdog expired during a halt without simulation (1 bit; 20 R577; spec: no) -/
  haltExpiry : Bool := false
  /-- a resume took effect: the halted cycle is being completed (1 bit; 20 R567; spec: no) -/
  resuming : Bool := false
  /-- SEQ LAST of KIND 0x02 frames, reset at each opening (20 Table 20-1; spec: absent) -/
  seqLast : Option Nat := none
  /-- the last debug memory or loader response: STATUS and data (20 Table 20-1; DC 1: none) -/
  status : Nat := 0
  data : List (BitVec 8) := []
  /-- 0x0D06 is to be recorded at the following release (1 bit; 20 Table 20-6; spec: no) -/
  resetEventDue : Bool := false
deriving DecidableEq, Repr
/-! ### Lifetime ledger and event log (ch. 21), temperature (ch. 22) -/

/-- One event record (Table 21-1). -/
structure EventRecord where
  seq : Nat
  origin : Nat
  epoch : Nat
  node : Nat
  flags : BitVec 8
  code : Nat
  time : Nat
  runState : Nat
  data : List (BitVec 8)
  /-- waits for its commit in the store -/
  waiting : Bool
  /-- the slot of the ring that holds it -/
  slot : Nat := 0
deriving DecidableEq, Repr

/-- SUPPRESSED of a rate-limited code (R580): code, key within the code, count. -/
structure Suppressed where
  code : Nat
  key : Nat
  count : Nat
  /-- local instant of the last record of the code -/
  at_ : Nat
deriving DecidableEq, Repr

/-- The event log and the ledger working copy. -/
structure Ledger where
  /-- the ring of 240 slots, oldest entry first (240 × 64 bytes; 21 R582; spec: lost at a cold start) -/
  ring : List EventRecord := []
  /-- records made before release, numbered at release (21 R581; spec: none) -/
  early : List EventRecord := []
  /-- EVENT records held by the store, oldest first (21 R582, R585; spec: none at store initialisation) -/
  stored : List EventRecord := []
  /-- next EVENT_SEQ (32 bits; 21 R581; spec: from 1) -/
  nextSeq : Nat := 1
  /-- `EVENT_COUNT` (32 bits, sat; 21 R581; spec: 0 at store initialisation) -/
  count : Nat := 0
  /-- `EVENT_LOST_COUNT` (32 bits, sat; 21 R582; spec: 0 at store initialisation) -/
  lost : Nat := 0
  /-- `EVENT_READ_SEQ` by requester (17 × 32 bits; 21 R585; spec: `EVENT_OLDEST_SEQ` at release) -/
  readSeq : List (Nat × Nat) := []
  /-- EPOCH and ORIGIN_SEQ of the last record entered from each NODE (21 R584; spec: none) -/
  mirrored : List (Nat × Nat × Nat) := []
  /-- records entered and not yet posted to the CE, and on an active member to the ME, oldest first (21 R582; spec: none) -/
  toPost : List EventRecord := []
  /-- the CE's spool of the last 1,024 records, oldest first (21 R586; spec: empty) -/
  spool : List EventRecord := []
  /-- rate limits (21 R580; spec: none) -/
  suppressed : List Suppressed := []
  /-- POWERED_SECONDS in local ticks (32 bits of seconds; 21 R588; spec: 0 at store initialisation) -/
  powered : Nat := 0
  /-- RUN_SECONDS in local ticks (21 R588; spec: 0) -/
  run : Nat := 0
  /-- TEMP_SECONDS[0..15] in local ticks (21 R588; spec: 0) -/
  bins : List Nat := List.replicate 16 0
  /-- local instant up to which the seconds counters have advanced (21 R588; spec: release) -/
  countedTo : Nat := 0
  /-- `TEMP_NOW` in 0.1 °C (I32; 21 R589; from hardware, DC 1: 0) -/
  tempNow : Int := 0
  /-- `TEMP_MAX` (I32; 21 R588; spec: −400 at store initialisation) -/
  tempMax : Int := -400
  /-- `TEMP_MIN` (I32; 21 R588; spec: 1250 at store initialisation) -/
  tempMin : Int := 1250
  /-- SWITCH[0..31] (32 bits each, sat; 21 R590; spec: 0) -/
  switches : List Nat := List.replicate 32 0
  /-- BREAK[0..31] (32 bits each, sat; 21 R591; spec: 0) -/
  breaks : List Nat := List.replicate 32 0
  /-- groups 1 and 2 as last persisted (21 R592; spec: 0) -/
  switchesKept : List Nat := List.replicate 32 0
  breaksKept : List Nat := List.replicate 32 0
  /-- local instant the interval timing last restarted (21 R592, R594; spec: release) -/
  intervalFrom : Nat := 0
  /-- event 0x0110 is armed (1 bit; 22 R609; DC 1: armed) -/
  warnArmed : Bool := true
  /-- consecutive samples at 108.0 °C or above (4 bits; 22 R609; spec: 0) -/
  hotRun : Nat := 0
  /-- consecutive samples at 100.0 °C or below (6 bits; 22 R609; spec: 0) -/
  coolRun : Nat := 0
  /-- consecutive die samples at 140 °C or above (2 bits; 22 R609; spec: 0) -/
  dieRun : Nat := 0
deriving DecidableEq, Repr
/-! ### The whole machine -/

/-- Why a step stops with a fault. No command of this block does: the type is empty. -/
inductive Fault where
deriving DecidableEq, Repr

/-- Why a step refuses a command. -/
inductive Refusal where
  /-- the command has no meaning yet; raised by an arm of `exec` only. Safe: nothing is claimed of it -/
  | notModelled (mnemonic : String)
deriving DecidableEq, Repr

/-- The state of the block. -/
structure State where
  rt : Runtime := {}
  power : Power := {}
  clock : Clock := {}
  boot : Boot := {}
  otp : Otp := {}
  passes : Passes := {}
  le : LeMem := {}
  xch : Exchange := {}
  field : Field := {}
  glint : Glint := {}
  /-- counting inputs CH28 to CH31 -/
  counters : List Counter := List.replicate 4 {}
  analog : Analog := {}
  lib : Library := {}
  images : Images := {}
  store : Store := {}
  dict : Dict := {}
  zop : Zop := {}
  mirror : Mirror := {}
  modbus : Modbus := {}
  service : Service := {}
  ledger : Ledger := {}
  /-- the model's own counter of free values drawn (not the spec's; DC 5: 0) -/
  freeCount : Nat := 0
  /-- commands waiting, first in first out (the model's queue; empty at reset) -/
  pending : List Instr := []
deriving DecidableEq, Repr

/-- The block right after a cold reset with no entry qualified: Off, every register at its reset value. -/
def State.reset : State := {}

end Sys2Proof.Machine
end

