-- ==== Sys2Proof/Machine/Ops.lean ====
section
/-!
DEFINITION. Machine/Ops.lean: the operations every family shares: saturating and wrapping numbers, little-endian bytes, the CRC-32C of
R367, cell memories, the passing of time, rate-limited and plain event records (ch. 21), records requested of the store (ch. 14) and the
detection of a cause (R40, R49).
-/

namespace Sys2Proof.Machine

/-! ### Numbers -/

/-- Dictionary key of an object. -/
abbrev objKey (index sub : Nat) : Nat := 256 * index + sub

/-- A U32 counter that stops at its largest value (Table 16-2, "sat"). -/
def sat32 (n : Nat) : Nat := min n 0xFFFFFFFF

/-- A counter that stops at `top`. -/
def satAt (top n : Nat) : Nat := min n top

/-- A U32 counter that wraps (Table 16-2, "wrap"). -/
def wrap32 (n : Nat) : Nat := n % 2 ^ 32

/-- An integer as the 32 bits of an I32 object (Table 15-3). -/
def rawI32 (i : Int) : Nat := (i % 2 ^ 32).toNat

/-- The integer that 32 bits spell in two's complement. -/
def ofRawI32 (n : Nat) : Int :=
  if n % 2 ^ 32 < 2 ^ 31 then ((n % 2 ^ 32 : Nat) : Int) else ((n % 2 ^ 32 : Nat) : Int) - 2 ^ 32

/-- An integer clamped to the I32 limits. -/
def clampI32 (i : Int) : Int := max (-2147483648) (min 2147483647 i)

/-- Division towards minus infinity with ties upwards: `⌊a / b + 1/2⌋`. -/
def roundDiv (a b : Int) : Int := (2 * a + b).fdiv (2 * b)

/-- Bit `n` of a number as a Boolean. -/
def bitOf (v n : Nat) : Bool := v / 2 ^ n % 2 == 1

/-- A Boolean as a bit. -/
def bit (b : Bool) : Nat := if b then 1 else 0

/-- Field `[hi:lo]` of a number. -/
def bitsAt (v hi lo : Nat) : Nat := v / 2 ^ lo % 2 ^ (hi + 1 - lo)

/-- Microseconds in ticks of 10 ns (R9). -/
def us (n : Nat) : Nat := 100 * n

/-- Milliseconds in ticks. -/
def ms (n : Nat) : Nat := 100000 * n

/-- An instant as the TS64 that reports it. -/
def ts64 (t : Instant) : Nat := (t % 2 ^ 64).toNat

/-! ### Bytes and the CRC -/

/-- `n` as `size` bytes, little-endian (R434). -/
def leBytes : Nat → Nat → List Byte
  | 0, _ => []
  | k + 1, n => BitVec.ofNat 8 n :: leBytes k (n / 256)

/-- The number that little-endian bytes spell. -/
def ofLe : List Byte → Nat
  | [] => 0
  | b :: r => b.toNat + 256 * ofLe r

/-- Bytes `[off, off + n)` of a list as a number; bytes past its end read 0. -/
def leAt (l : List Byte) (off n : Nat) : Nat := ofLe ((l.drop off).take n)

/-- One bit of the reflected CRC-32C. -/
def crcBit (c : Nat) : Nat := if c % 2 = 1 then (c / 2) ^^^ 0x82F63B78 else c / 2

/-- One byte of the reflected CRC-32C. -/
def crcByte (c : Nat) (b : Byte) : Nat :=
  crcBit (crcBit (crcBit (crcBit (crcBit (crcBit (crcBit (crcBit (c ^^^ b.toNat))))))))

/-- The CRC register after `bytes`, from `init`. -/
def crcFold (init : Nat) (bytes : List Byte) : Nat := bytes.foldl crcByte init

/-- CRC-32C: initial value 0xFFFF_FFFF, reflected, final inversion (R367). -/
def crc32c (bytes : List Byte) : Nat := crcFold 0xFFFFFFFF bytes ^^^ 0xFFFFFFFF

/-! ### Cell memories -/

/-- The byte at address `a` of a cell list whose unlisted addresses read `d`. -/
def cellRead (d : Byte) : List Host.Cell → Nat → Byte
  | [], _ => d
  | (k, v) :: r, a => if k = a then v else cellRead d r a

/-- The cells that the bytes `bs` from address `a` upwards need: none for a byte equal to the default. -/
def cellFresh (d : Byte) : Nat → List Byte → List Host.Cell
  | _, [] => []
  | a, b :: bs => if b = d then cellFresh d (a + 1) bs else (a, b) :: cellFresh d (a + 1) bs

/-- Write `bs` from address `a` upwards: the listed cells stay strictly rising and none holds the default. -/
def cellWrite (d : Byte) (a : Nat) (bs : List Byte) (m : List Host.Cell) : List Host.Cell :=
  m.filter (fun c => decide (c.1 < a)) ++ cellFresh d a bs ++ m.filter (fun c => decide (a + bs.length ≤ c.1))

/-- Return `[a, a + n)` to the default. -/
def cellClear (a n : Nat) (m : List Host.Cell) : List Host.Cell :=
  m.filter (fun c => decide (c.1 < a)) ++ m.filter (fun c => decide (a + n ≤ c.1))

/-- The first `n` bytes from address `a` upwards of rising cells none of which lies below `a`. -/
def cellDense (d : Byte) : Nat → Nat → List Host.Cell → List Byte
  | 0, _, _ => []
  | n + 1, a, [] => d :: cellDense d n (a + 1) []
  | n + 1, a, (k, v) :: r => if k = a then v :: cellDense d n (a + 1) r else d :: cellDense d n (a + 1) ((k, v) :: r)

/-- The `n` bytes from address `a` upwards. -/
def cellBytes (d : Byte) (m : List Host.Cell) (a n : Nat) : List Byte :=
  cellDense d n a (m.filter (fun c => decide (a ≤ c.1) && decide (c.1 < a + n)))

/-- The canonical form: addresses strictly rising, no cell equal to the default. -/
def cellsWf (d : Byte) : List Host.Cell → Bool
  | [] => true
  | (k, v) :: r => (v != d) && (match r with | [] => true | c :: _ => decide (k < c.1)) && cellsWf d r

/-- What an unlisted byte of a flash reads: erased. -/
abbrev erasedByte : Byte := 0xFF

/-! ### Sorting -/

/-- `x` before the first element of `l` that does not come strictly before it. -/
def insertBy {α : Type} (le : α → α → Bool) (x : α) : List α → List α
  | [] => [x]
  | y :: r => if le x y then x :: y :: r else y :: insertBy le x r

/-- `l` in ascending order; elements of equal rank keep theirs. -/
def sortBy {α : Type} (le : α → α → Bool) (l : List α) : List α := l.foldr (insertBy le) []

/-! ### Time -/

/-- `dt` timestamp-clock edges pass: the counter advances by 1 + ρ at each (R94, log entry 2). -/
def State.elapse (dt : Nat) (s : State) : State :=
  { s with
    clock.localTicks := s.clock.localTicks + dt
    clock.net := ((s.clock.net : Int) + dt * (2 ^ 32 + s.clock.rho)).toNat }

/-- `NETWORK_TIME` in ticks (R94). -/
def State.now (s : State) : Nat := s.clock.net / 2 ^ 32

/-- Timestamp-clock edges since power-on: intervals that no step shortens or lengthens (R103). -/
def State.localNow (s : State) : Nat := s.clock.localTicks

/-- `n` local ticks have passed since `since`. -/
def State.passed (s : State) (since n : Nat) : Bool := decide (since + n ≤ s.localNow)

/-! ### Boundaries (R33) -/

/-- The last multiple of T_cycle that network time has reached (R33). -/
def State.lastMultiple (s : State) : Nat := s.now / us s.rt.cycleUs * us s.rt.cycleUs

/-- A cycle boundary is due: network time has reached a multiple of T_cycle beyond the last one, or a step has moved the boundary that is
still to be taken. -/
def State.boundaryDue (s : State) : Bool :=
  s.rt.cycling && (decide (s.rt.boundary < s.lastMultiple) || s.clock.steppedTo.isSome)

/-- t_k of the boundary that is due: the multiple of T_cycle, or, after a step at this boundary, the stepped time at which it lies. The next
boundary is then the first multiple at or after it (R33, R103). -/
def State.dueBoundary (s : State) : Nat := s.clock.steppedTo.getD s.lastMultiple

/-- Network time lies beyond a boundary that is still to be taken: what happens now no longer belongs to its image (R47, R324). -/
def State.boundaryLate (s : State) : Bool := s.boundaryDue && decide (s.dueBoundary < s.now)

/-- The timestamp-clock edge at which network time reached the boundary that is due: a boundary taken late still freezes what stood then
(R47). -/
def State.dueLocal (s : State) : Nat :=
  s.localNow - (((s.clock.net : Int) - 2 ^ 32 * (s.dueBoundary : Int)).fdiv (2 ^ 32 + s.clock.rho)).toNat

/-! ### States of the runtime -/

/-- Codes of Table 1-5; Off has none and reads 0 in this model. -/
def RunState.code : RunState → Nat
  | .off => 0 | .boot => 1 | .test => 2 | .hold => 3 | .run => 4 | .service => 5 | .safeStop => 6 | .lockout => 7

/-- The dictionary is reachable: from Hold onwards (R449). -/
def State.released (s : State) : Bool := decide (3 ≤ s.rt.state.code)

/-- The passes run: Run and Service (Table 6-6). -/
def State.logicState (s : State) : Bool := s.rt.state == .run || s.rt.state == .service

/-! ### Exchange buffers (R242, R243) -/

/-- Home engine of a buffer (Table 8-1). -/
def homeOf (n : Nat) : Owner := if n < 64 then .le else if n < 112 then .ce else .me

/-- Buffer n as the controller holds it. -/
def State.buffer (s : State) (n : Nat) : Buffer := s.xch.buffers.getD n {}

/-- The lowest-numbered FREE, unmasked buffer of a home; a buffer still being zeroed is not FREE yet (R244). -/
def State.freeBuffer (home : Owner) (s : State) : Option Nat :=
  (List.range 128).find? (fun n =>
    let b := s.buffer n
    homeOf n == home && b.owner == .free && b.busy.isNone && !b.masked)

/-! ### Records requested of the store (ch. 14) -/

/-- The entries of an OBJECT payload: key and bytes (Table 14-5). -/
def recordEntries : Nat → List Byte → List (Nat × List Byte)
  | 0, _ => []
  | fuel + 1, b =>
    if b.length < 5 then []
    else
      let n := 4 + leAt b 3 1
      (objKey (leAt b 0 2) (leAt b 2 1), b.take n) :: recordEntries fuel (b.drop n)

/-- What a write leaves of a record held back before it: the objects, latch or COUNTERS group that it writes are superseded. A copy that
compaction makes supersedes nothing (R424). -/
def StoreRecord.strip (new old : StoreRecord) : Option StoreRecord :=
  if new.origin != 0 || new.type != old.type then some old
  else match old.type with
  | 1 =>
    let keys := (recordEntries 256 new.payload).map (·.1)
    let all := recordEntries 256 old.payload
    let left := all.filter (fun e => !keys.contains e.1)
    if left.length = all.length then some old else if left.isEmpty then none else some { old with payload := left.flatMap (·.2) }
  | 2 => none
  | 0x20 => if new.payload.take 1 = old.payload.take 1 then none else some old
  | _ => some old

/-- Request a record: queued while the gate is open (R404), held back while it is closed (R406), the later value standing (R424). -/
def State.requestRecord (r : StoreRecord) (s : State) : State :=
  if s.power.gateClosed then { s with store.heldBack := s.store.heldBack.filterMap r.strip ++ [r] }
  else { s with store.queue := s.store.queue ++ [r] }

/-- Entry of an OBJECT record (Table 14-5). -/
def objectEntry (key size value : Nat) : List Byte :=
  leBytes 2 (key / 256) ++ leBytes 1 key ++ leBytes 1 size ++ leBytes size value

/-- Queue the OBJECT record of one object, key 256·index + subindex. -/
def State.persist (key size value : Nat) (s : State) : State :=
  s.requestRecord { area := .config, type := 1, payload := objectEntry key size value, origin := 0, retried := false }

/-- Queue the LATCH record: the lockout latch and `STATE_CAUSE` (Table 14-5). -/
def State.persistLatch (s : State) : State :=
  s.requestRecord
    { area := .config, type := 2
      payload := leBytes 1 (bit s.rt.lockoutLatch) ++ leBytes 2 s.rt.stateCause, origin := 0, retried := false }

/-! ### Event records (ch. 21) -/

/-- The bytes of a record (Table 21-1). -/
def EventRecord.bytes (r : EventRecord) : List Byte :=
  leBytes 4 r.seq ++ leBytes 4 r.origin ++ leBytes 4 r.epoch ++ leBytes 1 r.node ++ [r.flags] ++ leBytes 2 r.code ++
    leBytes 8 r.time ++ leBytes 1 r.runState ++ leBytes 1 r.data.length ++ r.data

/-- `SYNC_STATE` is LOCKED or MASTER (FLAGS [0]). -/
def State.synced (s : State) : Bool := s.clock.sync == .locked || s.clock.sync == .master

/-- A record as its bytes spell it (Table 21-1). -/
def parseEvent (b : List Byte) : EventRecord :=
  { seq := leAt b 0 4, origin := leAt b 4 4, epoch := leAt b 8 4, node := leAt b 0xC 1, flags := BitVec.ofNat 8 (leAt b 0xD 1)
    code := leAt b 0xE 2, time := leAt b 0x10 8, runState := leAt b 0x18 1, data := (b.drop 0x1A).take (leAt b 0x19 1), waiting := false }

/-- Slots of the ring: 240 of 64 bytes, one fewer for each masked row of the event log RAM (R171, R582). -/
def State.logSlots (s : State) : Nat := 240 - s.otp.maskedLog.length

/-- The slot a record enters, of `slots`: the oldest free one, or, when none is free, that of the oldest record, whose loss is reported
(R582). Slots that have held no record yet are taken in ascending order (DESIGN CHOICE, log entry 108). -/
def Ledger.place (slots : Nat) (r : EventRecord) (l : Ledger) : Ledger × Bool :=
  let into (n : Nat) : List EventRecord := [{ r with slot := n }]
  if l.ring.length < slots then ({ l with ring := l.ring ++ into l.ring.length }, false)
  else match l.ring.findIdx? (fun o => !o.waiting) with
    | some i => ({ l with ring := l.ring.eraseIdx i ++ into ((l.ring[i]?.map (·.slot)).getD 0) }, false)
    | none => ({ l with ring := l.ring.drop 1 ++ into ((l.ring.head?.map (·.slot)).getD 0), lost := sat32 (l.lost + 1) }, true)

/-- Fewer slots than before: the oldest records no longer fit, and the others move up (log entry 108). -/
def Ledger.refit (slots : Nat) (l : Ledger) : Ledger :=
  if slots < l.ring.length then
    { l with ring := (l.ring.drop (l.ring.length - slots)).zipIdx.map (fun p => { p.1 with slot := p.2 }) }
  else l

/-- `r` as it enters the log: it carries the next EVENT_SEQ, which is also its ORIGIN_SEQ unless it came from another unit, and waits for
its commit while the event credit lasts (R581, R582). -/
def State.numbered (r : EventRecord) (s : State) : EventRecord :=
  { r with
    seq := s.ledger.nextSeq
    origin := if r.flags.getLsbD 1 then r.origin else s.ledger.nextSeq
    waiting := decide (0 < s.store.event.credit) }

/-- A numbered record takes its slot and waits for its posts; whether an older one was lost for it (R581, R582). -/
def Ledger.enter (slots : Nat) (r : EventRecord) (l : Ledger) : Ledger × Bool :=
  let p := l.place slots r
  ({ p.1 with nextSeq := r.seq + 1, count := sat32 r.seq, toPost := l.toPost ++ [r] }, p.2)

/-- An EVENT record is not written for want of credit: `STORE_EVENT_DROPPED` counts it, and is persisted (R412, Table 14-9). -/
def State.dropEvent (s : State) : State :=
  let n := sat32 (s.store.eventDropped + 1)
  State.persist (objKey 0x5100 0xD) 4 n { s with store.eventDropped := n }

/-- A record is handed to the store, or dropped when the event credit is used up (R582). -/
def State.storeEvent (r : EventRecord) (s : State) : State :=
  if r.waiting then s.requestRecord { area := .event, type := 0x10, payload := r.bytes, origin := 0, retried := false } else s.dropEvent

/-- What the entry of a record leads to: an older record was lost, its copy in the store was dropped. -/
structure EntryResult where
  lost : Bool
  dropped : Bool

/-- Enter one record in the log (R581, R582). -/
def State.enterRecord (r : EventRecord) (s : State) : State × EntryResult :=
  let r := s.numbered r
  let p := s.ledger.enter s.logSlots r
  (State.storeEvent r { s with ledger := p.1 }, { lost := p.2, dropped := !r.waiting })

/-- SUPPRESSED of a code: its occurrences not recorded since its previous record, whatever key they had (R580, log entry 52). -/
def Ledger.suppressedOf (l : Ledger) (code : Nat) : Nat :=
  sat32 ((l.suppressed.filter (fun e => e.code == code)).foldl (fun n e => n + e.count) 0)

/-- The rate limit of a code: the SUPPRESSED count to report when a record is due (R580). -/
def Ledger.due (l : Ledger) (code key interval now : Nat) : Option Nat :=
  match l.suppressed.find? (fun e => e.code == code && e.key == key) with
  | none => some (l.suppressedOf code)
  | some e => if e.at_ + interval ≤ now then some (l.suppressedOf code) else none

/-- Note a recorded occurrence of a rate-limited code: the count of the code begins again. -/
def Ledger.noteRecorded (code key now : Nat) (l : Ledger) : Ledger :=
  let rest := l.suppressed.filter (fun e => !(e.code == code && e.key == key))
  { l with suppressed := rest.map (fun e => if e.code == code then { e with count := 0 } else e) ++
      [{ code := code, key := key, count := 0, at_ := now }] }

/-- Note an occurrence that is not recorded. -/
def Ledger.noteSuppressed (code key : Nat) (l : Ledger) : Ledger :=
  { l with suppressed := l.suppressed.map (fun e =>
      if e.code == code && e.key == key then { e with count := sat32 (e.count + 1) } else e) }

/-- A record of this unit made now, its time `time` and its place in the log not yet given. -/
def State.newRecord (s : State) (code : Nat) (time : Instant) (isCause : Bool) (data : List Byte) : EventRecord :=
  { seq := 0, origin := 0, epoch := s.zop.epoch, node := s.zop.nodeId
    flags := BitVec.ofNat 8 (bit s.synced + 4 * bit isCause)
    code := code, time := ts64 time, runState := s.rt.state.code, data := data.take 38, waiting := true }

/-- A record of a rate-limited code about the log itself; its own consequences are only counted. -/
def State.selfRecord (code interval : Nat) (s : State) : State :=
  match s.ledger.due code 0 interval s.localNow with
  | none => { s with ledger := s.ledger.noteSuppressed code 0 }
  | some n =>
    (State.enterRecord (s.newRecord code s.now false (leBytes 4 n)) { s with ledger := s.ledger.noteRecorded code 0 s.localNow }).1

/-- The follow-up records of an entry: 0x0911 for an overwritten record, 0x0908 for one dropped for want of credit. Their own consequences are
only counted. -/
def State.afterEntry (e : EntryResult) (s : State) : State :=
  let s := if e.lost then s.selfRecord 0x0911 (ms 1000) else s
  if e.dropped then s.selfRecord 0x0908 (ms 3600000) else s

/-- Enter a record and what follows from its entry; before release it is held and numbered at release (R581). -/
def State.logRecord (r : EventRecord) (s : State) : State :=
  if s.rt.cycling then
    let p := s.enterRecord r
    p.1.afterEntry p.2
  else { s with ledger.early := s.ledger.early ++ [r] }

/-- Record event `code` detected at network instant `time` (R579). -/
def State.eventAt (code : Nat) (time : Instant) (data : List Byte) (s : State) : State :=
  s.logRecord (s.newRecord code time false data)

/-- Record event `code` detected now. -/
def State.event (code : Nat) (data : List Byte) (s : State) : State := s.eventAt code s.now data

/-- Record an event of a code limited to one record per `interval` local ticks for each `key` (R580). -/
def State.eventLimited (code key interval : Nat) (data : List Byte) (s : State) : State :=
  match s.ledger.due code key interval s.localNow with
  | none => { s with ledger := s.ledger.noteSuppressed code key }
  | some n => State.event code (leBytes 4 n ++ data) { s with ledger := s.ledger.noteRecorded code key s.localNow }

/-! ### Causes (R40, R49) -/

/-- Detect a cause at network instant `time`: it is evaluated at the next boundary (R49). -/
def State.detectAt (cause : Nat) (cls : FaultClass) (time : Instant) (data : List Byte) (s : State) : State :=
  { s with rt.detected := s.rt.detected ++ [{ cause := cause, cls := cls, time := time, data := data }] }

/-- Detect a cause now. -/
def State.detect (cause : Nat) (cls : FaultClass) (s : State) : State := s.detectAt cause cls s.now []

/-- Detect a cause once a cycle: a repeated detection of a pending one changes nothing. -/
def State.detectOnce (cause : Nat) (cls : FaultClass) (s : State) : State :=
  if s.rt.detected.any (fun d => d.cause == cause) then s else s.detect cause cls

/-- A recoverable cause holds: it blocks Hold → Run and `SAFESTOP_ACK` until it clears (R40, R50). -/
def State.raise (cause : Nat) (s : State) : State :=
  if s.rt.active.contains cause then s else { s with rt.active := s.rt.active ++ [cause] }

/-- A cause clears. -/
def State.clearCause (cause : Nat) (s : State) : State := { s with rt.active := s.rt.active.filter (· != cause) }

/-- Detect a recoverable cause that holds from now on. -/
def State.recoverable (cause : Nat) (data : List Byte) (s : State) : State :=
  if s.rt.active.contains cause then s else (s.detectAt cause .recoverable s.now data).raise cause

/-! ### Free values -/

/-- Draw a free value (log entry 5). -/
def State.drawFree (s : State) : BitVec 64 × State := (Config.freeValue s.freeCount, { s with freeCount := s.freeCount + 1 })

/-- `n` bytes of free values. -/
def State.freeBytes (n : Nat) (s : State) : List Byte × State :=
  ((List.range n).map (fun i => (Config.freeValue (s.freeCount + i)).setWidth 8), { s with freeCount := s.freeCount + n })

/-! ### Outcome -/

/-- Every command of this block ends in a next state. -/
abbrev done (s : State) : Host.Outcome State Fault Refusal := .next s

end Sys2Proof.Machine
end

