-- ==== Sys2Proof/Machine/DictTable.lean ====
section
/-!
DEFINITION. Machine/DictTable.lean: the object index of ch. 16 (R461 to R468), Tables 16-3 to 16-22, as data.
-/

namespace Sys2Proof.Machine

/-- Data types of Table 15-3. -/
inductive ObjType where
  | bool | u8 | u16 | u32 | i32 | u64 | time32 | ts64 | str | domain
deriving DecidableEq, Repr

/-- Type code of Table 15-3. -/
def ObjType.code : ObjType → Nat
  | .bool => 1 | .u8 => 2 | .u16 => 3 | .u32 => 4 | .i32 => 5 | .u64 => 6 | .time32 => 7 | .ts64 => 8 | .str => 9 | .domain => 10

/-- Size in bytes of Table 15-3; 0 where the transfer gives the length. -/
def ObjType.size : ObjType → Nat
  | .bool => 1 | .u8 => 1 | .u16 => 2 | .u32 => 4 | .i32 => 4 | .u64 => 8 | .time32 => 4 | .ts64 => 8 | .str => 0 | .domain => 0

/-- Access rights of Table 15-4; `woc` is "WO C". -/
inductive ObjAccess where
  | ro | rw | wo | woc | rws
deriving DecidableEq, Repr

/-- The Range column as far as it binds a write. -/
inductive ObjRange where
  /-- every value of the type -/
  | any
  /-- `lo` to `hi` in steps of `step` from `lo` -/
  | span (lo hi step : Nat)
  /-- an I32 range -/
  | signed (lo hi : Int)
  /-- the values listed -/
  | oneOf (values : List Nat)
  /-- fields named by bit position: a bit outside `mask` is reserved (R24) -/
  | named (mask lo hi : Nat)
  /-- a length in bytes -/
  | len (lo hi step : Nat)
  /-- the owning chapter's own rule -/
  | owner
deriving DecidableEq, Repr

/-- One row of the index: subindices `lo` to `hi` of its index. -/
structure Obj where
  lo : Nat
  hi : Nat
  type : ObjType
  access : ObjAccess
  /-- persistence class "store" -/
  store : Bool
  /-- the literal default, where the row gives one -/
  dflt : Nat
  range : ObjRange
deriving DecidableEq, Repr

/-- An index, or a family of `count` indices `stride` apart (R463). -/
structure ObjGroup where
  base : Nat
  count : Nat
  stride : Nat
  objs : List Obj
deriving DecidableEq, Repr

/-- A row. -/
abbrev objRow (lo hi : Nat) (type : ObjType) (access : ObjAccess) (store : Bool) (dflt : Nat) (range : ObjRange) : Obj :=
  { lo := lo, hi := hi, type := type, access := access, store := store, dflt := dflt, range := range }

/-- Table 16-3: Identity, dictionary model (0x1000, 0x1010). -/
def objects16_3 : List ObjGroup := [
  { base := 0x1000, count := 1, stride := 1, objs := [
    objRow 0 0 .u8 .ro false 8 .any,
    objRow 1 1 .str .ro false 0 .any,
    objRow 2 2 .str .ro false 0 .any,
    objRow 3 3 .u8 .ro false 0 .any,
    objRow 4 4 .u8 .ro false 0 .any,
    objRow 5 5 .u32 .ro false 0 .any,
    objRow 6 6 .u32 .ro false 0 .any,
    objRow 7 7 .u32 .ro false 0 .any,
    objRow 8 8 .u8 .ro false 0 .any] },
  { base := 0x1010, count := 1, stride := 1, objs := [
    objRow 0 0 .u8 .ro false 8 .any,
    objRow 1 1 .u8 .ro false 0 .any,
    objRow 2 2 .time32 .ro false 5000000 .any,
    objRow 3 3 .u32 .ro false 0 .any,
    objRow 4 4 .u32 .ro true 0 .any,
    objRow 5 5 .u32 .ro false 0 .any,
    objRow 6 6 .u32 .ro false 0 .any,
    objRow 7 7 .u8 .woc false 0 (.span 1 1 1),
    objRow 8 8 .u64 .ro false 0 .any] }]

/-- Table 16-4: ZOP communication (0x1100). -/
def objects16_4 : List ObjGroup := [
  { base := 0x1100, count := 1, stride := 1, objs := [
    objRow 0 0 .u8 .ro false 12 .any,
    objRow 1 1 .u8 .rws true 16 (.span 1 16 1),
    objRow 2 2 .u8 .ro false 0 .any,
    objRow 3 3 .u8 .rws true 1 (.span 1 2 1),
    objRow 4 4 .u8 .rws true 1 (.span 0 3 1),
    objRow 5 5 .u8 .rws true 3 (.named 0x03 1 3),
    objRow 6 6 .time32 .rws true 100000 (.span 10000 1000000 10000),
    objRow 7 7 .u32 .ro false 0 .any,
    objRow 8 8 .u32 .ro false 0 .any,
    objRow 9 9 .u32 .ro false 0 .any,
    objRow 10 10 .u32 .ro false 0 .any,
    objRow 11 11 .u16 .ro false 0 .any,
    objRow 12 12 .u32 .ro false 0 .any] }]

/-- Table 16-5: Safety connections (0x1200, 0x1210+c). -/
def objects16_5 : List ObjGroup := [
  { base := 0x1200, count := 1, stride := 1, objs := [
    objRow 0 0 .u8 .ro false 4 .any,
    objRow 1 1 .u8 .ro false 0 .any,
    objRow 2 2 .u8 .ro false 0 .any,
    objRow 3 3 .u8 .ro false 255 .any,
    objRow 4 4 .u32 .ro true 0 .any] },
  { base := 0x1210, count := 32, stride := 1, objs := [
    objRow 0 0 .u8 .ro false 9 .any,
    objRow 1 1 .u8 .ro false 0 .any,
    objRow 2 2 .u8 .ro false 0 .any,
    objRow 3 3 .u8 .ro false 0 .any,
    objRow 4 4 .time32 .ro false 0 .any,
    objRow 5 5 .u16 .ro false 0 .any,
    objRow 6 6 .ts64 .ro false 0 .any,
    objRow 7 7 .u32 .ro false 0 .any,
    objRow 8 8 .u32 .ro false 0 .any,
    objRow 9 9 .u32 .ro false 0 .any] }]

/-- Table 16-6: Time sync (0x1800). -/
def objects16_6 : List ObjGroup := [
  { base := 0x1800, count := 1, stride := 1, objs := [
    objRow 0 0 .u8 .ro false 12 .any,
    objRow 1 1 .u8 .ro false 0 .any,
    objRow 2 2 .u8 .rws true 0 (.span 0 255 1),
    objRow 3 3 .bool .rws true 1 (.span 0 1 1),
    objRow 4 4 .time32 .rws true 1000000 (.span 30000 10000000 10000),
    objRow 5 5 .ts64 .ro false 0 .any,
    objRow 6 6 .i32 .ro false 0 .any,
    objRow 7 7 .u32 .ro false 0 .any,
    objRow 8 8 .i32 .ro false 0 .any,
    objRow 9 9 .u8 .ro false 0 .any,
    objRow 10 10 .u32 .ro false 0 .any,
    objRow 11 11 .u32 .ro false 0 .any,
    objRow 12 12 .u64 .rw false 0 .any] }]

/-- Table 16-7: Power and clocks (0x2000, 0x2100). -/
def objects16_7 : List ObjGroup := [
  { base := 0x2000, count := 1, stride := 1, objs := [
    objRow 0 0 .u8 .ro false 14 .any,
    objRow 1 1 .u8 .ro false 0 .any,
    objRow 2 2 .u16 .ro false 0 .any,
    objRow 3 3 .u16 .ro false 0 .any,
    objRow 4 4 .u16 .ro false 0 .any,
    objRow 5 5 .time32 .ro false 0 .any,
    objRow 6 6 .time32 .rws true 25000 (.span 0 30000 1000),
    objRow 7 7 .u32 .ro true 0 .any,
    objRow 8 8 .u16 .ro false 0 .any,
    objRow 9 9 .u16 .ro false 0 .any,
    objRow 10 10 .u16 .ro false 0 .any,
    objRow 11 11 .u64 .ro false 0 .any,
    objRow 12 12 .u64 .ro false 0 .any,
    objRow 13 13 .u16 .ro false 0 .any,
    objRow 14 14 .time32 .ro false 40000 .any] },
  { base := 0x2100, count := 1, stride := 1, objs := [
    objRow 0 0 .u8 .ro false 6 .any,
    objRow 1 1 .u8 .ro false 0 .any,
    objRow 2 2 .u16 .ro false 0 .any,
    objRow 3 3 .u16 .ro false 65535 .any,
    objRow 4 4 .u16 .ro false 0 .any,
    objRow 5 5 .time32 .ro false 0 .any,
    objRow 6 6 .u8 .ro false 0 .any] }]

/-- Table 16-8: State, release and BIST (0x2200, 0x2210). -/
def objects16_8 : List ObjGroup := [
  { base := 0x2200, count := 1, stride := 1, objs := [
    objRow 0 0 .u8 .ro false 28 .any,
    objRow 1 1 .u8 .ro false 3 .any,
    objRow 2 2 .u8 .woc false 0 (.oneOf [1, 2, 3, 5]),
    objRow 3 3 .u16 .ro true 0 .any,
    objRow 4 4 .bool .rws true 0 (.span 0 1 1),
    objRow 5 5 .bool .wo false 0 (.span 1 1 1),
    objRow 6 6 .ts64 .ro false 0 .any,
    objRow 16 16 .u8 .ro false 0 .any,
    objRow 17 17 .u8 .ro false 0 .any,
    objRow 18 18 .u8 .woc false 0 (.span 1 1 1),
    objRow 19 19 .u32 .ro true 0 .any,
    objRow 20 20 .u32 .ro true 0 .any,
    objRow 21 21 .time32 .ro false 0 .any,
    objRow 22 22 .time32 .ro false 0 .any,
    objRow 23 23 .u8 .ro false 0 .any,
    objRow 24 24 .u16 .ro false 0 .any,
    objRow 25 25 .u16 .ro false 0 .any,
    objRow 26 26 .u8 .ro false 0 .any,
    objRow 27 27 .u8 .ro false 0 .any,
    objRow 28 28 .u8 .ro false 0 .any] },
  { base := 0x2210, count := 1, stride := 1, objs := [
    objRow 0 0 .u8 .ro false 8 .any,
    objRow 1 8 .u64 .ro false 0 .any] }]

/-- Table 16-9: OTP and lifecycle (0x2300, 0x2310). -/
def objects16_9 : List ObjGroup := [
  { base := 0x2300, count := 1, stride := 1, objs := [
    objRow 0 0 .u8 .ro false 17 .any,
    objRow 1 1 .u8 .ro false 0 .any,
    objRow 2 2 .u8 .ro false 0 .any,
    objRow 3 3 .u64 .ro false 0 .any,
    objRow 4 4 .u16 .ro false 0 .any,
    objRow 5 5 .u8 .rws false 0 (.oneOf [0x00, 0x10, 0x20, 0x31, 0x32, 0x51, 0x52, 0x60, 0x70]),
    objRow 6 6 .u16 .rws false 0 .owner,
    objRow 7 7 .u32 .rws false 0 .any,
    objRow 8 8 .u8 .woc false 0 (.span 1 6 1),
    objRow 9 9 .u8 .ro false 0 .any,
    objRow 10 10 .u16 .ro false 0 .any,
    objRow 11 11 .u16 .ro false 0 .any,
    objRow 12 12 .u32 .ro false 393216 .any,
    objRow 13 13 .u32 .ro false 786432 .any,
    objRow 14 14 .u32 .ro false 0 .any,
    objRow 15 15 .u16 .ro false 0 .any,
    objRow 16 16 .bool .ro false 0 .any,
    objRow 17 17 .u8 .ro false 0 .any] },
  { base := 0x2310, count := 1, stride := 1, objs := [
    objRow 0 0 .u8 .ro false 30 .any,
    objRow 1 30 .u32 .ro false 0 .any] }]

/-- Table 16-10: Logic engine, passes and MPU (0x2400, 0x2500–0x2520). -/
def objects16_10 : List ObjGroup := [
  { base := 0x2400, count := 1, stride := 1, objs := [
    objRow 0 0 .u8 .ro false 17 .any,
    objRow 1 1 .time32 .rws true 1000 (.span 250 10000 250),
    objRow 2 2 .u8 .rws true 8 (.span 1 32 1),
    objRow 3 3 .u8 .rws true 3 (.span 2 16 1),
    objRow 4 4 .u32 .ro false 0 .any,
    objRow 5 5 .u32 .ro false 0 .any,
    objRow 6 6 .time32 .ro false 0 .any,
    objRow 7 7 .u32 .ro false 0 .any,
    objRow 8 8 .u16 .ro false 0 .any,
    objRow 9 9 .u8 .ro false 0 .any,
    objRow 10 10 .u8 .ro false 0 .any,
    objRow 11 11 .u32 .ro false 0 .any,
    objRow 12 12 .u32 .ro false 0 .any,
    objRow 13 13 .u32 .ro false 0 .any,
    objRow 14 14 .u32 .ro false 4294967295 .any,
    objRow 15 15 .u32 .ro false 0 .any,
    objRow 16 16 .time32 .ro false 0 .any,
    objRow 17 17 .time32 .ro false 0 .any] },
  { base := 0x2500, count := 1, stride := 1, objs := [
    objRow 0 0 .u8 .ro false 4 .any,
    objRow 1 1 .u8 .ro false 0 .any,
    objRow 2 2 .u32 .ro false 0 .any,
    objRow 3 3 .u32 .ro false 0 .any,
    objRow 4 4 .u32 .ro false 0 .any] },
  { base := 0x2510, count := 1, stride := 1, objs := [
    objRow 0 0 .u8 .ro false 16 .any,
    objRow 1 16 .u64 .ro false 0 .any] },
  { base := 0x2520, count := 1, stride := 1, objs := [
    objRow 0 0 .u8 .ro false 16 .any,
    objRow 1 16 .u64 .ro false 0 .any] }]

/-- Table 16-11: Exchange RAM (0x2600, 0x2610). -/
def objects16_11 : List ObjGroup := [
  { base := 0x2600, count := 1, stride := 1, objs := [
    objRow 0 0 .u8 .ro false 10 .any,
    objRow 1 1 .time32 .rws true 10000 (.span 1000 100000 1000),
    objRow 2 2 .u32 .ro false 0 .any,
    objRow 3 3 .u32 .ro false 0 .any,
    objRow 4 4 .u32 .ro false 0 .any,
    objRow 5 5 .u32 .ro false 0 .any,
    objRow 6 6 .u32 .ro false 0 .any,
    objRow 7 7 .u32 .ro false 0 .any,
    objRow 8 8 .u8 .ro false 0 .any,
    objRow 9 9 .u8 .ro false 0 .any,
    objRow 10 10 .u8 .ro false 255 .any] },
  { base := 0x2610, count := 1, stride := 1, objs := [
    objRow 0 0 .u8 .ro false 128 .any,
    objRow 1 128 .u64 .ro false 0 .any] }]

/-- Table 16-12: Channel configuration and status (0x30nn, 0x31nn, 0x3120). -/
def objects16_12 : List ObjGroup := [
  { base := 0x3000, count := 32, stride := 1, objs := [
    objRow 0 0 .u8 .ro false 8 .any,
    objRow 1 1 .u8 .rws true 0 (.span 0 5 1),
    objRow 2 2 .u8 .rws true 3 (.span 1 3 1),
    objRow 3 3 .u8 .rws true 2 (.span 0 7 1),
    objRow 4 4 .u8 .rws true 0 (.span 0 2 1),
    objRow 5 5 .u8 .rws true 3 (.span 1 3 1),
    objRow 6 6 .u8 .rws true 0 (.span 0 2 1),
    objRow 7 7 .u8 .rws true 0 (.named 0x01 0 1),
    objRow 8 8 .u8 .rws true 2 (.span 0 7 1)] },
  { base := 0x3100, count := 32, stride := 1, objs := [
    objRow 0 0 .u8 .ro false 4 .any,
    objRow 1 1 .u16 .ro false 0 .any,
    objRow 2 2 .ts64 .ro false 0 .any,
    objRow 3 3 .u32 .ro false 0 .any,
    objRow 4 4 .u32 .ro false 0 .any] },
  { base := 0x3120, count := 1, stride := 1, objs := [
    objRow 0 0 .u8 .ro false 5 .any,
    objRow 1 1 .u16 .ro false 0 .any,
    objRow 2 2 .u8 .ro false 0 .any,
    objRow 3 3 .u8 .ro false 0 .any,
    objRow 4 4 .u32 .ro false 0 .any,
    objRow 5 5 .bool .ro false 0 .any] }]

/-- Table 16-13: Glint and counting (0x3200–0x3243). -/
def objects16_13 : List ObjGroup := [
  { base := 0x3200, count := 1, stride := 1, objs := [
    objRow 0 0 .u8 .ro false 5 .any,
    objRow 1 1 .u8 .rws true 1 (.span 1 16 1),
    objRow 2 2 .time32 .rws true 50 (.span 10 200 10),
    objRow 3 3 .u16 .ro false 0 .any,
    objRow 4 4 .u16 .ro false 0 .any,
    objRow 5 5 .u8 .ro false 255 .any] },
  { base := 0x3210, count := 1, stride := 1, objs := [
    objRow 0 0 .u8 .ro false 8 .any,
    objRow 1 8 .time32 .rws true 200 (.span 100 1000 10)] },
  { base := 0x3220, count := 1, stride := 1, objs := [
    objRow 0 0 .u8 .ro false 32 .any,
    objRow 1 32 .u8 .rws true 0 (.named 0xE7 0 255)] },
  { base := 0x3230, count := 1, stride := 1, objs := [
    objRow 0 0 .u8 .ro false 32 .any,
    objRow 1 32 .u32 .ro false 0 .any] },
  { base := 0x3240, count := 4, stride := 1, objs := [
    objRow 0 0 .u8 .ro false 6 .any,
    objRow 1 1 .u8 .rws true 1 (.span 1 3 1),
    objRow 2 2 .time32 .rws true 100000 (.span 1000 10000000 1000),
    objRow 3 3 .u32 .ro false 0 .any,
    objRow 4 4 .u32 .ro false 0 .any,
    objRow 5 5 .ts64 .ro false 0 .any,
    objRow 6 6 .u8 .ro false 2 .any] }]

/-- Table 16-14: Analog (0x3300–0x3323). -/
def objects16_14 : List ObjGroup := [
  { base := 0x3300, count := 1, stride := 1, objs := [
    objRow 0 0 .u8 .ro false 4 .any,
    objRow 1 1 .u32 .rws true 1000000 (.span 100000 100000000 100000),
    objRow 2 2 .u8 .wo false 0 (.named 0x0F 0 15),
    objRow 3 3 .u16 .ro false 0 .any,
    objRow 4 4 .u8 .ro false 255 .any] },
  { base := 0x3310, count := 4, stride := 1, objs := [
    objRow 0 0 .u8 .ro false 10 .any,
    objRow 1 1 .bool .rws true 0 (.span 0 1 1),
    objRow 2 2 .u16 .rws true 256 (.oneOf [64, 128, 256, 512, 1024]),
    objRow 3 3 .u8 .rws true 0 (.span 0 2 1),
    objRow 4 4 .i32 .rws true 16777216 .any,
    objRow 5 5 .u8 .rws true 24 (.span 0 31 1),
    objRow 6 6 .i32 .rws true 0 (.signed (-8388608) 8388607),
    objRow 7 7 .i32 .rws true 0 (.signed (-8388608) 8388607),
    objRow 8 8 .bool .rws true 0 (.span 0 1 1),
    objRow 9 9 .u32 .rws true 100 (.span 1 2147483647 1),
    objRow 10 10 .time32 .rws true 2000 (.span 0 100000 1)] },
  { base := 0x3320, count := 4, stride := 1, objs := [
    objRow 0 0 .u8 .ro false 8 .any,
    objRow 1 1 .u32 .ro false 0 .any,
    objRow 2 2 .u32 .ro false 0 .any,
    objRow 3 3 .i32 .ro false 0 .any,
    objRow 4 4 .i32 .ro false 0 .any,
    objRow 5 5 .ts64 .ro false 0 .any,
    objRow 6 6 .u16 .ro false 0 .any,
    objRow 7 7 .u32 .ro false 0 .any,
    objRow 8 8 .ts64 .ro false 0 .any] }]

/-- Table 16-15: Library and instances (0x4000, 0x4000+ID). -/
def objects16_15 : List ObjGroup := [
  { base := 0x4000, count := 1, stride := 1, objs := [
    objRow 0 0 .u8 .ro false 3 .any,
    objRow 1 1 .u32 .ro false 0 .any,
    objRow 2 2 .u16 .ro false 0 .any,
    objRow 3 3 .u16 .ro false 0 .any] },
  { base := 0x4001, count := 4095, stride := 1, objs := [
    objRow 0 0 .u8 .ro false 31 .any,
    objRow 1 1 .u8 .ro false 0 .any,
    objRow 2 2 .u8 .ro false 0 .any,
    objRow 3 3 .u8 .ro false 0 .any,
    objRow 4 4 .u8 .ro false 0 .any,
    objRow 5 5 .bool .woc false 0 (.span 1 1 1),
    objRow 6 6 .time32 .ro false 0 .any,
    objRow 7 7 .time32 .ro false 0 .any,
    objRow 8 8 .ts64 .ro false 0 .any,
    objRow 9 9 .u32 .ro false 0 .any,
    objRow 10 10 .u8 .woc false 0 .owner,
    objRow 11 11 .i32 .ro false 0 .any,
    objRow 12 12 .i32 .ro false 0 .any,
    objRow 13 15 .u32 .ro false 0 .any,
    objRow 16 31 .u32 .ro false 0 .any] }]

/-- Table 16-16: Images (0x5000, 0x5010, 0x5020). -/
def objects16_16 : List ObjGroup := [
  { base := 0x5000, count := 1, stride := 1, objs := [
    objRow 0 0 .u8 .ro false 14 .any,
    objRow 1 1 .u8 .ro false 0 .any,
    objRow 2 2 .u8 .rws true 1 (.oneOf [1, 2]),
    objRow 3 3 .bool .rws true 0 (.span 0 1 1),
    objRow 4 4 .u8 .ro false 0 .any,
    objRow 5 5 .u8 .wo false 0 (.oneOf [1, 2]),
    objRow 6 6 .u32 .rw false 128 (.span 0 262112 32),
    objRow 7 7 .domain .wo false 0 (.len 32 4096 32),
    objRow 8 8 .u8 .ro false 0 .any,
    objRow 9 9 .ts64 .woc false 0 .any,
    objRow 10 10 .u8 .ro false 0 .any,
    objRow 11 11 .time32 .ro false 0 .any,
    objRow 12 12 .u32 .ro true 0 .any,
    objRow 13 13 .ts64 .ro false 0 .any,
    objRow 14 14 .u32 .ro false 0 .any] },
  { base := 0x5010, count := 2, stride := 16, objs := [
    objRow 0 0 .u8 .ro false 8 .any,
    objRow 1 1 .u8 .ro false 0 .any,
    objRow 2 2 .u8 .ro false 0 .any,
    objRow 3 3 .u32 .ro false 0 .any,
    objRow 4 4 .u32 .ro false 0 .any,
    objRow 5 5 .u32 .ro false 0 .any,
    objRow 6 6 .u32 .ro false 0 .any,
    objRow 7 7 .time32 .ro false 0 .any,
    objRow 8 8 .u32 .ro true 0 .any] }]

/-- Table 16-17: Store (0x5100, 0x5110). -/
def objects16_17 : List ObjGroup := [
  { base := 0x5100, count := 1, stride := 1, objs := [
    objRow 0 0 .u8 .ro false 14 .any,
    objRow 1 1 .u8 .ro false 0 .any,
    objRow 2 2 .time32 .ro false 0 .any,
    objRow 3 3 .u8 .ro false 0 .any,
    objRow 4 4 .u16 .ro false 0 .any,
    objRow 5 5 .u32 .ro false 0 .any,
    objRow 6 6 .u32 .ro false 0 .any,
    objRow 7 7 .u32 .ro true 0 .any,
    objRow 8 8 .u8 .ro false 0 .any,
    objRow 9 9 .i32 .ro true 2000 .any,
    objRow 10 10 .i32 .ro true 5000 .any,
    objRow 11 11 .i32 .ro true 1000 .any,
    objRow 12 12 .u32 .ro true 0 .any,
    objRow 13 13 .u32 .ro true 0 .any,
    objRow 14 14 .u8 .ro false 0 .any] },
  { base := 0x5110, count := 1, stride := 1, objs := [
    objRow 0 0 .u8 .ro false 128 .any,
    objRow 1 128 .u32 .ro false 0 .any] }]

/-- Table 16-18: Mirror (0x5800). -/
def objects16_18 : List ObjGroup := [
  { base := 0x5800, count := 1, stride := 1, objs := [
    objRow 0 0 .u8 .ro false 14 .any,
    objRow 1 1 .bool .rws true 0 (.span 0 1 1),
    objRow 2 2 .u8 .rws true 0 (.span 0 16 1),
    objRow 3 3 .bool .rws true 0 (.span 0 1 1),
    objRow 4 4 .u8 .ro false 0 .any,
    objRow 5 5 .u16 .ro false 0 .any,
    objRow 6 6 .bool .ro false 0 .any,
    objRow 7 7 .u32 .ro false 0 .any,
    objRow 8 8 .u32 .ro false 0 .any,
    objRow 9 9 .u32 .ro false 0 .any,
    objRow 10 10 .u32 .ro false 0 .any,
    objRow 11 11 .u32 .ro false 0 .any,
    objRow 12 12 .u32 .ro true 0 .any,
    objRow 13 13 .ts64 .ro false 0 .any,
    objRow 14 14 .u8 .woc false 0 (.span 1 1 1)] }]

/-- Table 16-19: Modbus window (0x5A00, 0x5A10). -/
def objects16_19 : List ObjGroup := [
  { base := 0x5A00, count := 1, stride := 1, objs := [
    objRow 0 0 .u8 .ro false 8 .any,
    objRow 1 1 .bool .rws true 0 (.span 0 1 1),
    objRow 2 2 .u8 .rws true 1 (.span 1 247 1),
    objRow 3 3 .u8 .rws true 2 (.span 1 5 1),
    objRow 4 4 .u8 .rws true 0 (.span 0 2 1),
    objRow 5 5 .u32 .ro false 0 .any,
    objRow 6 6 .u32 .ro false 0 .any,
    objRow 7 7 .u32 .ro false 0 .any,
    objRow 8 8 .u8 .ro false 0 .any] },
  { base := 0x5A10, count := 1, stride := 1, objs := [
    objRow 0 0 .u8 .ro false 64 .any,
    objRow 1 64 .u64 .rws true 0 (.named 0xFFFFFF00FFFF0000 0 0xFFFFFFFFFFFFFFFF)] }]

/-- Table 16-20: Debug and service (0x5C00). -/
def objects16_20 : List ObjGroup := [
  { base := 0x5C00, count := 1, stride := 1, objs := [
    objRow 0 0 .u8 .ro false 10 .any,
    objRow 1 1 .u16 .ro false 0 .any,
    objRow 2 2 .u8 .woc false 0 (.span 1 4 1),
    objRow 3 3 .u32 .rws false 0 .owner,
    objRow 4 4 .bool .woc false 0 (.span 0 1 1),
    objRow 5 5 .u32 .rw false 0 .any,
    objRow 6 6 .u8 .woc false 0 (.span 1 1 1),
    objRow 7 7 .u8 .ro false 0 .any,
    objRow 8 8 .u8 .ro false 0 .any,
    objRow 9 9 .u32 .ro true 0 .any,
    objRow 10 10 .bool .ro false 0 .any] }]

/-- Table 16-21: Lifetime ledger and event log (0x5E00). -/
def objects16_21 : List ObjGroup := [
  { base := 0x5E00, count := 1, stride := 1, objs := [
    objRow 0 0 .u8 .ro false 12 .any,
    objRow 1 1 .time32 .rws true 3600000000 (.span 60000000 3600000000 60000000),
    objRow 2 2 .u32 .ro true 0 .any,
    objRow 3 3 .u32 .ro true 0 .any,
    objRow 4 4 .i32 .ro false 0 .any,
    objRow 5 5 .i32 .ro true 4294966896 .any,
    objRow 6 6 .i32 .ro true 1250 .any,
    objRow 7 7 .u32 .ro true 0 .any,
    objRow 8 8 .u32 .ro false 0 .any,
    objRow 9 9 .u32 .ro false 0 .any,
    objRow 10 10 .u32 .rw false 0 .owner,
    objRow 11 11 .domain .ro false 0 .any,
    objRow 12 12 .u32 .ro true 0 .any] }]

/-- Table 16-22: Ledger arrays (0x5E10–0x5E30). -/
def objects16_22 : List ObjGroup := [
  { base := 0x5E10, count := 1, stride := 1, objs := [
    objRow 0 0 .u8 .ro false 16 .any,
    objRow 1 16 .u32 .ro true 0 .any] },
  { base := 0x5E20, count := 1, stride := 1, objs := [
    objRow 0 0 .u8 .ro false 32 .any,
    objRow 1 32 .u32 .ro true 0 .any] },
  { base := 0x5E30, count := 1, stride := 1, objs := [
    objRow 0 0 .u8 .ro false 32 .any,
    objRow 1 32 .u32 .ro true 0 .any] }]

/-- The whole index, in ascending index order (R468). -/
def objectIndex : List ObjGroup :=
  objects16_3 ++ objects16_4 ++ objects16_5 ++ objects16_6 ++ objects16_7 ++ objects16_8 ++ objects16_9 ++ objects16_10 ++ objects16_11 ++ objects16_12 ++ objects16_13 ++ objects16_14 ++ objects16_15 ++ objects16_16 ++ objects16_17 ++ objects16_18 ++ objects16_19 ++ objects16_20 ++ objects16_21 ++ objects16_22

/-- The group that holds `index`. -/
def findGroup (index : Nat) : Option ObjGroup :=
  objectIndex.find? (fun g => decide (g.base ≤ index) && decide (index < g.base + g.count * g.stride) &&
    (index - g.base) % g.stride == 0)

/-- The object at `index`:`sub` among the listed ones (R464). -/
def findObj (index sub : Nat) : Option Obj :=
  (findGroup index).bind (fun g => g.objs.find? (fun x => decide (x.lo ≤ sub) && decide (sub ≤ x.hi)))

end Sys2Proof.Machine
end

