-- ==== Sys2Proof/Machine/Operands.lean ====
section
/-!
DEFINITION. Machine/Operands.lean: the configuration objects of ch. 16 as the other chapters read them: each is its value in force, or its
literal default (R438, R439).
-/

namespace Sys2Proof.Machine

/-- The value in force of a configuration object whose literal default is `dflt`. -/
def State.setting (s : State) (index sub dflt : Nat) : Nat :=
  match s.dict.values.find? (fun e => e.1 == objKey index sub) with
  | some e => e.2
  | none => dflt

/-- Give an object the value `v`: the list stays ascending and holds no value equal to the default (R442). -/
def setValue (key v dflt : Nat) (l : List (Nat × Nat)) : List (Nat × Nat) :=
  l.filter (fun e => decide (e.1 < key)) ++ (if v = dflt then [] else [(key, v)]) ++ l.filter (fun e => decide (key < e.1))

/-! ### ZOP (Table 16-4) and time (Table 16-6) -/

def State.nodeIdSet (s : State) : Nat := s.setting 0x1100 1 16
def State.arbRateSet (s : State) : Nat := s.setting 0x1100 3 1
def State.dataRateSet (s : State) : Nat := s.setting 0x1100 4 1
def State.canEnable (s : State) : Nat := s.setting 0x1100 5 3
def State.heartbeatSet (s : State) : Nat := s.setting 0x1100 6 100000
def State.timePriority (s : State) : Nat := s.setting 0x1800 2 0
def State.syncRequired (s : State) : Bool := s.setting 0x1800 3 1 == 1
/-- `SYNC_HOLDOVER`, µs. -/
def State.syncHoldover (s : State) : Nat := s.setting 0x1800 4 1000000

/-! ### Power (Table 16-7), state (Table 16-8), the cycle (Table 16-10), exchange RAM (Table 16-11) -/

/-- `PF_RIDETHROUGH`, µs. -/
def State.pfRidethrough (s : State) : Nat := s.setting 0x2000 6 25000
def State.autoStartSet (s : State) : Bool := s.setting 0x2200 4 0 == 1
/-- `SAFE_CYCLE`, µs. -/
def State.safeCycle (s : State) : Nat := s.setting 0x2400 1 1000
def State.sigWindow (s : State) : Nat := s.setting 0x2400 2 8
def State.outputWdCycles (s : State) : Nat := s.setting 0x2400 3 3
/-- `XCH_HOLD_LIMIT`, µs. -/
def State.xchHoldLimit (s : State) : Nat := s.setting 0x2600 1 10000

/-! ### Channels (Table 16-12), glint and counting (Table 16-13) -/

def State.chMode (s : State) (n : Nat) : Nat := s.setting (0x3000 + n) 1 0
def State.chInputType (s : State) (n : Nat) : Nat := s.setting (0x3000 + n) 2 3
def State.chFilter (s : State) (n : Nat) : Nat := s.setting (0x3000 + n) 3 2
def State.chParallel (s : State) (n : Nat) : Nat := s.setting (0x3000 + n) 4 0
def State.chSource (s : State) (n : Nat) : Nat := s.setting (0x3000 + n) 5 3
def State.chSafeState (s : State) (n : Nat) : Nat := s.setting (0x3000 + n) 6 0
def State.chDiag (s : State) (n : Nat) : Nat := s.setting (0x3000 + n) 7 0
def State.chSettle (s : State) (n : Nat) : Nat := s.setting (0x3000 + n) 8 2
def State.glintStride (s : State) : Nat := s.setting 0x3200 1 1
/-- `GLINT_RECOVERY`, µs. -/
def State.glintRecovery (s : State) : Nat := s.setting 0x3200 2 50
/-- `GLINT_WIDTH` of code `c`, µs. -/
def State.glintWidth (s : State) (c : Nat) : Nat := s.setting 0x3210 (c + 1) 200
def State.glintAssign (s : State) (n : Nat) : Nat := s.setting 0x3220 (n + 1) 0
/-- `CNT_EDGE` of counting input `n` (CH28 + n). -/
def State.cntEdge (s : State) (n : Nat) : Nat := s.setting (0x3240 + n) 1 1
/-- `CNT_TIMEOUT`, µs. -/
def State.cntTimeout (s : State) (n : Nat) : Nat := s.setting (0x3240 + n) 2 100000

/-! ### Analog pairs (Table 16-14) -/

/-- `AN_SYNC_GRID`, ticks. -/
def State.anSyncGrid (s : State) : Nat := s.setting 0x3300 1 1000000
def State.anEnable (s : State) (p : Nat) : Bool := s.setting (0x3310 + p) 1 0 == 1
def State.anRatio (s : State) (p : Nat) : Nat := s.setting (0x3310 + p) 2 256
def State.anUnit (s : State) (p : Nat) : Nat := s.setting (0x3310 + p) 3 0
def State.anGainNum (s : State) (p : Nat) : Int := ofRawI32 (s.setting (0x3310 + p) 4 16777216)
def State.anGainShift (s : State) (p : Nat) : Nat := s.setting (0x3310 + p) 5 24
def State.anZeroA (s : State) (p : Nat) : Int := ofRawI32 (s.setting (0x3310 + p) 6 0)
def State.anZeroB (s : State) (p : Nat) : Int := ofRawI32 (s.setting (0x3310 + p) 7 0)
def State.anInvertB (s : State) (p : Nat) : Bool := s.setting (0x3310 + p) 8 0 == 1
def State.anTolerance (s : State) (p : Nat) : Nat := s.setting (0x3310 + p) 9 100
/-- `AN_DISC_TIME`, µs. -/
def State.anDiscTime (s : State) (p : Nat) : Nat := s.setting (0x3310 + p) 10 2000

/-! ### Images (Table 16-16), mirror (Table 16-18), Modbus (Table 16-19), ledger (Table 16-21) -/

def State.imageBankSelect (s : State) : Nat := s.setting 0x5000 2 1
def State.onlineChangeEnable (s : State) : Bool := s.setting 0x5000 3 0 == 1
def State.mirrorEnable (s : State) : Bool := s.setting 0x5800 1 0 == 1
def State.mirrorPartner (s : State) : Nat := s.setting 0x5800 2 0
def State.mirrorPreferActive (s : State) : Bool := s.setting 0x5800 3 0 == 1
def State.modbusEnable (s : State) : Bool := s.setting 0x5A00 1 0 == 1
def State.modbusAddress (s : State) : Nat := s.setting 0x5A00 2 1
def State.modbusBaud (s : State) : Nat := s.setting 0x5A00 3 2
def State.modbusFraming (s : State) : Nat := s.setting 0x5A00 4 0
/-- `MODBUS_MAP` entry at subindex `k`. -/
def State.modbusMap (s : State) (k : Nat) : Nat := s.setting 0x5A10 k 0
/-- `LEDGER_INTERVAL`, µs. -/
def State.ledgerInterval (s : State) : Nat := s.setting 0x5E00 1 3600000000

/-! ### Keys of the unit's own persisted objects -/

abbrev keyRideCount : Nat := objKey 0x2000 7
abbrev keyColdStarts : Nat := objKey 0x2200 0x13
abbrev keyWarmResets : Nat := objKey 0x2200 0x14
abbrev keySafetyWrites : Nat := objKey 0x1010 4
abbrev keyEpoch : Nat := objKey 0x1200 4
abbrev keyEraseTotal : Nat := objKey 0x5100 7
abbrev keyCreditConfig : Nat := objKey 0x5100 9
abbrev keyCreditEvent : Nat := objKey 0x5100 0xA
abbrev keyCreditLedger : Nat := objKey 0x5100 0xB
abbrev keyRefused : Nat := objKey 0x5100 0xC
abbrev keyDropped : Nat := objKey 0x5100 0xD
abbrev keyExchanges : Nat := objKey 0x5000 0xC
abbrev keyErasesA : Nat := objKey 0x5010 8
abbrev keyErasesB : Nat := objKey 0x5020 8
abbrev keyTakeovers : Nat := objKey 0x5800 0xC
abbrev keySessions : Nat := objKey 0x5C00 9

end Sys2Proof.Machine
end

