-- ==== Sys2Proof/Machine/Field.lean ====
section
/-!
DEFINITION. Machine/Field.lean: field channels, banks and their supply switches, drivers, readback and the IOS safe state (ch. 9), with the
wear counters that follow the drivers (R590, R591).
-/

namespace Sys2Proof.Machine

/-! ### Channels and banks -/

/-- Channel CHn. -/
def State.ch (s : State) (n : Nat) : Channel := s.field.channels.getD n {}

/-- Change channel CHn. -/
def State.modCh (n : Nat) (f : Channel → Channel) (s : State) : State :=
  { s with field.channels := s.field.channels.modify n f }

/-- Bank b. -/
def State.bank (s : State) (b : Nat) : Bank := s.field.banks.getD b {}

/-- Change bank b. -/
def State.modBank (b : Nat) (f : Bank → Bank) (s : State) : State := { s with field.banks := s.field.banks.modify b f }

/-- Modes 0x02 and 0x04, to which the rules of a safety output apply (R264). -/
def isSafetyMode (m : Nat) : Bool := m == 2 || m == 4

/-- Modes 0x02, 0x03 and 0x04: the channel is an output. -/
def isOutputMode (m : Nat) : Bool := decide (2 ≤ m) && decide (m ≤ 4)

/-- A bank is a safety bank when one of its channels is in mode 0x02 or 0x04 (R265). -/
def State.safetyBank (s : State) (b : Nat) : Bool :=
  (List.range 8).any (fun i => isSafetyMode (s.ch (8 * b + i)).mode)

/-- The field supply of the group of CHn is out of range (R270). -/
def State.supplyLow (s : State) (n : Nat) : Bool := if n < 16 then s.field.fs1.low else s.field.fs2.low

/-- A field supply is required when any channel of its two banks is in a mode other than Unused (R281). -/
def State.supplyRequired (s : State) (supply : Nat) : Bool :=
  (List.range 16).any (fun i => (s.ch (16 * (supply - 1) + i)).mode != 0)

/-- The code-to-time rule of `CH_FILTER` and `CH_READBACK_SETTLE`: 0.1 ms × 2^c (R267). -/
def filterTicks (c : Nat) : Nat := 10000 * 2 ^ c

/-- The leader of the paralleled group of CHn (R273). -/
def State.leader (s : State) (n : Nat) : Nat :=
  if isOutputMode (s.ch n).mode then
    match s.chParallel n with
    | 1 => n - n % 2
    | 2 => n - n % 4
    | _ => n
  else n

/-! ### Image declarations -/

/-- The channel-use entry of CHn in the active image (Table 13-4), zero without one. -/
def State.use (s : State) (n : Nat) : Nat × Nat :=
  match s.images.image with
  | some i => i.uses.getD n (0, 0)
  | none => (0, 0)

/-- The unit is configured as a pair member (ch. 18). -/
def State.pairMember (s : State) : Bool := s.mirrorEnable

/-- CHn is a mirrored output: declared so by the active image of a pair member (R512). -/
def State.mirrored (s : State) (n : Nat) : Bool := s.pairMember && bitOf (s.use n).1 16

/-- The gate between driver and pin of CHn conducts (R515). -/
def State.gateConducts (s : State) (n : Nat) : Bool :=
  if s.mirrored n then s.mirror.token && !s.mirror.twinToken else isOutputMode (s.ch n).mode

/-! ### Glint pulses as the drivers see them (ch. 10) -/

/-- A glint pulse is in progress on CHn. -/
def State.pulsing (s : State) (n : Nat) : Bool :=
  match s.glint.slot with
  | some g => g.started && !g.ended && g.pulsing.getLsbD n
  | none => false

/-- A short to 24 V is masked on CHn: during its own on-pulse and for 20 µs after it (Table 9-4, R304). -/
def State.shortMasked (s : State) (n : Nat) : Bool :=
  match s.glint.slot with
  | some g => g.started && g.onPulse.getLsbD n && decide (s.now < g.stop + us 20)
  | none => false

/-! ### Drivers -/

/-- The field supply of bank b feeds its rail. The spec gives no voltage at which a supply counts as lost (R292): DESIGN CHOICE (log entry
102), at or below the 5 V at which a rail reads open. -/
def State.supplyPresent (s : State) (b : Nat) : Bool := decide (5000 < (if b < 2 then s.power.fs1Mv else s.power.fs2Mv))

/-- The rail of bank b: its switch is closed, did not fail to close, and its field supply is present (R271, R275, R276, R292). -/
def State.railFed (s : State) (b : Nat) : Bool := (s.bank b).closed && !(s.bank b).closeFailed && s.supplyPresent b

/-- The driver of CHn sources: its domain is on, its rail is fed, it is an output commanded on, not shut down thermally, its gate conducts,
and the first placement after release has come; a glint pulse inverts the command for its duration (R144, R271, R297, R515). -/
def State.driverLevel (s : State) (n : Nat) : Bool :=
  let c := s.ch n
  c.on && isOutputMode c.mode && (c.command != s.pulsing n) && !c.thermalOff && s.railFed (n / 8) && s.gateConducts n &&
    s.field.outputsLive

/-- A pulse source in an off-pulse pulls its pin towards 0 V until the pulse ends (R302). -/
def State.discharges (s : State) (n : Nat) : Bool := (s.ch n).on && (s.ch n).mode == 4 && (s.ch n).command && s.pulsing n

/-- Instances whose contacts wear: types 0x10 and 0x11. -/
def isContactor (b : Block) : Bool := b.type == 0x10 || b.type == 0x11

/-- Channels whose breaks are counted: OUT_A, OUT_B, OUT_POS and OUT_NEG of instances of type 0x10 or 0x11 (R591). -/
def State.breakChannels (s : State) : List Nat :=
  s.lib.blocks.flatMap (fun b => if isContactor b then [b.params.getD 0 0, b.params.getD 1 0] else [])

/-- Channels whose instance is in an OPENING (0x06) that it entered from STOPPING after OFF_DELAY had elapsed (R591). -/
def State.plannedChannels (s : State) : List Nat :=
  s.lib.blocks.flatMap (fun b =>
    if isContactor b && b.state == 6 && b.plannedOpening then [b.params.getD 0 0, b.params.getD 1 0] else [])

/-- Let every driver take its level; each one that goes from on to off counts a break on the channels of R591, but not on the channels
`exempt`. -/
def State.refreshDrivers (exempt : List Nat) (s : State) : State :=
  let wear := s.breakChannels
  let levels := (List.range 32).map s.driverLevel
  let fell n := (s.ch n).driven && !(levels.getD n false)
  let breaks := s.ledger.breaks.mapIdx (fun n v => if fell n && wear.contains n && !exempt.contains n then sat32 (v + 1) else v)
  { s with
    field.channels := s.field.channels.mapIdx (fun n c => { c with driven := levels.getD n false, discharge := s.discharges n })
    ledger.breaks := breaks }

/-- Command CHn to `v` at this instant; an unchanged command keeps its instant (R277). -/
def State.command (n : Nat) (v : Bool) (s : State) : State :=
  s.modCh n (fun c => if c.command == v then c else { c with command := v, commandAt := s.now })

/-- The value a non-safety output takes from `CH_SAFE_STATE`: off, on, or the value last placed, off before the first placement (R282). -/
def State.safeValue (s : State) (n : Nat) : Bool :=
  match s.chSafeState n with
  | 1 => true
  | 2 => s.field.placed && (s.ch n).command
  | _ => false

/-- Every output at the value of a state that does not take it from the images: safety outputs off, non-safety outputs at their programmed
safe state (Table 9-5). -/
def State.placeSafe (s : State) : State :=
  (List.range 32).foldl (fun t n =>
    let m := (t.ch n).mode
    if isSafetyMode m then t.command n false
    else if m == 3 then t.command n (t.safeValue n)
    else t) s

/-! ### Bank supply switches -/

/-- Close the switch of bank b (R275). -/
def State.closeBank (b : Nat) (s : State) : State :=
  s.modBank b (fun k => if k.closed then k else { k with closed := true, openedAt := none, openHighRun := 0 })

/-- Open the switch of bank b (R275). -/
def State.openBank (b : Nat) (s : State) : State :=
  s.modBank b (fun k => if k.closed then { k with closed := false, openedAt := some s.localNow, openHighRun := 0 } else k)

/-- Open every safety bank switch. -/
def State.openSafetyBanks (s : State) : State :=
  (List.range 4).foldl (fun t b => if t.safetyBank b then t.openBank b else t) s

/-- Open every bank switch, as at a reset and in a power-fail shutdown (R275). -/
def State.openAllBanks (s : State) : State := (List.range 4).foldl (fun t b => t.openBank b) s

/-- Set the switches for the state reached: non-safety banks closed, safety banks closed in Run only (R275). -/
def State.setBanks (s : State) : State :=
  (List.range 4).foldl (fun t b =>
    if t.safetyBank b then (if t.rt.state == .run && !t.field.safeState then t.closeBank b else t.openBank b) else t.closeBank b) s

/-! ### Reactions -/

/-- Stop the unit's own token; records that wait for a tail are discarded (R514, R519). -/
def State.stopToken (s : State) : State := { s with mirror.token := false, mirror.tail := [] }

/-- A glint pulse in progress is interrupted: it ends here, at its stop at the latest (R304, R314). -/
def State.breakPulse (s : State) : State :=
  { s with glint.slot := s.glint.slot.map (fun g => ({ g with broken := true, ended := true, stop := min g.stop s.now } : GlintSlot)) }

/-- The IOS safe state: safety outputs off, non-safety outputs at `CH_SAFE_STATE`, safety bank switches open, no further image placed,
the token stopped, the latch set (R282, R514). Applied again while latched it changes nothing (R291). -/
def State.iosSafeState (s : State) : State :=
  if s.field.safeState then s
  else
    let s := { s with field.safeState := true, field.images := [] }
    let s := s.placeSafe.openSafetyBanks.stopToken
    s.breakPulse.refreshDrivers []

/-- Every field output off and every bank switch open, as a reset, a rail fault and the power-fail shutdown demand, whatever
`CH_SAFE_STATE` holds (R51, R275, R292). -/
def State.outputsOff (s : State) : State :=
  let s := { s with field.images := [], field.wdArmed := false, field.wdArmAt := none }
  let s := (List.range 32).foldl (fun t n => if isOutputMode (t.ch n).mode then t.command n false else t) s
  let s := { s with glint.slot := none }
  (s.openAllBanks.stopToken).refreshDrivers []

/-! ### Input filters -/

/-- The comparator's value at pin voltage `mv` (Table 9-2; R277 in an output mode); between the thresholds it stays as it was. -/
def comparatorLevel (mode type mv : Nat) (old : Bool) : Bool :=
  let (high, low) := if isOutputMode mode then (12000, 10000) else if type = 1 then (15000, 5000) else (11000, 5000)
  if high ≤ mv then true else if mv ≤ low then false else old

/-- A channel's input stage starts: the filtered value is 0 with INIT set, and a raw 1 of a powered input counts as a comparator change now
(R269, R270). -/
def Channel.startInput (now localNow filter : Nat) (powered : Bool) (c : Channel) : Channel :=
  { c with
    filtered := false
    init := true
    initDue := localNow + filter
    blanked := none
    run := if powered && c.raw then some { stamp := now, due := localNow + filter } else none }

/-- The comparator of an input changes to `level` while its filter runs (R267). Where in the ±30 ns of R96 the timestamp lies is not stated:
DESIGN CHOICE (log entry 103), network time at the change. -/
def Channel.comparator (level : Bool) (now localNow filter : Nat) (c : Channel) : Channel :=
  { c with raw := level, run := if level == c.filtered then none else some { stamp := now, due := localNow + filter } }

/-- A due filter run ends: the filtered value changes, with the timestamp of the change that began it (R267, R268). -/
def Channel.settle (localNow : Nat) (c : Channel) : Channel :=
  match c.run with
  | some r =>
    if r.due ≤ localNow && c.blanked.isNone then
      { c with filtered := c.raw, run := none, edgeLive := r.stamp, edgeCount := sat32 (c.edgeCount + 1) }
    else c
  | none => c

/-- INIT clears when the first filter time has elapsed (R269). -/
def Channel.settleInit (localNow : Nat) (c : Channel) : Channel :=
  if c.init && decide (c.initDue ≤ localNow) then { c with init := false } else c

/-- What stood at a boundary that has passed is kept for its freeze before anything later changes it (R47). -/
def Channel.hold (tk : Nat) (c : Channel) : Channel :=
  if c.held.isSome then c
  else
    let d := c.settle tk
    { d with held := some (d.filtered, d.edgeLive) }

/-- Keep CHn for a boundary that is due. -/
def State.holdChannel (n : Nat) (s : State) : State := if s.boundaryDue then s.modCh n (Channel.hold s.dueLocal) else s

/-- The domain of CHn has started: the channel works in the mode configured (R74, R269). -/
def State.channelOn (n : Nat) (s : State) : State :=
  let f := filterTicks (s.chFilter n)
  let m := s.chMode n
  s.modCh n (fun c => ({ c with on := true, mode := m, raw := comparatorLevel m (s.chInputType n) c.pinMv c.raw }).startInput s.now s.localNow f
    (m == 1 && !s.supplyLow n))

/-- Items of a channel in the native input area: value, low and high half of the timestamp. -/
def channelItem (n k : Nat) : Nat := 3 * n + k

/-- An input item and its coded twin become 0. -/
def State.clearInput (i : Nat) (s : State) : State :=
  { s with le.inputs := s.le.inputs.set i 0, le.inputsCoded := s.le.inputsCoded.set i 0 }

/-- The domain of CHn is off: its driver is clamped off and its input reads 0 in the same cycle (R74, R293). -/
def State.channelOff (n : Nat) (s : State) : State :=
  (s.clearInput (channelItem n 0)).modCh n (fun c =>
    { c with on := false, mode := s.chMode n, filtered := false, frozen := false, held := none, run := none, init := false, blanked := none,
             command := false, readback := false, mismatchRun := 0, matchRun := 0, readbackFault := false, thermalOff := false })

/-- The group of a field supply restarts its inputs when the supply returns (R270), and a counting input does not count its next change
(R309). -/
def State.supplyReturns (supply : Nat) (s : State) : State :=
  (List.range 16).foldl (fun t i =>
    let n := 16 * (supply - 1) + i
    if (t.ch n).on && (t.ch n).mode == 1 then t.channelOn n
    else if (t.ch n).mode == 5 then { t with counters := t.counters.modify (n - 28) (fun c => { c with skip := true }) }
    else t) s

/-- The group of a field supply that is out of range: its inputs are unpowered and held at 0 (R270). -/
def State.supplyFails (supply : Nat) (s : State) : State :=
  (List.range 16).foldl (fun t i =>
    t.modCh (16 * (supply - 1) + i) (fun c =>
      if c.mode == 1 then { c with filtered := false, run := none, blanked := none, held := none } else c)) s

/-! ### The freeze -/

/-- The twin may hold the joined pin of CHn on: on a standby or joining unit, and outside Run while the twin's token is sensed (R512,
R523, log entry 39). -/
def State.twinHolds (s : State) (n : Nat) : Bool :=
  s.mirrored n && (s.mirror.role == 2 || s.mirror.role == 3 || (s.mirror.role == 0 && s.mirror.twinToken))

/-- The readback that R523 expects of a mirrored output of a standby or joining unit: the slot of its group's leader (R273) in the snapshot
committed one boundary earlier, once it has settled; none where the twin is not known to command it. -/
def State.twinCommand (s : State) (n : Nat) : Option Bool :=
  match s.mirror.committed with
  | some (tag, slots) =>
    if s.mirror.role == 0 || decide (s.now < tag + us s.rt.cycleUs + us 100 + filterTicks (s.chSettle n)) then none
    else some (slots.getLsbD (s.leader n))
  | none => none

/-- The field supply of the group of CHn lies outside its window at this freeze: it is out of range, or it was found so now (R278, R281;
DEDUCED, log entry 114). -/
def State.supplyOutside (s : State) (n : Nat) : Bool :=
  s.supplyLow n || decide (0 < (if n < 16 then s.field.fs1.outRun else s.field.fs2.outRun))

/-- The command or off that the readback of CHn must agree with; none where it is not compared at this freeze, as within
`CH_READBACK_SETTLE` of a change of its command (R277, R278). -/
def State.expectedReadback (s : State) (n : Nat) : Option Bool :=
  let c := s.ch n
  if !c.on || !isOutputMode c.mode || s.supplyOutside n then none
  else if s.twinHolds n then s.twinCommand n
  else if s.now < c.commandAt + filterTicks (s.chSettle n) then none
  else if isSafetyMode c.mode && s.rt.state != .run then some false
  else some c.command

/-- The pin of an output is at `mv`: its readback comparator follows (R277). -/
def State.outputPin (n mv : Nat) (s : State) : State :=
  s.modCh n (fun c => if isOutputMode c.mode then { c with pinMv := mv, raw := comparatorLevel c.mode 0 mv c.raw } else c)

/-- The readback of CHn at this freeze: its comparator, or the value held before the pulse while a glint pulse is in progress (R277). -/
def State.readbackAt (s : State) (n : Nat) : Bool :=
  match s.glint.slot with
  | some g => if s.pulsing n then g.preSrc.getLsbD n else (s.ch n).raw
  | none => (s.ch n).raw

/-- Freeze CHn at the boundary `tk`, in local ticks, with its pin at `mv`: the filtered value and timestamp of then, 0 where the supply of its
bank is lost, and the readback compared (R47, R184, R268, R277, R278, R292). -/
def State.freezeChannel (tk mv n : Nat) (s : State) : State :=
  let s := s.outputPin n mv
  let low := s.supplyLow n || !s.supplyPresent (n / 8)
  let rb := s.readbackAt n
  let expect := s.expectedReadback n
  s.modCh n (fun c =>
    let c := c.hold tk
    let kept := c.held.getD (false, 0)
    let c := { c with
      frozen := c.on && c.mode == 1 && kept.1 && decide (c.initDue ≤ tk) && !low
      edgeTime := kept.2
      held := none
      init := c.init && decide (tk < c.initDue)
      readback := c.on && isOutputMode c.mode && rb }
    match expect with
    | none => c
    | some e =>
      if e == rb then { c with mismatchRun := 0, matchRun := satAt 16 (c.matchRun + 1) }
      else { c with mismatchRun := satAt 2 (c.mismatchRun + 1), matchRun := 0, mismatchCount := sat32 (c.mismatchCount + 1) })

/-- The conditions of Table 9-4 that CHn contributes to its bank's fault bit: overload, thermal, open load, short to 24 V. -/
def State.faultConditions (s : State) (n : Nat) : Bool :=
  let c := s.ch n
  let cond := c.conditions
  c.on && isOutputMode c.mode &&
    (cond.getLsbD 0 || cond.getLsbD 1 ||
      (cond.getLsbD 2 && c.command && bitOf (s.chDiag n) 0) ||
      (cond.getLsbD 3 && !c.command && !s.shortMasked n && !s.twinHolds n))

/-- Freeze bank b: the rail, the two-cycle rule of R276 and the fault bit (R275, R279). -/
def State.freezeBank (railHigh railLow : BitVec 4) (b : Nat) (s : State) : State :=
  let evaluated := !s.supplyOutside (8 * b)
  let bit := evaluated && (List.range 8).any (fun i => s.faultConditions (8 * b + i))
  s.modBank b (fun k =>
    let late := match k.openedAt with
      | some t => decide (t + ms 5 ≤ s.localNow)
      | none => false
    let k := { k with
      railClosed := if railHigh.getLsbD b then true else if railLow.getLsbD b then false else k.railClosed
      openHighRun := if !k.closed && late && !railLow.getLsbD b then satAt 2 (k.openHighRun + 1) else 0 }
    if evaluated then
      { k with faultNow := bit, faultLatched := k.faultLatched || bit, clearRun := if bit then 0 else satAt 16 (k.clearRun + 1) }
    else k)

/-- Compare a field supply with its window: out of range at two consecutive cycles it is out of range, back in its window it is not; between
the two its status stays (R281). -/
def FieldSupply.compare (required : Bool) (mv localNow : Nat) (f : FieldSupply) : FieldSupply :=
  let out := required && (decide (mv < 18000) || decide (31000 < mv))
  let inside := !required || (decide (19200 ≤ mv) && decide (mv ≤ 30000))
  let run := if out then satAt 2 (f.outRun + 1) else 0
  { low := if inside then false else f.low || run == 2
    outRun := run
    windowSince := if inside then some (f.windowSince.getD localNow) else none }

/-- The inputs of a group follow its supply from `was` out of range to `is` (R270). -/
def State.supplyChanges (supply : Nat) (was is : Bool) (s : State) : State :=
  if was && !is then s.supplyReturns supply else if !was && is then s.supplyFails supply else s

/-- Compare both field supplies at this cycle. A group loses its inputs and its outputs with its supply and has them again when it returns
(R270, R281, R292). -/
def State.compareSupplies (fs1Mv fs2Mv : Nat) (s : State) : State :=
  let a := s.field.fs1.compare (s.supplyRequired 1) fs1Mv s.localNow
  let b := s.field.fs2.compare (s.supplyRequired 2) fs2Mv s.localNow
  let t := { s with power.fs1Mv := fs1Mv, power.fs2Mv := fs2Mv, field.fs1 := a, field.fs2 := b }
  ((t.supplyChanges 1 s.field.fs1.low a.low).supplyChanges 2 s.field.fs2.low b.low).refreshDrivers []

end Sys2Proof.Machine
end

