-- ==== Sys2Proof/Machine/Glint.lean ====
section
/-!
DEFINITION. Machine/Glint.lean: glint pulses and counting inputs (ch. 10).
-/

namespace Sys2Proof.Machine

/-! ### The schedule -/

/-- ROLE of CHn (Table 10-4). -/
def State.glintRole (s : State) (n : Nat) : Nat := bitsAt (s.glintAssign n) 7 6

/-- CODE of CHn (Table 10-4). -/
def State.glintCode (s : State) (n : Nat) : Nat := bitsAt (s.glintAssign n) 2 0

/-- Enabled codes in ascending order: at least one channel of role 1 or 2 carries the code (R295). -/
def State.glintCodes (s : State) : List Nat :=
  (List.range 8).filter (fun c => (List.range 32).any (fun n =>
    s.glintCode n == c && (s.glintRole n == 1 || s.glintRole n == 2)))

/-- T_cycle in force, in ticks. -/
def State.cycleTicks (s : State) : Nat := us s.rt.cycleUs

/-- Pulses are placed: in Run, from the cycle after t_run, while the IOS safe state is not latched (R298). -/
def State.glintActive (s : State) : Bool :=
  s.rt.state == .run && decide (s.rt.runSince + s.cycleTicks ≤ s.rt.boundary) && !s.field.safeState

/-- The code of the slot in the cycle beginning at the last boundary (R297). -/
def State.slotCode (s : State) : Option Nat :=
  let codes := s.glintCodes
  let j := s.rt.boundary / s.cycleTicks
  if codes.isEmpty || j % s.glintStride != 0 then none else codes[(j / s.glintStride) % codes.length]?

/-- CHn is a sensor supply: role 1 in mode 0x04, under its leader's assignment; on from the boundary at which Run begins, independent of the
images (Table 10-1). -/
def State.sensorSupply (s : State) (n : Nat) : Bool := (s.ch n).mode == 4 && s.glintRole (s.leader n) == 1

/-- Sources that place a pulse in a slot of code `c`: sensor supplies and load sources, under their leader's assignment; none whose field
supply lies outside its window, and a mirrored one only with the token (R298, R305, R306, Table 10-1). -/
def State.pulseSources (s : State) (c : Nat) : BitVec 32 :=
  BitVec.ofBoolListLE ((List.range 32).map (fun n =>
    let l := s.leader n
    let role := s.glintRole l
    (s.ch n).on && (s.ch n).mode == 4 && s.glintCode l == c && !s.supplyOutside n && s.gateConducts n &&
      (role == 1 && (s.ch n).command || role == 2 && ((s.ch n).command || bitOf (s.glintAssign l) 5))))

/-- Test inputs: role 3, in mode 0x01, whose supply does not lie outside its window (R295, R305). -/
def State.testInputs (s : State) : List Nat :=
  (List.range 32).filter (fun n => (s.ch n).on && (s.ch n).mode == 1 && s.glintRole n == 3 && !s.supplyOutside n)

/-! ### Samples and verdicts (R299, Table 10-2) -/

/-- The pre sample, at pulse start − 10 µs: the slot of this cycle begins, one a cycle; an empty slot takes no sample (R297, R299). -/
def State.glintPre (raw readback : BitVec 32) (s : State) : State :=
  match s.slotCode with
  | none => s
  | some c =>
    let src := s.pulseSources c
    let start := s.rt.boundary + us 150
    let stop := start + us (s.glintWidth c)
    let g : GlintSlot :=
          { code := c, start := start, stop := stop, blankEnd := stop + us s.glintRecovery, pre := some raw, preSrc := readback,
            pulsing := src, onPulse := 0, started := false, tested := false, ended := false, finished := false, stuckOn := 0, broken := false }
    let had := match s.glint.slot with
      | some h => h.start == start
      | none => false
    if s.glintActive && !had && decide (start - us 10 ≤ s.now) && src != 0 then { s with glint.slot := some g } else s

def execGlintPreSample (dt : Nat) (raw readback : BitVec 32) (s : State) : Host.Outcome State Fault Refusal :=
  done ((s.elapse dt).glintPre raw readback)

/-- Test inputs of code `c` are blanked from pulse start: what their filters hold is kept (R300). A supply outside its window withholds
verdicts only (R305); an input stage that SUPPLY_LOW leaves unpowered has no filter to blank (R270). -/
def State.blankInputs (c : Nat) (pre : BitVec 32) (s : State) : State :=
  (List.range 32).foldl (fun t n =>
    if (t.ch n).on && (t.ch n).mode == 1 && t.glintRole n == 3 && !t.supplyLow n && t.glintCode n == c then
      (t.holdChannel n).modCh n (fun k => { k with
        blanked := some { pre := pre.getLsbD n, run := k.run.map (fun r => (r.stamp, r.due - t.localNow)) }
        run := none })
    else t) s

/-- Sources of a slot that are commanded off: each of them gives an on-pulse (Table 10-1). -/
def State.offSources (s : State) (src : BitVec 32) : BitVec 32 :=
  BitVec.ofBoolListLE ((List.range 32).map (fun n => src.getLsbD n && !(s.ch n).command))

/-- Pulse start (R297, R300): the sources pulse at one tick and blanking starts. -/
def State.glintStart (s : State) : State :=
  match s.glint.slot with
  | some g =>
    if !g.started && !g.broken && decide (g.start ≤ s.now) then
      let s := { s with glint.slot := some { g with started := true, onPulse := s.offSources g.pulsing } }
      (s.blankInputs g.code (g.pre.getD 0)).refreshDrivers []
    else s
  | none => s

def execGlintPulseStart (dt : Nat) (s : State) : Host.Outcome State Fault Refusal := done (s.elapse dt).glintStart

/-- One test input at the test instant (R299, R301). -/
def State.testVerdict (code : Nat) (pre raw : BitVec 32) (n : Nat) (s : State) : State :=
  let miss (s : State) : State := { s with glint.missCount := s.glint.missCount.modify n (fun c => sat32 (c + 1)) }
  if !pre.getLsbD n then s
  else if s.glintCode n == code then
    if raw.getLsbD n then miss { s with glint.ownRun := s.glint.ownRun.modify n (fun c => satAt 2 (c + 1)) }
    else { s with glint.ownRun := s.glint.ownRun.set n 0 }
  else if raw.getLsbD n then { s with glint.foreignRun := s.glint.foreignRun.set (8 * n + code) 0 }
  else miss { s with glint.foreignRun := s.glint.foreignRun.modify (8 * n + code) (fun c => satAt 2 (c + 1)) }

/-- One source at the test instant: an off-pulse not followed is a driver that failed to switch off; an on-pulse not seen is event 0x0714
(Table 10-2, Table 10-7). -/
def State.sourceVerdict (readback : BitVec 32) (n : Nat) (s : State) : State :=
  match s.glint.slot with
  | some g =>
    if g.pulsing.getLsbD n && !s.supplyOutside n then
      if (s.ch n).command then
        if readback.getLsbD n then { s with glint.slot := some { g with stuckOn := g.stuckOn ||| BitVec.twoPow 32 n } } else s
      else if readback.getLsbD n then s
      else s.event 0x0714 []
    else s
  | none => s

/-- The test sample, at pulse end − 10 µs: every verdict that depends on pre and test (R299). -/
def State.glintTest (raw readback : BitVec 32) (s : State) : State :=
  match s.glint.slot with
  | some g =>
    if g.started && !g.tested && !g.broken && decide (g.stop - us 10 ≤ s.now) then
      let s := { s with glint.slot := some { g with tested := true } }
      let s := s.testInputs.foldl (fun t n => t.testVerdict g.code (g.pre.getD 0) raw n) s
      (List.range 32).foldl (fun t n => t.sourceVerdict readback n) s
    else s
  | none => s

def execGlintTestSample (dt : Nat) (raw readback : BitVec 32) (s : State) : Host.Outcome State Fault Refusal :=
  done ((s.elapse dt).glintTest raw readback)

/-- The condition of a glint cause on CHn (Table 10-7). -/
def State.glintCondition (cause n : Nat) (s : State) : Bool :=
  match cause with
  | 0x0711 => decide (2 ≤ s.glint.ownRun.getD n 0)
  | 0x0712 => (List.range 8).any (fun d => decide (2 ≤ s.glint.foreignRun.getD (8 * n + d) 0))
  | 0x0713 => match s.glint.slot with
    | some g => g.stuckOn.getLsbD n
    | none => false
  | _ => false

/-- A glint cause is detected: it goes into the image frozen next (R311), and the first one names its channel. Outside Run no pulses are
placed and none is found (R313). -/
def State.glintFault (cause n : Nat) (s : State) : State :=
  if s.rt.state == .run && s.glintCondition cause n then
    { s with
      glint.fault := true
      glint.faultChannel := if s.glint.faultChannel = 0xFF then n else s.glint.faultChannel
      glint.waiting := s.glint.waiting ++ [{ cause := cause, cls := .recoverable, time := s.now, data := [] }] }
  else s

def execGlintFault (dt cause ch : Nat) (s : State) : Host.Outcome State Fault Refusal := done ((s.elapse dt).glintFault cause ch)

/-- Pulse end: every source returns to its level (R297). -/
def State.glintEnd (s : State) : State :=
  match s.glint.slot with
  | some g =>
    if g.started && !g.ended && decide (g.stop ≤ s.now) then
      State.refreshDrivers [] { s with glint.slot := some { g with ended := true } }
    else s
  | none => s

def execGlintPulseEnd (dt : Nat) (s : State) : Host.Outcome State Fault Refusal := done (s.elapse dt).glintEnd

/-- Blanking ends on one test input: an unchanged raw value leaves no trace and lets a run go on with the time it still needed; a changed
one is a comparator change now (R300). -/
def Channel.unblank (now localNow filter : Nat) (raw : Bool) (c : Channel) : Channel :=
  match c.blanked with
  | none => c
  | some b =>
    let c := { c with blanked := none, raw := raw }
    if raw == b.pre then { c with run := b.run.map (fun r => { stamp := r.1, due := localNow + r.2 }) }
    else c.comparator raw now localNow filter

/-- Blanking end with the post sample: level not restored is event 0x0714 unless the pulse was interrupted (R299, R300, R314). -/
def State.glintPost (raw readback : BitVec 32) (s : State) : State :=
  match s.glint.slot with
  | some g =>
    if g.started && !g.finished && decide (g.blankEnd ≤ s.now) then
      let s := { s with glint.slot := some { g with finished := true, ended := true } }
      let s := (List.range 32).foldl (fun t n =>
        (t.holdChannel n).modCh n (Channel.unblank t.now t.localNow (filterTicks (t.chFilter n)) (raw.getLsbD n))) s
      let s := if g.broken then s else (List.range 32).foldl (fun t n =>
        if g.pulsing.getLsbD n && !t.supplyOutside n && readback.getLsbD n != g.preSrc.getLsbD n then t.event 0x0714 [] else t) s
      s.refreshDrivers []
    else s
  | none => s

def execGlintBlankingEnd (dt : Nat) (raw readback : BitVec 32) (s : State) : Host.Outcome State Fault Refusal :=
  done ((s.elapse dt).glintPost raw readback)

/-! ### Counting inputs -/

/-- Counting input n (CH28 + n). -/
def State.counter (s : State) (n : Nat) : Counter := s.counters.getD n {}

/-- A comparator change matches `CNT_EDGE`: 0x01 rising, 0x02 falling, 0x03 both. -/
def edgeMatches (edge : Nat) (level : Bool) : Bool := if level then bitOf edge 0 else bitOf edge 1

/-- A counted change (R308). An interval above 1,000,000,000 ticks lies outside the object's range, and the spec states no value: it is a
free value (log entry 10). -/
def Counter.count (now localNow : Nat) (free : BitVec 64) (c : Counter) : Counter :=
  let gap := (now - c.last).toNat
  { c with
    value := wrap32 (c.value + 1)
    period := if c.seen = 0 then 0 else if gap ≤ 1000000000 then gap else free.toNat % 2 ^ 32
    seen := satAt 2 (c.seen + 1)
    stopped := decide (c.seen = 0)
    last := now
    lastLocal := localNow }

/-- What stood at a boundary that has passed is kept for its freeze before anything later changes it (R47, R308). -/
def Counter.hold (c : Counter) : Counter :=
  { c with held := some (c.held.getD (c.value, c.last, c.period, c.stopped)) }

/-- Keep counting input n for a boundary that network time has passed: a change at the boundary itself still belongs to its image (R308). -/
def State.holdCounter (n : Nat) (s : State) : State :=
  if s.boundaryLate then { s with counters := s.counters.modify n Counter.hold } else s

/-- A counting input's pin is at `mv`: a comparator change is counted when it matches `CNT_EDGE` and lies at least 2 µs after the previous
change; a closer one sets OVERRUN and records 0x0715; none is counted while SUPPLY_LOW is 1, nor the first after it clears (R307, R309). -/
def State.countChange (n mv : Nat) (s : State) : State :=
  let k := 28 + n
  let was := (s.ch k).raw
  let level := comparatorLevel (s.ch k).mode (s.chInputType k) mv was
  let s := s.modCh k (fun c => { c with pinMv := mv, raw := level })
  if level == was || !((s.ch k).on && (s.ch k).mode == 5) || s.supplyLow k then s
  else
    let s := s.holdCounter n
    let c := s.counter n
    let early := match c.lastChange with
      | some t => decide (s.now < t + us 2)
      | none => false
    let upd (f : Counter → Counter) (s : State) : State := { s with counters := s.counters.modify n f }
    if early then
      (upd (fun c => { c with lastChange := some s.now, overrun := true }) s).eventLimited 0x0715 k (ms 1000) []
    else if c.skip then upd (fun c => { c with lastChange := some s.now, skip := false }) s
    else if edgeMatches (s.cntEdge n) level then
      let tooLong := decide (c.seen ≠ 0) && decide (1000000000 < s.now - c.last)
      let (v, s) := if tooLong then s.drawFree else (0, s)
      upd (fun c => { (c.count s.now s.localNow v) with lastChange := some s.now }) s
    else upd (fun c => { c with lastChange := some s.now }) s

def execCountingInputChange (dt n mv : Nat) (s : State) : Host.Outcome State Fault Refusal :=
  done ((s.elapse dt).countChange n mv)

/-- `CNT_TIMEOUT` has elapsed since the last counted change: the period reads 0 and STOPPED is set (R308). -/
def State.countTimeout (n : Nat) (s : State) : State :=
  let s := s.holdCounter n
  if decide ((s.counter n).seen ≠ 0) && s.passed (s.counter n).lastLocal (us (s.cntTimeout n)) then
    { s with counters := s.counters.modify n (fun c => { c with period := 0, stopped := true }) }
  else s

def execCntTimeout (dt n : Nat) (s : State) : Host.Outcome State Fault Refusal := done ((s.elapse dt).countTimeout n)

/-- The three values and STOPPED, as they stood at the boundary, enter the frozen image (R47, R308). -/
def Counter.freeze (c : Counter) : Counter :=
  let k := c.held.getD (c.value, c.last, c.period, c.stopped)
  { c with fValue := k.1, fLast := k.2.1, fPeriod := k.2.2.1, fStopped := k.2.2.2, held := none }

/-! ### Field inputs -/

/-- The pin of an input is at `mv` (R96, R266, R267): the filter runs on a change of the comparator unless the channel is off, unpowered or
blanked. -/
def State.inputChange (n mv : Nat) (s : State) : State :=
  let s := s.holdChannel n
  let c := s.ch n
  let level := comparatorLevel c.mode (s.chInputType n) mv c.raw
  let s := s.modCh n (fun c => { c with pinMv := mv })
  if level == c.raw then s
  else if c.on && c.mode == 1 && !s.supplyLow n && c.blanked.isNone then
    s.modCh n (fun c => (c.settle s.localNow).comparator level s.now s.localNow (filterTicks (s.chFilter n)))
  else s.modCh n (fun c => { c with raw := level })

def execInputComparatorChange (dt ch mv : Nat) (s : State) : Host.Outcome State Fault Refusal :=
  done ((s.elapse dt).inputChange ch mv)

/-- The pin's voltage is compared anew under the mode and Type in force (R73, R266). -/
def State.recompare (n : Nat) (s : State) : State :=
  if (s.ch n).mode = 5 then s.countChange (n - 28) (s.ch n).pinMv else s.inputChange n (s.ch n).pinMv

/-- FILTER_ELAPSED. -/
def State.filterElapsed (n : Nat) (s : State) : State :=
  let s := s.holdChannel n
  s.modCh n (Channel.settle s.localNow)

def execFilterElapsed (dt ch : Nat) (s : State) : Host.Outcome State Fault Refusal := done ((s.elapse dt).filterElapsed ch)

def execInitClear (dt ch : Nat) (s : State) : Host.Outcome State Fault Refusal :=
  let s := s.elapse dt
  done (s.modCh ch (Channel.settleInit s.localNow))

end Sys2Proof.Machine
end

