-- ==== Sys2Proof/Machine/Passes.lean ====
section
/-!
DEFINITION. Machine/Passes.lean: the AN code, the folds and the reaction to a fault of the passes, the MPU or the exchange RAM (ch. 6).
-/

namespace Sys2Proof.Machine

/-! ### The AN code (R186 to R189) -/

/-- The coded word of native value `x` under code constant `a` (R186). -/
def codeWord (a : Nat) (x : Int) : BitVec 64 := BitVec.ofInt 64 (a * x)

/-- A valid A is odd and lies between 32,769 and 65,535 (R187). -/
def codeConstantValid (a : Nat) : Bool := a % 2 == 1 && decide (32769 ≤ a) && decide (a ≤ 65535)

/-- The quotient of a coded word that passes the check of R189: divisible by A, and inside the quotient ranges of R186 taken together,
−2^31 to 2^32 − 1. -/
def codedQuotient (a : Nat) (c : BitVec 64) : Option Int :=
  let q := c.toInt / (a : Int)
  if a ≠ 0 ∧ q * a = c.toInt ∧ -(2 ^ 31) ≤ q ∧ q < 2 ^ 32 then some q else none

/-- The quotient of a coded BOOL: 0 or A (R186, R190). -/
def codedBool (a : Nat) (c : BitVec 64) : Option Bool :=
  if c = 0 then some false else if c = codeWord a 1 then some true else none

/-- The native 32 bits of a decoded quotient (R188). -/
def nativeOf (q : Int) : BitVec 32 := BitVec.ofInt 32 q

/-! ### Folds (R191) -/

/-- One fold: the 32-bit offset and the 32-bit native value, least significant bytes first, without a final inversion. -/
def foldWord (sig : BitVec 32) (offset : Nat) (value : BitVec 32) : BitVec 32 :=
  BitVec.ofNat 32 (crcFold sig.toNat (leBytes 4 offset ++ leBytes 4 value.toNat))

/-- The folds of the words a pass wrote. -/
def foldWrites (sig : BitVec 32) (writes : List (Nat × BitVec 32)) : BitVec 32 := writes.foldl (fun g w => foldWord g w.1 w.2) sig

/-- The two pass-end folds: the number of write folds of the cycle, and bits [31:0] of t_k. -/
def foldEnd (sig : BitVec 32) (count : Nat) (tag : Instant) : BitVec 32 :=
  foldWord (foldWord sig 0xFFFFFFFF (BitVec.ofNat 32 count)) 0xFFFFFFFE (BitVec.ofInt 32 tag)

/-- The window restarts (R194). -/
def State.restartWindow (s : State) : State :=
  { s with passes.sigPlain := 0xFFFFFFFF, passes.sigShadow := 0xFFFFFFFF, passes.position := 0 }

/-! ### The reaction (R198, Table 6-5) -/

/-- Steps 2, 3 and 5 of Table 6-5: the fault line at the IOS applies the safe state, discards the images not yet placed and opens every bank
switch, and the LE abandons the cycle's remaining work. R282 leaves non-safety bank switches closed under a safe state, where Table 6-5 and
R275 open every one: DEDUCED (log entry 104), Table 6-5 holds for the fault line. -/
def State.faultLine (s : State) : State :=
  let s := { s with field.faultLine := true, field.images := [], rt.passesRunning := false }
  s.iosSafeState.openAllBanks.refreshDrivers []

/-- A fault that asserts the comparator's fault line: a non-recoverable cause evaluated at the next boundary. Before release there is no
boundary: the firmware stops where it stands, until the boot watchdog expires (R235), before the seal too (DESIGN CHOICE, log entry 148). -/
def State.lineFault (cause : Nat) (data : List Byte) (s : State) : State :=
  if s.rt.cycling then (s.detectAt cause .nonRecoverable s.now data).faultLine
  else match s.boot.step with
    | .idle | .resetHeld | .lockRetry | .stopped => s
    | _ => { s with boot.step := .stopped }

/-- `SIG_STATUS` bit of a pass fault (Table 6-8). -/
def Passes.mark (cause : Nat) (p : Passes) : Passes :=
  match cause with
  | 0x0402 => { p with mismatch := true }
  | 0x0403 => { p with codedTrap := true }
  | 0x0404 => { p with disagree := true }
  | _ => { p with decodeTrap := true }

/-- DATA of the event record of a pass fault: both signature registers, `SIG_POSITION`, `FAULT_ADDRESS` and `FAULT_CYCLE` (Table 6-5,
step 6). -/
def Passes.eventData (p : Passes) : List Byte :=
  leBytes 4 p.sigPlain.toNat ++ leBytes 4 p.sigShadow.toNat ++ leBytes 1 p.position ++ leBytes 4 p.faultAddress ++ leBytes 4 p.faultCycle

/-- A pass fault: the first since release is captured (R199), its bit set, and the reaction runs (R198). -/
def State.passFault (cause address : Nat) (s : State) : State :=
  let p := s.passes.mark cause
  let p := if p.captured then p
    else { p with captured := true, faultAddress := address, faultCycle := s.rt.cycleCount }
  State.lineFault cause p.eventData { s with passes := p }

end Sys2Proof.Machine
end

