-- ==== Sys2Proof/Machine/Areas.lean ====
section
/-!
DEFINITION. Machine/Areas.lean: typed coded words and the coded operations of Table 6-2, the items of the input and output areas with their
coded twins, and the words of safety RAM and shadow RAM as the two passes reach them (ch. 6).
-/

namespace Sys2Proof.Machine

/-! ### Typed words (R186, R189) -/

/-- The integer that a native word spells. -/
def wordValue (t : WordType) (w : BitVec 32) : Int :=
  match t with
  | .signed => w.toInt
  | _ => w.toNat

/-- The valid quotient range of a type: lowest value and number of values. -/
def quotientRange : WordType → Int × Int
  | .bool => (0, 2)
  | .unsigned => (0, 4294967296)
  | .signed => (-2147483648, 4294967296)

/-- The coded word of a native word (R186). -/
def encodeWord (a : Nat) (t : WordType) (w : BitVec 32) : BitVec 64 := codeWord a (wordValue t w)

/-- The check of R189 for the type that an instruction reads: the quotient. -/
def readCoded (a : Nat) (t : WordType) (c : BitVec 64) : Option Int :=
  match codedQuotient a c with
  | some q => if (quotientRange t).1 ≤ q ∧ q < (quotientRange t).1 + (quotientRange t).2 then some q else none
  | none => none

/-! ### Operations on native and coded words (R188, Table 6-2) -/

/-- The type of an operation's result. -/
def resultType (op : LogicOp) (t : WordType) : WordType :=
  match op with
  | .eq | .ne | .lt | .le | .gt | .ge | .and | .or | .not => .bool
  | _ => t

/-- A Boolean as a native word. -/
def boolWord (b : Bool) : BitVec 32 := if b then 1 else 0

/-- The plain pass's operation. The spec does not say how a division rounds nor what a right shift of an I32 brings in: DESIGN CHOICE (log
entry 106), towards zero and the sign; a divisor of 0 and a shift of 32 or more are free values. -/
def nativeOp (op : LogicOp) (t : WordType) (const x y z : BitVec 32) : BitVec 32 :=
  let u := wordValue t x
  let v := wordValue t y
  match op with
  | .add => x + y
  | .sub => x - y
  | .mul => x * y
  | .eq => boolWord (u == v)
  | .ne => boolWord (u != v)
  | .lt => boolWord (decide (u < v))
  | .le => boolWord (decide (u ≤ v))
  | .gt => boolWord (decide (v < u))
  | .ge => boolWord (decide (v ≤ u))
  | .and | .bitAnd => x &&& y
  | .or | .bitOr => x ||| y
  | .not => 1 - x
  | .select => if x = 1 then y else z
  | .div => if y = 0 then Config.divideByZero x else BitVec.ofInt 32 (u.tdiv v)
  | .shiftLeft => if 32 ≤ y.toNat then Config.shiftBeyond x y else x <<< y.toNat
  | .shiftRight =>
    if 32 ≤ y.toNat then Config.shiftBeyond x y else if t = .signed then x.sshiftRight y.toNat else x >>> y.toNat
  | .bitXor => x ^^^ y
  | .const => const

/-- Range reduction: A·2^32 is added or subtracted until the quotient lies in the type's range. -/
def reduceRange (a : Nat) (t : WordType) (c : Int) : Int :=
  c - a * 2 ^ 32 * ((c.fdiv a - (quotientRange t).1).fdiv (2 ^ 32))

/-- The coded computation of Table 6-2 on operands that passed their check at the read. Division, shifts and bitwise operations decode,
apply the native operation and encode. -/
def codedOp (a : Nat) (op : LogicOp) (t : WordType) (const : BitVec 32) (cx cy cz : BitVec 64) : BitVec 64 :=
  let x := cx.toInt
  let y := cy.toInt
  let truth (b : Bool) : BitVec 64 := codeWord a (bit b : Nat)
  match op with
  | .add => BitVec.ofInt 64 (reduceRange a t (x + y))
  | .sub => BitVec.ofInt 64 (reduceRange a t (x - y))
  | .mul => BitVec.ofInt 64 (reduceRange a t (x * (y / a)))
  | .eq => truth (x == y)
  | .ne => truth (x != y)
  | .lt => truth (decide (x < y))
  | .le => truth (decide (x ≤ y))
  | .gt => truth (decide (y < x))
  | .ge => truth (decide (y ≤ x))
  | .and => BitVec.ofInt 64 (x * y / a)
  | .or => BitVec.ofInt 64 (x + y - x * y / a)
  | .not => BitVec.ofInt 64 (a - x)
  | .select => if x = a then cy else cz
  | .const => encodeWord a t const
  | _ => encodeWord a t (nativeOp op t const (nativeOf (x / a)) (nativeOf (y / a)) 0)

/-- The types in which an operation reads x, y and z, none where it does not read. A Select reads both of its branches: DESIGN CHOICE (log
entry 143). -/
def operandTypes (op : LogicOp) (t : WordType) : Option WordType × Option WordType × Option WordType :=
  match op with
  | .const => (none, none, none)
  | .not => (some .bool, none, none)
  | .and | .or => (some .bool, some .bool, none)
  | .select => (some .bool, some t, some t)
  | .shiftLeft | .shiftRight => (some t, some .unsigned, none)
  | _ => (some t, some t, none)

/-! ### Items of the input and output areas (R184, R195) -/

/-- Number of items of the output (true) or input area. -/
def itemCount (out : Bool) : Nat := if out then 32 else 180

/-- Item i of the input area is the high half of a timestamp, whose low half is item i − 1. -/
def isHighHalf (i : Nat) : Bool :=
  if i < 96 then i % 3 == 2 else if i < 116 then (i - 96) % 5 == 2 else (i - 116) % 8 == 7

/-- Byte offset of item i in its area: the high half of a TS64 lies 4 bytes above the low half (R186). -/
def itemPlace (out : Bool) (i : Nat) : Nat :=
  if !out && isHighHalf i then Config.itemOffset false (i - 1) + 4 else Config.itemOffset out i

/-- The item that lies at a byte offset of its area. -/
def itemAt (out : Bool) (off : Nat) : Option Nat := (List.range (itemCount out)).find? (fun i => itemPlace out i == off)

/-- Words of a connection slot lie on one of the items of its area that `declared` names (R502). -/
def slotOverlaps (declared : Nat → Bool) (consumer : Bool) (slot words : Nat) : Bool :=
  (List.range words).any (fun i => (itemAt (!consumer) (slot + 4 * i)).any declared)

/-- The item at a safety RAM byte offset: the area, true for outputs, and the index. -/
def itemOf (off : Nat) : Option (Bool × Nat) :=
  if 0xC000 ≤ off ∧ off < 0x10000 then (itemAt false (off - 0xC000)).map (fun i => (false, i))
  else if 0x10000 ≤ off ∧ off < 0x14000 then (itemAt true (off - 0x10000)).map (fun i => (true, i))
  else none

/-- Items of channel a (0) or b (1) of an analog pair: sample word, LAST, MIN, MAX, NVALID, FLAGS, the halves of TIME (Tables 11-3, 11-4). -/
def analogItem (p ab k : Nat) : Nat := 116 + 16 * p + 8 * ab + k

/-- The type of an input item. -/
def itemType (i : Nat) : WordType :=
  if i < 96 then (if i % 3 = 0 then .bool else .unsigned)
  else if i < 116 then (if (i - 96) % 5 = 4 then .bool else .unsigned)
  else if 1 ≤ (i - 116) % 8 ∧ (i - 116) % 8 ≤ 3 then .signed else .unsigned

/-- The two halves of a timestamp. -/
def halves (t : Instant) : List (BitVec 32) := [BitVec.ofNat 32 (ts64 t), BitVec.ofNat 32 (ts64 t / 2 ^ 32)]

/-- The timestamp that two halves spell. -/
def joinHalves (lo hi : BitVec 32) : Instant := (BitVec.ofNat 64 (lo.toNat + 2 ^ 32 * hi.toNat)).toInt

/-- Items of one analog channel as frozen. -/
def AnChannel.items (c : AnChannel) : List (BitVec 32) :=
  [c.fWord, BitVec.ofInt 32 c.fLast, BitVec.ofInt 32 c.fMin, BitVec.ofInt 32 c.fMax, BitVec.ofNat 32 c.fNvalid, c.fFlags.setWidth 32] ++
    halves c.fTime

/-- The frozen input image as native words. -/
def State.inputWords (s : State) : List (BitVec 32) :=
  (List.range 32).flatMap (fun n => boolWord (s.ch n).frozen :: halves (s.ch n).edgeTime) ++
    (List.range 4).flatMap (fun n =>
      let c := s.counter n
      BitVec.ofNat 32 c.fValue :: halves c.fLast ++ [BitVec.ofNat 32 c.fPeriod, boolWord c.fStopped]) ++
    (List.range 4).flatMap (fun p =>
      let q := s.analog.pairs.getD p {}
      q.a.items ++ q.b.items)

/-- Native words as the encoder writes them. -/
def encodeInputs (a : Nat) (ws : List (BitVec 32)) : List (BitVec 64) := ws.mapIdx (fun i w => encodeWord a (itemType i) w)

/-- Step 2 of Table 1-4: the IOS writes the frozen image to both input areas (R184). -/
def State.writeInputs (s : State) : State :=
  { s with le.inputs := s.inputWords, le.inputsCoded := encodeInputs s.images.codeConstant s.inputWords }

/-- The instants of the frozen image move with a step of network time, in both areas; 0 stands for none and stays (R103). -/
def State.moveInputs (d : Int) (s : State) : State :=
  let word (i : Nat) : BitVec 32 := s.le.inputs.getD i 0
  let stamp (i : Nat) : Instant := joinHalves (word i) (word (i + 1))
  let after (i : Nat) : List (BitVec 32) := if stamp i = 0 then halves 0 else halves (stamp i + d)
  let at_ (i : Nat) (w : BitVec 32) : BitVec 32 :=
    if isHighHalf i then (after (i - 1)).getD 1 0 else if isHighHalf (i + 1) then (after i).getD 0 0 else w
  { s with
    le.inputs := s.le.inputs.mapIdx at_
    le.inputsCoded := s.le.inputsCoded.mapIdx (fun i c =>
      if isHighHalf i || isHighHalf (i + 1) then encodeWord s.images.codeConstant .unsigned (at_ i (word i)) else c) }

/-- The native input item i. -/
def State.item (s : State) (i : Nat) : BitVec 32 := s.le.inputs.getD i 0

/-- The native items that coded twins spell; one that fails its check spells none that is ever used. -/
def decodeInputs (a : Nat) (cs : List (BitVec 64)) : List (BitVec 32) :=
  cs.mapIdx (fun i c => nativeOf ((readCoded a (itemType i) c).getD 0))

/-- The first of the items read whose coded twin fails its check. -/
def State.badInput (s : State) (read : List Nat) : Option Nat :=
  read.find? (fun i => (readCoded s.images.codeConstant (itemType i) (s.le.inputsCoded.getD i 0)).isNone)

/-! ### Words of safety RAM and shadow RAM (R185) -/

/-- The native word at a safety RAM byte offset. -/
def State.nativeWord (s : State) (off : Nat) : BitVec 32 :=
  match itemOf off with
  | some (true, i) => s.le.outputs.getD i 0
  | some (false, i) => s.item i
  | none => BitVec.ofNat 32 (leAt (cellBytes 0 s.le.ram (0x20000000 + off) 4) 0 4)

/-- Its coded twin. -/
def State.codedWord (s : State) (off : Nat) : BitVec 64 :=
  match itemOf off with
  | some (true, i) => s.le.outputsCoded.getD i 0
  | some (false, i) => s.le.inputsCoded.getD i 0
  | none => BitVec.ofNat 64 (leAt (cellBytes 0 s.le.ram (0x21000000 + 2 * off) 8) 0 8)

/-- Write a native word. -/
def State.storeNative (s : State) (w : Nat × BitVec 32) : State :=
  match itemOf w.1 with
  | some (true, i) => { s with le.outputs := s.le.outputs.set i w.2 }
  | some (false, i) => { s with le.inputs := s.le.inputs.set i w.2 }
  | none =>
    if w.1 < 0x60000 then { s with le.ram := cellWrite 0 (0x20000000 + w.1) (leBytes 4 w.2.toNat) s.le.ram } else s

/-- Write a coded twin. -/
def State.storeCoded (s : State) (w : Nat × BitVec 64) : State :=
  match itemOf w.1 with
  | some (true, i) => { s with le.outputsCoded := s.le.outputsCoded.set i w.2 }
  | some (false, i) => { s with le.inputsCoded := s.le.inputsCoded.set i w.2 }
  | none =>
    if w.1 < 0x60000 then { s with le.ram := cellWrite 0 (0x21000000 + 2 * w.1) (leBytes 8 w.2.toNat) s.le.ram } else s

/-- An LE address in the input or output area: the safety RAM offset of its word, and the byte in the word or twin; `true` for a twin. -/
def areaByte (addr : Nat) : Option (Bool × Nat × Nat) :=
  if 0x2000C000 ≤ addr ∧ addr < 0x20014000 then some (false, (addr - 0x20000000) / 4 * 4, addr % 4)
  else if 0x21018000 ≤ addr ∧ addr < 0x21028000 then some (true, (addr - 0x21000000) / 8 * 4, addr % 8)
  else none

/-- An address of the event log RAM (Table 7-1). -/
def inEventLog (addr : Nat) : Bool := decide (0x22000000 ≤ addr) && decide (addr < 0x22004000)

/-- Slot of the ring and offset in it at an address of the event log RAM: slot i is the i-th row that is not masked, and the rest of the RAM
holds the ledger working copy (R171, R582; DESIGN CHOICE, log entry 108). -/
def State.ringPlace (s : State) (addr : Nat) : Option (Nat × Nat) :=
  let row := (addr - 0x22000000) / 64
  let slot := row - (s.otp.maskedLog.filter (fun m => decide (m < row))).length
  if inEventLog addr && !s.otp.maskedLog.contains row && decide (slot < s.logSlots) then some (slot, addr % 64) else none

/-- The 64 bytes of a slot at row address `base`: its record, and what the RAM holds beyond it. -/
def State.slotBytes (s : State) (slot base : Nat) : List Byte :=
  let rest := cellBytes 0 s.le.ram base 64
  match s.ledger.ring.find? (fun r => r.slot == slot) with
  | some r => r.bytes.take 64 ++ rest.drop r.bytes.length
  | none => rest

/-- Write a byte of a slot: the record it holds is then the one its bytes spell. -/
def State.putSlotByte (slot off base : Nat) (b : Byte) (s : State) : State :=
  let bytes := (s.slotBytes slot base).set off b
  { s with
    le.ram := cellWrite 0 base bytes s.le.ram
    ledger.ring := s.ledger.ring.map (fun r =>
      if r.slot = slot then { parseEvent bytes with waiting := r.waiting, slot := slot } else r) }

/-- An address whose bytes State holds elsewhere than in `le.ram`: those of an input or output area and of the event log. -/
def heldElsewhere (addr : Nat) : Bool := (areaByte addr).isSome || inEventLog addr

/-- The byte at an LE address of safety RAM, shadow RAM or another RAM of Table 7-1. -/
def State.ramByte (s : State) (addr : Nat) : Byte :=
  match areaByte addr with
  | some (false, off, k) => (leBytes 4 (s.nativeWord off).toNat).getD k 0
  | some (true, off, k) => (leBytes 8 (s.codedWord off).toNat).getD k 0
  | none => match s.ringPlace addr with
    | some (slot, off) => (s.slotBytes slot (addr - off)).getD off 0
    | none => cellRead 0 s.le.ram addr

/-- Write one byte of an input or output area. -/
def State.putAreaByte (coded : Bool) (off k : Nat) (b : Byte) (s : State) : State :=
  if coded then s.storeCoded (off, BitVec.ofNat 64 (ofLe ((leBytes 8 (s.codedWord off).toNat).set k b)))
  else s.storeNative (off, BitVec.ofNat 32 (ofLe ((leBytes 4 (s.nativeWord off).toNat).set k b)))

/-- Write bytes at an LE address: those of an input or output area word by word, since items and connection slots lie there. -/
def State.putRam (addr : Nat) (bytes : List Byte) (s : State) : State :=
  if !heldElsewhere addr && !heldElsewhere (addr + bytes.length - 1) then
    { s with le.ram := cellWrite 0 addr bytes s.le.ram }
  else
    (bytes.zipIdx addr).foldl (fun t b => match areaByte b.2 with
      | some (coded, off, k) => t.putAreaByte coded off k b.1
      | none => match t.ringPlace b.2 with
        | some (slot, off) => t.putSlotByte slot off (b.2 - off) b.1
        | none => { t with le.ram := cellWrite 0 b.2 [b.1] t.le.ram }) s

/-- The `n` bytes at an LE address of RAM. -/
def State.ramBytes (s : State) (addr n : Nat) : List Byte :=
  if !heldElsewhere addr && !heldElsewhere (addr + n - 1) then cellBytes 0 s.le.ram addr n
  else (List.range n).map (fun i => s.ramByte (addr + i))

end Sys2Proof.Machine
end

