-- ==== Sys2Proof/Machine/Fuses.lean ====
section
/-!
DEFINITION. Machine/Fuses.lean: the fuse array, its regions, digests and the Lifecycle region (R147 to R159), repair entries (R168) and the
boot read with its fallbacks (R123, R149, R154, R170, R171).
-/

namespace Sys2Proof.Machine

/-! ### The array (R147) -/

/-- The logical bits: the majority of three fuses. -/
def Otp.logical (o : Otp) : BitVec 4096 := (o.bank0 &&& o.bank1) ||| (o.bank0 &&& o.bank2) ||| (o.bank1 &&& o.bank2)

/-- Fuse `3·n + b` is that of logical bit `n` in bank `b`: the order in which fuses are burned. -/
def Otp.fuse (o : Otp) (f : Nat) : Bool :=
  match f % 3 with
  | 0 => o.bank0.getLsbD (f / 3)
  | 1 => o.bank1.getLsbD (f / 3)
  | _ => o.bank2.getLsbD (f / 3)

/-- Set one bit of a bank. -/
def putBit (n : Nat) (b : Bool) (v : BitVec 4096) : BitVec 4096 :=
  if b then v ||| BitVec.twoPow 4096 n else v &&& ~~~(BitVec.twoPow 4096 n)

/-- What the sense amplifiers read of one fuse (R148). -/
def Otp.putFuse (f : Nat) (b : Bool) (o : Otp) : Otp :=
  match f % 3 with
  | 0 => { o with bank0 := putBit (f / 3) b o.bank0 }
  | 1 => { o with bank1 := putBit (f / 3) b o.bank1 }
  | _ => { o with bank2 := putBit (f / 3) b o.bank2 }

/-- Burn one fuse wholly: it never returns (R147). -/
def Otp.burnFuse (f : Nat) (o : Otp) : Otp := { o.putFuse f true with unstable := o.unstable.filter (· != f) }

/-- The array is sensed at the normal margin: a fuse whose last pulse was cut short reads as a free value (R176, log entry 110). -/
def State.senseFuses (s : State) : State :=
  s.otp.unstable.foldl (fun t f =>
    let (v, t) := t.drawFree
    { t with otp := t.otp.putFuse f (v.getLsbD 0) }) s

/-- Number of ones among the low `n` bits. -/
def popCount (n v : Nat) : Nat := (List.range n).foldl (fun c i => if v.testBit i then c + 1 else c) 0

/-- Logical bits whose three fuses do not all agree (R149). -/
def Otp.disagreeing (o : Otp) : Nat := popCount 4096 ((o.bank0 ^^^ o.bank1) ||| (o.bank0 ^^^ o.bank2)).toNat

/-- `len` logical bits from bit `lo`. -/
def Otp.bits (o : Otp) (lo len : Nat) : Nat := o.logical.toNat >>> lo % 2 ^ len

/-! ### Regions and sections (Table 5-2) -/

/-- Where a section lies: its region code, base of its content, content bits, base of its digest field or half, and its region. -/
structure SectionMap where
  code : Nat
  base : Nat
  size : Nat
  digest : Nat
  /-- 64 for a one-section region, 32 for a half -/
  digestBits : Nat
  /-- the lower half, computed with the region code XOR 0x80 -/
  lower : Bool
  regionBase : Nat
  regionSize : Nat
deriving DecidableEq, Repr

/-- Table 5-2. -/
def sectionMap : OtpSection → SectionMap
  | .identity => ⟨1, 0, 448, 448, 64, false, 0, 512⟩
  | .trim => ⟨2, 512, 448, 960, 64, false, 512, 512⟩
  | .repairT => ⟨3, 1024, 512, 2016, 32, false, 1024, 1024⟩
  | .repairR => ⟨3, 1536, 448, 1984, 32, true, 1024, 1024⟩
  | .lifecycle => ⟨4, 2048, 64, 2112, 64, false, 2048, 128⟩
  | .keysFactory => ⟨5, 2176, 448, 3168, 32, false, 2176, 1024⟩
  | .keysOem => ⟨5, 2624, 512, 3136, 32, true, 2176, 1024⟩
  | .protection => ⟨6, 3200, 448, 3648, 64, false, 3200, 512⟩
  | .user => ⟨7, 3712, 320, 4032, 64, false, 3712, 384⟩

/-- The section a select code names. -/
def sectionOfSelect (code : Nat) : Option OtpSection :=
  match code with
  | 0x10 => some .identity
  | 0x20 => some .trim
  | 0x31 => some .repairT
  | 0x32 => some .repairR
  | 0x51 => some .keysFactory
  | 0x52 => some .keysOem
  | 0x60 => some .protection
  | 0x70 => some .user
  | _ => none

/-- Position of a section's status in `OTP_REGION_STATUS` (Table 5-15). -/
def statusIndex : OtpSection → Nat
  | .identity => 0 | .trim => 1 | .repairT => 2 | .repairR => 3 | .lifecycle => 4 | .keysFactory => 5 | .keysOem => 6
  | .protection => 7 | .user => 8

/-- Content of a section. -/
def Otp.content (o : Otp) (sec : OtpSection) : Nat := o.bits (sectionMap sec).base (sectionMap sec).size

/-- Digest field or half of a section. -/
def Otp.digestField (o : Otp) (sec : OtpSection) : Nat := o.bits (sectionMap sec).digest (sectionMap sec).digestBits

/-- A computed half, with the substitutions of R153. -/
def digestHalf (code size content : Nat) : Nat :=
  let c := crc32c (leBytes 1 code ++ leBytes (size / 8) content)
  if c = 0 then 1 else if c = 0xFFFFFFFF then 0xFFFFFFFE else c

/-- The digest of a section's content (R152). -/
def digestOf (sec : OtpSection) (content : Nat) : Nat :=
  let m := sectionMap sec
  if m.digestBits = 64 then 2 ^ 32 * digestHalf m.code m.size content + digestHalf (m.code ^^^ 0x80) m.size content
  else if m.lower then digestHalf (m.code ^^^ 0x80) m.size content
  else digestHalf m.code m.size content

/-- The damage marker in a digest field (R153). -/
def hasMarker (sec : OtpSection) (d : Nat) : Bool :=
  d % 2 ^ 32 == 0xFFFFFFFF || ((sectionMap sec).digestBits == 64 && d / 2 ^ 32 == 0xFFFFFFFF)

/-! ### Row repair (R168, R170) -/

/-- Rows and spare rows of a repairable memory (Table 5-11). -/
def repairRows (mem : Nat) : Option (Nat × Nat) :=
  match mem with
  | 1 => some (6144, 8)
  | 3 => some (256, 2)
  | 4 => some (12288, 16)
  | 5 => some (16384, 16)
  | 6 => some (1024, 4)
  | 7 => some (2048, 4)
  | _ => none

/-- MEMORY, ROW and SPARE of an entry (Table 5-10). -/
def entryMemory (e : Nat) : Nat := bitsAt e 30 27
def entryRow (e : Nat) : Nat := bitsAt e 26 12
def entrySpare (e : Nat) : Nat := bitsAt e 11 8

/-- CHECK: the inverse of the XOR of the upper three bytes. -/
def entryCheck (e : Nat) : Nat := 0xFF ^^^ (bitsAt e 31 24 ^^^ bitsAt e 23 16 ^^^ bitsAt e 15 8)

/-- An entry is valid (R168). -/
def entryValid (e : Nat) : Bool :=
  bitOf e 31 && bitsAt e 7 0 == entryCheck e &&
    (match repairRows (entryMemory e) with
    | some (rows, spares) => decide (entryRow e < rows) && decide (entrySpare e < spares)
    | none => false)

/-- Repair entry `i` of 0 to 29 as burned. -/
def Otp.repairEntry (o : Otp) (i : Nat) : Nat := o.bits (1024 + 32 * i) 32

/-- Apply entries in index order: those applied, and how many were skipped as invalid or conflicting (R170). -/
def applyEntries (es : List Nat) : List Nat × Nat :=
  es.foldl (fun acc e =>
    if !bitOf e 31 then acc
    else if entryValid e && !acc.1.any (fun a => entryMemory a == entryMemory e &&
        (entryRow a == entryRow e || entrySpare a == entrySpare e)) then (acc.1 ++ [e], acc.2)
    else (acc.1, acc.2 + 1)) ([], 0)

/-- Memory and row of a BIST failure record; a colour tag belongs to its safety RAM row (Table 4-8, R169). -/
def failurePlace (r : BitVec 64) : Nat × Nat :=
  let m := bitsAt r.toNat 59 56
  (if m = 2 then 1 else m, bitsAt r.toNat 55 32 / 64)

/-- Rows masked by the Repair fallback: memory and row, each once (R171). -/
def Otp.maskedRows (o : Otp) : List (Nat × Nat) := (o.masked.map (fun e => (entryMemory e.toNat, entryRow e.toNat))).dedup

/-- BIST meets a failing cell: a row covered by an applied entry is tested in its replacement, and a masked row is not tested (R129, R167,
R171). Bits [13:0] of a failure as BIST finds it, reserved in its record, name the spare row that holds the cell plus 1, or 0 for a cell of
the row itself. -/
def Otp.tested (entries : List Nat) (r : BitVec 64) (o : Otp) : Bool :=
  let p := failurePlace r
  match entries.find? (fun e => entryMemory e == p.1 && entryRow e == p.2) with
  | some e => r.toNat % 2 ^ 14 == entrySpare e + 1
  | none => r.toNat % 2 ^ 14 == 0 && !o.maskedRows.contains p

/-! ### The Lifecycle region (R155, R156) -/

/-- Item field `i`: ADV_TESTED to ADV_RETIRED are 0 to 4, DEBUG_DISABLE is 5. -/
def lcItem (v i : Nat) : Nat := bitsAt v (8 * i + 7) (8 * i)

/-- Digest pattern of item `i`. -/
def lcPattern (v i : Nat) : Nat := bitsAt v (64 + 10 * i + 9) (64 + 10 * i)

/-- Item `i` is wholly burned. -/
def lcBurned (v i : Nat) : Bool := lcItem v i == 0xFF && lcPattern v i == 0x3FF

/-- Item `i` is wholly unburned. -/
def lcBlank (v i : Nat) : Bool := lcItem v i == 0 && lcPattern v i == 0

/-- ADV fields burned without a gap from ADV_TESTED. -/
def lcCount (v : Nat) : Nat := ((List.range 5).takeWhile (lcBurned v)).length

/-- What the Lifecycle region says: valid with k ADV fields, INCOMPLETE with a pending item, or FAILED. -/
inductive Lifecycle where
  | valid (k : Nat) (debugDisabled : Bool)
  | incomplete (item : Nat)
  | failed
deriving DecidableEq, Repr

/-- Read the 128 bits of the region (R156). -/
def readLifecycle (v : Nat) : Lifecycle :=
  let reserved := bitsAt v 63 48 == 0 && bitsAt v 127 124 == 0
  let partialItems := (List.range 6).filter (fun i => !lcBurned v i && !lcBlank v i)
  let k := lcCount v
  let blankFrom (n : Nat) : Bool := (List.range 5).all (fun i => decide (i < n) || lcBlank v i)
  if !reserved then .failed
  else match partialItems with
    | [] => if blankFrom k then .valid k (lcBurned v 5) else .failed
    | [i] =>
      if i = 5 then (if blankFrom k then .incomplete 5 else .failed)
      else if i = k ∧ blankFrom (k + 1) = true then .incomplete i
      else .failed
    | _ => .failed

/-- The Lifecycle region as burned. -/
def Otp.lifecycleRegion (o : Otp) : Lifecycle := readLifecycle (o.bits 2048 128)

/-- The region is valid (R156). -/
def Otp.regionValid (o : Otp) : Bool := match o.lifecycleRegion with | .valid _ _ => true | _ => false

/-- DEBUG_DISABLE is burned, or the Lifecycle fallback is in force (Table 5-14). -/
def Otp.debugOff (o : Otp) : Bool := o.debugDisabled || lcBurned (o.bits 2048 128) 5

/-! ### Section status (R154, R159) -/

/-- A digest is required of the section in lifecycle state `lc` (Table 5-7). -/
def digestRequired (o : Otp) (lc : Nat) : OtpSection → Bool
  | .identity | .keysFactory => decide (2 ≤ lc)
  | .trim | .repairT | .protection => decide (3 ≤ lc)
  | .repairR => decide (5 ≤ lc) && (List.range 14).any (fun i => bitOf (o.repairEntry (16 + i)) 31)
  | .keysOem => decide (4 ≤ lc)
  | .user => false
  | .lifecycle => true

/-- Status of a section in lifecycle state `lc` (Table 5-4). -/
def Otp.status (o : Otp) (lc : Nat) (sec : OtpSection) : Nat :=
  if sec = .lifecycle then
    match o.lifecycleRegion with
    | .valid k d => if k = 0 ∧ d = false then 0 else 2
    | .incomplete _ => 5
    | .failed => 3
  else
    let d := o.digestField sec
    let c := o.content sec
    if hasMarker sec d then 4
    else if d = 0 then (if digestRequired o lc sec then 3 else if c = 0 then 0 else 1)
    else if d = digestOf sec c then 2
    else 3

/-- Sections in the order of Table 5-15. -/
def otpSections : List OtpSection :=
  [.identity, .trim, .repairT, .repairR, .lifecycle, .keysFactory, .keysOem, .protection, .user]

/-- `OTP_REGION_STATUS` in lifecycle state `lc`. -/
def Otp.statusWord (o : Otp) (lc : Nat) : BitVec 64 :=
  BitVec.ofNat 64 ((otpSections.map (fun sec => o.status lc sec * 16 ^ statusIndex sec)).foldl (· + ·) 0)

/-- Status of a section as `OTP_REGION_STATUS` reports it. -/
def Otp.reported (o : Otp) (sec : OtpSection) : Nat := bitsAt o.regionStatus.toNat (4 * statusIndex sec + 3) (4 * statusIndex sec)

/-- The section's region has an integrity failure by this section (R154). -/
def Otp.fails (o : Otp) (lc : Nat) (sec : OtpSection) : Bool := o.status lc sec == 3 || o.status lc sec == 4

/-- `LIFECYCLE_STATE` of the fuses: of a valid region, else the fallback Field (Table 5-12). -/
def Otp.lifecycleState (o : Otp) : Nat :=
  match o.lifecycleRegion with
  | .valid k _ => k + 1
  | _ => 4

/-! ### Contents (Table 5-3) -/

/-- The upper 16 bits of the CRC-32C of a key's 32 bytes, 0 for a BLANK section (R151). -/
def keyPrint (status content : Nat) : Nat := if status = 0 then 0 else crc32c (leBytes 32 content) / 2 ^ 16

/-- The Trim content as the unit uses it: a trial copy, else what the boot read loaded; none in the fallback, which lasts until the next
start (R167, R171). -/
def Otp.trimInUse (o : Otp) : Option Nat :=
  match o.shadow with
  | some (0x20, v) => some (v.toNat % 2 ^ 448)
  | _ => o.trim.map (fun t => t.toNat)

/-- `RC_TRIM` in use, 0x80 without a Trim region. -/
def Otp.rcTrim (o : Otp) : Nat := match o.trimInUse with | some t => t % 256 | none => 0x80

/-- `RAIL_TRIM` in use; the fallback is mid-scale, read as 0x8000 of the 16 bits (R171; DEDUCED, log entry 109). -/
def Otp.railTrim (o : Otp) : Nat := match o.trimInUse with | some t => t / 2 ^ 264 % 2 ^ 16 | none => 0x8000

/-! ### The boot read (R123, R149, R171) -/

/-- A cause found in Boot: recorded, and where it is recoverable it blocks Hold → Run from the start (R40). -/
def State.bootCause (cause : Nat) (recoverable : Bool) (s : State) : State :=
  let s := s.event cause []
  if recoverable then s.raise cause else s

/-- `bootCause` where a condition holds. -/
def State.bootCauseIf (b : Bool) (cause : Nat) (recoverable : Bool) (s : State) : State :=
  if b then s.bootCause cause recoverable else s

/-- Every masked row lies in safety RAM or shadow RAM (Table 5-12). -/
def maskedInSafety (es : List (BitVec 32)) : Bool := es.all (fun e => entryMemory e.toNat == 1 || entryMemory e.toNat == 4)

/-- OTP read and digest checks in the order of Table 4-4, each region's fallback, and the repair entries of step 11. DESIGN CHOICE:
`USER_VALID` of a section that is not finalised is 1 (log entry 140), and `KEY_FINGERPRINT` is that of this reading (log entry 141). -/
def State.otpRead (s : State) : State :=
  let s := s.senseFuses
  let o := s.otp
  let lc := o.lifecycleState
  let (valid, incomplete, disabled) := match o.lifecycleRegion with
    | .valid _ d => (true, false, d)
    | .incomplete _ => (false, true, true)
    | .failed => (false, false, true)
  let variant := o.bits 0 8
  let identityBad := o.fails lc .identity || !(variant == 0x41 || variant == 0x44 || variant == 0)
  let repairBad := o.fails lc .repairT || o.fails lc .repairR
  let entries := (List.range 30).map o.repairEntry
  let (applied, skipped) := if repairBad then ([], 0) else applyEntries entries
  let masked := if repairBad then (entries.filter entryValid).map (BitVec.ofNat 32) else []
  let keysBad := o.fails lc .keysFactory || o.fails lc .keysOem
  let protectionBad := o.fails lc .protection
  let userBad := o.fails lc .user
  let trimBad := o.fails lc .trim
  let dis := o.disagreeing
  let s := { s with
    otp.regionStatus := o.statusWord lc
    otp.disagree := dis
    otp.lifecycle := lc
    otp.lcValid := valid
    otp.lcIncomplete := incomplete
    otp.debugDisabled := disabled
    otp.applied := applied.map (BitVec.ofNat 32)
    otp.masked := masked
    otp.maskedLog := (masked.filterMap (fun (e : BitVec 32) =>
      if entryMemory e.toNat = 3 then some (entryRow e.toNat) else none)).dedup
    otp.trim := if trimBad then none else some (BitVec.ofNat 448 (o.content .trim))
    otp.keyFingerprint := BitVec.ofNat 32
      (2 ^ 16 * keyPrint (o.status lc .keysFactory) (o.content .keysFactory) + keyPrint (o.status lc .keysOem) (o.content .keysOem))
    otp.buildDay := if identityBad then 0 else o.bits 48 16
    otp.userValid := !userBad
    otp.keysFallback := keysBad
    otp.identityFallback := identityBad
    otp.protectionFallback := protectionBad
    boot.variant := if identityBad then 0 else variant
    boot.hardwareIssue := if identityBad then 0 else o.bits 8 8
    boot.serial := if identityBad then 0 else o.bits 16 32
    boot.identityStatus := bit identityBad
    boot.uid := if identityBad then 0 else o.bits 64 128 }
  let s := { s with
    clock.trimValid := !trimBad
    clock.rcTrim := s.otp.rcTrim
    power.railTrim := s.otp.railTrim }
  let s := s.bootCauseIf (!valid) 0x0C01 false
  let s := s.bootCauseIf trimBad 0x0203 true
  let s := s.bootCauseIf identityBad 0x0C02 true
  let s := s.bootCauseIf repairBad 0x0C03 (!maskedInSafety masked)
  let s := s.bootCauseIf protectionBad 0x0C05 true
  let s := s.bootCauseIf keysBad 0x0C04 true
  let s := s.bootCauseIf userBad 0x0C06 false
  let s := s.bootCauseIf (decide (64 < dis)) 0x0C09 false
  (List.range skipped).foldl (fun t _ => t.event 0x0C0A []) s

/-! ### Masked rows (R171, R172) -/

/-- Row pairs of R185 that masked rows remove: a safety RAM row, or the pair a shadow RAM row belongs to. -/
def Otp.maskedPairs (o : Otp) : List Nat :=
  (o.masked.filterMap (fun e =>
    let e := e.toNat
    if entryMemory e = 1 then some (entryRow e) else if entryMemory e = 4 then some (entryRow e / 2) else none)).dedup

/-- `SAFETY_RAM_AVAILABLE`. -/
def Otp.safetyRam (o : Otp) : Nat := 393216 - 64 * o.maskedPairs.length

/-- `SHADOW_RAM_AVAILABLE`. -/
def Otp.shadowRam (o : Otp) : Nat := 786432 - 128 * o.maskedPairs.length

/-! ### Burning (R164 to R166) -/

/-- Logical bits from `lo` at which `v` has a one, ascending. -/
def onesFrom (lo len v : Nat) : List Nat := ((List.range len).filter (fun i => v.testBit i)).map (lo + ·)

/-- Fuses of the bits that still read 0, in burning order. -/
def Otp.toBurn (o : Otp) (bits : List Nat) : List Nat :=
  (bits.flatMap (fun n => [3 * n, 3 * n + 1, 3 * n + 2])).filter (fun f => !o.fuse f)

/-- Burn logical bits in order; `unburned` fuses still read 0 after eight pulses, and two of one bit stop the command (R164). The count
is of the fuses processed. DESIGN CHOICE (log entry 111): R164 does not say which fuses it processes; the model counts those that had to be
burned, not those that the strict verify reads. -/
def burnBits (unburned : List Nat) : List Nat → Otp → Nat → Otp × Nat × Bool
  | [], o, count => (o, count, false)
  | n :: rest, o, count =>
    let fs := o.toBurn [n]
    let o := (fs.filter (fun f => !unburned.contains f)).foldl (fun x f => x.burnFuse f) o
    if 2 ≤ (fs.filter unburned.contains).length then (o, count + fs.length, true)
    else burnBits unburned rest o (count + fs.length)

/-- What a running command burns, bit by bit: the staged content, then the digest half (R165), or a Lifecycle item's field, then its
pattern (R166). -/
def Otp.planned (o : Otp) (run : OtpRun) : List Nat :=
  let m := sectionMap run.sel
  match run.code with
  | 1 => onesFrom m.base m.size o.staging.toNat
  | 2 => onesFrom m.base m.size o.staging.toNat ++ onesFrom m.digest m.digestBits (digestOf run.sel (o.staging.toNat % 2 ^ m.size))
  | _ => onesFrom (2048 + 8 * run.item) 8 0xFF ++ onesFrom (2048 + 64 + 10 * run.item) 10 0x3FF

/-- Bits of the damage marker of a section (R165). -/
def markerBits (sec : OtpSection) : List Nat :=
  let m := sectionMap sec
  onesFrom m.digest m.digestBits (2 ^ m.digestBits - 1)

/-- The fuses that a running command comes to burn, in order: those planned, then, in a `FINALISE` whose strict verify fails, those of the
damage marker (R165). -/
def Otp.burnList (o : Otp) (run : OtpRun) : List Nat :=
  let fs := o.toBurn (o.planned run)
  if run.code = 2 then fs ++ (o.toBurn (markerBits run.sel)).filter (fun f => !fs.contains f) else fs

/-- Ticks that the pulses of a fuse take: one to eight, each of 50 µs with a read of 10 µs (R164). -/
def fuseTicks (f : Nat) : Nat := us 60 * (1 + Config.fusePulses f % 8)

/-- Fuses of a list that are processed after `t` ticks of pulses. -/
def fusesDone : List Nat → Nat → Nat
  | [], _ => 0
  | f :: r, t => if fuseTicks f ≤ t then 1 + fusesDone r (t - fuseTicks f) else 0

/-- Ticks in which the pulses of a command have run: no pulse starts while the gate is closed (R175). -/
def State.burnTicks (run : OtpRun) (s : State) : Nat := if s.power.gateClosed then run.ran else run.ran + (s.localNow - run.since)

/-- `OTP_OP_PROGRESS` while a command runs: the fuses processed so far (R164). The strict verify of a `FINALISE`, 100 µs a fuse, lies between
the planned fuses and those of the marker, which are burned where it fails (R165). -/
def State.burnProgress (s : State) : Nat :=
  match s.otp.running with
  | none => s.otp.progress
  | some run =>
    let first := s.otp.toBurn (s.otp.planned run)
    let t := s.burnTicks run
    let before := (first.map fuseTicks).sum + us 100 * (3 * (sectionMap run.sel).regionSize)
    fusesDone first t +
      (if Config.verifyFails (statusIndex run.sel) then fusesDone ((s.otp.burnList run).drop first.length) (t - before) else 0)

/-- The pulses of a command stop: the one in progress completes within its 60 µs (R62, R175). -/
def OtpRun.pause (now : Nat) (run : OtpRun) : OtpRun := { run with ran := (run.ran + (now - run.since) + us 60 - 1) / us 60 * us 60 }

/-- They go on with the next pulse. -/
def OtpRun.resume (now : Nat) (run : OtpRun) : OtpRun := { run with since := now }

/-- A command ends early: fuses processed so far stay burned (R176, R179). A reset can cut the pulse of the next one short, and that fuse
can then read differently on repeated reads; whether it does is a free value. -/
def State.abortBurn (cut : Bool) (s : State) : State :=
  match s.otp.running with
  | none => s
  | some run =>
    let (v, s) := s.drawFree
    let fs := s.otp.burnList run
    let n := s.burnProgress
    let o := (fs.take n).foldl (fun x f => x.burnFuse f) s.otp
    let next := if cut && v.getLsbD 0 then (fs.drop n).take 1 else []
    { s with otp := { o with running := none, opStatus := 0x8A, progress := n, unstable := next ++ o.unstable.filter (fun f => !next.contains f) } }

end Sys2Proof.Machine
end

