-- ==== Sys2Proof/Machine/Store.lean ====
section
/-!
DEFINITION. Machine/Store.lean: the non-volatile store (ch. 14): sector headers, records, programming, the erase ledger, compaction and the
erase budget. Start-up recovery is in Recovery.lean.
-/

namespace Sys2Proof.Machine

/-! ### Areas (Table 14-2, Table 14-7) -/

/-- AREA code. -/
def areaCode : Area → Nat | .config => 1 | .event => 2 | .ledger => 3

/-- First sector of an area. -/
def areaFirst : Area → Nat | .config => 0 | .event => 32 | .ledger => 112

/-- Number of sectors of an area. -/
def areaCount : Area → Nat | .config => 32 | .event => 80 | .ledger => 16

/-- Minimum usable sectors of an area. -/
def areaMin : Area → Nat | .config => 8 | .event => 8 | .ledger => 4

/-- Credit cap of an area. -/
def areaCap : Area → Int | .config => 2000 | .event => 5000 | .ledger => 1000

/-- Accrual period of an area in local ticks. -/
def areaPeriod : Area → Nat | .config => 24650000000 | .event => 9860000000 | .ledger => 49310000000

/-- The area of a sector. -/
def areaOfSector (sec : Nat) : Area := if sec < 32 then .config else if sec < 112 then .event else .ledger

/-- Where an area stands. -/
def Store.areaState (st : Store) : Area → AreaState
  | .config => st.config | .event => st.event | .ledger => st.ledgerArea

/-- Change where an area stands. -/
def Store.modArea (a : Area) (f : AreaState → AreaState) (st : Store) : Store :=
  match a with
  | .config => { st with config := f st.config }
  | .event => { st with event := f st.event }
  | .ledger => { st with ledgerArea := f st.ledgerArea }

/-! ### Sector headers (Table 14-3) -/

/-- A sector header. -/
def headerBytes (area : Area) (erases seq : Nat) : List Byte :=
  let h := leBytes 4 0x5C7A0E31 ++ leBytes 1 (areaCode area) ++ leBytes 1 1 ++ leBytes 2 0 ++ leBytes 4 erases ++ leBytes 4 seq ++
    List.replicate 12 0
  h ++ leBytes 4 (crc32c h)

/-- ERASE_COUNT and SECTOR_SEQ of a valid header (R400). -/
def readHeader (sec : Nat) (h : List Byte) : Option (Nat × Nat) :=
  if leAt h 0 4 = 0x5C7A0E31 ∧ leAt h 4 1 = areaCode (areaOfSector sec) ∧ leAt h 5 1 = 1 ∧ leAt h 0x1C 4 = crc32c (h.take 0x1C) then
    some (leAt h 8 4, leAt h 0xC 4)
  else none

/-- The header of a sector as it stands. -/
def Store.header (st : Store) (sec : Nat) : Option (Nat × Nat) :=
  readHeader sec (cellBytes erasedByte st.array (4096 * sec) 32)

/-- Erase count of a sector, 0 without a valid header. -/
def Store.eraseCount (st : Store) (sec : Nat) : Nat := match st.header sec with | some h => h.1 | none => 0

/-- Kinds of R400; blocked and retired sectors are known apart. -/
inductive SectorKind where
  | free | used | unheaded | blank
deriving DecidableEq, Repr

/-- The kind of a sector (R400). -/
def Store.kind (st : Store) (sec : Nat) : SectorKind :=
  let cells := st.array.filter (fun c => decide (4096 * sec ≤ c.1) && decide (c.1 < 4096 * sec + 4096))
  if cells.isEmpty then .blank
  else match st.header sec with
    | none => .unheaded
    | some _ => if cells.any (fun c => decide (4096 * sec + 32 ≤ c.1) && decide (c.1 < 4096 * sec + 64)) then .used else .free

/-- Sectors of an area that can be written: not retired, not blocked. -/
def Store.usable (st : Store) (a : Area) : List Nat :=
  ((List.range (areaCount a)).map (· + areaFirst a)).filter (fun sec => !st.retired.contains sec && !st.blocked.contains sec)

/-- The sectors of a list with their SECTOR_SEQ, ascending. -/
def Store.bySeq (st : Store) (secs : List Nat) : List Nat :=
  (sortBy (fun x y => decide (x.1 ≤ y.1)) (secs.filterMap (fun sec => (st.header sec).map (fun h => (h.2, sec))))).map (·.2)

/-- Free sectors of an area in the order of use. -/
def Store.freeSectors (st : Store) (a : Area) : List Nat := st.bySeq ((st.usable a).filter (fun sec => st.kind sec == .free))

/-- Used sectors of an area in the order of use. -/
def Store.usedSectors (st : Store) (a : Area) : List Nat := st.bySeq ((st.usable a).filter (fun sec => st.kind sec == .used))

/-! ### Records (Table 14-4) -/

/-- A record as it is programmed. -/
def recordBytes (type seq origin : Nat) (payload : List Byte) : List Byte :=
  let h := leBytes 2 0xA55A ++ leBytes 1 type ++ leBytes 1 0 ++ leBytes 2 payload.length ++ leBytes 2 0 ++ leBytes 4 seq ++
    leBytes 4 origin ++ payload
  h ++ leBytes 4 (crc32c h)

/-- Program units of a record with `len` payload bytes (R401). -/
def recordUnits (len : Nat) : Nat := (20 + len + 31) / 32

/-- TYPE is known in its area (Table 14-5). -/
def typeKnown (a : Area) (type : Nat) : Bool :=
  match a with
  | .config => type == 1 || type == 2
  | .event => type == 0x10
  | .ledger => type == 0x20

/-- A record found in the array. -/
structure FoundRecord where
  sector : Nat
  off : Nat
  type : Nat
  seq : Nat
  origin : Nat
  payload : List Byte
deriving DecidableEq, Repr

/-- The valid record at the head of the bytes of sector `sec` from offset `off` (R401). -/
def parseRecord (sec off : Nat) (b : List Byte) : Option FoundRecord :=
  let len := leAt b 4 2
  if leAt b 0 2 = 0xA55A ∧ typeKnown (areaOfSector sec) (leAt b 2 1) = true ∧ leAt b 3 1 = 0 ∧ 1 ≤ len ∧ len ≤ 1024 ∧ leAt b 6 2 = 0 ∧
      off + 32 * recordUnits len ≤ 4096 ∧ leAt b (0x10 + len) 4 = crc32c (b.take (0x10 + len)) then
    some { sector := sec, off := off, type := leAt b 2 1, seq := leAt b 8 4, origin := leAt b 0xC 4, payload := (b.drop 0x10).take len }
  else none

/-- Scan one sector from `off` with the bytes that remain: valid records, and offsets of rejected ones with whether each is already
killed (R417). -/
def scanFrom (sec : Nat) : Nat → Nat → List Byte → List FoundRecord × List (Nat × Bool)
  | 0, _, _ => ([], [])
  | fuel + 1, off, b =>
    if 4096 ≤ off ∨ leAt b 0 2 = 0xFFFF then ([], [])
    else match parseRecord sec off b with
      | some r =>
        let step := 32 * recordUnits r.payload.length
        let rest := scanFrom sec fuel (off + step) (b.drop step)
        (r :: rest.1, rest.2)
      | none =>
        let step := 256 - off % 256
        let rest := scanFrom sec fuel (off + step) (b.drop step)
        (rest.1, (off, decide (leAt b 0 2 = 0)) :: rest.2)

/-- Scan a sector. -/
def Store.scanSector (st : Store) (sec : Nat) : List FoundRecord × List (Nat × Bool) :=
  scanFrom sec 128 32 (cellBytes erasedByte st.array (4096 * sec + 32) 4064)

/-- Every valid record of an area. -/
def Store.records (st : Store) (a : Area) : List FoundRecord := (st.usedSectors a).flatMap (fun sec => (st.scanSector sec).1)

/-- The entries of an OBJECT payload: key and value (Table 14-5). -/
def objectEntries (fuel : Nat) (b : List Byte) : List (Nat × Nat) := (recordEntries fuel b).map (fun e => (e.1, ofLe (e.2.drop 4)))

/-- Items a record of a type holds: key and its bytes; key 0 for LATCH, the group for COUNTERS. -/
def itemsOf (type : Nat) (payload : List Byte) : List Nat :=
  match type with
  | 1 => (recordEntries 256 payload).map (·.1)
  | 2 => [0]
  | 0x20 => [1 + leAt payload 0 1]
  | _ => []

/-- Items of a record found. -/
def FoundRecord.items (r : FoundRecord) : List Nat := itemsOf r.type r.payload

/-- The current record of an item: the valid one with the highest SEQ that contains it (R402). -/
def currentRecord (rs : List FoundRecord) (item : Nat) : Option FoundRecord :=
  rs.foldl (fun best r =>
    if r.items.contains item then
      match best with
      | none => some r
      | some b => if b.seq ≤ r.seq then some r else some b
    else best) none

/-! ### Programming the array (R396, R398) -/

/-- Program bytes: a bit can only change from 1 to 0 (R396). -/
def Store.program (addr : Nat) (bytes : List Byte) (st : Store) : Store :=
  let old := cellBytes erasedByte st.array addr bytes.length
  { st with
    array := cellWrite erasedByte addr (List.zipWith (fun (x y : Byte) => x &&& y) old bytes) st.array
    torn := st.torn.filter (fun e => !(decide (addr ≤ e.1) && decide (e.1 < addr + bytes.length))) }

/-- Every one of `n` bytes from an address reads 0xFF. -/
def Store.blankAt (st : Store) (addr n : Nat) : Bool :=
  !(st.array.any (fun c => decide (addr ≤ c.1) && decide (c.1 < addr + n)) || st.torn.any (fun c => decide (addr ≤ c.1) && decide (c.1 < addr + n)))

/-- A unit whose program was cut short reads bytes whose bits are each 1 or the target's (R398). -/
def tornBytes (target noise : List Byte) : List Byte := List.zipWith (fun (x y : Byte) => x ||| y) target noise

/-- A program of `target` at an address was cut short (R398). -/
def Store.tear (addr : Nat) (target : List Byte) (st : Store) : Store :=
  { st with torn := st.torn ++ target.zipIdx.map (fun p => (addr + p.2, p.1)) }

/-- One byte of the array or, from 0x80000 on, of the ledger rows as it now reads. -/
def Store.putByte (st : Store) (addr : Nat) (b : Byte) : Store :=
  if addr < 0x80000 then { st with array := cellWrite erasedByte addr [b] st.array }
  else { st with ledger := cellWrite erasedByte (addr - 0x80000) [b] st.ledger }

/-- Bytes cut short read anew at a start, each bit as a free value says (R398). -/
def State.readTorn (s : State) : State :=
  let (noise, s) := s.freeBytes s.store.torn.length
  { s with store := (s.store.torn.zip noise).foldl (fun st e => st.putByte e.1.1 (e.1.2 ||| e.2)) s.store }

/-- Bytes from an address on are erased or programmed in full: none of them is in doubt any more. -/
def Store.settle (addr n : Nat) (st : Store) : Store :=
  { st with torn := st.torn.filter (fun e => !(decide (addr ≤ e.1) && decide (e.1 < addr + n))) }

/-! ### Erasing (R407, R408) -/

/-- START half of a ledger entry (Table 14-6). -/
def ledgerStart (sector count seq : Nat) : List Byte :=
  let h := leBytes 2 0x4C45 ++ leBytes 1 sector ++ leBytes 1 0 ++ leBytes 4 count ++ leBytes 4 seq
  h ++ leBytes 4 (crc32c h)

/-- A ledger entry as read: row, index, sector, count, ENTRY_SEQ and whether DONE is valid; none without a valid START (R408). -/
def Store.ledgerEntry (st : Store) (row i : Nat) : Option (Nat × Nat × Nat × Bool) :=
  let b := cellBytes erasedByte st.ledger (4096 * row + 32 * i) 32
  if leAt b 0 2 = 0x4C45 ∧ leAt b 0xC 4 = crc32c (b.take 0xC) then
    some (leAt b 2 1, leAt b 4 4, leAt b 8 4, (b.drop 16).all (· == 0))
  else none

/-- All valid ledger entries: sector, count, ENTRY_SEQ, DONE, with row and index. -/
def Store.ledgerEntries (st : Store) : List (Nat × Nat × Nat × Bool × Nat × Nat) :=
  if st.ledger.isEmpty then []
  else [0, 1].flatMap (fun row => (List.range 128).filterMap (fun i =>
    (st.ledgerEntry row i).map (fun e => (e.1, e.2.1, e.2.2.1, e.2.2.2, row, i))))

/-- Begin the erase of a sector: the START half is programmed; entry 127 first takes the erase of the other row (R407). The rows are erased in
turn, LB first, so the entry of the one erased last, which still stands, tells the count of the other. A sector's count exceeds that of its
header and of its last entry (R427). -/
def Store.beginErase (sec : Nat) (st : Store) : Store :=
  let begin_ (st : Store) (code count : Nat) : Store :=
    { st with
      ledger := cellWrite erasedByte (4096 * st.row + 32 * st.entry) (ledgerStart code count st.entrySeq) st.ledger
      entrySeq := st.entrySeq + 1
      erase := some { sector := code, count := count, row := st.row, entry := st.entry }
      entry := st.entry + 1 }
  let last (code : Nat) : Nat := st.ledgerEntries.foldl (fun m e => if e.1 = code then max m e.2.1 else m) 0
  if st.entry = 127 then begin_ st (0x81 - st.row) (if st.row = 0 then last 0x80 + 1 else max 1 (last 0x81))
  else begin_ st sec (max (st.eraseCount sec) (last sec) + 1)

/-- Program the DONE half of an entry. -/
def Store.doneHalf (row entry : Nat) (st : Store) : Store :=
  Store.settle (0x80000 + 4096 * row + 32 * entry + 16) 16 { st with
    ledger := cellWrite erasedByte (4096 * row + 32 * entry + 16) (List.replicate 16 0) st.ledger }

/-- An erase in an area lowers its credit and counts (R412, R413). -/
def Store.countErase (a : Area) (st : Store) : Store :=
  { st with eraseTotal := sat32 (st.eraseTotal + 1) }.modArea a (fun x => { x with credit := x.credit - 1 })

/-- The pulses of a sector erase. -/
def Store.clearSector (sec : Nat) (st : Store) : Store :=
  Store.settle (4096 * sec) 4096 { st with array := cellClear (4096 * sec) 4096 st.array }

/-- The pulses, DONE half and header of a sector erase that verified: blank but for its header with the area's next SECTOR_SEQ (R408). -/
def Store.finishErase (sec count row entry : Nat) (st : Store) : Store :=
  let a := areaOfSector sec
  let st := (st.doneHalf row entry).clearSector sec
  let st := st.program (4096 * sec) (headerBytes a count (st.areaState a).sectorSeq)
  let st := { st with blocked := st.blocked.filter (· != sec), erase := none }
  (st.countErase a).modArea a (fun x => { x with sectorSeq := x.sectorSeq + 1 })

/-- The other ledger row is erased: the controller continues in it at entry 0 (R407). -/
def Store.finishRow (row entry : Nat) (st : Store) : Store :=
  let other := 1 - row
  let st := (st.doneHalf row entry).settle (0x80000 + 4096 * other) 4096
  { st with ledger := cellClear (4096 * other) 4096 st.ledger, row := other, entry := 0, erase := none,
            blocked := st.blocked.filter (· != 0x80 + other) }

/-- An erase is suspended: the gate is closed or a program waits (R62, R397). -/
def State.eraseSuspended (s : State) : Bool :=
  s.store.erase.isSome && (s.power.gateClosed || !s.store.queue.isEmpty)

/-- `STORE_ERASE_TOTAL` and the credits are persisted at each erase (R413). -/
def State.persistCredits (s : State) : State :=
  let s := s.persist keyEraseTotal 4 s.store.eraseTotal
  let s := s.persist keyCreditConfig 4 (rawI32 s.store.config.credit)
  let s := s.persist keyCreditEvent 4 (rawI32 s.store.event.credit)
  s.persist keyCreditLedger 4 (rawI32 s.store.ledgerArea.credit)

/-- Cause 0x0906 when an area has fewer usable sectors than Table 14-2 requires; it does not clear (R415). -/
def State.checkUsable (a : Area) (s : State) : State :=
  if (s.store.usable a).length < areaMin a then
    State.recoverable 0x0906 [] { s with store.areaLow := true }
  else s

/-- Retire a sector (R414, R415). -/
def State.retire (sec : Nat) (s : State) : State :=
  State.checkUsable (areaOfSector sec) { s with store.retired := s.store.retired ++ [sec] }

/-! ### Compaction (R410) -/

/-- Items whose current value lies in a sector; those of the event area are discarded with it (R410). -/
def Store.liveItems (st : Store) (sec : Nat) : List Nat :=
  let a := areaOfSector sec
  let rs := st.records a
  if a = .event then []
  else ((rs.filter (fun r => r.sector == sec)).flatMap (·.items)).filter (fun i => match currentRecord rs i with
    | some c => c.sector == sec
    | none => false)

/-- Items of an area that a record still to be written holds. -/
def Store.pendingItems (st : Store) (a : Area) : List Nat :=
  ((st.queue ++ st.heldBack).filter (fun r => r.area == a)).flatMap (fun r => itemsOf r.type r.payload)

/-- Copies of the items whose current value lies in a sector, but of those that a pending record replaces (R410). -/
def Store.copies (st : Store) (sec : Nat) : List StoreRecord :=
  let a := areaOfSector sec
  let rs := st.records a
  let pending := st.pendingItems a
  let mine := if a = .event then [] else rs.filter (fun r => r.sector == sec)
  mine.filterMap (fun r =>
    let live := r.items.filter (fun i => !pending.contains i && (match currentRecord rs i with
      | some c => c.sector == sec && c.off == r.off
      | none => false))
    if live.isEmpty then none
    else
      let payload := if r.type = 1 then ((recordEntries 256 r.payload).filter (fun e => live.contains e.1)).flatMap (·.2) else r.payload
      some { area := a, type := r.type, payload := payload, origin := r.seq, retried := false })

/-- Request them. -/
def State.requestCopies (sec : Nat) (s : State) : State := (s.store.copies sec).foldl (fun t r => t.requestRecord r) s

/-- When the free sectors of an area fall to two, the used sector with the lowest SECTOR_SEQ is reclaimed: its current items are copied
first, except in the event area (R410). -/
def State.startReclaim (a : Area) (s : State) : State :=
  let x := s.store.areaState a
  if x.reclaim.isSome || decide (2 < (s.store.freeSectors a).length) then s
  else match (s.store.usedSectors a).filter (fun sec => !x.retiring.contains sec && sec != x.sector) with
    | [] => s
    | sec :: _ => State.requestCopies sec { s with store := s.store.modArea a (fun x => { x with reclaim := some sec }) }

/-- Sectors that failed twice are retired once no current item lies in them (R415). -/
def State.finishRetiring (a : Area) (s : State) : State :=
  (s.store.areaState a).retiring.foldl (fun t sec =>
    if (t.store.liveItems sec).isEmpty then
      State.retire sec { t with store := t.store.modArea a (fun x => { x with retiring := x.retiring.filter (· != sec) }) }
    else t.requestCopies sec) s

/-- A reclaimed sector in which no current item lies any more is erased, or retired at 100,000 erases (R410, R414, R425). -/
def State.startErase (a : Area) (s : State) : State :=
  match (s.store.areaState a).reclaim with
  | none => s
  | some sec =>
    if !(s.store.liveItems sec).isEmpty then s.requestCopies sec
    else if s.store.erase.isSome || s.power.gateClosed then s
    else if 100000 ≤ s.store.eraseCount sec then
      State.startReclaim a
        (State.retire sec ({ s with store := s.store.modArea a (fun x => { x with reclaim := none }) }.event 0x0905 []))
    else { s with store := s.store.beginErase sec }

/-- Retirements and erases that the commit of the last copy has made due. -/
def State.startErases (s : State) : State :=
  [Area.config, Area.event, Area.ledger].foldl (fun t a => (t.finishRetiring a).startErase a) s

/-- What follows an erase, a retirement, a start, or a record that takes the first place of a free sector: reclaims, retirements and erases
that have become due. -/
def State.housekeep (s : State) : State :=
  [Area.config, Area.event, Area.ledger].foldl (fun t a => ((t.startReclaim a).finishRetiring a).startErase a) s

/-! ### Programming (R404 to R406) -/

/-- Program bytes into image or firmware flash; no bytes stand for the erase of the firmware bank that begins there. -/
def programCells (d : Nat × List Byte) (m : List Host.Cell) : List Host.Cell :=
  if d.2.isEmpty then cellClear d.1 0x80000 m else cellWrite erasedByte d.1 d.2 m

/-- Program image or firmware flash, or erase a firmware bank; while the gate is closed, and while held-back data waits to be persisted, it
waits too (R62, R64). -/
def State.programFlash (addr : Nat) (data : List Byte) (s : State) : State :=
  if s.store.heldLeft = 0 ∧ s.power.gateClosed = false then { s with le.flash := programCells (addr, data) s.le.flash }
  else { s with store.deferred := s.store.deferred ++ [(addr, data)] }

/-- The programs that waited are made. -/
def State.programDeferred (s : State) : State :=
  { s with
    le.flash := s.store.deferred.foldl (fun m d => programCells d m) s.le.flash
    store.deferred := [] }

/-- A program of some of the `n` bytes from `addr` waits. -/
def Store.flashWaits (st : Store) (addr n : Nat) : Bool :=
  st.deferred.any (fun d => decide (d.1 < addr + n) && decide (addr < d.1 + d.2.length))

/-- A record is persisted; after the last of those that were held back the programs that waited for them are made (R64). -/
def State.recordDone (s : State) : State :=
  let s := { s with store.heldLeft := s.store.heldLeft - 1 }
  if s.store.heldLeft = 0 then s.programDeferred else s

/-- Where the next record of an area goes: to the write position, or to the next page boundary whose units all read 0xFF, or to the next free
sector when it does not fit; without a free sector it waits (R396, R401, R405). -/
def Store.place (a : Area) (units : Nat) (st : Store) : Option Store :=
  let x := st.areaState a
  let spots := x.pos :: ((List.range 16).map (fun p => 256 * p)).filter (fun p => decide (x.pos < p))
  match spots.find? (fun p => decide (p + 32 * units ≤ 4096) && st.blankAt (4096 * x.sector + p) (32 * units)) with
  | some p => some (st.modArea a (fun y => { y with pos := p }))
  | none => match (st.freeSectors a).filter (fun sec => sec != x.sector) with
    | sec :: _ => some (st.modArea a (fun y => { y with sector := sec, pos := 32 }))
    | [] => none

/-- The next page boundary after `units` program units (R405). -/
def nextPage (pos units : Nat) : Nat := (pos + 32 * units + 255) / 256 * 256

/-- The record the manager was programming is abandoned: as many units as a free value says had completed, since the instant is not specified
(R404); at a reset one more may be in progress and torn (R398), where the gate closes it completes (R406). Later units stay 0xFF, and the next
record begins at the next page (R405). -/
def State.abandonRecord (cut : Bool) (s : State) : State :=
  match s.store.queue with
  | [] => s
  | r :: _ =>
    let units := recordUnits r.payload.length
    match s.store.place r.area units with
    | none => s
    | some st =>
      let (v, s) := s.drawFree
      let (w, s) := s.drawFree
      let whole := v.toNat % (units + 1)
      let x := st.areaState r.area
      let target := recordBytes r.type x.seq (if r.origin = 0 then x.seq else r.origin) r.payload
      let addr := 4096 * x.sector + x.pos
      let part := if cut && w.getLsbD 0 then (target.drop (32 * whole)).take 32 else []
      let n := if part.isEmpty then whole else whole + 1
      if n = 0 then s
      else
        let st := (st.program addr (target.take (32 * whole))).tear (addr + 32 * whole) part
        { s with store := st.modArea r.area (fun y => { y with seq := y.seq + 1, pos := min 4096 (nextPage y.pos n) }) }

/-- A reset cuts the erase in progress short, at a step of R408 that is not specified, so a free value says: in its START half, in its pulses,
in its DONE half, or in the header. An erase that is suspended is in its pulses. -/
def State.abandonErase (s : State) : State :=
  match s.store.erase with
  | none => s
  | some e =>
    let (v, s) := s.drawFree
    let st := s.store
    let at_ := 4096 * e.row + 32 * e.entry
    let a := areaOfSector e.sector
    let erased : Store := if e.sector < 0x80 then st.clearSector e.sector
      else { st with ledger := cellClear (4096 * (e.sector - 0x80)) 4096 st.ledger }
    if s.eraseSuspended then s
    else match v.toNat % 4 with
    | 0 =>
      let blank : Store := { st with ledger := cellClear at_ 16 st.ledger }
      { s with store := blank.tear (0x80000 + at_) (ledgerStart e.sector e.count (st.entrySeq - 1)) }
    | 1 => s
    | 2 => { s with store := erased.tear (0x80000 + at_ + 16) (List.replicate 16 0) }
    | _ =>
      if e.sector < 0x80 then
        { s with store := (erased.doneHalf e.row e.entry).tear (4096 * e.sector) (headerBytes a e.count (st.areaState a).sectorSeq) }
      else { s with store := erased.doneHalf e.row e.entry }

/-- What a committed record changes beside the array: which objects hold a record, the latch that waited in the
retained register (R85), and which event slots are free. -/
def State.noteCommit (r : StoreRecord) (s : State) : State :=
  match r.type with
  | 1 =>
    let keys := (objectEntries 256 r.payload).map (·.1)
    let missing := s.store.missing.filter (fun k => !keys.contains k)
    let s := { s with store.recorded := keys.filter (fun k => !s.store.recorded.contains k) ++ s.store.recorded
                      store.missing := missing }
    if missing.isEmpty then s.clearCause 0x0903 else s
  | 2 => if r.origin = 0 then { s with boot.retained.latch := false } else s
  | 0x10 =>
    let seq := leAt r.payload 0 4
    match s.ledger.ring.find? (fun e => e.seq == seq) with
    | some e =>
      { s with
        ledger.ring := s.ledger.ring.map (fun x => if x.seq == seq then { x with waiting := false } else x)
        ledger.stored := s.ledger.stored.filter (fun x => x.seq != seq) ++ [{ e with waiting := false }] }
    | none => s
  | _ => s

/-- The oldest queued record is programmed and read back: committed when valid and equal. Otherwise its units hold what a free value leaves of
it, it is written again at the next page, and after a second failure its sector is retired once its items are reclaimed (R404, R405, R415). -/
def State.commitRecord (readBackOk : Bool) (s : State) : State :=
  if s.power.gateClosed then s
  else match s.store.queue with
    | [] => s
    | r :: rest =>
      let units := recordUnits r.payload.length
      match s.store.place r.area units with
      | none => s
      | some st =>
      let x := st.areaState r.area
      let target := recordBytes r.type x.seq (if r.origin = 0 then x.seq else r.origin) r.payload
      let addr := 4096 * x.sector + x.pos
      if readBackOk then
        let st := { st.program addr target with queue := rest }.modArea r.area (fun y => { y with seq := y.seq + 1, pos := y.pos + 32 * units })
        let s := (State.noteCommit r { s with store := st }).recordDone
        if x.pos = 32 then s.housekeep else s.startErases
      else
        let (noise, s) := s.freeBytes target.length
        let st := (st.program addr (tornBytes target noise)).modArea r.area (fun y => { y with pos := min 4096 (nextPage y.pos units) })
        if r.retried then
          let st := st.modArea r.area (fun y => { y with pos := 4096, retiring := y.retiring ++ [x.sector] })
          let s := { s with store := { st with queue := { r with retried := false } :: rest } }
          ((s.event 0x0905 []).finishRetiring r.area).startReclaim r.area
        else { s with store := { st with queue := { r with retried := true } :: rest } }

def execStoreRecordCommit (dt : Nat) (readBackOk : Bool) (s : State) : Host.Outcome State Fault Refusal :=
  done ((s.elapse dt).commitRecord readBackOk)

/-- The erase in progress ends: its DONE half and header are programmed, or the sector is retired when verify fails (R408, R413, R415).
A suspended erase does not end. -/
def State.eraseComplete (verifyOk : Bool) (s : State) : State :=
  match s.store.erase with
  | none => s
  | some e =>
    if s.eraseSuspended then s
    else if 0x80 ≤ e.sector then ({ s with store := s.store.finishRow e.row e.entry }).housekeep
    else
      let a := areaOfSector e.sector
      let gone := (s.store.scanSector e.sector).1.map (fun r => leAt r.payload 0 4)
      let s := { s with store := s.store.modArea a (fun x => { x with reclaim := none }) }
      let elsewhere := ((s.store.records a).filter (fun r => r.sector != e.sector)).map (fun r => leAt r.payload 0 4)
      let s := if a = .event then
          { s with ledger.stored := s.ledger.stored.filter (fun x => !gone.contains x.seq || elsewhere.contains x.seq) }
        else s
      if verifyOk then
        (State.persistCredits { s with store := s.store.finishErase e.sector e.count e.row e.entry }).housekeep
      else
        let s := State.persistCredits { s with store := { s.store with erase := none }.countErase a }
        (State.retire e.sector (s.event 0x0905 [])).housekeep

def execSectorEraseComplete (dt : Nat) (verifyOk : Bool) (s : State) : Host.Outcome State Fault Refusal :=
  done ((s.elapse dt).eraseComplete verifyOk)

/-- An accrual period of logic-powered time elapses: the credit rises by 1 up to its cap (R412). -/
def State.accrue (a : Area) (s : State) : State :=
  if s.power.logicOn && s.passed (s.store.areaState a).accruedAt (areaPeriod a) then
    { s with store := s.store.modArea a (fun x => { x with credit := min (areaCap a) (x.credit + 1), accruedAt := x.accruedAt + areaPeriod a }) }
  else s

def execEraseCreditAccrual (dt : Nat) (area : Area) (s : State) : Host.Outcome State Fault Refusal :=
  done ((s.elapse dt).accrue area)

/-! ### The gate (R62, R64, R406) -/

/-- The order in which held-back data is persisted: latch and cause, `RIDETHROUGH_COUNT`, event records, then the rest (R64, R406). -/
def StoreRecord.rank (r : StoreRecord) : Nat :=
  if r.type = 2 then 0
  else if r.type = 1 ∧ objKey (leAt r.payload 0 2) (leAt r.payload 2 1) = keyRideCount then 1
  else if r.type = 0x10 then 2
  else 3

/-- The gate closes: the record in progress is abandoned and every queued record is held back (R406). -/
def State.closeGate (s : State) : State :=
  if s.power.gateClosed then s
  else
    let s := s.abandonRecord false
    let held := s.store.queue
    let s := { s with power.gateClosed := true, store.queue := [], store.heldLeft := 0 }
    held.foldl (fun t r => t.requestRecord r) s

/-- The gate reopens: held-back data is queued in the order of R64, each kind in the order it was requested; programs of flash go on after
it. -/
def State.openGate (s : State) : State :=
  let ranked := [0, 1, 2, 3].flatMap (fun k => s.store.heldBack.filter (fun r => r.rank == k))
  let s := { s with
    power.gateClosed := false
    store.heldBack := []
    store.queue := ranked ++ s.store.queue
    store.heldLeft := ranked.length + s.store.heldLeft }
  if s.store.heldLeft = 0 then s.programDeferred else s

end Sys2Proof.Machine
end

