-- ==== Sys2Proof/Machine/Reset.lean ====
section
/-!
DEFINITION. Machine/Reset.lean: what a reset does and leaves (R51, R52, R95, R115 to R119, R139, R140), shared by every source of Table 4-1
and by the power-fail shutdown (R65, R66).
-/

namespace Sys2Proof.Machine

/-! ### What survives -/

/-- The store manager's array, ledger and retired sectors survive any reset; its queues do not (R140). -/
def Store.afterReset (st : Store) : Store :=
  { ({} : Store) with
    array := st.array, ledger := st.ledger, torn := st.torn, retired := st.retired, entrySeq := st.entrySeq, row := st.row, entry := st.entry
    config := { ({} : Store).config with accruedAt := st.config.accruedAt }
    event := { ({} : Store).event with accruedAt := st.event.accruedAt }
    ledgerArea := { ({} : Store).ledgerArea with accruedAt := st.ledgerArea.accruedAt } }

/-- The ring and the ledger working copy of the event log RAM, with the records of a start not yet released (R52, R583). -/
def Ledger.afterWarm (l : Ledger) : Ledger :=
  { l with
    readSeq := [], spool := [], toPost := [], suppressed := [], stored := [], hotRun := 0, coolRun := 0, dieRun := 0, warnArmed := true }

/-- Bin of R589 for a board temperature in 0.1 °C. -/
def tempBin (t : Int) : Nat := if t < -300 then 0 else min 15 ((t + 400) / 100).toNat

/-- A seconds counter, held in local ticks, advanced; it saturates at the largest U32 of seconds (R596). -/
def satSeconds (n : Nat) : Nat := min n (0xFFFFFFFF * 100000000)

/-- The seconds counters advance to now, in the state and the bin that held since they last did (R588). -/
def State.countSeconds (s : State) : State :=
  if s.rt.cycling then
    let d := s.localNow - s.ledger.countedTo
    { s with
      ledger.countedTo := s.localNow
      ledger.powered := satSeconds (s.ledger.powered + d)
      ledger.run := if s.rt.state == .run then satSeconds (s.ledger.run + d) else s.ledger.run
      ledger.bins := s.ledger.bins.modify (tempBin s.ledger.tempNow) (fun n => satSeconds (n + d)) }
  else s

/-- An erase, a load or a validation that a reset cuts short leaves the bank invalid until it is validated again (R140, R390). -/
def ImageBank.afterReset (b : ImageBank) : ImageBank :=
  match b.state with
  | .erasing | .loading => { b with state := .invalid, reason := 2, complete := false }
  | .validating => { b with state := .invalid, reason := 2 }
  | _ => b

/-- The event log RAM (Table 7-1). -/
def LeMem.eventLogCells (m : LeMem) : List Host.Cell := m.ram.filter (fun c => decide (0x22000000 ≤ c.1) && decide (c.1 < 0x22004000))

/-- What a reset leaves: fuses, flash arrays, the power controller's own registers, pin levels and the service port's lines. Over a warm
reset PD42 and PD49 keep the retained register, `STATE_CAUSE`, the lockout latch, the event log RAM and the snapshot store (R52, R78, R115). -/
def State.loseVolatile (warm : Bool) (s : State) : State :=
  { State.reset with
    rt := { ({} : Runtime) with
      stateCause := s.rt.stateCause, lockoutLatch := s.rt.lockoutLatch
      active := s.rt.active.filter (fun c => c == 0x0103 && s.power.estimateMade) }
    power := { s.power with railTrim := 0x8000, overdrawSince := none, calmSince := none, mismatchLast := 0, mismatchTwice := 0, switchedLast := 0, switching := [] }
    clock := { ({} : Clock) with localTicks := s.clock.localTicks, pllLockTime := s.clock.pllLockTime }
    boot := s.boot
    otp := { ({} : Otp) with
      bank0 := s.otp.bank0, bank1 := s.otp.bank1, bank2 := s.otp.bank2, unstable := s.otp.unstable, lifecycle := s.otp.lifecycle, lcValid := s.otp.lcValid,
      lcIncomplete := s.otp.lcIncomplete, debugDisabled := s.otp.debugDisabled, coldClean := s.otp.coldClean,
      opStatus := 0 }
    le := { ({} : LeMem) with flash := s.le.flash, ram := if warm then s.le.eventLogCells else [] }
    field := { ({} : Field) with
      channels := s.field.channels.map (fun c => ({ ({} : Channel) with raw := c.raw, conditions := c.conditions } : Channel))
      banks := s.field.banks.map (fun k => ({ ({} : Bank) with openedAt := k.openedAt } : Bank)) }
    images := { ({} : Images) with bankA := s.images.bankA.afterReset, bankB := s.images.bankB.afterReset }
    store := s.store.afterReset
    ledger := if warm then s.ledger.afterWarm else { ({} : Ledger) with early := [] }
    mirror := { ({} : Mirror) with
      store := if warm then s.mirror.store else none, twinToken := s.mirror.twinToken, loopOk := s.mirror.loopOk }
    service := { ({} : Service) with
      session := s.service.session, resetLowAt := s.service.resetLowAt, resetEventDue := s.service.resetEventDue
      openedEarly := s.service.openedEarly }
    freeCount := s.freeCount
    pending := s.pending }

/-! ### The entries and the charger (R56, R57) -/

/-- An entry is qualified. -/
def State.entryOk (s : State) : Bool := s.power.mainsOk || s.power.auxOk

/-- The charger follows the entries and the store (R57): mains before auxiliary, which then carries at most 50 mA; a constant 0.25 A until
40 V, then the logic load at 40 V; held off in the pause of R60. -/
def State.charge (s : State) : State :=
  { s with
    power.chargeFrom := if s.power.mainsOk then some .mains else if s.power.auxOk then some .aux else none
    power.auxLimitMa := if s.power.mainsOk && s.power.auxOk then some 50 else none
    power.charger :=
      if !s.entryOk then .off
      else if s.power.pause.isSome then .heldOff
      else if 40000 ≤ s.power.holdupMv then .holding
      else .filling }

/-- The current in mA with which the charger fills the store (R57). -/
def Charger.fillMa : Charger → Option Nat
  | .filling => some 250
  | _ => none

/-- The store voltage is measured. -/
def State.storeAt (mv : Nat) (s : State) : State := State.charge { s with power.holdupMv := mv }

/-! ### Warm reset (R116, R119) -/

/-- The block of a domain just switched on is held in reset for 50 µs (R74). -/
def State.startingUp (s : State) (pd : Nat) : Bool := s.power.switching.any (fun e => e.1 == pd && decide (s.localNow < e.2))

/-- Bit of a domain. -/
def pdBit (n : Nat) : BitVec 56 := BitVec.twoPow 56 n

/-- A save-and-restore group of a warm start: 1 and 5 (Table 2-6). -/
def saveRestore (cold : Bool) (g : Nat) : Bool := !cold && (g == 1 || g == 5)

/-- A save-and-restore test of this start: group 1 or 5 of a warm start over a region that was kept (Table 2-6, R138). -/
def State.keepsRegion (s : State) (g : Nat) : Bool :=
  saveRestore s.boot.cold g && s.boot.retainedStatus.getLsbD (if g = 1 then 0 else 1)

/-- A reset that lands in a save-and-restore test leaves the region's save-in-progress flag set (R127, R138). DESIGN CHOICE (log entry 98):
the spec does not say where in group 1 or 5 the test of the retained region lies beside that of the safety or exchange RAM, so the flag
counts as set from the start of the group to its end. -/
def State.interruptedSave (s : State) : State :=
  match s.boot.step with
  | .bist g =>
    if !s.keepsRegion g || decide (s.localNow < s.boot.groupAt) then s
    else if g = 1 then { s with boot.retained.saveEvent := true }
    else { s with boot.retained.saveSnapshot := true }
  | _ => s

/-! ### The domains in Boot and Test (Tables 2-4 to 2-6, 4-3) -/

/-- Domains that steps 2, 4 and 6 of Table 4-3 switch on, with their time after Boot entry in µs. -/
def bootOrder : List (Nat × Nat) := [(40, 100), (42, 100), (43, 100), (54, 200), (45, 300), (41, 400), (44, 500)]

/-- A set of domains. -/
def pdSet (l : List Nat) : BitVec 56 := l.foldl (fun v n => v ||| pdBit n) 0

/-- Before Test the domains of Table 4-3 go on, each good 50 µs after its command (R74, R76); a boot ROM that stopped at its first step goes
no further than step 2. -/
def State.bootPower (s : State) : State :=
  let last : Nat := match s.boot.step with
    | .waitLock | .lockRetry | .locked => 500
    | .stopped => if s.rt.state == .boot then 100 else 0
    | _ => 0
  let on (late : Nat) : BitVec 56 :=
    pdSet ((bootOrder.filter (fun p => decide (p.2 ≤ last) && s.passed s.boot.entryAt (us (p.2 + late)))).map (·.1))
  { s with
    power.domainCommand := s.power.domainCommand ||| on 0
    power.domainStatus := s.power.domainStatus ||| on 50 }

/-- Domains tested in a BIST group (Table 2-6). -/
def groupDomains : Nat → List Nat
  | 1 => [42] | 2 | 3 => [41] | 4 => [47] | 5 => [48, 49] | 6 => [46, 50, 51, 52] | 7 => [53] | 8 => [43, 44, 45] | _ => []

/-- In Test the domains of the group in progress are powered for it, and no others of PD46 to PD52 (Table 2-4, R77). -/
def State.bistPower (s : State) : State :=
  match s.boot.step with
  | .bist g =>
    let on (late : Nat) : BitVec 56 := if s.passed s.boot.groupAt (us late) then pdSet (groupDomains g) else 0
    { s with
      power.domainCommand := s.power.domainCommand ||| on 0
      power.domainStatus := s.power.domainStatus ||| on 50 }
  | _ => s

/-- Operations cut short by a reset: a program or an erase in progress and an OTP command (R140, R176, R398, R409, R427); the command reads as
aborted. -/
def State.cutShort (warm : Bool) (s : State) : State :=
  let aborted := s.otp.running.isSome
  let s := (((s.abandonRecord true).abandonErase).abortBurn true).loseVolatile warm
  { s with otp.opStatus := if aborted then 0x8A else 0 }

/-- RESET_CAUSE takes the lowest code among the sources (R116). -/
def lowestSource (sources : BitVec 8) : Nat :=
  match (List.range 8).find? (fun i => sources.getLsbD i) with
  | some i => i + 1
  | none => 0

/-- Faults detected since the last boundary that a reset keeps from being evaluated: their records stand in the event log (R40, R313). -/
def State.recordDetected (s : State) : State :=
  (s.rt.detected ++ s.glint.carried ++ s.glint.waiting ++ s.analog.carried ++ s.analog.waiting).foldl (fun t d =>
    t.logRecord (t.newRecord d.cause d.time false d.data)) s

/-- Assert a warm reset with source code `source` of Table 4-1, or with none of them (0). While reset is held a further source only sets
its bit (R116). Outputs go off and the bank switches open (R51, R275); only PD42, PD53 and PD49, if on, stay powered (R119). -/
def State.assertWarmReset (source : Nat) (s : State) : State :=
  if !s.power.logicOn then s
  else if s.boot.step == .resetHeld then
    let src := s.boot.resetSources ||| (if source = 0 then 0 else BitVec.twoPow 8 (source - 1))
    { s with boot.resetSources := src, boot.resetCause := if src = 0 then s.boot.resetCause else lowestSource src }
  else
    let s := State.charge { s.countSeconds.recordDetected.interruptedSave.outputsOff with power.pause := none }
    let keep := pdBit 42 ||| pdBit 53 ||| (s.power.domainCommand &&& pdBit 49)
    let src : BitVec 8 := if source = 0 then 0 else BitVec.twoPow 8 (source - 1)
    let s := s.cutShort true
    let (v, s) := if source = 0 then s.drawFree else (0, s)
    { s with
      rt.state := .boot
      power.domainCommand := keep
      power.domainStatus := keep
      boot.step := .resetHeld
      boot.cold := false
      boot.warmEarly := sat32 (s.boot.warmEarly + 1)
      boot.lockRetrying := false
      boot.watchdogPaused := false
      boot.injection := 0
      boot.resetAt := s.localNow
      boot.resetSources := src
      boot.resetCause := if source = 0 then v.toNat % 256 else source
      boot.watchdogSince := none
      boot.watchdogRun := 0 }

/-- A reset whose source leads to Lockout stores its cause in the retained register first; the first cause stands (R42, R67, R93, R108). -/
def State.pendCause (cause : Nat) (s : State) : State :=
  if s.boot.retained.cause.isSome then s else { s with boot.retained.cause := some cause }

/-- The reaction to a clock fault: safe-state line, cause retained, warm reset (R93). -/
def State.clockFault (cause : Nat) (s : State) : State := (s.pendCause cause).assertWarmReset 2

/-- A boot failure counts toward three, and resets the unit (R122). -/
def State.bootFailure (source : Nat) (s : State) : State :=
  State.assertWarmReset source { s with boot.retained.bootFailures := s.boot.retained.bootFailures + 1 }

/-! ### The power-fail shutdown (R65, R66) -/

/-- Outputs off, switches open, reset asserted and every domain off: the next start is cold. Held-back data is lost (R85, R429). -/
def State.powerFailShutdown (s : State) : State :=
  let s := s.outputsOff.cutShort false
  { s with
    rt := {}
    power.logicOn := false
    power.pfw := false
    power.gateClosed := false
    power.lostAt := none
    power.pause := none
    power.ridesEarly := 0
    power.estimate := 0
    power.estimateMade := false
    power.domainCommand := 0
    power.domainStatus := 0
    boot.step := .idle
    boot.retained := {}
    boot.noBank := false
    boot.coldEarly := 0
    boot.warmEarly := 0
    boot.lockRetrying := false
    boot.injection := 0
    boot.watchdogSince := none
    boot.watchdogPaused := false
    boot.watchdogRun := 0
    service.resetEventDue := false }

end Sys2Proof.Machine
end

