-- ==== Sys2Proof/Machine/Transmit.lean ====
section
/-!
DEFINITION. Machine/Transmit.lean: how a frame comes into the transmit queues (R474, R478, R480), shared by every chapter that sends one.
Frames leave the queues when the block idles (log entry 8).
-/

namespace Sys2Proof.Machine

/-- Byte 0 of the ZOP header (Table 17-4). -/
def State.headerByte (s : State) (resync : Bool) : Nat :=
  0x20 + 16 * bit s.passes.split + 8 * bit s.synced + 4 * bit resync

/-- The two header bytes of a frame this unit sends. -/
def State.zopHeader (s : State) (resync : Bool) : List Byte := leBytes 1 (s.headerByte resync) ++ leBytes 1 s.zop.nodeId

/-- FD data lengths (ISO 11898-1). -/
def fdLengths : List Nat := [0, 1, 2, 3, 4, 5, 6, 7, 8, 12, 16, 20, 24, 32, 48, 64]

/-- Pad a data field with 0x00 to the smallest FD length that holds it. -/
def padFd (d : List Byte) : List Byte :=
  match fdLengths.find? (fun n => decide (d.length ≤ n)) with
  | some n => d ++ List.replicate (n - d.length) 0
  | none => d

/-- Enter a frame in a transmit queue: lowest identifier first, equal ones in order (R478). -/
def enqueue (f : CanFrame) (q : List CanFrame) : List CanFrame :=
  q.takeWhile (fun g => decide (g.id ≤ f.id)) ++ f :: q.dropWhile (fun g => decide (g.id ≤ f.id))

/-- A controller takes frames: it is enabled, not disabled by R498 and not bus-off. -/
def CanState.accepts (c : CanState) : Bool := c.enabled && !c.disabled && !c.busOff

/-- A frame as this unit transmits it: BRS unless `DATA_RATE` is 0x00 (R474). -/
def State.frame (s : State) (id : Nat) (data : List Byte) : CanFrame := { id := id, data := padFd data, brs := s.zop.dataRate != 0 }

/-- Queue a frame on one channel. -/
def State.sendOn (ch : CanChannel) (id : Nat) (data : List Byte) (s : State) : State :=
  let f := s.frame id data
  match ch with
  | .a => if s.zop.canA.accepts then { s with zop.canA.queue := enqueue f s.zop.canA.queue } else s
  | .b => if s.zop.canB.accepts then { s with zop.canB.queue := enqueue f s.zop.canB.queue } else s

/-- Queue a frame on every enabled channel (R478). The network is silent before release (R37). -/
def State.send (id : Nat) (data : List Byte) (s : State) : State :=
  if s.rt.cycling then (s.sendOn .a id data).sendOn .b id data else s

/-- The frame a controller transmits next. -/
def CanState.next (c : CanState) : Option CanFrame := if c.accepts then c.queue.head? else none

/-- A node is error passive from a count of 128 on, and its frames then carry ESI = 1 (ISO 11898-1, R474). -/
def CanState.errorPassive (c : CanState) : Bool := decide (128 ≤ c.tec) || decide (128 ≤ c.rec_)

/-- One controller transmits the frame at the head of its queue. -/
def CanState.transmit (c : CanState) : CanState :=
  match c.next with
  | some f => { c with queue := c.queue.drop 1, sent := some { f with esi := c.errorPassive } }
  | none => c

/-- The network time captured at the start of a frame, when it is the SYNC of the round in progress and no capture is held yet (R99). -/
def State.capture (s : State) (round : Nat) (held : Option Nat) (f : Option CanFrame) : Option Nat :=
  match held, f with
  | none, some f => if f.id = 0x010 + s.zop.nodeId ∧ leAt f.data 4 4 = round then some s.now else none
  | h, _ => h

/-- Both controllers transmit one frame each; the master's captures M_A and M_B of its SYNC are taken (R99). -/
def State.transmitOne (s : State) : State :=
  { s with
    zop.canA := s.zop.canA.transmit
    zop.canB := s.zop.canB.transmit
    clock.sending := s.clock.sending.map (fun m =>
      ({ m with
        ma := s.capture m.round m.ma s.zop.canA.next
        mb := s.capture m.round m.mb s.zop.canB.next } : MasterRound)) }

/-- A channel is in use: enabled and not disabled. -/
def State.channelInUse (s : State) : CanChannel → Bool
  | .a => s.zop.canA.enabled && !s.zop.canA.disabled
  | .b => s.zop.canB.enabled && !s.zop.canB.disabled

end Sys2Proof.Machine
end

