-- ==== Sys2Proof/Machine/Clock.lean ====
section
/-!
DEFINITION. Machine/Clock.lean: the clock monitor, PLL lock, network time, sync rounds and the discipline law (ch. 3).
-/

namespace Sys2Proof.Machine

/-! ### The clock monitor (R91, R93, Table 3-2) -/

/-- A count lies in its range: the nominal count ±3 %, or ±10 % with the Trim region failed. -/
def countOk (trim : Bool) (nominal n : Nat) : Bool :=
  let w := if trim then 3 else 10
  decide (nominal * (100 - w) ≤ 100 * n) && decide (100 * n ≤ nominal * (100 + w))

/-- Every consumer clock whose domain is on has its count in range. -/
def countsOk (trim : Bool) (on : BitVec 56) (c : ClockCounts) : Bool :=
  countOk trim 20000 c.le && (!on.getLsbD 46 || countOk trim 10000 c.ce) && countOk trim 10000 c.ios && countOk trim 10000 c.ts &&
    (!on.getLsbD 49 || countOk trim 10000 c.me) && (!(on.getLsbD 50 || on.getLsbD 51) || countOk trim 8000 c.can) &&
    (!(List.range 8).any (fun i => on.getLsbD (32 + i)) || countOk trim 1000 c.sd)

/-- Report a window's counts (R106). -/
def State.noteCounts (c : ClockCounts) (ok : Bool) (s : State) : State :=
  let n := satAt 65535 c.ts
  { s with clock.rootLast := n, clock.rootMin := min s.clock.rootMin n, clock.rootMax := max s.clock.rootMax n, clock.monitorOk := ok }

/-- A monitor window ends; a count outside its range is clock fault 0x0201. -/
def State.monitorWindow (c : ClockCounts) (s : State) : State :=
  if s.clock.pllLock && s.boot.step != .resetHeld then
    let ok := countsOk s.clock.trimValid s.power.domainStatus c
    let s := s.noteCounts c ok
    if ok then s else s.clockFault 0x0201
  else s

def execClockMonitorWindow (dt : Nat) (counts : ClockCounts) (s : State) : Host.Outcome State Fault Refusal :=
  done ((s.elapse dt).monitorWindow counts)

/-- Loss of PLL lock is clock fault 0x0202 (R92). -/
def State.lockLoss (s : State) : State :=
  if s.clock.pllLock && s.boot.step != .resetHeld then State.clockFault 0x0202 { s with clock.pllLock := false } else s

def execPllLockLoss (dt : Nat) (s : State) : Host.Outcome State Fault Refusal := done (s.elapse dt).lockLoss

/-! ### Lock at boot (R90, R109, R121) -/

/-- The boot watchdog, if it runs, pauses, keeping what it has run (R121). -/
def State.pauseWatchdog (s : State) : State :=
  match s.boot.watchdogSince with
  | some t => { s with
      boot.watchdogRun := s.boot.watchdogRun + (s.localNow - t), boot.watchdogSince := none, boot.watchdogPaused := true }
  | none => s

/-- A paused boot watchdog runs on once neither the warning nor a retry of the lock holds it (R109, R121). -/
def State.resumeWatchdog (s : State) : State :=
  if s.boot.watchdogPaused && !s.power.pfw && !s.boot.lockRetrying then
    { s with boot.watchdogSince := some s.localNow, boot.watchdogPaused := false }
  else s

/-- The lock or its window failed: the cause is retained, the boot watchdog pauses and the unit retries (R109). -/
def State.lockFails (cause : Nat) (s : State) : State :=
  let s := (s.pendCause cause).pauseWatchdog
  { s with boot.step := .lockRetry, boot.lockRetrying := true, clock.pllLock := false }

/-- The PLL locks `lockUs` µs after its enable and one monitor window passes, on ranges that follow the Trim region (R90, R91). -/
def State.pllLocks (lockUs : Nat) (c : ClockCounts) (s : State) : State :=
  let s := s.bootPower
  if s.boot.step == .waitLock && !s.power.pfw then
    let trim := !s.otp.fails s.otp.lifecycleState .trim
    let ok := countsOk trim s.power.domainStatus c
    if 1000 < lockUs then s.lockFails 0x0202
    else
      let s := State.noteCounts c ok { s with clock.pllLockTime := lockUs, clock.trimValid := trim }
      if ok then State.resumeWatchdog { s with clock.pllLock := true, boot.step := .locked, boot.lockRetrying := false }
      else s.lockFails 0x0201
  else s

def execPllLock (dt lockUs : Nat) (counts : ClockCounts) (s : State) : Host.Outcome State Fault Refusal :=
  done ((s.elapse dt).pllLocks lockUs counts)

/-- The PLL has not locked within 1 ms (R109). -/
def State.lockTimeout (s : State) : State :=
  let s := s.bootPower
  if s.boot.step == .waitLock && !s.power.pfw && s.passed s.boot.retryAt (ms 1) then s.lockFails 0x0202 else s

def execPllLockTimeout (dt : Nat) (s : State) : Host.Outcome State Fault Refusal := done (s.elapse dt).lockTimeout

/-- The lock is tried again every 10 ms, counted from one attempt's start to the next (R109); during a warning the step waits (R86). -/
def State.lockRetry (s : State) : State :=
  let s := s.bootPower
  if s.boot.step == .lockRetry && !s.power.pfw && s.passed s.boot.retryAt (ms 10) then
    { s with boot.step := .waitLock, boot.retryAt := s.localNow }
  else s

def execPllLockRetry (dt : Nat) (s : State) : Host.Outcome State Fault Refusal := done (s.elapse dt).lockRetry

/-! ### Rate and sync state (R94, R102, R104) -/

/-- ±200 ppm in 2^-32 per edge. -/
abbrev rhoLimit : Int := 858993

/-- Set ρ, noting since when it stands at its limit (R107). -/
def State.setRho (rho : Int) (s : State) : State :=
  let v := max (-rhoLimit) (min rhoLimit rho)
  { s with
    clock.rho := v
    clock.limitSince := if v = rhoLimit ∨ v = -rhoLimit then some (s.clock.limitSince.getD s.localNow) else none }

/-- ρ = r. -/
def State.rhoIsR (s : State) : State :=
  { (s.setRho (roundDiv (s.clock.r * 2 ^ 32) 1000000000)) with clock.slewUntil := none }

/-- The round instant that follows now, counted from the round at `inst`, both as this unit's network time has them (R98, R99). -/
def State.nextRound (s : State) (inst : Instant) : Instant := inst + 1000000 * (max 0 ((s.now : Int) - inst) / 1000000 + 1)

/-- Lines 6 to 8 of R102 for the round at `inst`: r and the slew to the next round instant; r moves by −e / 2 ppm. -/
def State.slew (e : Int) (inst : Instant) (s : State) : State :=
  let r := max (-200000) (min 200000 (s.clock.r - 500 * e))
  let left := s.nextRound inst - s.now
  let s := State.setRho (roundDiv ((r * left - e * 1000000000) * 2 ^ 32) (left * 1000000000)) { s with clock.r := r }
  { s with clock.slewUntil := some (s.nextRound inst) }

/-- The discipline law for an accepted offset (R102): a step waits for the next boundary unless the unit is in Run (R111). -/
def State.applyOffset (e : Int) (inst : Instant) (s : State) : State :=
  if 1000 < e.natAbs ∧ s.rt.state ≠ .run then { s with clock.pendingStep := some (-e) } else s.slew e inst

/-- `SYNC_STATE` becomes FREE: in Run with `SYNC_REQUIRED` = 1 this is cause 0x0204 (R107). -/
def State.becomeFree (s : State) : State :=
  let s := State.rhoIsR { s with clock.sync := .free, clock.fourCount := 0, clock.departure := false }
  if s.rt.state == .run && s.syncRequired then s.recoverable 0x0204 [] else s

/-- Enter LOCKED; `SYNC_OFFSET_MAX` starts anew with `e`: that the round that enters LOCKED counts is the model's choice (log entry 94). -/
def State.becomeLocked (e : Int) (s : State) : State :=
  { s with clock.sync := .locked, clock.departure := false, clock.offsetMax := sat32 e.natAbs, clock.everLocked := true }

/-- A round's offset is accepted: counted from its instant, and applied (R102, R104). -/
def State.acceptRound (e : Int) (inst : Instant) (s : State) : State :=
  State.applyOffset e inst { s with clock.lastAccepted := some inst }

/-- `SYNC_OFFSET_LAST` and `SYNC_OFFSET_MAX` take the offset of every round of the master followed, since the last entry to LOCKED and in
whatever state (R106). DESIGN CHOICE (log entry 94): also that of a LOCKED round that Table 3-4 discards for its size. -/
def State.noteOffset (e : Int) (s : State) : State :=
  { s with
    clock.offsetLast := clampI32 e
    clock.offsetMax := if s.clock.everLocked then max s.clock.offsetMax (sat32 e.natAbs) else s.clock.offsetMax }

/-- Table 3-4 for a round of the master followed with offset `e`; `demoted` says that this round ended MASTER. -/
def State.roundOffset (e : Int) (inst : Instant) (demoted : Bool) (s : State) : State :=
  let within := decide (e.natAbs ≤ 30)
  let s := s.noteOffset e
  match s.clock.sync with
  | .free => State.acceptRound e inst { s with clock.sync := .locking, clock.fourCount := bit within }
  | .holdover =>
    if within then (s.becomeLocked e).acceptRound e inst
    else State.acceptRound e inst { s with clock.sync := .locking, clock.fourCount := 0 }
  | .locking =>
    let n := if within && !demoted then s.clock.fourCount + 1 else 0
    let s := State.acceptRound e inst { s with clock.fourCount := n }
    if 4 ≤ n then s.becomeLocked e else s
  | .locked =>
    if e.natAbs ≤ 35 then State.acceptRound e inst { s with clock.departure := false }
    else if !s.clock.departure then
      if e.natAbs ≤ 1000 then State.acceptRound e inst { s with clock.departure := true }
      else { s with clock.departure := true, clock.rejectCount := sat32 (s.clock.rejectCount + 1) }
    else State.acceptRound e inst { s with clock.sync := .locking, clock.fourCount := 0, clock.departure := false }
  | .master => s

/-! ### Masters and rounds (R98 to R100) -/

/-- Master `(p, n)` outranks `(q, m)`: lower priority value, then lower node ID. -/
def outranks (p n q m : Nat) : Bool := decide (p < q) || (p == q && decide (n < m))

/-- Masters from which a valid round has been heard within the last 30 ms. -/
def State.recentMasters (s : State) : List HeardMaster := s.clock.masters.filter (fun h => decide (s.now ≤ h.last + ms 30))

/-- The master followed: of the recent ones, the one of highest priority; a master follows none (R98). -/
def State.followed (s : State) : Option HeardMaster :=
  if s.clock.sync == .master then none
  else s.recentMasters.foldl (fun best h =>
    match best with
    | none => some h
    | some b => if outranks h.priority h.node b.priority b.node then some h else some b) none

/-- The master starts a round at the instants that are multiples of 1,000,000 ticks, once each: a SYNC frame on every enabled channel
(R99, R486). -/
def State.roundStart (s : State) : State :=
  if s.rt.cycling && s.clock.sync == .master && s.now % 1000000 == 0 && decide (s.clock.roundLast < s.now) then
    let round := wrap32 (s.now / 1000000)
    let s := { s with
      clock.sending := some { round := round, instant := s.now, ma := none, mb := none }
      clock.roundLast := s.now }
    s.send (0x010 + s.zop.nodeId) (s.zopHeader false ++ leBytes 1 s.timePriority ++ leBytes 1 0 ++ leBytes 4 round)
  else s

def execSyncRoundStart (dt : Nat) (s : State) : Host.Outcome State Fault Refusal := done (s.elapse dt).roundStart

/-- The FOLLOW_UP of the round in progress, with the captures that the controllers made of its SYNC (`State.transmitOne`): as soon as every
enabled channel's is held, or from 1.5 ms after the round instant; after 2 ms the round is void (R99). -/
def State.followUpSend (missedA missedB : Bool) (s : State) : State :=
  match s.clock.sending with
  | none => s
  | some m =>
    let a := if s.channelInUse .a && !missedA then m.ma else none
    let b := if s.channelInUse .b && !missedB then m.mb else none
    let held := (a.isSome || !s.channelInUse .a) && (b.isSome || !s.channelInUse .b)
    if s.clock.sync != .master || decide (m.instant + ms 2 < s.now) then { s with clock.sending := none }
    else if held || decide (m.instant + us 1500 ≤ s.now) then
      let body := leBytes 1 (bit a.isSome + 2 * bit b.isSome) ++ leBytes 1 0 ++ leBytes 4 m.round ++ leBytes 8 (a.getD 0) ++
        leBytes 8 (b.getD 0)
      State.send (0x030 + s.zop.nodeId) (s.zopHeader false ++ body) { s with clock.sending := none }
    else s

def execFollowUpSend (dt : Nat) (missedA missedB : Bool) (s : State) : Host.Outcome State Fault Refusal :=
  done ((s.elapse dt).followUpSend missedA missedB)

/-- The start-of-frame of a SYNC is captured (R100): one round a master is collected, and a copy of a processed round is ignored. -/
def State.syncFrame (ch : CanChannel) (master priority round : Nat) (s : State) : State :=
  if s.rt.cycling && s.channelInUse ch && master != s.zop.nodeId then
    let t := s.now
    let fresh : SyncCapture := { master := master, priority := priority, round := round, la := none, lb := none, done := false }
    let c := match s.clock.captures.find? (fun c => c.master == master && c.round == round) with
      | some c => c
      | none => fresh
    let c := if c.done then c else match ch with
      | .a => { c with la := some (c.la.getD t) }
      | .b => { c with lb := some (c.lb.getD t) }
    { s with clock.captures := s.clock.captures.filter (fun x => x.master != master) ++ [c] }
  else s

def execSync (dt : Nat) (ch : CanChannel) (master priority round : Nat) (s : State) : Host.Outcome State Fault Refusal :=
  done ((s.elapse dt).syncFrame ch master priority round)

/-- A round is heard: from its master, at its instant (R98). -/
def State.hearRound (master priority : Nat) (inst : Instant) (s : State) : State :=
  { s with
    clock.lastHeard := max s.clock.lastHeard inst
    clock.masters := s.clock.masters.filter (fun h => h.node != master) ++ [{ node := master, priority := priority, last := inst }] }

/-- A master that hears a round of one that outranks it stops sending and enters LOCKING; the 30 ms without an accepted round count from
here (R98, Table 3-4). -/
def State.yieldMaster (s : State) : State :=
  { s with
    clock.sync := .locking, clock.fourCount := 0, clock.sending := none, clock.lastAccepted := some (s.now : Int) }

/-- The offset of a round on one channel, with the capture M of its frame: its VALID bit is set and this unit captured it (R100). -/
def roundE (valid : Bool) (l : Option Instant) (m : Nat) : Option (Int × Nat) := if valid then l.map (fun l => (l - m, m)) else none

/-- The first FOLLOW_UP of a collected round is processed (R100): offsets of the channels whose bit is set and captured, discarded when
they differ by more than 30 ticks; then the law of the master followed. DESIGN CHOICE: a valid round from which no offset can be formed
lies at the instant of its FOLLOW_UP (log entry 95), and a round that R100 discards leaves the departure of Table 3-4 as the round before
it left it (log entry 96). -/
def State.followUpFrame (master : Nat) (validA validB : Bool) (round ma mb : Nat) (s : State) : State :=
  match s.clock.captures.find? (fun c => c.master == master && c.round == round && !c.done) with
  | none => s
  | some c =>
    let s := { s with clock.captures := s.clock.captures.map (fun (x : SyncCapture) =>
      if x.master == master && x.round == round then ({ x with done := true } : SyncCapture) else x) }
    let ea := roundE validA c.la ma
    let eb := roundE validB c.lb mb
    let taken := ea.orElse (fun _ => eb)
    let inst : Instant := match taken with
      | some (e, m) => ((m - m % 1000000 : Nat) : Int) + e
      | none => s.now
    let wasMaster := s.clock.sync == .master
    let s := s.hearRound master c.priority inst
    if wasMaster && !outranks c.priority master s.timePriority s.zop.nodeId then s
    else
      let s := if wasMaster then s.yieldMaster else s
      if (s.followed.map (fun h => h.node)) != some master then s
      else match taken, ea, eb with
        | none, _, _ => s
        | some (e, _), some x, some y =>
          if 30 < (x.1 - y.1).natAbs then { s with clock.rejectCount := sat32 (s.clock.rejectCount + 1) }
          else s.roundOffset e inst wasMaster
        | some (e, _), _, _ => s.roundOffset e inst wasMaster

def execFollowUp (dt master : Nat) (validA validB : Bool) (round ma mb : Nat) (s : State) : Host.Outcome State Fault Refusal :=
  done ((s.elapse dt).followUpFrame master validA validB round ma mb)

/-! ### Time-outs -/

/-- The round instant passed without an accepted round: ρ = r (R102, lines 9 and 10). -/
def State.noRound (s : State) : State :=
  match s.clock.slewUntil with
  | some t => if s.clock.sync != .master && decide (t ≤ s.now) then s.rhoIsR else s
  | none => s

def execRoundInstantNoRound (dt : Nat) (s : State) : Host.Outcome State Fault Refusal := done (s.elapse dt).noRound

/-- No round accepted for 30 ms: LOCKED → HOLDOVER, LOCKING → FREE (Table 3-4). -/
def State.roundTimeout (s : State) : State :=
  if s.clock.lastAccepted.any (fun (t : Instant) => decide (t + ms 30 ≤ s.now)) then
    match s.clock.sync with
    | .locked => State.rhoIsR { s with clock.sync := .holdover, clock.holdoverSince := s.now, clock.departure := false }
    | .locking => s.becomeFree
    | _ => s
  else s

def execSyncRoundTimeout (dt : Nat) (s : State) : Host.Outcome State Fault Refusal := done (s.elapse dt).roundTimeout

/-- `SYNC_HOLDOVER` elapsed in HOLDOVER: FREE (Table 3-4, Table 3-8). -/
def State.holdoverExpiry (s : State) : State :=
  if s.clock.sync == .holdover && decide (s.clock.holdoverSince + us s.syncHoldover ≤ s.now) then s.becomeFree else s

def execSyncHoldoverExpiry (dt : Nat) (s : State) : Host.Outcome State Fault Refusal := done (s.elapse dt).holdoverExpiry

/-- A candidate that has heard no valid round for 30 ms + priority × 1 ms becomes master, with ρ = 0 (R98). -/
def State.masterTimeout (s : State) : State :=
  let open_ := s.clock.sync == .free || s.clock.sync == .locking || s.clock.sync == .holdover
  if s.rt.cycling && open_ && s.timePriority != 0 && decide (s.clock.lastHeard + ms (30 + s.timePriority) ≤ s.now) then
    let s := State.setRho 0 { s with clock.sync := .master, clock.sending := none, clock.fourCount := 0 }
    { s with clock.slewUntil := none, clock.pendingStep := none, clock.roundLast := 0 }
  else s

def execTimeMasterTimeout (dt : Nat) (s : State) : Host.Outcome State Fault Refusal := done (s.elapse dt).masterTimeout

/-- ρ held at ±200 ppm for 1 s with `SYNC_REQUIRED` = 1: cause 0x0205 (R107). -/
def State.rateHold (s : State) : State :=
  match s.clock.limitSince with
  | some t => if s.syncRequired && s.passed t (ms 1000) then s.recoverable 0x0205 [] else s
  | none => s

def execRateLimitHold (dt : Nat) (s : State) : Host.Outcome State Fault Refusal := done (s.elapse dt).rateHold

/-! ### Steps (R102, R103, R112) -/

/-- A stored instant moved by the step; the interval to now stays as it was, also where the instant now lies below 0 (R103). -/
def moved (d : Int) (t : Instant) : Instant := t + d

/-- A stored timestamp moved by the step; 0, which stands for none, is no timestamp in use: DEDUCED (log entry 97) from the objects whose 0
means none. -/
def movedStamp (d : Int) (t : Instant) : Instant := if t = 0 then 0 else t + d

/-- The instants a block keeps. -/
def moveBlock (d : Int) (b : Block) : Block :=
  let timer (t : Option Timer) : Option Timer := t.map (fun x => ({ x with start := moved d x.start } : Timer))
  let edge (e : Option Edge) : Option Edge := e.map (fun x => ({ x with time := movedStamp d x.time } : Edge))
  { b with
    changeTime := movedStamp d b.changeTime, mix := timer b.mix, cond := b.cond.map timer, invalid := timer b.invalid
    timer := timer b.timer, fbA := timer b.fbA, fbB := timer b.fbB, dwellGrid := timer b.dwellGrid, dwellBatt := timer b.dwellBatt
    inA := edge b.inA, inB := edge b.inB, ackIn := edge b.ackIn, press := b.press.map (moved d)
    mixFrom := movedStamp d b.mixFrom, since := movedStamp d b.since }

/-- The instants a channel keeps. -/
def Channel.move (d : Int) (c : Channel) : Channel :=
  { c with
    edgeLive := movedStamp d c.edgeLive, edgeTime := movedStamp d c.edgeTime, commandAt := movedStamp d c.commandAt
    held := c.held.map (fun h => (h.1, movedStamp d h.2))
    run := c.run.map (fun r => ({ r with stamp := moved d r.stamp } : FilterRun))
    blanked := c.blanked.map (fun b => ({ b with run := b.run.map (fun r => (moved d r.1, r.2)) } : Blanked)) }

/-- The instants a counting input keeps (R309). -/
def Counter.move (d : Int) (c : Counter) : Counter :=
  { c with
    last := movedStamp d c.last, fLast := movedStamp d c.fLast, lastChange := c.lastChange.map (moved d)
    held := c.held.map (fun h => (h.1, movedStamp d h.2.1, h.2.2)) }

/-- The instants an analog pair keeps; a pending synchronising reset keeps its place on the grid, so its instant does not move (R326, R335). -/
def Pair.move (d : Int) (p : Pair) : Pair :=
  let chan (c : AnChannel) : AnChannel := { c with time := movedStamp d c.time, fTime := movedStamp d c.fTime }
  { p with
    a := chan p.a
    b := chan p.b
    held := p.held.map (fun i => ({ i with a := chan i.a, b := chan i.b } : PairInterval))
    runFirst := p.runFirst.map (moved d), runLatest := moved d p.runLatest, agreeSince := p.agreeSince.map (moved d) }

/-- Every stored instant still in use moves with a step of `d` ticks (R103). DESIGN CHOICE (log entry 97): `STATE_ENTRY_TIME`,
`EXCHANGE_TIME_LAST`, `TAKEOVER_TIME_LAST` and `AN_SYNC_TIME` report an instant of the past, from which the unit measures nothing: they are
not in use and stay. -/
def State.moveTimes (d : Int) (s : State) : State :=
  let det (l : List Detected) : List Detected := l.map (fun x => ({ x with time := moved d x.time } : Detected))
  { s with
    rt.boundary := (moved d s.rt.boundary).toNat
    rt.runSince := (moved d s.rt.runSince).toNat
    rt.passTag := moved d s.rt.passTag
    service.haltedTag := moved d s.service.haltedTag
    rt.detected := det s.rt.detected
    clock.lastHeard := moved d s.clock.lastHeard
    clock.lastAccepted := s.clock.lastAccepted.map (moved d)
    clock.slewUntil := s.clock.slewUntil.map (moved d)
    clock.holdoverSince := moved d s.clock.holdoverSince
    clock.masters := s.clock.masters.map (fun h => ({ h with last := moved d h.last } : HeardMaster))
    clock.captures := s.clock.captures.map (fun c => ({ c with la := c.la.map (moved d), lb := c.lb.map (moved d) } : SyncCapture))
    field.channels := s.field.channels.map (Channel.move d)
    field.images := s.field.images.map (fun i => ({ i with tag := moved d i.tag } : OutImages))
    field.wdArmAt := s.field.wdArmAt.map (moved d)
    glint.slot := s.glint.slot.map (fun g =>
      ({ g with start := moved d g.start, stop := moved d g.stop, blankEnd := moved d g.blankEnd } : GlintSlot))
    glint.waiting := det s.glint.waiting
    glint.carried := det s.glint.carried
    counters := s.counters.map (Counter.move d)
    analog.pairs := s.analog.pairs.map (Pair.move d)
    analog.waiting := det s.analog.waiting
    analog.carried := det s.analog.carried
    lib.blocks := s.lib.blocks.map (moveBlock d)
    xch.buffers := s.xch.buffers.map (fun b => ({ b with postedAt := movedStamp d b.postedAt } : Buffer))
    xch.waiting := s.xch.waiting.map (fun w => ({ w with at_ := moved d w.at_ } : XchWaiting))
    zop.conns := s.zop.conns.map (fun c => ({ c with timeLast := movedStamp d c.timeLast, wdFrom := movedStamp d c.wdFrom } : Connection))
    mirror.twinTokenAt := moved d s.mirror.twinTokenAt
    mirror.contentionSince := s.mirror.contentionSince.map (moved d) }

/-- Plan a synchronising reset: its instant is the first multiple of `AN_SYNC_GRID` at least 100 µs after the event (R326). -/
def Pair.planSync (grid now : Nat) (p : Pair) : Pair :=
  { p with syncAt := some ((now + us 100 + grid - 1) / grid * grid), syncing := true }

/-- A step of network time requests a reset of every enabled pair; one still pending is planned anew on the new grid (R326, R335). -/
def State.syncAfterStep (s : State) : State :=
  { s with analog.pairs := s.analog.pairs.map (fun p => if p.on then p.planSync s.anSyncGrid s.now else p) }

/-- A pending step takes effect: never in Run (R111). -/
def State.applyStep (s : State) : State :=
  match s.clock.pendingStep with
  | none => s
  | some d =>
    let s := { s with clock.pendingStep := none }
    if s.rt.state == .run then s
    else
      let s := (s.moveTimes d).moveInputs d
      State.syncAfterStep
        { s with clock.net := ((s.clock.net : Int) + d * 2 ^ 32).toNat, clock.stepCount := sat32 (s.clock.stepCount + 1) }

/-- A pending step takes effect at the boundary that is due, before anything the boundary evaluates (R112). -/
def State.stepAtBoundary (s : State) : State :=
  match s.clock.pendingStep with
  | none => s
  | some d =>
    let at_ := (moved d s.dueBoundary).toNat
    let t := s.applyStep
    if s.rt.state == .run then t else { t with clock.steppedTo := some at_ }

/-- A step takes effect only at a cycle boundary: at one that is due, or at the instant of the one just taken (R112). -/
def State.timeStep (s : State) : State :=
  if s.boundaryDue then s.stepAtBoundary
  else if s.rt.cycling && s.now == s.rt.boundary then s.applyStep
  else s

def execTimeStepApply (dt : Nat) (s : State) : Host.Outcome State Fault Refusal := done (s.elapse dt).timeStep

end Sys2Proof.Machine
end

