-- ==== Sys2Proof/Machine/Analog.lean ====
section
/-!
DEFINITION. Machine/Analog.lean: safety analog pairs (ch. 11): trim and scaling, the frozen analog image, synchronising resets, comparison
and fault detection. The reset on request is in Dict.lean.
-/

namespace Sys2Proof.Machine

/-! ### Trim and scaling (R321) -/

/-- Quotient rounded half away from zero, for a positive divisor. -/
def roundAway (a : Int) (b : Nat) : Int :=
  let q : Nat := (2 * a.natAbs + b) / (2 * b)
  if a < 0 then -(q : Int) else q

/-- The clamp: |r| of 7,381,975 or more is replaced and sets OVR. -/
def clampRaw (r : Int) : Int × Bool :=
  if 7381975 ≤ r.natAbs then (if r < 0 then -7381975 else 7381975, true) else (r, false)

/-- The trimmed code t of a clamped code under a channel's ANALOG_TRIM word. -/
def trimCode (word : Nat) (r : Int) : Int :=
  let gain := bitsAt word 31 16
  let off := (BitVec.ofNat 16 word).toInt
  roundAway ((r - 4 * off) * gain) 32768

/-- The engineering value e of a trimmed code, saturated at the I32 limits, negated for channel b under `AN_INVERT_B`. -/
def scaleCode (zero gainNum : Int) (shift : Nat) (invert : Bool) (t : Int) : Int :=
  let e := roundAway ((t - zero) * gainNum) (2 ^ shift)
  clampI32 (if invert then -e else e)

/-- t fits the 24-bit VALUE field. -/
def fits24 (t : Int) : Bool := decide (-8388608 ≤ t) && decide (t ≤ 8388607)

/-- The sample word (Table 11-3). A trimmed code outside 24 bits has no stated VALUE: `free` is a free value. -/
def sampleWord (valid ovr : Bool) (t : Int) (free : BitVec 64) : BitVec 32 :=
  let v : Nat := if !valid then 0 else if fits24 t then (t % 2 ^ 24).toNat else free.toNat % 2 ^ 24
  BitVec.ofNat 32 (bit valid * 2 ^ 31 + bit ovr * 2 ^ 30 + v)

/-- ANALOG_TRIM words of the Trim region in use (Table 5-3, Table 5-12). -/
def Otp.analogTrim (o : Otp) : List Nat :=
  match o.trimInUse with
  | some t => (List.range 8).map (fun i => t / 2 ^ (8 + 32 * i) % 2 ^ 32)
  | none => List.replicate 8 0x80000000

/-- The trim values in use come into force (R167, R171). -/
def State.useTrim (s : State) : State :=
  { s with clock.rcTrim := s.otp.rcTrim, analog.trim := s.otp.analogTrim, power.railTrim := s.otp.railTrim }

/-! ### Decimation (R319) -/

/-- Pairs of `n` things. -/
def pairsOf (n : Nat) : Int := n * (n - 1) / 2

/-- Weight of the k-th newest bit in the sinc3 of ratio r: a boxcar of r bits three times over, whose weights sum to r³. -/
def sincWeight (r k : Nat) : Int :=
  pairsOf (k + 2) - 3 * pairsOf (k + 2 - r) + 3 * pairsOf (k + 2 - 2 * r) - pairsOf (k + 2 - 3 * r)

/-- The raw code: the sinc3 over the bits spanned, oldest first, at full scale ±2^23. The spec does not say how a code that is no integer is
rounded: DESIGN CHOICE (log entry 154), half away from zero. -/
def sincCode (r : Nat) (bits : List Bool) : Int :=
  roundAway ((bits.reverse.zipIdx.map (fun b => if b.1 then sincWeight r b.2 else -sincWeight r b.2)).sum * 2 ^ 23) (r ^ 3)

/-- Runs of equal bits, from `n` bits equal to `last` on: whether one exceeds 128 (Table 11-5), and the run that ends the bits. -/
def equalRun (last : Bool) (n : Nat) : List Bool → Bool × Bool × Nat
  | [] => (false, last, n)
  | b :: l =>
    let m := if b == last then n + 1 else 1
    let r := equalRun b m l
    (decide (128 < m) || r.1, r.2)

/-- The decimator takes the bits of one sample. -/
def AnChannel.feed (r : Nat) (new : List Bool) (c : AnChannel) : AnChannel :=
  let bits := c.bits ++ new
  let run := (equalRun c.lastBit c.equalBits new).2
  { c with bits := bits.drop (bits.length - 3 * r), lastBit := run.1, equalBits := run.2 }

/-! ### Samples (R323 to R325, R328) -/

/-- Pair ANp. -/
def State.pair (s : State) (p : Nat) : Pair := s.analog.pairs.getD p {}

/-- Change pair ANp. -/
def State.modPair (p : Nat) (f : Pair → Pair) (s : State) : State := { s with analog.pairs := s.analog.pairs.modify p f }

/-- A channel's interval begins. -/
def AnChannel.restart (c : AnChannel) : AnChannel := { c with last := 0, min := 0, max := 0, nvalid := 0, ovr := false, count := 0 }

/-- The interval that runs. -/
def Pair.interval (q : Pair) : PairInterval :=
  { a := q.a, b := q.b, disagree := q.disagree, synced := q.synced, syncInInterval := q.syncInInterval }

/-- What a pair gathered up to a boundary that has passed is kept for its freeze, and the next interval begins (R324). -/
def Pair.hold (q : Pair) : Pair :=
  if q.held.isSome then q
  else { q with held := some q.interval, a := q.a.restart, b := q.b.restart, syncInInterval := false }

/-- Keep pair ANp for a boundary that instant `t` lies beyond. -/
def State.holdPair (p : Nat) (t : Instant) (s : State) : State :=
  if s.boundaryDue && decide ((s.dueBoundary : Int) < t) then s.modPair p Pair.hold else s

/-- One sample enters a channel's interval. -/
def AnChannel.take (now : Nat) (valid ovr : Bool) (e : Int) (word : BitVec 32) (c : AnChannel) : AnChannel :=
  let c := { c with word := word, valid := valid, ovr := c.ovr || ovr, time := now, count := c.count + 1 }
  if valid then
    { c with
      value := e
      last := e
      min := if c.nvalid = 0 ∨ e < c.min then e else c.min
      max := if c.nvalid = 0 ∨ c.max < e then e else c.max
      nvalid := c.nvalid + 1 }
  else c

/-- One channel's conversion: e, OVR and t of a raw code (R321). -/
def State.convert (s : State) (p : Nat) (chanB : Bool) (raw : Int) : Int × Bool × Int :=
  let (r, ovr) := clampRaw raw
  let t := trimCode (s.analog.trim.getD (2 * p + bit chanB) 0x80000000) r
  (scaleCode (if chanB then s.anZeroB p else s.anZeroA p) (s.anGainNum p) (s.anGainShift p) (chanB && s.anInvertB p) t, ovr, t)

/-- One channel of a pair completes a sample. -/
def State.sampleChannel (p : Nat) (chanB valid : Bool) (raw : Int) (s : State) : State :=
  let (e, ovr, t) := s.convert p chanB raw
  let (v, s) := if valid && !fits24 t then s.drawFree else (0, s)
  let word := sampleWord valid ovr t v
  s.modPair p (fun q =>
    if chanB then { q with b := q.b.take s.now valid ovr e word } else { q with a := q.a.take s.now valid ovr e word })

/-- Compare the two values of one instant (R328). -/
def Pair.compare (tolerance now : Nat) (ea eb : Int) (q : Pair) : Pair :=
  let d := (ea - eb).natAbs
  let q := { q with diffMax := max q.diffMax (sat32 d) }
  if tolerance < d then
    { q with disagree := true, runFirst := some (q.runFirst.getD now), runLatest := now, agreeSince := none }
  else { q with disagree := false, runFirst := none, agreeSince := some (q.agreeSince.getD now) }

/-- One channel of a pair. -/
def Pair.side (q : Pair) (chanB : Bool) : AnChannel := if chanB then q.b else q.a

/-- Change one channel of pair p. -/
def State.modSide (p : Nat) (chanB : Bool) (f : AnChannel → AnChannel) (s : State) : State :=
  s.modPair p (fun q => if chanB then { q with b := f q.b } else { q with a := f q.a })

/-- Set an analog cause in the next frozen image; the first one names its channel (R330, R331). -/
def State.analogCause (cause : Nat) (cls : FaultClass) (channel : Nat) (s : State) : State :=
  { s with
    analog.faultChannel := if s.analog.faultChannel = 0xFF then channel else s.analog.faultChannel
    analog.waiting := s.analog.waiting ++ [{ cause := cause, cls := cls, time := s.now, data := [] }] }

/-- The bits of a modulator hold a run of more than 128 equal ones: cause 0x0802 and the IOS safe state at once (R329, R330). -/
def State.checkBits (p : Nat) (emitted : BitRun) (s : State) : State :=
  let q := s.pair p
  let c := q.side emitted.chanB
  if q.on && !q.modFault && (equalRun c.lastBit c.equalBits emitted.bits).1 then
    ((s.modPair p (fun q => { q with modFault := true })).analogCause 0x0802 .nonRecoverable
      (2 * p + bit emitted.chanB)).iosSafeState
  else s

/-- The bits of one sample: R of them, or none where the channel completes no sample, which is the defect that R329 counts. -/
def sampleBits (r : Nat) (bits : Option (List Bool)) : Option (List Bool) := bits.filter (fun l => l.length == r)

/-- One channel's modulator has emitted the bits of a sample: they are checked, and its decimator takes them. -/
def State.feedSide (p r : Nat) (chanB : Bool) (bits : Option (List Bool)) (s : State) : State :=
  match bits with
  | some l => (s.checkBits p { chanB := chanB, bits := l }).modSide p chanB (AnChannel.feed r l)
  | none => s

/-- A sample instant of an enabled pair, the n-th multiple of R × 10 ticks after its synchronising reset: samples 1 and 2 are not valid,
sample 3 ends SYNCING unless another reset is pending (R319, R325, Table 11-8). -/
def State.sampleComplete (p : Nat) (bitsA bitsB : Option (List Bool)) (s : State) : State :=
  let q := s.pair p
  let period := 10 * q.ratio
  let n := (s.localNow - q.syncEdge) / period
  if !q.on || !q.synced || (s.localNow - q.syncEdge) % period != 0 || n ≤ q.sinceSync then s
  else
    let valid := decide (3 ≤ n)
    let la := sampleBits q.ratio bitsA
    let lb := sampleBits q.ratio bitsB
    let s := ((s.holdPair p s.now).feedSide p q.ratio false la).feedSide p q.ratio true lb
    let s := s.modPair p (fun q => { q with sinceSync := n, syncing := q.syncing && (!valid || q.syncAt.isSome) })
    let ra := sincCode q.ratio (s.pair p).a.bits
    let rb := sincCode q.ratio (s.pair p).b.bits
    let s := if la.isSome then s.sampleChannel p false valid ra else s
    let s := if lb.isSome then s.sampleChannel p true valid rb else s
    if valid && la.isSome && lb.isSome then
      s.modPair p (Pair.compare (s.anTolerance p) s.now (s.convert p false ra).1 (s.convert p true rb).1)
    else s

def execAnalogSampleComplete (dt pair : Nat) (bitsA bitsB : Option (List Bool)) (s : State) : Host.Outcome State Fault Refusal :=
  done ((s.elapse dt).sampleComplete pair bitsA bitsB)

/-! ### Detection (R328 to R330) -/

/-- A run of disagreeing samples has lasted `AN_DISC_TIME`: cause 0x0804, named by channel a of its pair. -/
def State.disagreement (p : Nat) (s : State) : State :=
  let q := s.pair p
  match q.runFirst with
  | some t =>
    if q.on && q.disagree && !q.disagreeFault && decide (t + us (s.anDiscTime p) ≤ q.runLatest) then
      ((s.modPair p (fun q => { q with disagreeFault := true })).analogCause 0x0804 .recoverable (2 * p)).raise 0x0804
    else s
  | none => s

def execPairDisagreement (dt pair : Nat) (s : State) : Host.Outcome State Fault Refusal := done ((s.elapse dt).disagreement pair)

/-- MODULATOR_STUCK: the IOS finds the run while the modulator emits it. -/
def execModulatorStuck (dt pair : Nat) (emitted : BitRun) (s : State) : Host.Outcome State Fault Refusal :=
  done ((s.elapse dt).checkBits pair emitted)

/-! ### Enabling and synchronising resets (R325 to R327, R334) -/

/-- A reset requested for a pair: merged into a pending one, and of no effect while its domains are off (R327). -/
def State.requestSync (p : Nat) (s : State) : State :=
  let grid := s.anSyncGrid
  s.modPair p (fun q => if q.on && q.syncAt.isNone then q.planSync grid s.now else q)

/-- The write of `AN_SYNC_REQUEST` takes effect: bit p requests pair p. -/
def State.requestSyncs (value : Nat) (s : State) : State :=
  (List.range 4).foldl (fun t p => if bitOf value p then t.requestSync p else t) s

/-- Both domains of pair p have been stable for 50 µs: the pair is enabled and its first reset planned (R326). -/
def State.pairOn (p : Nat) (s : State) : State :=
  let grid := s.anSyncGrid
  let ratio := s.anRatio p
  s.modPair p (fun q => if q.on then q else ({ q with on := true, ratio := ratio, synced := false, sinceSync := 0 }).planSync grid s.now)

/-- Pair p is disabled: its domains go off, its items read 0 and its causes no longer arise (R334). -/
def State.pairOff (p : Nat) (s : State) : State :=
  let s := s.modPair p (fun q =>
    { ({} : Pair) with ratio := q.ratio, modFault := q.modFault, refFault := q.refFault, countFault := q.countFault
                       diffMax := q.diffMax, syncTime := q.syncTime })
  if s.analog.pairs.any (fun q => q.disagreeFault) then s else s.clearCause 0x0804

/-- `AN_RATIO` as configured comes into force; a change resets the pair as its enabling does (R334). -/
def State.applyRatio (p : Nat) (s : State) : State :=
  let grid := s.anSyncGrid
  let ratio := s.anRatio p
  s.modPair p (fun q =>
    if q.ratio = ratio then q
    else
      let q := { q with ratio := ratio }
      if !q.on then q
      else
        let q := { q with synced := false, sinceSync := 0, syncing := true }
        if q.syncAt.isSome then q else q.planSync grid s.now)

/-- The decimator clears. -/
def AnChannel.clear (c : AnChannel) : AnChannel := { c with bits := [], valid := false }

/-- The sync instant of a pending reset is reached: both decimators clear at the modulator clock edge at or after it, within 100 ns (R325);
never in Run (R327), where it stays pending (DEDUCED, log entry 149). -/
def State.syncReset (p : Nat) (s : State) : State :=
  match (s.pair p).syncAt with
  | some t =>
    if t ≤ s.now && s.rt.state != .run then
      let late := s.now - t
      let edge := if late ≤ 10 then s.localNow else s.localNow - late
      (s.holdPair p t).modPair p (fun q =>
        { q with a := q.a.clear, b := q.b.clear, syncAt := none, synced := true, sinceSync := 0, syncEdge := edge, syncing := true
                 syncInInterval := true, syncTime := t })
    else s
  | none => s

def execSynchronisingReset (dt pair : Nat) (s : State) : Host.Outcome State Fault Refusal := done ((s.elapse dt).syncReset pair)

/-! ### The freeze (R324, R329, R330, R332) -/

/-- Freeze one channel with the interval `i` (Table 11-4): NVALID above 255 does not fit its U8, and the spec states no value: `free` is a
free value. -/
def AnChannel.freeze (disagree : Bool) (free : BitVec 64) (i c : AnChannel) : AnChannel :=
  { c with
    fWord := i.word
    fLast := i.last, fMin := i.min, fMax := i.max
    fNvalid := if i.nvalid ≤ 255 then i.nvalid else free.toNat % 256
    fFlags := BitVec.ofNat 8 (bit (i.valid && decide (0 < i.count)) + 2 * bit i.ovr + 4 * bit disagree)
    fTime := if i.count = 0 then 0 else i.time }

/-- Freeze both channels with the interval that ends at the boundary, which holds no later sample (R324). -/
def Pair.freeze (va vb : BitVec 64) (q : Pair) : Pair :=
  let r := q.hold
  let i := r.held.getD q.interval
  { r with a := r.a.freeze i.disagree va i.a, b := r.b.freeze i.disagree vb i.b, held := none }

/-- A sample count of one interval lies in its range (Table 11-5). -/
def countInRange (cycleTicks ratio n : Nat) : Bool :=
  let period := 10 * ratio
  decide (cycleTicks / period ≤ n + 1) && decide (n ≤ (cycleTicks + period - 1) / period + 1)

/-- Freeze pair p. -/
def State.freezePair (refBad : BitVec 2) (p : Nat) (s : State) : State :=
  let q := s.pair p
  if !q.on then s
  else
    let i := q.held.getD q.interval
    let aOk := countInRange (us s.rt.cycleUs) q.ratio i.a.count
    let bOk := countInRange (us s.rt.cycleUs) q.ratio i.b.count
    let countBad := i.synced && !i.syncInInterval && !q.countFault && (!aOk || !bOk || i.a.count != i.b.count)
    let refNow := refBad != 0 && !q.refFault
    let s := if refNow then
        ((s.modPair p (fun q => { q with refFault := true })).analogCause 0x0801 .nonRecoverable
          (2 * p + bit (!refBad.getLsbD 0))).iosSafeState
      else s
    let s := if countBad then
        ((s.modPair p (fun q => { q with countFault := true })).analogCause 0x0803 .nonRecoverable
          (2 * p + bit (aOk && !bOk))).iosSafeState
      else s
    let (va, s) := if 255 < i.a.nvalid then s.drawFree else (0, s)
    let (vb, s) := if 255 < i.b.nvalid then s.drawFree else (0, s)
    s.modPair p (Pair.freeze va vb)

/-- Every compared sample of a pair has agreed for 100 ms. -/
def State.agreed (s : State) (q : Pair) : Bool :=
  match q.agreeSince with
  | some t => decide (t + ms 100 ≤ s.now)
  | none => false

/-- Cause 0x0804 of a pair clears when every compared sample has agreed for 100 ms (R332). -/
def State.clearDisagreements (s : State) : State :=
  let s := { s with analog.pairs := s.analog.pairs.map (fun q =>
    if q.disagreeFault && s.agreed q then ({ q with disagreeFault := false } : Pair) else q) }
  if s.rt.active.contains 0x0804 && !s.analog.pairs.any (fun q => q.disagreeFault) then s.clearCause 0x0804 else s

/-- A reference differs from the bandgap by more than 0.5 % (Table 11-5). -/
def refDiffers (ref bandgap : Nat) : Bool := decide (bandgap < 200 * ((ref : Int) - bandgap).natAbs)

/-- The analog freeze: the items of every enabled pair, the checks made at it, and the causes the image then carries. -/
def State.freezeAnalog (ref1 ref2 bandgap : Nat) (s : State) : State :=
  let refBad := BitVec.ofBoolListLE [refDiffers ref1 bandgap, refDiffers ref2 bandgap]
  let s := (List.range 4).foldl (fun t p => t.freezePair refBad p) s
  let s := s.clearDisagreements
  { s with analog.carried := s.analog.waiting, analog.waiting := [] }

end Sys2Proof.Machine
end

