-- ==== Sys2Proof/Machine/Domains.lean ====
section
/-!
DEFINITION. Machine/Domains.lean: the power domains of Table 2-4, their switching and comparison (R72 to R75), and how a change of
configuration reaches channels and pairs (R73, R293, R334).
-/

namespace Sys2Proof.Machine

/-- The domains Table 2-4 wants on from release onwards, under the configuration in force. -/
def State.domainsWanted (s : State) : BitVec 56 :=
  BitVec.ofBoolListLE ((List.range 56).map (fun n =>
    if n < 32 then (s.ch n).mode != 0
    else if n < 40 then s.anEnable ((n - 32) / 2)
    else if n = 49 then s.pairMember
    else if n = 52 then s.modbusEnable
    else if n = 54 then s.otp.running.isSome
    else if n = 55 then s.service.bistFrom.isSome
    else true))

/-- Numbers of the domains in a set. -/
def domainList (v : BitVec 56) : List Nat := (List.range 56).filter (fun n => v.getLsbD n)

/-- What switching a domain off does to its block (R74, R293, R334): PD49 holds the ME and the snapshot store, PD52 the RS-485 port. -/
def State.blockOff (pd : Nat) (s : State) : State :=
  if pd < 32 then s.channelOff pd
  else if pd < 40 then s.pairOff ((pd - 32) / 2)
  else if pd = 49 then { s with mirror := { ({} : Mirror) with
    twinToken := s.mirror.twinToken, twinTokenAt := s.mirror.twinTokenAt, loopOk := s.mirror.loopOk, takeovers := s.mirror.takeovers } }
  else if pd = 52 then { s with modbus.outstanding := none }
  else s

/-- Command the domains of Table 2-4: each one switched on is held in reset for 50 µs, each one switched off is off at once (R73, R74). -/
def State.applyDomains (s : State) : State :=
  let want := s.domainsWanted
  let had := s.power.domainCommand
  let up := domainList (want &&& ~~~had)
  let down := domainList (had &&& ~~~want)
  let s := { s with
    power.domainCommand := want
    power.domainStatus := s.power.domainStatus &&& want
    power.switching := s.power.switching.filter (fun e => want.getLsbD e.1) ++ up.map (fun n => (n, s.localNow + us 50))
    power.switchedLast := s.power.switchedLast ||| (had &&& ~~~want) }
  State.refreshDrivers [] (down.foldl (fun t n => t.blockOff n) s)

/-- A counting input starts from zero at release and at every change of `CH_MODE` to 0x05; OVERRUN stands until release (R309, Table 10-6). -/
def State.restartCounter (n : Nat) (s : State) : State :=
  if 28 ≤ n ∧ (s.ch n).mode = 5 then
    { s with counters := s.counters.modify (n - 28) (fun c => ({ ({} : Counter) with overrun := c.overrun } : Counter)) }
  else s

/-- The supply of a domain has been stable for 50 µs: its block starts (R74). A pair is enabled when both its domains are on (R326). -/
def State.powerUp (pd : Nat) (s : State) : State :=
  let s := s.bootPower.bistPower
  match s.power.switching.find? (fun e => e.1 == pd) with
  | none => s
  | some e =>
    if e.2 ≤ s.localNow then
      let s := { s with
        power.switching := s.power.switching.filter (fun x => x.1 != pd)
        power.domainStatus := s.power.domainStatus ||| pdBit pd
        power.switchedLast := s.power.switchedLast ||| pdBit pd }
      if pd < 32 then (s.channelOn pd).restartCounter pd
      else if pd < 40 then
        let p := (pd - 32) / 2
        let other := if pd % 2 = 0 then pd + 1 else pd - 1
        if s.power.switching.any (fun x => x.1 == other) then s else s.pairOn p
      else if pd = 49 then { s with mirror.linkOk := true }
      else s
    else s

def execDomainPowerUp (dt pd : Nat) (s : State) : Host.Outcome State Fault Refusal := done ((s.elapse dt).powerUp pd)

/-- The comparison of every cycle: power-good against command, but for domains in the 50 µs of their switching and one cycle after it,
whether or not their supply has come good (R75). -/
def State.compareDomains (good : BitVec 56) (s : State) : State :=
  let young := s.power.switching.filter (fun e => decide (s.localNow < e.2 + us s.rt.cycleUs))
  let busy := young.foldl (fun v e => v ||| pdBit e.1) s.power.switchedLast
  let bad := (good ^^^ s.power.domainCommand) &&& ~~~busy
  { s with
    power.domainStatus := good
    power.mismatchTwice := bad &&& s.power.mismatchLast
    power.mismatchLast := bad
    power.switchedLast := 0 }

/-- A mismatch that persisted for two consecutive cycles is cause 0x0101 (R75). -/
def State.domainFault (s : State) : State :=
  if s.power.mismatchTwice != 0 then s.detectOnce 0x0101 .nonRecoverable else s

def execDomainMismatch (dt : Nat) (s : State) : Host.Outcome State Fault Refusal := done (s.elapse dt).domainFault

/-! ### A change of configuration reaches the field side -/

/-- `CH_MODE` as configured comes into force on CHn: a channel whose domain stays on restarts its input stage (R293). -/
def State.applyMode (n : Nat) (s : State) : State :=
  let c := s.ch n
  let m := s.chMode n
  if c.mode = m then s
  else
    let s := s.modCh n (fun c =>
      { c with mode := m, command := c.command && isOutputMode m, mismatchRun := 0, matchRun := 0, readbackFault := false })
    (if c.on && m != 0 then s.channelOn n else s).restartCounter n

/-- Outputs where the state gives them their values: Table 9-5, unless simulation drives the non-safety outputs (R569), and none before the
first placement after release (R144). -/
def State.placeState (s : State) : State :=
  if s.service.simActive || !s.field.outputsLive then s
  else if s.rt.state == .run then s
  else s.placeSafe

/-- The configuration written takes effect at this boundary, in Hold or Service: modes, domains, ratios, bank switches and the values of
non-safety outputs (R73, R286, R334). -/
def State.applyConfig (s : State) : State :=
  let s := (List.range 32).foldl (fun t n => t.applyMode n) s
  let s := (List.range 4).foldl (fun t p => t.applyRatio p) s
  let s := (List.range 32).foldl (fun t n => t.recompare n) s
  ((s.applyDomains).setBanks.placeState).refreshDrivers []

end Sys2Proof.Machine
end

