-- ==== Sys2Proof/Machine/ImageFormat.lean ====
section
/-!
DEFINITION. Machine/ImageFormat.lean: what a logic image is (Tables 13-1 to 13-7, 17-12), its validation (Table 13-6) and the comparison of
its declarations with the configuration in force (R289, R312, R333, R372, R502, R512).
-/

namespace Sys2Proof.Machine

/-! ### Banks (R366) -/

/-- LE address of a bank: 1 for A, 2 for B. -/
def bankBase (bank : Nat) : Nat := if bank = 2 then 0x0C040000 else 0x0C000000

/-- The other bank. -/
def otherBank (bank : Nat) : Nat := if bank = 2 then 1 else 2

/-- `n` bytes of a bank from offset `off`, as far as the bank reaches. -/
def LeMem.bank (m : LeMem) (bank off n : Nat) : List Byte :=
  cellBytes erasedByte m.flash (bankBase bank + off) (min n (0x40000 - off))

/-- The load target: the bank that is not active, or, without an active image, the one not selected (R366). -/
def State.loadTarget (s : State) : Nat :=
  if s.images.active ≠ 0 then otherBank s.images.active else otherBank s.imageBankSelect

/-- Bookkeeping of a bank. -/
def Images.bank (i : Images) (bank : Nat) : ImageBank := if bank = 2 then i.bankB else i.bankA

/-- Change the bookkeeping of a bank. -/
def Images.modBank (bank : Nat) (f : ImageBank → ImageBank) (i : Images) : Images :=
  if bank = 2 then { i with bankB := f i.bankB } else { i with bankA := f i.bankA }

/-! ### The header (Table 13-1) -/

/-- An image header. -/
structure ImageHeader where
  magic : Nat
  format : Nat
  headerSize : Nat
  length : Nat
  version : Nat
  sequence : Nat
  familyId : Nat
  codeConstant : Nat
  passUs : Nat
  entry : Nat
  stateSize : Nat
  stackSize : Nat
  libRequired : Nat
  sections : List (Nat × Nat)
  imageCrc : Nat
  headerCrc : Nat
deriving DecidableEq, Repr

/-- Read a header. -/
def readImageHeader (h : List Byte) : ImageHeader :=
  { magic := leAt h 0 4, format := leAt h 4 2, headerSize := leAt h 6 2, length := leAt h 8 4, version := leAt h 0xC 4
    sequence := leAt h 0x10 4, familyId := leAt h 0x14 4, codeConstant := leAt h 0x18 4, passUs := leAt h 0x1C 4
    entry := leAt h 0x20 4, stateSize := leAt h 0x24 4, stackSize := leAt h 0x28 4, libRequired := leAt h 0x2C 4
    sections := (List.range 6).map (fun i => (leAt h (0x30 + 8 * i) 4, leAt h (0x34 + 8 * i) 4))
    imageCrc := leAt h 0x78 4, headerCrc := leAt h 0x7C 4 }

/-- Header of a bank. -/
def State.imageHeader (s : State) (bank : Nat) : ImageHeader := readImageHeader (s.le.bank bank 0 128)

/-- Offset and length of section `i` (Table 13-2). -/
def ImageHeader.sect (h : ImageHeader) (i : Nat) : Nat × Nat := h.sections.getD i (0, 0)

/-- Bytes of section `i` of a bank. -/
def State.sectionBytes (s : State) (bank i : Nat) : List Byte :=
  let sec := (s.imageHeader bank).sect i
  s.le.bank bank sec.1 sec.2

/-! ### Entries (Tables 13-3 to 13-5, 17-12) -/

/-- An instance entry: the block it declares, its STATE_LENGTH and whether its reserved bits read 0. -/
def readInstance (e : List Byte) : Block × Nat × Bool :=
  ({ id := leAt e 0 2, type := leAt e 2 1, presetImmediate := bitOf (leAt e 3 1) 0, stateOffset := leAt e 4 4
     params := (List.range 16).map (fun i => leAt e (0xC + 4 * i) 4) },
   leAt e 8 4, decide (leAt e 3 1 < 2) && leAt e 0x4C 4 == 0)

/-- Instance entries of the INSTANCES section. -/
def readInstances (b : List Byte) : List (Block × Nat × Bool) :=
  (List.range (b.length / 80)).map (fun i => readInstance ((b.drop (80 * i)).take 80))

/-- Channel-use words. -/
def readUses (b : List Byte) : List (Nat × Nat) := (List.range 32).map (fun i => (leAt b (8 * i) 4, leAt b (8 * i + 4) 4))

/-- Analog-use words. -/
def readAnalog (b : List Byte) : List Nat := (List.range 4).map (fun i => leAt b (4 * i) 4)

/-- A connection entry and whether its reserved bytes read 0. -/
def readConnection (e : List Byte) : Connection × Bool :=
  ({ connId := leAt e 0 2, role := leAt e 2 1, peer := leAt e 3 1, words := leAt e 4 1, period := leAt e 5 1
     wdTime := leAt e 8 4, slot := leAt e 0xC 4 }, leAt e 6 2 == 0)

/-- Entries of the CONNECTIONS section. -/
def readConnections (b : List Byte) : List (Connection × Bool) :=
  (List.range (b.length / 16)).map (fun i => readConnection ((b.drop (16 * i)).take 16))

/-! ### Channels and links of a block (Tables 12-10 to 12-14) -/

/-- PARAM word n: subindex 0x10 + n. -/
def param (b : Block) (n : Nat) : Nat := b.params.getD n 0

/-- Types 0x01 to 0x04. -/
def isTwoChannel (t : Nat) : Bool := decide (1 ≤ t) && decide (t ≤ 4)

/-- Types 0x01 to 0x05. -/
def isDemand (t : Nat) : Bool := decide (1 ≤ t) && decide (t ≤ 5)

/-- Types 0x10 to 0x12. -/
def isActuator (t : Nat) : Bool := t == 0x10 || t == 0x11 || t == 0x12

/-- Block types of Table 12-1. -/
def typeKnownBlock (t : Nat) : Bool := isDemand t || t == 8 || isActuator t

/-- The ACK_SOURCE word of a block. -/
def ackSource (b : Block) : Nat :=
  if isTwoChannel b.type then param b 5 else if b.type = 5 then param b 12 else if isActuator b.type then param b 11 else 0xFF

/-- Instances named in the link words. -/
def links (b : Block) : List Nat :=
  if b.type = 8 ∨ isActuator b.type = true then
    ([13, 14, 15].flatMap (fun n => [param b n / 2 ^ 16, param b n % 2 ^ 16])).filter (· != 0)
  else []

/-- Channels a block drives, each with the `CH_SOURCE` its block requires (R350, R351, R353, R357). -/
def drives (b : Block) : List (Nat × Nat) :=
  match b.type with
  | 0x10 => [(param b 0, 1), (param b 1, 2)]
  | 0x11 => [(param b 0, 1), (param b 1, 2), (param b 2, 3)]
  | 0x12 => [(param b 0, 3)]
  | 0x08 => ([param b 5, param b 6, param b 7, param b 8].filter (· != 0xFF)).map (fun c => (c, 3))
  | _ => []

/-- Channels a block reads. -/
def reads (b : Block) : List Nat :=
  let ack := if ackSource b = 0xFF then [] else [ackSource b]
  (match b.type with
  | 0x10 => [param b 2, param b 3]
  | 0x11 => [param b 3, param b 4]
  | 0x12 => if param b 3 = 0xFF then [] else [param b 3]
  | 1 | 2 | 3 => [param b 0, param b 1]
  | 4 => if param b 1 = 0xFF then [param b 0] else [param b 0, param b 1]
  | _ => []) ++ ack

/-- Wiring parameters of Table 13-7. -/
def wiring (b : Block) : List Nat :=
  match b.type with
  | 5 => [param b 0, param b 12]
  | 8 => [param b 3, param b 4, param b 5, param b 6, param b 7, param b 8]
  | 0x10 => [param b 0, param b 1, param b 2, param b 3, param b 11, param b 12]
  | 0x11 => [param b 0, param b 1, param b 2, param b 3, param b 4, param b 6, param b 7, param b 11, param b 12]
  | 0x12 => [param b 0, param b 1, param b 3, param b 11]
  | _ => [param b 0, param b 1, param b 2, param b 5]

/-- STATE_LENGTH of Table 13-7. -/
def stateLength (type : Nat) : Nat := if type = 5 then 192 else if type = 0x12 then 64 else 128

/-- PARAM words a type uses. -/
def usedWords (type : Nat) : List Nat :=
  match type with
  | 5 => List.range 14
  | 8 => List.range 9 ++ [13, 14, 15]
  | 0x10 => List.range 8 ++ [11, 12, 13, 14, 15]
  | 0x11 => List.range 16
  | 0x12 => List.range 6 ++ [11, 13, 14, 15]
  | _ => List.range 7

/-! ### Validation (Table 13-6) -/

/-- No value occurs twice. -/
def noRepeat : List Nat → Bool
  | [] => true
  | a :: r => !r.contains a && noRepeat r

/-- No two of the spans overlap. -/
def noOverlap : List (Nat × Nat) → Bool
  | [] => true
  | a :: r => r.all (fun b => decide (a.1 + a.2 ≤ b.1) || decide (b.1 + b.2 ≤ a.1)) && noOverlap r

/-- A list of keys is strictly ascending. -/
def ascending : List Nat → Bool
  | [] => true
  | a :: r => (match r with | [] => true | b :: _ => decide (a < b)) && ascending r

/-- A connection entry's fields lie in range and its slot in its area (Table 17-12, R495). -/
def connectionOk (c : Connection × Bool) : Bool :=
  let k := c.1
  c.2 && decide (k.connId ≤ 0xFF) && decide (1 ≤ k.peer) && decide (k.peer ≤ 16) && decide (1 ≤ k.words) && decide (k.words ≤ 8) &&
    k.slot % 4 == 0 &&
    (if k.role = 1 then
      decide (1 ≤ k.period) && decide (k.period ≤ 16) && k.wdTime == 0 && decide (k.slot + 4 * k.words ≤ 0x4000)
    else k.role == 2 && k.period == 1 && decide (1000 ≤ k.wdTime) && decide (k.wdTime ≤ 10000000) &&
      decide (k.slot + 4 * (k.words + 1) ≤ 0x4000))

/-- R495 for a CONNECTIONS section. -/
def connectionsOk (b : List Byte) : Bool :=
  let cs := readConnections b
  b.length % 16 == 0 && decide (cs.length ≤ 32) && cs.all connectionOk && noRepeat (cs.map (fun c => c.1.connId)) &&
    decide ((cs.filter (fun c => c.1.role == 2)).length ≤ 12)

/-- R368 and Table 13-2 for the section spans, and ENTRY in CODE. -/
def sectionsOk (h : ImageHeader) : Bool :=
  let real := h.sections.filter (fun x => x.2 != 0)
  h.sections.all (fun x =>
    if x.2 = 0 then x.1 == 0 else x.1 % 32 == 0 && decide (0x80 ≤ x.1) && decide (x.1 + x.2 ≤ h.length)) &&
    noOverlap real && decide (80 ≤ (h.sect 0).2) && (h.sect 0).2 % 80 == 0 && (h.sect 1).2 == 256 && (h.sect 2).2 == 16 &&
    decide (4 ≤ (h.sect 4).2) && decide ((h.sect 4).1 ≤ h.entry) && decide (h.entry < (h.sect 4).1 + (h.sect 4).2)

/-- LIB_REQUIRED has the MAJOR of the library and a MINOR no higher (R371). -/
def libOk (lib required : Nat) : Bool :=
  bitsAt lib 31 24 == bitsAt required 31 24 && decide (bitsAt required 23 16 ≤ bitsAt lib 23 16)

/-- R369 for every instance entry, with R338 and the order of R339. -/
def instancesOk (stateSize : Nat) (es : List (Block × Nat × Bool)) : Bool :=
  es.all (fun e =>
    let b := e.1
    e.2.2 && decide (1 ≤ b.id) && decide (b.id ≤ 0xFFF) && typeKnownBlock b.type && b.stateOffset % 64 == 0 &&
      e.2.1 == stateLength b.type && decide (b.stateOffset + e.2.1 ≤ stateSize) &&
      (List.range 16).all (fun n => (usedWords b.type).contains n || param b n == 0)) &&
    noRepeat (es.map (fun e => e.1.id)) && decide ((es.filter (fun e => e.1.type == 8)).length ≤ 1) &&
    ascending (es.map (fun e => 4096 * e.1.type + e.1.id)) && noOverlap (es.map (fun e => (e.1.stateOffset, e.2.1)))

/-- `v` lies in `lo` to `hi`. -/
def within (v lo hi : Nat) : Bool := decide (lo ≤ v) && decide (v ≤ hi)

/-- A channel number, or 0xFF for none. -/
def channelOrNone (v : Nat) : Bool := decide (v ≤ 31) || v == 0xFF

/-- Every parameter of a block lies in its Range column, and the instances it names exist (Tables 12-10 to 12-14). -/
def paramsOk (cycleUs : Nat) (all : List Block) (b : Block) : Bool :=
  let p := param b
  let names (id type : Nat) : Bool := id == 0 || all.any (fun x => x.id == id && x.type == type)
  let linked := (links b).all (fun id => all.any (fun x => x.id == id && isDemand x.type))
  match b.type with
  | 5 => within (p 0) 0 3 && within (p 1) 1 0x7FFFFFFF && within (p 2) 0 1000000 && within (p 3) 1 0x7FFFFFFF &&
      within (p 4) 0 1000000 && within (p 5) 1 0x7FFFFFFF && within (p 6) 0 1000000 && within (p 7) 1 0x7FFFFFFF &&
      within (p 8) 0 1000000 && within (p 9) 0 15 && within (p 10) cycleUs 100000 && within (p 11) 0 1 && channelOrNone (p 12) &&
      within (p 13) 0 1
  | 8 => within (p 0) 0 15 && within (p 1) 0 60000000 && within (p 2) 0 60000000 && names (p 3) 0x10 && names (p 4) 0x11 &&
      [5, 6, 7, 8].all (fun n => channelOrNone (p n)) && linked
  | 0x10 => [0, 1, 2, 3].all (fun n => within (p n) 0 31) && within (p 4) 1000 1000000 && within (p 5) 0 500000 && within (p 6) 0 1 &&
      within (p 7) (p 4) 1000000 && channelOrNone (p 11) && names (p 12) 8 && linked
  | 0x11 => [0, 1, 2, 3, 4].all (fun n => within (p n) 0 31) && within (p 5) 1000 1000000 && within (p 6) 0 3 &&
      (within (p 7) 0 3 || p 7 == 0xFF) && within (p 8) 0 0x7FFFFFFF && within (p 9) 10000 10000000 && within (p 10) 0 500000 &&
      channelOrNone (p 11) && names (p 12) 8 && linked
  | 0x12 => within (p 0) 0 31 && within (p 1) 0 1 && within (p 2) 1 16 && channelOrNone (p 3) && within (p 4) 1000 5000000 &&
      within (p 5) 0 1 && channelOrNone (p 11) && linked
  | t => within (p 0) 0 31 && (within (p 1) 0 31 || (t == 4 && p 1 == 0xFF)) &&
      (p 2 == 0 || (p 2 == 1 && (t == 2 || t == 4))) && within (p 3) 100 10000000 && within (p 4) 0 1 && channelOrNone (p 5) &&
      within (p 6) 0 1

/-- Reason 0x0A: driven channels and the channels blocks read (R363). -/
def channelsOk (uses : List (Nat × Nat)) (bs : List Block) : Bool :=
  let use (n : Nat) : Nat := bitsAt (uses.getD n (0, 0)).1 7 0
  let driven := bs.flatMap drives
  noRepeat (driven.map (·.1)) &&
    driven.all (fun d => use d.1 == 2 && bitsAt (uses.getD d.1 (0, 0)).1 15 8 == d.2 && bitsAt (uses.getD d.1 (0, 0)).2 27 16 == 0) &&
    (bs.flatMap reads).all (fun n => use n == 1)

/-- R187: A is odd and lies between 32,769 and 65,535. -/
def codeConstantOk (a : Nat) : Bool := a % 2 == 1 && within a 32769 65535

/-- `BANK_INVALID_REASON` of a bank, 0x00 for valid: the first condition of Table 13-6 that fails. -/
def State.bankReason (s : State) (bank : Nat) : Nat :=
  let raw := s.le.bank bank 0 128
  let h := readImageHeader raw
  let es := readInstances (s.sectionBytes bank 0)
  let bs := es.map (·.1)
  let demand := 81920 + h.stateSize + h.stackSize
  if raw.all (· == erasedByte) then 1
  else if !(s.images.bank bank).complete then 2
  else if !(h.magic == 0x1A7E0D52 && h.format == 2 && h.headerSize == 0x80 && within h.length 128 262144) then 3
  else if h.headerCrc ≠ crc32c (raw.take 0x7C) then 4
  else if h.imageCrc ≠ crc32c (s.le.bank bank 0x80 (h.length - 0x80)) then 5
  else if !(sectionsOk h && connectionsOk (s.sectionBytes bank 3)) then 6
  else if !libOk s.lib.version h.libRequired then 7
  else if !instancesOk h.stateSize es then 8
  else if !bs.all (paramsOk s.rt.cycleUs bs) then 9
  else if !channelsOk (readUses (s.sectionBytes bank 1)) bs then 10
  else if !codeConstantOk h.codeConstant then 11
  else if !(decide (demand ≤ s.otp.safetyRam) && decide (2 * demand ≤ s.otp.shadowRam)) then 12
  else 0

/-- Validate a bank: `BANK_STATE` and `BANK_INVALID_REASON`; a CODE_CONSTANT outside R187 also records 0x0406. -/
def State.validateBank (bank : Nat) (s : State) : State :=
  let r := s.bankReason bank
  let st : BankState := if r = 0 then .valid else if r = 1 then .blank else .invalid
  let s := { s with images := s.images.modBank bank (fun b => { b with state := st, reason := r }) }
  if r = 11 then s.event 0x0406 [] else s

/-- `BANK_STATE` codes (Table 13-9). -/
def BankState.code : BankState → Nat
  | .blank => 0 | .erasing => 1 | .loading => 2 | .validating => 3 | .valid => 4 | .invalid => 5

/-- A bank is valid. -/
def State.bankValid (s : State) (bank : Nat) : Bool := (s.images.bank bank).state == .valid

/-- What the LE takes from a bank (Table 13-1, R370). -/
def State.loadImage (s : State) (bank : Nat) : ActiveImage :=
  let h := s.imageHeader bank
  { sequence := h.sequence, familyId := h.familyId, crc := h.imageCrc, declaredUs := h.passUs, stateSize := h.stateSize
    stackSize := h.stackSize, uses := readUses (s.sectionBytes bank 1), analog := readAnalog (s.sectionBytes bank 2) }

/-- The instances a bank declares, in evaluation order, none started. -/
def State.loadBlocks (s : State) (bank : Nat) : List Block := (readInstances (s.sectionBytes bank 0)).map (·.1)

/-- The connections a bank declares. -/
def State.loadConnections (s : State) (bank : Nat) : List Connection := (readConnections (s.sectionBytes bank 3)).map (·.1)

/-- `EXCHANGE_SWITCH_TIME`: 20 µs + 0.05 µs per byte of STATE_SIZE, the latter twice with a new CODE_CONSTANT, rounded up (R380). -/
def switchTime (stateSize : Nat) (newConstant : Bool) : Nat :=
  20 + (stateSize * (if newConstant then 2 else 1) + 19) / 20

/-! ### Declarations against the configuration in force -/

/-- Members of the paralleled group that CHn asks for (Table 9-3). -/
def State.groupMembers (s : State) (n : Nat) : List Nat :=
  match s.chParallel n with
  | 1 => [n / 2 * 2, n / 2 * 2 + 1]
  | 2 => (List.range 4).map (n / 4 * 4 + ·)
  | _ => [n]

/-- Channels on which `CH_PARALLEL` takes effect (R273). -/
def State.paralleled (s : State) : List Nat := (List.range 32).filter (fun n => isOutputMode (s.chMode n) && s.chParallel n != 0)

/-- R289 without the image: groups, and the safe states of non-safety outputs in safety banks. -/
def State.groupsOk (s : State) : Bool :=
  s.paralleled.all (fun n => (s.groupMembers n).all (fun m =>
    s.chMode m == s.chMode n && s.chParallel m == s.chParallel n && s.chSource m == s.chSource n &&
      s.chSafeState m == s.chSafeState n && s.chDiag m == s.chDiag n && s.chSettle m == s.chSettle n)) &&
    (List.range 32).all (fun n => !(s.chMode n == 3 && s.safetyBank (n / 8) && s.chSafeState n != 0))

/-- USE equals `CH_MODE` and a non-zero SOURCE equals `CH_SOURCE` (R372). -/
def State.usesOk (s : State) (img : ActiveImage) : Bool :=
  (List.range 32).all (fun n =>
    let w := (img.uses.getD n (0, 0)).1
    bitsAt w 7 0 == s.chMode n && (bitsAt w 15 8 == 0 || bitsAt w 15 8 == s.chSource n))

/-- For every SHUTDOWN_PERMISSION with MODE 1, `CH_READBACK_SETTLE` of OUT is shorter than TOGGLE_CYCLES·T_cycle − 100 µs (R372). -/
def State.togglesOk (s : State) (bs : List Block) : Bool :=
  bs.all (fun b => b.type != 0x12 || param b 1 != 1 ||
    decide (filterTicks (s.chSettle (param b 0)) + us 100 < param b 2 * us s.safeCycle))

/-- Every check whose failure is event 0x0708. -/
def State.channelCheck (s : State) (img : ActiveImage) (bs : List Block) : Bool :=
  s.groupsOk && s.usesOk img && s.togglesOk bs

/-- The checks of R312 that need no image. -/
def State.glintSettings (s : State) : Bool :=
  let role n := s.glintRole n
  let permitted n := match role n with
    | 0 => s.chMode n != 4
    | 3 => s.chMode n == 1
    | _ => s.chMode n == 4
  let supplies := (List.range 32).filter (fun n => role n == 1)
  (List.range 32).all (fun n => permitted n && (!bitOf (s.glintAssign n) 5 || role n == 2) &&
    (role n != 3 || supplies.any (fun m => s.glintCode m == s.glintCode n))) &&
    s.glintCodes.all (fun c => decide (s.glintWidth c + s.glintRecovery + 50 ≤ s.safeCycle)) &&
    s.paralleled.all (fun n => (s.groupMembers n).all (fun m => s.glintAssign m == s.glintAssign n))

/-- Every check whose failure is event 0x0710 (R312), with an image. -/
def State.glintCheck (s : State) (img : ActiveImage) (bs : List Block) : Bool :=
  let role n := s.glintRole n
  s.glintSettings &&
    bs.all (fun b => !isTwoChannel b.type || param b 1 == 0xFF || role (param b 0) != 3 || role (param b 1) != 3 ||
      s.glintCode (param b 0) != s.glintCode (param b 1)) &&
    (List.range 32).all (fun n => role n != 1 || !bitOf (img.uses.getD n (0, 0)).1 16)

/-- `AN_RATIO` as a sample period in ticks. -/
def State.samplePeriod (s : State) (p : Nat) : Nat := 10 * s.anRatio p

/-- The check of R333 that needs no image. -/
def State.analogSettings (s : State) : Bool := (List.range 4).all (fun p => decide (s.samplePeriod p ≤ us (s.anDiscTime p)))

/-- Every check whose failure is event 0x0805 (R333), with an image. -/
def State.analogCheck (s : State) (img : ActiveImage) : Bool :=
  s.analogSettings && (List.range 4).all (fun p =>
    let w := img.analog.getD p 0
    bitsAt w 7 0 != 1 || (s.anEnable p && bitsAt w 15 8 == s.anUnit p))

/-- An item of the output (true) or input area that the image declares: of a channel in use, or of a pair it uses (Tables 13-4, 13-5). -/
def declaresItem (img : ActiveImage) (out : Bool) (i : Nat) : Bool :=
  let channel n := bitsAt (img.uses.getD n (0, 0)).1 7 0 != 0
  if out then channel i
  else if i < 96 then channel (i / 3)
  else if i < 116 then channel (28 + (i - 96) / 5)
  else bitsAt (img.analog.getD ((i - 116) / 16) 0) 7 0 == 1

/-- Every check whose failure is event 0x0A08 (R502). -/
def State.connectionCheck (s : State) (img : ActiveImage) (cs : List Connection) : Bool :=
  cs.all (fun c => c.peer != s.zop.nodeId && (c.role != 2 || decide (3 * s.safeCycle ≤ c.wdTime)) &&
    !slotOverlaps (declaresItem img (c.role != 2)) (c.role == 2) c.slot (if c.role = 2 then c.words + 1 else c.words))

/-- R512: every channel with USE 0x02 and every load source has MIRRORED = 1, and no other channel has. -/
def State.mirroredCheck (s : State) (img : ActiveImage) : Bool :=
  (List.range 32).all (fun n =>
    let w := (img.uses.getD n (0, 0)).1
    bitOf w 16 == (bitsAt w 7 0 == 2 || (bitsAt w 7 0 == 4 && s.glintRole n == 2)))

/-- SNAPSHOT_SIZE of an image with `conns` connections (R518). -/
def snapshotSize (stateSize conns : Nat) : Nat := 64 + 3 * (stateSize + 128 + 16 * conns) + 512 + 4

/-- The timing rule of a pair member (R520), and the limit of 32,768 bytes. -/
def State.snapshotCheck (s : State) (img : ActiveImage) (conns : Nat) : Bool :=
  let size := snapshotSize img.stateSize conns
  decide (size ≤ 32768) && decide (10000 * img.declaredUs + 525 * size + 400000 ≤ 10000 * s.safeCycle)

end Sys2Proof.Machine
end

