-- ==== Sys2Proof/Machine/Judge.lean ====
section
/-!
DEFINITION. Machine/Judge.lean: how the unit judges an access to the dictionary (R431 to R437, R448, R449, Tables 15-8, 15-9, 16-23, 20-2)
and how it answers one.
-/

namespace Sys2Proof.Machine

/-! ### Accesses -/

/-- One write as it is judged: its requester, object, TYPE code, value, length in bytes, and whether it is the confirmed form. -/
structure Access where
  r : Req
  index : Nat
  sub : Nat
  type : Nat
  value : Nat
  len : Nat
  confirmed : Bool
deriving DecidableEq, Repr

/-! ### Which objects exist (R431, R432, R463, R469) -/

/-- An index exists: a family member only for a held instance or a declared connection. -/
def State.indexExists (s : State) (index : Nat) : Bool :=
  if 0x1210 ≤ index ∧ index < 0x1230 then decide (index - 0x1210 < s.zop.conns.length)
  else if 0x4001 ≤ index ∧ index < 0x5000 then s.lib.blocks.any (fun b => b.id == index - 0x4000)
  else (findGroup index).isSome

/-- Instance ID. -/
def State.block (s : State) (id : Nat) : Option Block := s.lib.blocks.find? (fun b => b.id == id)

/-! ### Groups of objects with rules of their own -/

/-- Objects of Table 5-13 that R160 governs. -/
def isOtpObject (index sub : Nat) : Bool := index == 0x2300 && decide (5 ≤ sub) && decide (sub ≤ 8)

/-- Writable objects of Table 16-20. -/
def isServiceObject (index sub : Nat) : Bool := index == 0x5C00 && (sub == 2 || sub == 3 || sub == 4 || sub == 5 || sub == 6)

/-- Runtime states as a list of codes that permit a write of the object, RWS by the general rule (Tables 15-9, 16-23, R160). -/
def State.writeStates (s : State) (o : Obj) (index sub : Nat) : List Nat :=
  let lc := s.otp.lifecycle
  let workshop := lc == 2 || lc == 5
  if isOtpObject index sub then (if lc = 1 then [3] else if workshop then [3, 5, 7] else [3, 5])
  else if index = 0x5000 ∧ sub = 2 then [3]
  else match o.access with
    | .rws => [3, 5]
    | _ =>
      if index = 0x2200 ∧ sub = 5 then [6]
      else if index = 0x2200 ∧ sub = 0x12 then [3, 5, 6]
      else if index = 0x5000 ∧ sub = 9 then [4]
      else if 0x4001 ≤ index ∧ index < 0x5000 then [4]
      else if index = 0x3300 ∧ sub = 2 then [3, 5]
      else if index = 0x1010 ∧ sub = 7 then [3]
      else if index = 0x5800 ∧ sub = 0xE then [3, 5, 7]
      else if index = 0x5C00 ∧ sub = 6 then (if workshop then [5, 7] else [5])
      else if index = 0x5C00 then [5]
      else [3, 4, 5, 6, 7]

/-! ### The checks of Table 15-8 -/

/-- Order 5: the channel carries the write. OTP objects are refused over ZOP-S in Raw (R160), and nothing comes over ZOP-S without a session
(R459, R487). -/
def State.channelAllows (s : State) (o : Obj) (a : Access) : Bool :=
  let plain := o.access == .rw || o.access == .wo
  let confirmable := o.type != .str && o.type != .domain
  match a.r.chan with
  | .plain => !a.confirmed && plain
  | .zops => s.zop.session != 2 && (if a.confirmed then confirmable else plain) && !(isOtpObject a.index a.sub && s.otp.lifecycle == 1)
  | .modbus => false
  | .service => if a.confirmed then confirmable && (isOtpObject a.index a.sub || isServiceObject a.index a.sub) else plain

/-- Order 6: TYPE code and length match. -/
def typeMatches (o : Obj) (a : Access) : Bool :=
  a.type == o.type.code && (match o.type with
    | .str => decide (a.len ≤ 64)
    | .domain => decide (1 ≤ a.len) && decide (a.len ≤ 4096)
    | t => a.len == t.size)

/-- Order 7: a reserved bit is 1 (R24). -/
def reservedSet (o : Obj) (a : Access) : Bool :=
  match o.range with
  | .named mask _ _ => a.value &&& mask != a.value
  | .owner => (decide (0x4001 ≤ a.index) && decide (a.index < 0x5000) && a.sub == 0xA) && decide (15 < a.value)
  | _ => false

/-- Bits of a section's content (Table 5-2), as OTP_OFFSET addresses it. -/
def selectSize (code : Nat) : Nat := match sectionOfSelect code with | some sec => (sectionMap sec).size | none => 512

/-- DIR_REQUEST names only directions that the interlock can hold together (R354). -/
def dirAllowed (b : Block) (v : Nat) : Bool :=
  let grid := v % 4
  let batt := v / 4 % 4
  grid != 3 && batt != 3 && (grid == 0 || param b 3 != 0) && (batt == 0 || param b 4 != 0) &&
    (grid == 0 || batt == 0 || bitOf (param b 0) (2 * (grid - 1) + (batt - 1)))

/-- EVENT_SEQ of every record held in the event log RAM or the store (R585). -/
def State.heldSeqs (s : State) : List Nat := (s.ledger.stored ++ s.ledger.ring).map (fun r => r.seq)

/-- `EVENT_OLDEST_SEQ` and `EVENT_NEWEST_SEQ`: the lowest and highest EVENT_SEQ held, 0 with none (R585). -/
def State.eventRange (s : State) : Nat × Nat :=
  let held := s.heldSeqs
  (held.foldl min (held.headD 0), held.foldl max 0)

/-- Range rules that the owning chapters give (R161, R264, R354, R565, R569, R585). -/
def State.ownerRange (s : State) (a : Access) : Bool :=
  if 0x3000 ≤ a.index ∧ a.index < 0x3020 ∧ a.sub = 1 then a.value != 5 || decide (28 ≤ a.index - 0x3000)
  else if a.index = 0x2300 ∧ a.sub = 6 then a.value % 32 == 0 && decide (a.value + 32 ≤ selectSize s.otp.select)
  else if 0x4001 ≤ a.index ∧ a.index < 0x5000 then
    match s.block (a.index - 0x4000) with
    | some b => if a.sub = 5 then b.type != 8 else b.type == 8 && dirAllowed b a.value
    | none => false
  else if a.index = 0x5C00 ∧ a.sub = 3 then
    let code := if s.images.active = 0 then (0, 0) else (s.imageHeader s.images.active).sect 4
    a.value % 4 == 0 && decide (a.value < code.2)
  else if a.index = 0x5C00 ∧ a.sub = 5 then (List.range 32).all (fun n => !bitOf a.value n || s.chMode n == 3)
  else if a.index = 0x5E00 ∧ a.sub = 0xA then
    decide (s.eventRange.1 ≤ a.value) && decide (a.value ≤ s.eventRange.2)
  else true

/-- Order 8: the value lies in the object's range and on its step. -/
def State.inRange (s : State) (o : Obj) (a : Access) : Bool :=
  (match o.range with
  | .any => decide (a.value < 2 ^ (8 * a.len))
  | .span lo hi step => decide (lo ≤ a.value) && decide (a.value ≤ hi) && (a.value - lo) % step == 0
  | .signed lo hi => decide (lo ≤ ofRawI32 a.value) && decide (ofRawI32 a.value ≤ hi)
  | .oneOf vs => vs.contains a.value
  | .named _ lo hi => decide (lo ≤ a.value) && decide (a.value ≤ hi)
  | .len lo hi step => decide (lo ≤ a.len) && decide (a.len ≤ hi) && a.len % step == 0
  | .owner => true) && s.ownerRange a

/-- Order 10: the lifecycle permits the write (R160, Table 20-2, Table 16-23). -/
def State.lifecycleAllows (s : State) (a : Access) : Bool :=
  let lc := s.otp.lifecycle
  let workshop := lc == 2 || lc == 5
  let byChannel := match a.r.chan with
    | .service =>
      if a.confirmed then (if isOtpObject a.index a.sub then lc == 1 || workshop else workshop) else lc != 6
    | _ => true
  byChannel && !(isOtpObject a.index a.sub && lc == 6)

/-- Order 11: the store takes no host write (R84, R412, R441). -/
def State.storeClosed (s : State) : Bool := s.power.gateClosed || decide (s.store.config.credit ≤ 0)

/-- The first failing check of orders 1 to 11 for a write, 0 when all pass. -/
def State.judgeWrite (s : State) (a : Access) : Nat :=
  if !s.indexExists a.index then 0x8001
  else match findObj a.index a.sub with
    | none => 0x8002
    | some o =>
      if o.access = .ro then 0x8004
      else if !s.channelAllows o a then 0x8009
      else if !typeMatches o a then 0x8005
      else if reservedSet o a then 0x8007
      else if !s.inRange o a then 0x8006
      else if !(s.writeStates o a.index a.sub).contains s.rt.state.code then 0x8008
      else if !s.lifecycleAllows a then 0x800F
      else if o.store && s.storeClosed then 0x800A
      else 0

/-- The first failing check for a read, 0 when all pass. -/
def State.judgeRead (s : State) (index sub : Nat) : Nat :=
  if !s.indexExists index then 0x8001
  else match findObj index sub with
    | none => 0x8002
    | some o => if o.access = .wo ∨ o.access = .woc then 0x8003 else 0

/-! ### Answers -/

/-- `LAST_ACCESS_ERROR` (Table 15-12). -/
def accessError (code index sub requester detail : Nat) : BitVec 64 :=
  BitVec.ofNat 64 (code * 2 ^ 48 + index * 2 ^ 32 + sub * 2 ^ 24 + requester * 2 ^ 16 + detail * 2 ^ 8)

/-- A length that step 2 of R376 allows a write of `IMAGE_DATA`: 32 to 4,096 bytes, a multiple of 32. -/
def stepLength (n : Nat) : Bool := decide (32 ≤ n) && decide (n ≤ 4096) && n % 32 == 0

/-- A rejected access changes no object but the reports: the error, a store write refused for want of credit
(R412, 0x0907; a write that only a closed gate refuses counts nowhere, log entry 124), and the OTP status where R160 names one. -/
def State.reject (a : Access) (code detail : Nat) (s : State) : State :=
  let answer : Response :=
    { requester := a.r.node, index := a.index, sub := a.sub, type := a.type, error := code, detail := detail
      value := 0, size := 0, current := 0, token := 0, code := 0 }
  let s := { s with
    dict.lastError := accessError code a.index a.sub a.r.node detail
    dict.response := some answer }
  let s := if code = 0x800A ∧ s.store.config.credit ≤ 0 then
      (State.persist keyRefused 4 (sat32 (s.store.refusedCount + 1))
        { s with store.refusedCount := sat32 (s.store.refusedCount + 1) }).eventLimited 0x0907 0 (ms 1000) []
    else s
  if isOtpObject a.index a.sub then
    if code = 0x8008 ∨ code = 0x8009 then { s with otp.opStatus := 0x82 }
    else if code = 0x800F then { s with otp.opStatus := if s.otp.lifecycle = 6 then 0x81 else 0x82 }
    else s
  else if a.index = 0x5000 ∧ a.sub = 7 ∧ (code = 0x8005 ∨ code = 0x8006) ∧ stepLength a.len = false then
    { s with images.loadStatus := 0x81 }
  else s

/-- An accepted write is answered; a confirmed one that is applied counts (R446). -/
def State.accept (a : Access) (s : State) : State :=
  let answer : Response :=
    { requester := a.r.node, index := a.index, sub := a.sub, type := a.type, error := 0, detail := 0
      value := a.value, size := a.len, current := 0, token := 0, code := 0 }
  let s := { s with dict.response := some answer }
  if a.confirmed then
    State.persist keySafetyWrites 4 (sat32 (s.dict.safetyWrites + 1)) { s with dict.safetyWrites := sat32 (s.dict.safetyWrites + 1) }
  else s

/-- The owner refuses with its status code: 0x800E with DETAIL (order 12). -/
def State.refuse (a : Access) (detail : Nat) (s : State) : State := s.reject a 0x800E detail

/-- The access that a command of the table stands for: the write of its object with the type and length the object has, confirmed where
the requester's channel carries the confirmed form. -/
def rowAccess (r : Req) (index sub value : Nat) : Access :=
  let o := (findObj index sub).getD (objRow 0 0 .u8 .ro false 0 .any)
  let needs := o.access == .rws || o.access == .woc
  { r := r, index := index, sub := sub, type := o.type.code, value := value, len := o.type.size
    confirmed := r.chan == .zops || (r.chan == .service && needs) }

/-! ### A write waits for its boundary (R443, R446, R453) -/

/-- A request reaches the LE: the unit is released, and no earlier answer is pending in the answer register. -/
def State.request (effect : State → State) (s : State) : State :=
  if s.released then effect { s with dict.response := none } else s

/-- An accepted write waits for the next boundary; `instr` is the instruction of the code that a step executes (R565). -/
def State.enqueueWrite (a : Access) (via : Option CanChannel) (reqSeq : Option Nat) (token code : Nat) (s : State)
    (instr : Option LogicInstr := none) : State :=
  { s with dict.queued := s.dict.queued ++
      [{ requester := a.r.node, channel := a.r.chan, confirmed := a.confirmed, index := a.index, sub := a.sub, type := a.type
         value := a.value, len := a.len, via := via, reqSeq := reqSeq, token := token, code := code, instr := instr }] }

/-- An object whose pending writes another write supersedes: RW or RWS (R453). -/
def supersedable (index sub : Nat) : Bool :=
  match findObj index sub with
  | some o => o.access == .rw || o.access == .rws
  | none => false

/-- A confirmed write of the object by another requester was accepted already in this cycle (R453). -/
def State.confirmedAlready (s : State) (r : Req) (index sub : Nat) : Bool :=
  supersedable index sub && s.dict.queued.any (fun q =>
    q.confirmed && !q.isCopy && q.index == index && q.sub == sub && q.requester != r.node)

/-- Judge a write; an accepted one waits. -/
def State.takeWrite (a : Access) (via : Option CanChannel) (reqSeq : Option Nat) (s : State) (instr : Option LogicInstr := none) : State :=
  if a.confirmed && s.confirmedAlready a.r a.index a.sub then s.reject a 0x800D 0
  else match s.judgeWrite a with
    | 0 => s.enqueueWrite a via reqSeq 0 0 instr
    | c => s.reject a c 0

/-- The write that a command of the table stands for. -/
def State.takeRow (a : Access) (s : State) (instr : Option LogicInstr := none) : State :=
  s.request (fun t => t.takeWrite a none none instr)

end Sys2Proof.Machine
end

