-- ==== Sys2Proof/Machine/Mpu.lean ====
section
/-!
DEFINITION. Machine/Mpu.lean: the memory protection unit of the LE: descriptors, matching, tags, the two sets, the seal and the capture of a
violation (ch. 7).
-/

namespace Sys2Proof.Machine

/-! ### Descriptors (R220, R221) -/

def regionBase (d : Nat) : Nat := 64 * bitsAt d 63 38
def regionUnit (d : Nat) : Nat := if bitOf d 37 then 65536 else 64
/-- Length of a region in bytes. -/
def regionBytes (d : Nat) : Nat := (bitsAt d 36 21 + 1) * regionUnit d
def regionKey (d : Nat) : Nat := bitsAt d 12 9
def regionMask (d : Nat) : Nat := bitsAt d 8 5
def regionTagw (d : Nat) : Bool := bitOf d 4
def regionPerm (d : Nat) : Nat := bitsAt d 3 1

/-- A valid descriptor (R221). -/
def regionValid (d : Nat) : Bool :=
  d == 0 ||
    (bitOf d 0 && (bitsAt d 36 21 + 1) % 8 == 0 && regionBase d % regionUnit d == 0 &&
      decide (regionBase d + regionBytes d ≤ 0x100000000) && [0, 1, 3, 5].contains (regionPerm d))

/-- The subregion of an enabled region that contains `addr`, if it does and its SRD bit is 0 (R220, R222). -/
def regionMatches (d addr : Nat) : Bool :=
  bitOf d 0 && decide (regionBase d ≤ addr) && decide (addr < regionBase d + regionBytes d) &&
    !bitOf d (13 + (addr - regionBase d) / (regionBytes d / 8))

/-- PERM grants the kind of access (Table 7-4, R222): a fetch needs execute, a load read, a store and a tag write write. -/
def regionGrants (perm : Nat) : AccessKind → Bool
  | .load => perm == 1 || perm == 3 || perm == 5
  | .store => perm == 3
  | .fetch => perm == 5
  | .tagWrite => perm == 3

/-! ### The instance-state area (R215, R219, R369) -/

/-- The granule of safety RAM that holds bytes [64j, 64j + 63] of the logic partition area. Nothing is placed in a masked granule (R219), so
the area runs on over the granules that are not masked: DESIGN CHOICE (log entry 107), the spec does not say where they move. -/
def State.granuleAt (s : State) (j : Nat) : Nat :=
  if s.otp.maskedPairs.isEmpty then 1280 + j
  else (((List.range 4864).map (1280 + ·)).filter (fun g => !s.otp.maskedPairs.contains g)).getD j (1280 + j)

/-- Native (64 a granule) or coded bytes (128 a granule) of the area from byte offset `off`, a multiple of 64, for `n` granules. -/
def State.areaBytes (s : State) (coded : Bool) (off n : Nat) : List Byte :=
  (List.range n).flatMap (fun i =>
    let g := s.granuleAt (off / 64 + i)
    if coded then cellBytes 0 s.le.ram (0x21000000 + 128 * g) 128 else cellBytes 0 s.le.ram (0x20000000 + 64 * g) 64)

/-- Write them, granule by granule. -/
def State.putArea (coded : Bool) (off : Nat) (bytes : List Byte) (s : State) : State :=
  let w := if coded then 128 else 64
  (List.range ((bytes.length + w - 1) / w)).foldl (fun t i =>
    let g := t.granuleAt (off / 64 + i)
    let addr := if coded then 0x21000000 + 128 * g else 0x20000000 + 64 * g
    { t with le.ram := cellWrite 0 addr ((bytes.drop (w * i)).take w) t.le.ram }) s

/-- Return `n` granules of the area, native and coded, to zero. -/
def State.clearArea (off n : Nat) (s : State) : State :=
  (List.range n).foldl (fun t i =>
    let g := t.granuleAt (off / 64 + i)
    { t with le.ram := cellClear (0x21000000 + 128 * g) 128 (cellClear (0x20000000 + 64 * g) 64 t.le.ram) }) s

/-- The index of the first coded word among bytes that fails R189 in every type. -/
def firstUndecoded (a : Nat) : Nat → List Byte → Nat → Option Nat
  | 0, _, _ => none
  | n + 1, bytes, i =>
    if (codedQuotient a (BitVec.ofNat 64 (ofLe (bytes.take 8)))).isNone then some i
    else firstUndecoded a n (bytes.drop 8) (i + 1)

/-- Safety RAM offset of byte `off` of the area. -/
def State.areaOffset (s : State) (off : Nat) : Nat := 64 * s.granuleAt (off / 64) + off % 64

/-- The first word of the instances' coded state that fails its check as the shadow pass reads it (R189): each block reads its own region. -/
def State.badState (s : State) (regions : List (Nat × Nat)) : Option Nat :=
  regions.findSome? (fun r =>
    (firstUndecoded s.images.codeConstant (r.2 / 4) (s.areaBytes true r.1 (r.2 / 64)) 0).map (fun i => s.areaOffset (r.1 + 4 * i)))

/-! ### Tags (R215 to R219) -/

/-- The safety RAM granule whose tag an address is checked against (R216): none outside safety RAM and shadow RAM. -/
def granuleOf (addr : Nat) : Option Nat :=
  if 0x20000000 ≤ addr ∧ addr < 0x20060000 then some ((addr - 0x20000000) / 64)
  else if 0x21000000 ≤ addr ∧ addr < 0x210C0000 then some ((addr - 0x21000000) / 128)
  else none

/-- The tag a granule reads: 0xF in a masked row, 0x0 where nothing wrote one (R218, R219). -/
def State.tagOf (s : State) (g : Nat) : Nat :=
  if s.otp.maskedPairs.contains g then 0xF
  else match s.le.tags.find? (fun t => t.1 == g) with
    | some t => t.2
    | none => 0

/-- Give a granule a tag: a masked row ignores it (R219); the list stays ascending without zero tags. -/
def State.setTag (g v : Nat) (s : State) : State :=
  if s.otp.maskedPairs.contains g then s
  else { s with le.tags :=
    s.le.tags.filter (fun t => decide (t.1 < g)) ++ (if v = 0 then [] else [(g, v)]) ++ s.le.tags.filter (fun t => decide (g < t.1)) }

/-- Tag the granules from `g`, `n` of them. -/
def State.setTags (g n v : Nat) (s : State) : State := (List.range n).foldl (fun t i => t.setTag (g + i) v) s

/-- Zero the safety RAM bytes of granules from `g`, `n` of them, with their coded twins (R218). -/
def State.zeroGranules (g n : Nat) (s : State) : State :=
  { s with le.ram := cellClear (0x21000000 + 128 * g) (128 * n) (cellClear (0x20000000 + 64 * g) (64 * n) s.le.ram) }

/-- Before the first boundary after release the firmware zeroes and tags the areas of Table 7-2 up to the output area (R218). -/
def State.tagFirmware (s : State) : State :=
  let s := s.zeroGranules 0 1280
  let s := { s with
    le.inputs := List.replicate 180 0, le.inputsCoded := List.replicate 180 0
    le.outputs := List.replicate 32 0, le.outputsCoded := List.replicate 32 0 }
  ((((s.setTags 0 512 1).setTags 512 128 2).setTags 640 128 3).setTags 768 256 4).setTags 1024 256 5

/-- State regions of the instances: byte offset in the area and length (Tables 13-3, 13-7). -/
def State.stateRegions (s : State) : List (Nat × Nat) := s.lib.blocks.map (fun b => (b.stateOffset, stateLength b.type))

/-- The logic partition area: 0x6 on the granules that the image's instances occupy, 0x7 on those of the logic stack and scratch above
STATE_SIZE, the remainder 0x0 (R215, R218, R240); nothing lies in a masked granule (R219). -/
def State.tagLogic (stateBytes stackBytes : Nat) (s : State) : State :=
  let n := (stateBytes + 63) / 64
  let m := min ((stackBytes + 63) / 64) (4864 - n)
  let s := { s with le.tags := s.le.tags.filter (fun t => decide (t.1 < 1280)) }
  let s := s.stateRegions.foldl (fun t r => (List.range (r.2 / 64)).foldl (fun u i => u.setTag (u.granuleAt (r.1 / 64 + i)) 6) t) s
  (List.range m).foldl (fun t i => t.setTag (t.granuleAt (n + i)) 7) s

/-! ### The check (R222) -/

/-- The regions of the set in force. -/
def LeMem.regions (m : LeMem) : List (BitVec 64) := if m.inB then m.setB else m.setA

/-- The lowest enabled region that matches. -/
def LeMem.matched (m : LeMem) (addr : Nat) : Option Nat := m.regions.findIdx? (fun d => regionMatches d.toNat addr)

/-- An address inside the MPU registers (Table 7-1). -/
def inMpuRegisters (addr : Nat) : Bool := decide (0x48000000 ≤ addr) && decide (addr < 0x48001000)

/-- The verdict on an access: none when it is allowed, else the cause and the region matched (0 where Table 7-8 says so). `value` is the tag
a tag write writes; a tag write that matches no region lacks a region with TAGW (R217, Table 7-8; log entry 31). -/
def State.mpuVerdict (kind : AccessKind) (addr width value : Nat) (s : State) : Option (Nat × Option Nat) :=
  if kind == .store && inMpuRegisters addr && s.le.isSealed then some (0x0505, none)
  else if addr % width ≠ 0 then some (0x0506, none)
  else match s.le.matched addr with
    | none =>
      if kind == .tagWrite then some (0x0504, none) else none
    | some n =>
      let d := (s.le.regions.getD n 0).toNat
      let mask := regionMask d
      if !regionGrants (regionPerm d) kind then some (if s.le.inB then 0x0502 else 0x0501, some n)
      else
        let badTag := match granuleOf addr with
          | some g => mask != 0 && ((s.tagOf g ^^^ regionKey d) &&& mask) != 0
          | none => false
        if badTag then some (0x0503, some n)
        else if kind == .tagWrite && (s.le.inB || !regionTagw d || decide (7 < value) || decide (0x20060000 ≤ addr) || granuleOf addr == none)
        then some (0x0504, some n)
        else none

/-- Codes of an access kind and a width in `MPU_FAULT_INFO` (Table 7-8). -/
def accessCode : AccessKind → Nat | .load => 0 | .store => 1 | .fetch => 2 | .tagWrite => 3

def widthCode : Nat → Nat | 1 => 0 | 2 => 1 | 4 => 2 | _ => 3

/-- `MPU_FAULT_INFO` of a violation (Table 7-8). -/
def State.mpuInfo (kind : AccessKind) (addr width cause : Nat) (region : Option Nat) (s : State) : Nat :=
  let d := match region with
    | some n => (s.le.regions.getD n 0).toNat
    | none => 0
  let tag := match granuleOf addr with
    | some g => s.tagOf g
    | none => 0
  2 ^ 31 * bit s.le.inB + 2 ^ 24 * region.getD 0 + 2 ^ 20 * tag + 2 ^ 16 * regionKey d + 2 ^ 12 * regionMask d +
    2 ^ 10 * accessCode kind + 2 ^ 8 * widthCode width + cause % 256

/-- DATA of the event record of a violation: the three captured values (R231). -/
def LeMem.eventData (m : LeMem) : List Byte :=
  leBytes 4 m.faultAddress ++ leBytes 4 m.faultInfo.toNat ++ leBytes 4 m.faultCycle

/-- A violation: the first since release is captured, and the reaction runs (R231). -/
def State.violation (addr info cause : Nat) (s : State) : State :=
  let m := if s.le.violation then { s.le with laterViolations := sat32 (s.le.laterViolations + 1) }
    else { s.le with
      violation := true
      faultAddress := addr
      faultInfo := BitVec.ofNat 32 info
      faultCycle := s.rt.cycleCount }
  State.lineFault cause m.eventData { s with le := m }

/-- Check an access and apply the violation it makes; the flag says that the access is allowed. -/
def State.mpuCheck (kind : AccessKind) (addr width value : Nat) (s : State) : State × Bool :=
  match s.mpuVerdict kind addr width value with
  | none => (s, true)
  | some (cause, region) => (s.violation addr (s.mpuInfo kind addr width cause region) cause, false)

/-! ### What an allowed access does (R214) -/

/-- RAM of Table 7-1 that a store reaches: safety RAM, shadow RAM, event log RAM and the snapshot staging half. -/
def inPlainRam (addr : Nat) : Bool :=
  (decide (0x20000000 ≤ addr) && decide (addr < 0x20060000)) || (decide (0x21000000 ≤ addr) && decide (addr < 0x210C0000)) ||
    (decide (0x22000000 ≤ addr) && decide (addr < 0x22004000)) || (decide (0x25000000 ≤ addr) && decide (addr < 0x25010000))

/-- Exchange RAM (Table 7-1). -/
def inExchangeRam (addr : Nat) : Bool := decide (0x24000000 ≤ addr) && decide (addr < 0x24010000)

/-- Write `width` bytes of `data` into an 8-byte register at byte `off`. -/
def patchRegister (r : BitVec 64) (off width data : Nat) : BitVec 64 :=
  BitVec.ofNat 64 (ofLe ((leBytes 8 r.toNat).take off ++ leBytes width data ++ (leBytes 8 r.toNat).drop (off + width)))

/-- A write to the MPU registers before the seal: the region registers take it (R225, R230). -/
def LeMem.writeRegister (addr width data : Nat) (m : LeMem) : LeMem :=
  let o := addr - 0x48000000
  if o < 0x80 then { m with setA := m.setA.modify (o / 8) (fun r => patchRegister r (o % 8) width data) }
  else if o < 0x100 then { m with setB := m.setB.modify ((o - 0x80) / 8) (fun r => patchRegister r (o % 8) width data) }
  else m

/-- A cause of the exchange controller: the buffer is captured, and the reaction runs with the record of Table 6-5 (R256, R258). -/
def State.xchFault (cause buffer : Nat) (s : State) : State :=
  let s := if s.xch.faultBuffer == 0xFF then { s with xch.faultBuffer := buffer } else s
  s.lineFault cause s.passes.eventData

/-- The owner decides whether a port may touch a buffer: the owner, and nobody while it is busy or masked (R242, R260). -/
def State.owns (s : State) (o : Owner) (n : Nat) : Bool :=
  (s.buffer n).owner == o && (s.buffer n).busy.isNone && !(s.buffer n).masked

/-- An access the MPU allows. A load gives its data to the LE, which no state of the unit holds; a store to an address that Table 7-1 does
not list, to ROM or to flash is ignored, and what the peripheral registers do with one is not stated (log entry 29). -/
def State.leAccess (kind : AccessKind) (addr width data : Nat) (s : State) : State :=
  if inExchangeRam addr && !s.owns .le ((addr - 0x24000000) / 512) then
    s.xchFault 0x0601 ((addr - 0x24000000) / 512)
  else match kind with
    | .store =>
      if inPlainRam addr || inExchangeRam addr then s.putRam addr (leBytes width data)
      else if inMpuRegisters addr then { s with le := s.le.writeRegister addr width data }
      else s
    | .tagWrite =>
      match granuleOf addr with
      | some g => if addr < 0x20060000 && data ≤ 7 then s.setTag g data else s
      | none => s
    | .load | .fetch => s

/-- The LE runs: its domains are on and reset is not held. -/
def State.leRuns (s : State) : Bool := s.power.logicOn && s.boot.step != .resetHeld

/-- MPU_ACCESS_CHECK (R222): accesses are of 1, 2, 4 or 8 bytes. -/
def State.mpuAccess (kind : AccessKind) (addr width data : Nat) (s : State) : State :=
  if !s.leRuns || !([1, 2, 4, 8] : List Nat).contains width then s
  else
    let (s, ok) := s.mpuCheck kind (addr % 2 ^ 32) width data
    if ok then s.leAccess kind (addr % 2 ^ 32) width data else s

def execMpuAccessCheck (dt : Nat) (kind : AccessKind) (addr width data : Nat) (s : State) : Host.Outcome State Fault Refusal :=
  done ((s.elapse dt).mpuAccess kind addr width data)

/-- TAG_WRITE (R217): the instruction checked as an access of one byte (DESIGN CHOICE, log entry 146). -/
def State.tagWriteInstr (addr value : Nat) (s : State) : State :=
  if s.leRuns then s.mpuAccess .tagWrite addr 1 value else s

def execTagWrite (dt addr value : Nat) (s : State) : Host.Outcome State Fault Refusal :=
  done ((s.elapse dt).tagWriteInstr addr value)

/-- A switching instruction in the wrong set: an access of which only the cause and the set are stated; the address and the other fields are
free values (R228, log entry 30). -/
def State.switchViolation (cause : Nat) (s : State) : State :=
  let (v, s) := s.drawFree
  let a := v.toNat % 2 ^ 32
  let info := 2 ^ 31 * bit s.le.inB + bitsAt v.toNat 59 40 * 2 ^ 8 + cause % 256
  s.violation a info cause

/-- ENTER_LOGIC (R228). -/
def State.enterLogic (s : State) : State :=
  if !s.leRuns then s else if s.le.inB then s.switchViolation 0x0502 else { s with le.inB := true }

def execEnterLogic (dt : Nat) (s : State) : Host.Outcome State Fault Refusal := done (s.elapse dt).enterLogic

/-- LEAVE_LOGIC (R228). -/
def State.leaveLogic (s : State) : State :=
  if !s.leRuns then s else if s.le.inB then { s with le.inB := false } else s.switchViolation 0x0501

def execLeaveLogic (dt : Nat) (s : State) : Host.Outcome State Fault Refusal := done (s.elapse dt).leaveLogic

/-- Interrupt or exception entry saves the set in force and takes set A; its return restores it (R229). -/
def State.exceptionSwitch (isReturn : Bool) (s : State) : State :=
  if !s.leRuns then s
  else if isReturn then
    match s.le.saved with
    | b :: r => { s with le.inB := b, le.saved := r }
    | [] => s
  else { s with le.saved := s.le.inB :: s.le.saved, le.inB := false }

def execLeExceptionEntry (dt : Nat) (isReturn : Bool) (s : State) : Host.Outcome State Fault Refusal :=
  done ((s.elapse dt).exceptionSwitch isReturn)

/-! ### The passes' accesses (R183, R222, R228) -/

/-- How a pass stops before its end: at a word that fails its check, named by its safety RAM offset, or at a violation, whose reaction has
run. -/
inductive PassStop where
  | trap (off : Nat)
  | violation
deriving DecidableEq, Repr

/-- A pass accesses the word at a safety RAM offset, or its coded twin: the MPU checks it against set B, under which the passes run (R222,
R228). -/
def State.passAccess (coded : Bool) (kind : AccessKind) (off : Nat) (s : State) : State × Option PassStop :=
  let was := s.le.inB
  let addr := if coded then 0x21000000 + 2 * off else 0x20000000 + off
  let p := State.mpuCheck kind addr (if coded then 8 else 4) 0 { s with le.inB := true }
  ({ p.1 with le.inB := was }, if p.2 then none else some .violation)

/-- The steps of a pass up to the first that stops it. -/
def runPass {α : Type} (step : α → State → State × Option PassStop) : List α → State → State × Option PassStop
  | [], s => (s, none)
  | a :: r, s =>
    match step a s with
    | (t, some e) => (t, some e)
    | (t, none) => runPass step r t

/-- One phase of a pass after another, up to the first that stops. -/
def thenPass (p : State × Option PassStop) (next : State → State × Option PassStop) : State × Option PassStop :=
  match p with
  | (t, some e) => (t, some e)
  | (t, none) => next t

/-- What stopped a pass: a coded-word trap is cause 0x0403, and a violation has had its reaction (R189, R231). -/
def State.stopPass (e : PassStop) (s : State) : State :=
  match e with
  | .trap off => s.passFault 0x0403 off
  | .violation => s

/-- The accesses of an instruction: its operands are read, then its result is written. -/
def State.passAccesses (coded : Bool) (reads : List Nat) (dst : Nat) (s : State) : State × Option PassStop :=
  runPass (fun (p : AccessKind × Nat) t => t.passAccess coded p.1 p.2)
    (reads.map (fun off => (AccessKind.load, off)) ++ [(AccessKind.store, dst)]) s

/-! ### Instructions and writes of the two passes (R183, R188, R189, R191) -/

/-- Words of the output area and of the instance-state area are folded, those of the stack and scratch are not (R191). -/
def folded (stateBytes off : Nat) : Bool := decide (0x10000 ≤ off) && decide (off < 0x14000 + stateBytes)

/-- STATE_SIZE of the active image. -/
def State.stateBytes (s : State) : Nat := match s.images.image with | some i => i.stateSize | none => 0

/-- The plain pass writes a word, and folds it where its folds are live (R191, R202). -/
def State.plainStore (fold : Bool) (off : Nat) (v : BitVec 32) (s : State) : State :=
  let s := s.storeNative (off, v)
  if fold && folded s.stateBytes off then
    { s with passes.sigPlain := foldWord s.passes.sigPlain off v, passes.plainFolds := s.passes.plainFolds + 1 }
  else s

/-- The shadow pass writes a coded word, which is checked in its type as it is issued, and folds the native value it decodes (R191). -/
def State.shadowStore (off : Nat) (t : WordType) (c : BitVec 64) (s : State) : State × Option PassStop :=
  match readCoded s.images.codeConstant t c with
  | none => (s, some (.trap off))
  | some q =>
    let s := s.storeCoded (off, c)
    if folded s.stateBytes off then
      ({ s with passes.sigShadow := foldWord s.passes.sigShadow off (nativeOf q), passes.shadowFolds := s.passes.shadowFolds + 1 }, none)
    else (s, none)

/-- The offsets and types of the words an instruction reads. -/
def instrReads (i : LogicInstr) : List (Nat × WordType) :=
  let t := operandTypes i.op i.type
  [(i.x, t.1), (i.y, t.2.1), (i.z, t.2.2)].filterMap (fun p => p.2.map (fun w => (p.1, w)))

/-- The plain pass executes one instruction; `fold` says that it folds what it writes. -/
def State.plainInstr (fold : Bool) (i : LogicInstr) (s : State) : State × Option PassStop :=
  match s.passAccesses false ((instrReads i).map (·.1)) i.dst with
  | (t, some e) => (t, some e)
  | (t, none) =>
    (t.plainStore fold i.dst (nativeOp i.op i.type i.const (t.nativeWord i.x) (t.nativeWord i.y) (t.nativeWord i.z)), none)

/-- The shadow pass executes one instruction: its operands are checked at the read, its result as it is written (R189, R191). -/
def State.shadowInstr (i : LogicInstr) (s : State) : State × Option PassStop :=
  match s.passAccesses true ((instrReads i).map (·.1)) i.dst with
  | (t, some e) => (t, some e)
  | (t, none) =>
    let a := t.images.codeConstant
    match (instrReads i).find? (fun p => (readCoded a p.2 (t.codedWord p.1)).isNone) with
    | some p => (t, some (.trap p.1))
    | none =>
      t.shadowStore i.dst (resultType i.op i.type)
        (codedOp a i.op i.type i.const (t.codedWord i.x) (t.codedWord i.y) (t.codedWord i.z))

/-- A further write of the plain pass. -/
def State.plainWrite (fold : Bool) (w : Nat × BitVec 32) (s : State) : State × Option PassStop :=
  match s.passAccess false .store w.1 with
  | (t, some e) => (t, some e)
  | (t, none) => (t.plainStore fold w.1 w.2, none)

/-- A further write of the shadow pass. -/
def State.shadowWrite (w : Nat × WordType × BitVec 64) (s : State) : State × Option PassStop :=
  match s.passAccess true .store w.1 with
  | (t, some e) => (t, some e)
  | (t, none) => t.shadowStore w.1 w.2.1 w.2.2

/-! ### What the library's blocks write in a pass (R191, R195, R209) -/

/-- The words of an instance's state in its region. -/
def blockWords (b : Block) : List (BitVec 32) := (List.range (stateLength b.type / 4)).map (Config.stateWord b)

/-- The instances' state words with their safety RAM offsets. -/
def State.stateWrites (s : State) : List (Nat × BitVec 32) :=
  s.lib.blocks.flatMap (fun b => (blockWords b).mapIdx (fun k w => (s.areaOffset (b.stateOffset + 4 * k), w)))

/-- The instances' state words enter the native area. -/
def State.putStateNative (s : State) : State :=
  s.lib.blocks.foldl (fun t b => t.putArea false b.stateOffset ((blockWords b).flatMap (fun w => leBytes 4 w.toNat))) s

/-- Their coded twins enter the coded area. -/
def State.putStateCoded (s : State) : State :=
  s.lib.blocks.foldl (fun t b =>
    t.putArea true b.stateOffset ((blockWords b).flatMap (fun w => leBytes 8 (encodeWord t.images.codeConstant .unsigned w).toNat))) s

/-- The words of the output area at the values of `slots`, with their safety RAM offsets. -/
def outputWrites (slots : Nat → Bool) : List (Nat × BitVec 32) :=
  (List.range 32).map (fun n => (0x10000 + itemPlace true n, boolWord (slots n)))

/-- The blocks' part of the plain pass: every output word and every state word is written, and folded unless split debug froze the folds
(R191, R195, R202; DESIGN CHOICE, log entry 135: all of them in every cycle, before what the code itself writes). -/
def State.plainBlocks (slots : Nat → Bool) (s : State) : State :=
  let writes := outputWrites slots ++ s.stateWrites
  let s := { s with le.outputs := (List.range 32).map (fun n => boolWord (slots n)) }
  let s := s.putStateNative
  if s.passes.split then s
  else { s with passes.sigPlain := foldWrites s.passes.sigPlain writes, passes.plainFolds := s.passes.plainFolds + writes.length }

/-- The blocks' part of the shadow pass, on coded words; there is none in split debug (R202). -/
def State.shadowBlocks (slots : Nat → Bool) (s : State) : State :=
  if s.passes.split then s
  else
    let writes := outputWrites slots ++ s.stateWrites
    let s := { s with
      le.outputsCoded := (List.range 32).map (fun n => encodeWord s.images.codeConstant .bool (boolWord (slots n))) }
    let s := s.putStateCoded
    { s with passes.sigShadow := foldWrites s.passes.sigShadow writes, passes.shadowFolds := s.passes.shadowFolds + writes.length }

/-! ### The tables the boot ROM writes (R225 to R227) -/

/-- A descriptor of `bytes` at `base` (R220). -/
def descriptor (base bytes srd key mask : Nat) (tagw : Bool) (perm : Nat) : BitVec 64 :=
  let big := decide (4194304 < bytes)
  let len := (if big then bytes / 65536 else bytes / 64) - 1
  BitVec.ofNat 64 (base / 64 * 2 ^ 38 + bit big * 2 ^ 37 + len * 2 ^ 21 + srd * 2 ^ 13 + key * 2 ^ 9 + mask * 2 ^ 5 + bit tagw * 16 +
    perm * 2 + 1)

/-- The catch-all: 4 GiB with no rights. -/
def catchAll : BitVec 64 := 0x0000003FFFE00001

/-- Set A (Table 7-5). -/
def setATable : List (BitVec 64) :=
  [ descriptor 0x48000000 4096 0 0 0 false 1, descriptor 0 65536 0 0 0 false 5, descriptor 0x08000000 1048576 0 0 0 false 5,
    descriptor 0x0C000000 524288 0 0 0 false 1, descriptor 0x20000000 524288 0xC0 0 8 true 3,
    descriptor 0x21000000 1048576 0xC0 0 8 false 3, descriptor 0x22000000 16384 0 0 0 false 3,
    descriptor 0x24000000 65536 0 0 0 false 3 ] ++
  [ descriptor 0x25000000 65536 0 0 0 false 3, descriptor 0x40000000 67108864 0 0 0 false 3, 0, 0, 0, 0, 0, catchAll ]

/-- Set B from region 7 (Table 7-5). -/
def setBTail : List (BitVec 64) :=
  [ 0x2000C0001FE009E3, descriptor 0x21018000 32768 0 4 0xF false 1, descriptor 0x0C000000 524288 0 0 0 false 5,
    0x20000003FFF82987, descriptor 0x21000000 1048576 0xC1 4 0xC false 3, 0, 0, 0, catchAll ]

/-- The seven descriptors of the Protection Defaults region. -/
def State.protectionDefaults (s : State) : List (BitVec 64) :=
  (List.range 7).map (fun n => BitVec.ofNat 64 (s.otp.content .protection / 2 ^ (64 * n)))

/-- The deny-all defaults apply: an integrity failure of the region, or a descriptor that fails R221 or has TAGW = 1 (R227). -/
def State.denyAllDue (s : State) : Bool :=
  s.otp.protectionFallback || s.protectionDefaults.any (fun d => !regionValid d.toNat || regionTagw d.toNat)

/-- Write both sets (R225, R227). -/
def State.writeSets (s : State) : State :=
  let deny := s.denyAllDue
  let head := if deny then [catchAll, 0, 0, 0, 0, 0, 0] else s.protectionDefaults
  { s with le.setA := setATable, le.setB := head ++ setBTail, le.denyAll := deny }

end Sys2Proof.Machine
end

