-- ==== Sys2Proof/Machine/Exchange.lean ====
section
/-!
DEFINITION. Machine/Exchange.lean: the exchange controller: ownership, commands and their zeroing, the three queues, the engines' posts, the
hold limit and the non-owner rules (ch. 8).
-/

namespace Sys2Proof.Machine

/-! ### Homes and paths (Tables 8-1, 8-3) -/

/-- A POST permitted by Table 8-3: path, KIND and LENGTH (R246). The kinds beside a path are those the firmware uses; the controller refuses
0x00 and 0x08 upwards. -/
def postPermitted (src target : Owner) (kind len : Nat) : Bool :=
  decide (len ≤ 512) && decide (1 ≤ kind) && decide (kind ≤ 7) &&
    match src, target with
    | .le, .ce | .le, .me | .ce, .le | .me, .le => true
    | _, _ => false

/-- Change buffer n. -/
def State.modBuffer (n : Nat) (f : Buffer → Buffer) (s : State) : State := { s with xch.buffers := s.xch.buffers.modify n f }

/-- FREE buffers of a home, as `XCH_FREE_COUNT` counts them. -/
def State.freeCountOf (home : Owner) (s : State) : Nat :=
  ((List.range 128).filter (fun n =>
    let b := s.buffer n
    homeOf n == home && b.owner == .free && b.busy.isNone && !b.masked)).length

/-! ### Ports -/

/-- Store a port's result (Table 8-5). -/
def Exchange.setResult (p : Owner) (code : Nat) (x : Exchange) : Exchange :=
  match p with
  | .le => { x with leResult := code }
  | .ce => { x with ceResult := code }
  | .me => { x with meResult := code }
  | .free => x

/-- Store the buffer number a port was returned. -/
def Exchange.setReturn (p : Owner) (n : Nat) (x : Exchange) : Exchange :=
  match p with
  | .le => { x with leReturn := n }
  | .ce => { x with ceReturn := n }
  | .me => { x with meReturn := n }
  | .free => x

/-- The inbound queue of an engine. -/
def Exchange.queue (x : Exchange) : Owner → List Nat
  | .le => x.leQueue
  | .ce => x.ceQueue
  | .me => x.meQueue
  | .free => []

/-- Replace an inbound queue; the doorbell stands while the queue holds an entry (log entry 32). -/
def Exchange.setQueue (o : Owner) (q : List Nat) (x : Exchange) : Exchange :=
  match o with
  | .le => { x with leQueue := q, leBell := !q.isEmpty, leQueueMax := max x.leQueueMax q.length }
  | .ce => { x with ceQueue := q, ceBell := !q.isEmpty }
  | .me => { x with meQueue := q, meBell := !q.isEmpty }
  | .free => x

/-- The next post sequence of an engine's queue, and the exchange with it taken (R248). -/
def Exchange.takeSeq (o : Owner) (x : Exchange) : Nat × Exchange :=
  match o with
  | .le => (x.leSeq, { x with leSeq := (x.leSeq + 1) % 65536 })
  | .ce => (x.ceSeq, { x with ceSeq := (x.ceSeq + 1) % 65536 })
  | .me => (x.meSeq, { x with meSeq := (x.meSeq + 1) % 65536 })
  | .free => (0, x)

/-- A port has a command in progress (R247). -/
def Exchange.portBusy (p : Owner) (x : Exchange) : Bool :=
  (match x.active with
    | some a => a.2.1 == p
    | none => false) || x.waiting.any (fun w => w.port == p)

/-- The port that follows another in the rotation LE, ME, CE (R247). -/
def nextPort : Owner → Owner
  | .le => .me
  | .me => .ce
  | _ => .le

/-! ### Processing (R244 to R247, R259) -/

/-- What the controller answers to a command at its processing: a refusal code, or the buffer to be zeroed and what follows. -/
def State.judgeCommand (w : XchWaiting) (s : State) : Nat ⊕ (Nat × XchPending) :=
  let b := s.buffer w.buffer
  match w.code with
  | 1 => match s.freeBuffer w.port with
    | some n => .inr (n, .claim w.port w.post)
    | none => .inl 0x82
  | 2 =>
    if b.owner != w.port then .inl 0x81
    else if !postPermitted w.port w.target w.kind w.len then .inl 0x83
    else .inr (w.buffer, .post w.target w.kind w.len)
  | 3 => if b.owner != w.port then .inl 0x81 else .inr (w.buffer, .toFree)
  | _ =>
    if w.port != .le then .inl 0x84
    else if homeOf w.buffer != .le || b.masked || b.owner == .free || b.owner == .le then .inl 0x84
    else .inr (w.buffer, .revoke)

/-- A buffer leaves every queue (Table 8-2). -/
def Exchange.unqueue (n : Nat) (x : Exchange) : Exchange :=
  [Owner.le, .me, .ce].foldl (fun y o => if (y.queue o).contains n then y.setQueue o ((y.queue o).filter (· != n)) else y) x

/-- Accept a judged command: the buffer is busy and has no owner (R244); a REVOKE removes it from any queue, and the LE notes the time of its
POST (R251). -/
def State.accepted (w : XchWaiting) (n : Nat) (what : XchPending) (s : State) : State :=
  let s := if w.code = 4 then { s with xch := s.xch.unqueue n } else s
  let s := s.modBuffer n (fun b =>
    { b with
      owner := .free
      busy := some what
      ue := false
      queued := if w.code = 4 then false else b.queued
      popped := false
      postedAt := if w.code = 2 && w.port == .le then w.at_ else b.postedAt })
  let s := if w.code = 1 then { s with xch := s.xch.setReturn w.port n } else s
  { s with xch.active := some (n, w.port, s.localNow), xch.lastServed := w.port }

/-- Process one command while the controller is idle: answer a refusal at once, or start its zeroing; the flag says that it was refused. -/
def State.processCommand (w : XchWaiting) (s : State) : State × Bool :=
  match s.judgeCommand w with
  | .inl code => ({ s with xch := { s.xch with lastServed := w.port }.setResult w.port code }, true)
  | .inr (n, what) => (s.accepted w n what, false)

/-- The next waiting command in the rotation (R247). -/
def Exchange.nextWaiting (x : Exchange) : Option XchWaiting :=
  let a := nextPort x.lastServed
  let at_ p := x.waiting.find? (fun w => w.port == p)
  (at_ a).orElse fun _ => (at_ (nextPort a)).orElse fun _ => at_ (nextPort (nextPort a))

/-- Serve waiting commands until one is accepted; at most three ports wait. -/
def State.serveWaiting : Nat → State → State
  | 0, s => s
  | k + 1, s =>
    match s.xch.nextWaiting with
    | none => s
    | some w =>
      let s := { s with xch.waiting := s.xch.waiting.filter (fun v => v.port != w.port) }
      let (s, refused) := s.processCommand w
      if refused then State.serveWaiting k s else s

/-- The buffer number a port was returned last. -/
def Exchange.returned (x : Exchange) : Owner → Nat
  | .le => x.leReturn
  | .ce => x.ceReturn
  | .me => x.meReturn
  | .free => 0xFF

/-- What the acceptance that leads from `s` to `t` changed of the command's buffer, its holder's queue and the port's returned number. -/
def undoFrom (s t : State) : Option (Nat × Buffer × Owner × List Nat × Nat) :=
  t.xch.active.map (fun a =>
    let b := s.buffer a.1
    (a.1, b, b.owner, s.xch.queue b.owner, s.xch.returned a.2.1))

/-- Put back what the acceptance in this clock cycle changed. -/
def State.takeBack (c : Coincident) (s : State) : State :=
  match c.undo, s.xch.active with
  | some (n, b, holder, q, r), some (_, port, _) =>
    let s := s.modBuffer n (fun _ => b)
    { s with xch := { (s.xch.setQueue holder q).setReturn port r with active := none, lastServed := c.last } }
  | _, _ => { s with xch.lastServed := c.last }

/-- An idle controller takes the commands of one clock cycle in the rotation, in whatever order the model met them: those judged so far are
judged anew together with `w` (R247, R259). -/
def State.arbitrate (c : Coincident) (w : XchWaiting) (s : State) : State :=
  let all := c.commands ++ [w]
  let s := s.takeBack c
  let s := { s with xch := { all.foldl (fun x v => x.setResult v.port 1) s.xch with waiting := all } }
  let t := State.serveWaiting 3 s
  { t with xch.coincident := some { c with commands := all, undo := undoFrom s t } }

/-- A command reaches the controller: it waits for the one in progress, or is judged at once. -/
def State.takeCommand (w : XchWaiting) (s : State) : State :=
  if s.xch.active.isSome then { s with xch.waiting := s.xch.waiting ++ [w] }
  else
    let t := (s.processCommand w).1
    { t with xch.coincident := some { at_ := s.localNow, last := s.xch.lastServed, commands := [w], undo := undoFrom s t } }

/-- Another command of the clock cycle in which the idle controller took those of `coincident`. -/
def State.coincides (port : Owner) (s : State) : Option Coincident :=
  s.xch.coincident.filter (fun c => c.at_ == s.localNow && !c.commands.any (fun v => v.port == port))

/-- Issue a command on a port: the controller serves commands from release onwards (R261), once PD48 is held in reset no more (R74). -/
def State.issue (w : XchWaiting) (s : State) : State :=
  if !s.rt.cycling || s.startingUp 48 || w.port == .free then s
  else if s.xch.portBusy w.port then { s with xch := s.xch.setResult w.port 0x85 }
  else
    let s := { s with xch := s.xch.setResult w.port 1 }
    match s.coincides w.port with
    | some c => s.arbitrate c w
    | none => s.takeCommand w

/-! ### The firmware of the engines (R30, R245, R250 to R252) -/

/-- What the firmware of an engine has yet to do. -/
def Exchange.tasks (x : Exchange) : Owner → List XchTask
  | .le => x.leTasks
  | .ce => x.ceTasks
  | .me => x.meTasks
  | .free => []

/-- Replace it. -/
def Exchange.setTasks (o : Owner) (l : List XchTask) (x : Exchange) : Exchange :=
  match o with
  | .le => { x with leTasks := l }
  | .ce => { x with ceTasks := l }
  | .me => { x with meTasks := l }
  | .free => x

/-- The LE skips a post for want of a FREE buffer of its home (R252). Of a record 0x0608 the skipped posts are only counted (DESIGN CHOICE, log
entry 150). -/
def State.skipPost (x : XchPost) (s : State) : State :=
  let s := { s with xch.starvedCount := sat32 (s.xch.starvedCount + 1) }
  if (x.kind = 5 ∨ x.kind = 6) ∧ leAt x.payload 0xE 2 = 0x0608 then s else s.event 0x0608 []

/-- The command with which an engine's firmware begins a task. -/
def State.taskCommand (s : State) (p : Owner) : XchTask → XchWaiting
  | .release n => { port := p, code := 3, buffer := n, target := .free, kind := 0, len := 0, at_ := s.now }
  | .revoke n => { port := p, code := 4, buffer := n, target := .free, kind := 0, len := 0, at_ := s.now }
  | .deliver x => { port := p, code := 1, buffer := 128, target := .free, kind := 0, len := 0, at_ := s.now, post := some x }
  | .handOver n x => { port := p, code := 2, buffer := n, target := x.target, kind := x.kind, len := x.payload.length, at_ := s.now }

/-- An engine's firmware issues its next command, if its port is free. Without a FREE buffer of its home the LE skips a post (R252), and the
CE or the ME waits with it (DESIGN CHOICE, log entry 75). -/
def State.portTask (p : Owner) (s : State) : State :=
  match s.xch.tasks p with
  | [] => s
  | t :: r =>
    let rest := { s with xch := s.xch.setTasks p r }
    if s.xch.portBusy p || s.startingUp 48 then s
    else match t, s.freeBuffer p with
      | .deliver x, none => if p = .le then rest.skipPost x else s
      | _, _ => rest.issue (s.taskCommand p t)

/-- An engine's tasks up to the first whose command is accepted or waits. -/
def State.runTasks (p : Owner) (s : State) : State := (s.xch.tasks p).foldl (fun t _ => t.portTask p) s

/-- The tasks of every engine, in the rotation of the ports. -/
def State.runPorts (s : State) : State :=
  let a := nextPort s.xch.lastServed
  ((s.runTasks a).runTasks (nextPort a)).runTasks (nextPort (nextPort a))

/-- New tasks of an engine, behind those it has; before release there are none (R261). -/
def State.addTasks (p : Owner) (l : List XchTask) (s : State) : State :=
  if s.rt.cycling then State.runTasks p { s with xch := s.xch.setTasks p (s.xch.tasks p ++ l) } else s

/-- An engine releases a buffer that it has read before it does anything else. -/
def State.releaseRead (p : Owner) (n : Nat) (s : State) : State :=
  State.runTasks p { s with xch := s.xch.setTasks p (.release n :: s.xch.tasks p) }

/-- CLAIM (R244). -/
def execClaim (dt : Nat) (port : Owner) (s : State) : Host.Outcome State Fault Refusal :=
  let s := s.elapse dt
  done (s.issue { port := port, code := 1, buffer := 128, target := .free, kind := 0, len := 0, at_ := s.now })

/-- POST (R245). -/
def execPost (dt : Nat) (port : Owner) (buffer : Nat) (target : Owner) (kind len : Nat) (s : State) : Host.Outcome State Fault Refusal :=
  let s := s.elapse dt
  done (s.issue { port := port, code := 2, buffer := buffer, target := target, kind := kind, len := len, at_ := s.now })

/-- RELEASE_BUFFER (R244). -/
def execReleaseBuffer (dt : Nat) (port : Owner) (buffer : Nat) (s : State) : Host.Outcome State Fault Refusal :=
  let s := s.elapse dt
  done (s.issue { port := port, code := 3, buffer := buffer, target := .free, kind := 0, len := 0, at_ := s.now })

/-- REVOKE (R244). -/
def execRevoke (dt : Nat) (port : Owner) (buffer : Nat) (s : State) : Host.Outcome State Fault Refusal :=
  let s := s.elapse dt
  done (s.issue { port := port, code := 4, buffer := buffer, target := .free, kind := 0, len := 0, at_ := s.now })

/-! ### The end of a zeroing (R244, R245, R248) -/

/-- LE address of byte `off` of buffer n. -/
def bufferAddr (n off : Nat) : Nat := 0x24000000 + 512 * n + off

/-- The engine that claimed buffer n fills it with what it claimed it for, and posts it next (R245). -/
def State.fillBuffer (who : Owner) (n : Nat) (post : Option XchPost) (s : State) : State :=
  match post with
  | none => s
  | some x => { s with
      le.ram := cellWrite 0 (bufferAddr n 0) (x.payload.take 512) s.le.ram
      xch := s.xch.setTasks who (.handOver n x :: s.xch.tasks who) }

/-- The first ANNOUNCE that the LE has posted takes `SESSION_STATE` from 0x00 to 0x01 (R487). -/
def State.notePosted (n : Nat) (s : State) : State :=
  let b := cellBytes 0 s.le.ram (bufferAddr n 0) 7
  if (s.buffer n).kind = 1 ∧ leAt b 0 2 = 0x70 + s.zop.nodeId ∧ leAt b 6 1 = 1 ∧ s.zop.session = 0 then { s with zop.session := 1 } else s

/-- The zeroing of buffer n ends: its bytes read 0 where the command says, and ownership passes; a revocation is counted here, where the
buffer is taken back (R251; DEDUCED, log entry 117). -/
def State.finishBuffer (n : Nat) (what : XchPending) (s : State) : State :=
  match what with
  | .claim who post =>
    let s := { s with le.ram := cellClear (bufferAddr n 0) 512 s.le.ram }
    (s.modBuffer n (fun b => { b with owner := who, busy := none, kind := 0, len := 0 })).fillBuffer who n post
  | .toFree =>
    let s := { s with le.ram := cellClear (bufferAddr n 0) 512 s.le.ram }
    s.modBuffer n (fun b => { b with owner := .free, busy := none, kind := 0, len := 0 })
  | .revoke =>
    let s := { s with
      le.ram := cellClear (bufferAddr n 0) 512 s.le.ram
      xch.revokeCount := sat32 (s.xch.revokeCount + 1) }
    (s.modBuffer n (fun b => { b with owner := .free, busy := none, kind := 0, len := 0 })).event 0x0607 []
  | .post target kind len =>
    let s := { s with le.ram := cellClear (bufferAddr n len) (512 - len) s.le.ram }
    let (q, x) := s.xch.takeSeq target
    let s := { s with xch := x.setQueue target (x.queue target ++ [n]) }
    (s.modBuffer n (fun b => { b with owner := target, busy := none, queued := true, kind := kind, seq := q, len := len })).notePosted n

/-- ZEROING_COMPLETE: the command in progress is done, the next waiting one is served, and the engines go on with their tasks (R247). -/
def State.zeroingDone (s : State) : State :=
  match s.xch.active with
  | none => s
  | some (n, port, _) =>
    let s := match (s.buffer n).busy with
      | some what => s.finishBuffer n what
      | none => s
    let s := { s with xch := { s.xch with active := none, coincident := none }.setResult port 0 }
    (s.serveWaiting 3).runPorts

def execZeroingComplete (dt : Nat) (s : State) : Host.Outcome State Fault Refusal := done (s.elapse dt).zeroingDone

/-- ZEROING_TIMEOUT: not complete 128 IOS-clock cycles after its start, cause 0x0603 (R256, R258). -/
def State.zeroingTimeout (s : State) : State :=
  match s.xch.active with
  | none => s
  | some (n, _, at_) => if s.passed at_ 128 then s.xchFault 0x0603 n else s

def execZeroingTimeout (dt : Nat) (s : State) : Host.Outcome State Fault Refusal := done (s.elapse dt).zeroingTimeout

/-! ### POP (R248 to R250, R253) -/

/-- The buffer number that a POP now returns. -/
def State.popped (port : Owner) (s : State) : Option Nat :=
  if !s.rt.cycling || (port == .le && decide (16 ≤ s.xch.lePops)) then none else (s.xch.queue port).head?

/-- A port is returned `n`, also where the commands of this clock cycle are judged anew: the entry it took stays taken. -/
def Exchange.returnPop (port : Owner) (n : Nat) (x : Exchange) : Exchange :=
  let mine := x.active.map (fun a => a.2.1) = some port
  { (x.setReturn port n) with
    coincident := x.coincident.map (fun c => { c with
      undo := c.undo.map (fun (u : Nat × Buffer × Owner × List Nat × Nat) =>
        (u.1, u.2.1, u.2.2.1, if u.2.2.1 = port then u.2.2.2.1.erase n else u.2.2.2.1, if mine then n else u.2.2.2.2)) }) }

/-- A port takes the oldest entry of its queue: the number is returned at once, or 0xFF. The LE takes at most 16 entries in a cycle. -/
def State.popQueue (port : Owner) (s : State) : State :=
  if !s.rt.cycling || (port == .le && decide (16 ≤ s.xch.lePops)) then s
  else match s.xch.queue port with
    | [] => { s with xch := s.xch.returnPop port 0xFF }
    | n :: q =>
      let s := { s with xch := (s.xch.setQueue port q).returnPop port n }
      let s := s.modBuffer n (fun b => { b with queued := false, popped := port == .le })
      if port == .le then { s with xch.lePops := s.xch.lePops + 1 } else s

/-! ### Non-owner accesses and integrity (R253, R257, R258) -/

/-- XCH_NON_OWNER_ACCESS: an engine touches a buffer that it does not own. -/
def State.nonOwnerAccess (port : Owner) (n : Nat) (s : State) : State :=
  if !s.leRuns || decide (128 ≤ n) || s.owns port n then s
  else match port with
    | .le => s.xchFault 0x0601 n
    | .me => s.xchFault 0x0602 n
    | .ce => State.eventLimited 0x0605 0 (ms 1000) [] { s with xch.refusedCount := sat32 (s.xch.refusedCount + 1) }
    | .free => s

def execXchNonOwnerAccess (dt : Nat) (port : Owner) (buffer : Nat) (s : State) : Host.Outcome State Fault Refusal :=
  done ((s.elapse dt).nonOwnerAccess port buffer)

/-- XCH_UNCORRECTABLE_READ: the owner's read of a word that cannot be corrected (R253): it reads 0, and goes on reading 0 until the buffer
is zeroed or the word written. -/
def State.uncorrectableRead (n word : Nat) (s : State) : State :=
  if !s.rt.cycling || decide (128 ≤ n) then s
  else
    let s := s.modBuffer n (fun b => { b with ue := true })
    State.event 0x0604 [] { s with
      xch.uncorrectedCount := sat32 (s.xch.uncorrectedCount + 1)
      le.ram := cellClear (bufferAddr n (8 * (word % 64))) 8 s.le.ram }

def execXchUncorrectableRead (dt word : Nat) (s : State) : Host.Outcome State Fault Refusal :=
  done ((s.elapse dt).uncorrectableRead (word / 64) (word % 64))

/-! ### The boundary (R250, R251, R254) -/

/-- A buffer that the LE has popped and still holds. -/
def Buffer.toRelease (b : Buffer) : Bool := b.owner == .le && b.popped && b.busy.isNone

/-- An LE-home buffer that another engine has held beyond `XCH_HOLD_LIMIT` at the boundary. -/
def State.overheld (s : State) (n : Nat) : Bool :=
  let b := s.buffer n
  homeOf n == .le && (b.owner == .ce || b.owner == .me) && b.busy.isNone &&
    decide (b.postedAt + us s.xchHoldLimit < (s.rt.boundary : Instant))

/-- The LE releases what it has popped and still holds (R250) and revokes what another engine has held too long (R251), through its port, one
command after another; every engine goes on with its tasks. -/
def State.xchBoundary (s : State) : State :=
  let all := List.range 128
  let tasks := (all.filter (fun n => (s.buffer n).toRelease)).map XchTask.release ++ (all.filter s.overheld).map XchTask.revoke
  let left := s.xch.leTasks ++ tasks.filter (fun t => !s.xch.leTasks.contains t)
  State.runPorts { s with xch := { s.xch.setTasks .le left with lePops := 0 } }

/-- Buffers that contain a row masked by the Repair fallback are masked whole (R254): exchange RAM is memory 6 of Table 5-11, a buffer
eight of its rows. -/
def State.maskBuffers (s : State) : State :=
  s.otp.masked.foldl (fun t e =>
    if entryMemory e.toNat == 6 then t.modBuffer (entryRow e.toNat / 8) (fun b => { b with masked := true }) else t) s

end Sys2Proof.Machine
end

