-- ==== Sys2Proof/Machine/Library.lean ====
section
/-!
DEFINITION. Machine/Library.lean: the block types of the function library and their evaluation in a cycle (ch. 12).
-/

namespace Sys2Proof.Machine

/-! ### What an evaluation reads -/

/-- Filtered value of CHn in the native input area (R183, R268). -/
def State.frozenAt (s : State) (n : Nat) : Bool := s.item (channelItem n 0) != 0

/-- `CH_EDGE_TIME` of CHn in the native input area. -/
def State.edgeAt (s : State) (n : Nat) : Instant := joinHalves (s.item (channelItem n 1)) (s.item (channelItem n 2))

/-- Items of a pair's channel a (0) or b (1) in the native input area: NVALID above 0, OVR of FLAGS, and LAST, MIN, MAX (R324, R329). -/
def State.sampled (s : State) (p ab : Nat) : Bool := s.item (analogItem p ab 4) != 0
def State.overRange (s : State) (p ab : Nat) : Bool := (s.item (analogItem p ab 5)).getLsbD 1
def State.anLast (s : State) (p ab : Nat) : Int := (s.item (analogItem p ab 1)).toInt
def State.anMin (s : State) (p ab : Nat) : Int := (s.item (analogItem p ab 2)).toInt
def State.anMax (s : State) (p ab : Nat) : Int := (s.item (analogItem p ab 3)).toInt

/-- Instant at which a command of the cycle of boundary `rt.boundary` is placed (R340). -/
def State.placedAt (s : State) : Nat := s.rt.boundary + s.cycleTicks + us 100

/-- "Elapsed since" at this boundary (R340): the latched preset, in µs, has passed since the timer's start. -/
def State.due (s : State) (t : Timer) : Bool := decide (t.start + us t.preset ≤ s.rt.boundary)

/-- A timer that may be stopped has elapsed. -/
def State.dueOpt (s : State) (t : Option Timer) : Bool :=
  match t with
  | some x => s.due x
  | none => false

/-- A block's fault records: cause of Table 12-15 and the free code of a discarded `INST_ACK` (log entry 34), in order. -/
inductive BlockEvent where
  | cause (code : Nat)
  | ackDiscarded
deriving DecidableEq, Repr

/-- A block with the records its evaluation makes. -/
abbrev Evaluated := Block × List BlockEvent

/-- Set `INST_CAUSE` and record the fault (R359). -/
def fault (cause : Nat) (e : Evaluated) : Evaluated := ({ e.1 with cause := cause }, e.2 ++ [.cause cause])

/-- A transition: the boundary of the change, and the count of entries to DEMAND, OPENING, WITHDRAWN (Table 12-9). -/
def State.goto (s : State) (new : Nat) (counted : Bool) (e : Evaluated) : Evaluated :=
  if e.1.state = new then e
  else ({ e.1 with
    state := new
    changeTime := s.rt.boundary
    demandCount := if counted then sat32 (e.1.demandCount + 1) else e.1.demandCount }, e.2)

/-! ### Acknowledge (R345, R360) -/

/-- States in which an instance waits for an acknowledge: WAIT_ACK, and FB_FAULT of an actuator block. -/
def waits (b : Block) : Bool :=
  match b.type with
  | 0x10 | 0x11 => b.state == 7
  | 0x12 => b.state == 3 || b.state == 7
  | _ => b.state == 3

/-- The acknowledge input as this evaluation sees it: the flag says that a valid press ended now. An input that is 1 at the first
evaluation makes no edge (R384). -/
def State.press (s : State) (e : Evaluated) : Evaluated × Bool :=
  let b := e.1
  let src := ackSource b
  if src = 0xFF then (e, false)
  else
    let v := s.frozenAt src
    let t := s.edgeAt src
    let keep : Option Edge := some { value := v, time := t }
    let rise : Bool := match b.ackIn with
      | none => false
      | some old => v && (!old.value || old.time != t)
    let fall : Bool := match b.ackIn with
      | none => false
      | some old => !v && old.value
    if rise then (({ b with ackIn := keep, press := some t, pressValid := waits b, pressLong := false }, e.2), false)
    else if fall then
      let (ok, long) := match b.press with
        | some r => (b.pressValid && waits b && decide (r + ms 50 ≤ t) && decide (t ≤ r + ms 3000), decide (r + ms 3000 < t))
        | none => (false, false)
      let b2 := { b with ackIn := keep, press := none, pressValid := false, pressLong := false }
      if long && !b.pressLong && waits b then (fault 3 (b2, e.2), false) else ((b2, e.2), ok)
    else
      let start := if v && b.ackIn.isNone then some t else b.press
      let valid := b.pressValid && waits b
      let long := match start with
        | some r => v && decide (r + ms 3000 < s.rt.boundary)
        | none => false
      let b2 := { b with ackIn := keep, press := start, pressValid := valid, pressLong := b.pressLong || long }
      if long && !b.pressLong && waits b then (fault 3 (b2, e.2), false) else ((b2, e.2), false)

/-- A valid acknowledge in this evaluation: a press, or `INST_ACK` in the frozen image. -/
def State.acknowledged (s : State) (e : Evaluated) : Evaluated × Bool :=
  let waiting := waits e.1
  let written := s.lib.ackFrozen.contains e.1.id
  let (e, pressed) := s.press e
  let e := if written && !waiting then (e.1, e.2 ++ [.ackDiscarded]) else e
  (e, pressed || (written && waiting))

/-! ### Demand blocks with two channels (R342 to R344) -/

/-- Conditions of a pair (R342). -/
inductive PairCondition where
  | rel | dem | mix
deriving DecidableEq, Repr

/-- The condition of release levels `a` and `b`. -/
def pairCondition (a b : Bool) : PairCondition := if a && b then .rel else if !a && !b then .dem else .mix

/-- The absolute difference of two instants. -/
def apart (a b : Instant) : Nat := (a - b).natAbs

/-- A MIX run ends: d is measured between the two changes, and a d beyond the window is a fault, also of a run that has raised 0x01 (R343). -/
def endMix (from_ upto : Instant) (window : Nat) (e : Evaluated) : Evaluated :=
  let d := apart from_ upto
  let r := min ((d + 50) / 100) 0xFFFFFFFF
  let b := { e.1 with discLast := r, discMax := max e.1.discMax r, mix := none, mixFault := false }
  if us window < d then fault 2 ({ b with discDue := true }, e.2) else (b, e.2)

/-- The MIX run of the pair at this evaluation: it ends only at REL or DEM, and its t_mix is not older than t_run, or t_x for an instance that
an exchange brought (R343, R382). `a` and `b` are the filtered values, `cond` and `last` the conditions now and before. -/
def State.mixRun (s : State) (a b : Bool) (ta tb : Instant) (cond : PairCondition) (last : Option PairCondition) (e : Evaluated) : Evaluated :=
  let k := e.1
  let changedA := match k.inA with | some x => x.value != a | none => false
  let changedB := match k.inB with | some x => x.value != b | none => false
  let window := param k 3
  let latest := max ta tb
  let began := if changedA && !changedB then ta else if changedB && !changedA then tb else latest
  let start (e : Evaluated) : Evaluated :=
    ({ e.1 with mix := some { start := max began k.since, preset := window }, mixFrom := began, mixFault := false }, e.2)
  match k.mix with
  | some t =>
    if cond == PairCondition.mix then
      if s.due t && !k.mixFault then fault 1 ({ k with mixFault := true, discDue := true }, e.2) else e
    else endMix k.mixFrom (if changedA then ta else tb) t.preset e
  | none =>
    if cond == PairCondition.mix then
      let e := start e
      match e.1.mix with
      | some t => if s.due t then fault 1 ({ e.1 with mixFault := true, discDue := true }, e.2) else e
      | none => e
    else if last.isSome && last != some cond then endMix ta tb window e
    else e

/-- Table 12-2 for a block of type 0x01 to 0x04. -/
def State.evalTwoChannel (s : State) (k : Block) : Evaluated :=
  let single := k.type == 4 && param k 1 == 0xFF
  let inv := param k 2 == 1
  let chA := param k 0
  let chB := param k 1
  let a := s.frozenAt chA
  let b := if single then a else s.frozenAt chB
  let ta := s.edgeAt chA
  let tb := if single then ta else s.edgeAt chB
  let cond : PairCondition := if single then (if a then .rel else .dem) else pairCondition a (b != inv)
  let last : Option PairCondition := match k.inA, k.inB with
    | some x, some y => some (if single then (if x.value then .rel else .dem) else pairCondition x.value (y.value != inv))
    | _, _ => none
  let e : Evaluated := if single then (k, []) else s.mixRun a b ta tb cond last (k, [])
  let e := ({ e.1 with inA := some { value := a, time := ta }, inB := some { value := b, time := tb } }, e.2)
  let (e, ack) := s.acknowledged e
  let b := e.1
  let take (new : Nat) : Evaluated := s.goto new (new == 2) e
  let clear (x : Evaluated) : Evaluated := ({ x.1 with discDue := false }, x.2)
  let e := match b.state with
    | 0 =>
      if cond == PairCondition.mix && b.mixFault then clear (take 4)
      else if cond == PairCondition.dem then take 2
      else if cond == PairCondition.rel then clear (if param b 6 = 1 then take 3 else take 1)
      else e
    | 1 => if cond != PairCondition.rel then take 2 else e
    | 2 =>
      if b.discDue then clear (take 4)
      else if cond == PairCondition.rel then (if param b 4 = 1 || b.ackRequired then take 3 else take 1)
      else e
    | 3 =>
      if cond != PairCondition.rel then take 2
      else if ack then (let x := take 1; ({ x.1 with ackRequired := false }, x.2))
      else e
    | _ => if cond == PairCondition.dem then (let x := clear (take 2); ({ x.1 with ackRequired := true }, x.2)) else clear e
  ({ e.1 with out := BitVec.ofNat 8 (bit (e.1.state == 1) + 2 * bit e.1.ackRequired) }, e.2)

/-! ### RCD_TRIP (R346 to R348) -/

/-- Level conditions CONT, STEP1, STEP2, STEP3 that hold at magnitude `m` and baseline `b`. -/
def levelHolds (k : Block) (m b : Int) : List Bool :=
  [decide ((param k 1 : Int) ≤ m), decide ((param k 3 : Int) ≤ m - b), decide ((param k 5 : Int) ≤ m - b), decide ((param k 7 : Int) ≤ m - b)]

/-- Times of the four level conditions. -/
def levelTimes (k : Block) : List Nat := [param k 2, param k 4, param k 6, param k 8]

/-- One level condition in a valid cycle: its timer and its trip; a new trip is a fault (R348). -/
def State.levelStep (s : State) (i : Nat) (holds : Bool) (e : Evaluated) : Evaluated :=
  let k := e.1
  if !holds then ({ k with cond := k.cond.set i none, trips := k.trips &&& ~~~(BitVec.twoPow 5 i) }, e.2)
  else
    let t : Timer := match k.cond.getD i none with
      | some t => t
      | none => { start := s.rt.boundary, preset := (levelTimes k).getD i 0 }
    let k := { k with cond := k.cond.set i (some t) }
    if s.due t && !k.trips.getLsbD i then ({ k with trips := k.trips ||| BitVec.twoPow 5 i }, e.2 ++ [.cause (0x20 + i)]) else (k, e.2)

/-- Table 12-2 with the meanings of R348. M is the exact magnitude, 2^31 too, which the I32 of its report does not hold (log entry 35). -/
def State.evalRcd (s : State) (k : Block) : Evaluated :=
  let p := param k 0
  let valid := s.sampled p 0 && s.sampled p 1
  let e : Evaluated :=
    if !valid then
      let t : Timer := match k.invalid with
        | some t => t
        | none => { start := s.rt.boundary, preset := param k 10 }
      let k := { k with invalid := some t }
      if s.due t && !k.trips.getLsbD 4 then ({ k with trips := k.trips ||| 16#5 }, [.cause 0x24]) else (k, [])
    else
      let raw := max (max (s.anMax p 0).natAbs (s.anMin p 0).natAbs) (max (s.anMax p 1).natAbs (s.anMin p 1).natAbs)
      let m : Int := if s.overRange p 0 || s.overRange p 1 then 0x7FFFFFFF else raw
      let b := if k.baselineDue then m else k.baseline
      let hs := levelHolds k m b
      let k := { k with level := m, invalid := none, trips := k.trips &&& 15#5 }
      let e := (List.range 4).foldl (fun e i => s.levelStep i (hs.getD i false) e) ((k, []) : Evaluated)
      let nb := if hs.any id then b else b + (m - b) / (2 ^ param k 9 : Int)
      ({ e.1 with baseline := nb, baselineDue := false }, e.2)
  let e : Evaluated := match e.2 with
    | .cause c :: _ => ({ e.1 with cause := c }, e.2)
    | _ => e
  let holding := e.1.cond.any (·.isSome)
  let rel := valid && !holding
  let dem := e.1.trips != 0
  let (e, ack) := s.acknowledged e
  let b := e.1
  let take (new : Nat) : Evaluated := s.goto new (new == 2) e
  let e := match b.state with
    | 0 => if dem then take 2 else if rel then (if param b 13 = 1 then take 3 else take 1) else e
    | 1 => if dem then take 2 else e
    | 2 =>
      if rel then (let x := if param b 11 = 1 || b.ackRequired then take 3 else take 1; ({ x.1 with baselineDue := true }, x.2)) else e
    | _ => if dem then take 2 else if ack && rel then (let x := take 1; ({ x.1 with ackRequired := false }, x.2)) else e
  ({ e.1 with out := BitVec.ofNat 8 (bit (e.1.state == 1) + 2 * bit e.1.ackRequired) }, e.2)

/-! ### The direction interlock (R354 to R356) -/

/-- Direction of an axis state: 1 for P, 2 for N, 0 for none (R355). -/
def axisDirection (st : Nat) : Nat := if st = 1 ∨ st = 3 then 1 else if st = 2 ∨ st = 4 then 2 else 0

/-- COMBO_ALLOW permits grid direction `g` together with battery direction `b`; without either there is nothing to forbid. -/
def comboAllowed (combo g b : Nat) : Bool := g == 0 || b == 0 || bitOf combo (2 * (g - 1) + (b - 1))

/-- One axis transition (Table 12-7): E, the request R, C, K as a function of the direction, and whether the dwell has elapsed. -/
def axisStep (st : Nat) (e : Bool) (r : Nat) (c : Bool) (k : Nat → Bool) (dwell : Bool) : Nat :=
  match st with
  | 0 => if e && r == 1 && k 1 then 1 else if e && r == 2 && k 2 then 2 else 0
  | 1 => if !e || r != 1 || !k 1 then 0 else if c then 3 else 1
  | 2 => if !e || r != 2 || !k 2 then 0 else if c then 4 else 2
  | 3 => if !e || r != 1 || !c || !k 1 then 5 else 3
  | 4 => if !e || r != 2 || !c || !k 2 then 5 else 4
  | _ => if dwell then (if e && r == 1 && k 1 then 1 else if e && r == 2 && k 2 then 2 else 0) else 5

/-- Every instance named in the link words has RELEASE = 1 in this cycle (R339, R350). -/
def linksReleased (fresh : List Block) (b : Block) : Bool :=
  (links b).all (fun id => fresh.any (fun x => x.id == id && isDemand x.type && x.out.getLsbD 0))

/-- An actuator was in CLOSED at the end of the previous cycle. -/
def wasClosed (old : List Block) (id : Nat) : Bool := id != 0 && old.any (fun x => x.id == id && x.state == 4)

/-- Table 12-7 for both axes, the grid axis first. -/
def State.evalInterlock (s : State) (old fresh : List Block) (b : Block) : Evaluated :=
  let en := linksReleased fresh b
  let g := b.state / 16
  let t := b.state % 16
  let combo := param b 0
  let g2 := axisStep g en (bitsAt b.dirRequest 1 0) (wasClosed old (param b 3))
    (fun x => comboAllowed combo x (axisDirection t)) (s.dueOpt b.dwellGrid)
  let t2 := axisStep t en (bitsAt b.dirRequest 3 2) (wasClosed old (param b 4))
    (fun x => comboAllowed combo (axisDirection g2) x) (s.dueOpt b.dwellBatt)
  let dwell (before after : Nat) (cur : Option Timer) (preset : Nat) : Option Timer :=
    if after ≠ 5 then none else if before = 5 then cur else some { start := s.rt.boundary, preset := preset }
  let entries := bit (g2 == 5 && g != 5) + bit (t2 == 5 && t != 5)
  let st := 16 * g2 + t2
  ({ b with
      state := st
      changeTime := if st = b.state then b.changeTime else s.rt.boundary
      demandCount := sat32 (b.demandCount + entries)
      dwellGrid := dwell g g2 b.dwellGrid (param b 1)
      dwellBatt := dwell t t2 b.dwellBatt (param b 2)
      out := BitVec.ofNat 8 (bit (g2 == 3) + 2 * bit (g2 == 4) + 4 * bit (t2 == 3) + 8 * bit (t2 == 4)) }, [])

/-! ### Actuator blocks (R349 to R353) -/

/-- REQ of an actuator: its interlock's axis is not OFF in this cycle, or it has no interlock (R350, R351, R356). -/
def requested (fresh : List Block) (b : Block) : Bool :=
  let id := param b 12
  id == 0 || fresh.any (fun x => x.id == id && x.type == 8 && (if b.type = 0x10 then x.state / 16 != 0 else x.state % 16 != 0))

/-- The departure timer of a feedback that must read an expected value: it runs from the latest change to the wrong one (R349). -/
def departure (old : Option Timer) (wrong : Bool) (edge : Instant) (preset : Nat) : Option Timer :=
  if !wrong then none
  else match old with
    | some t => if t.start = edge then some t else some { start := edge, preset := preset }
    | none => some { start := edge, preset := preset }

/-- A contactor block's feedback and times, by type: channels of the two feedback inputs, FB_TIME, OFF_DELAY. -/
def feedbackA (b : Block) : Nat := if b.type = 0x10 then param b 2 else param b 3
def feedbackB (b : Block) : Nat := if b.type = 0x10 then param b 3 else param b 4
def feedbackTime (b : Block) : Nat := if b.type = 0x10 then param b 4 else param b 5
def offDelay (b : Block) : Nat := if b.type = 0x10 then param b 5 else param b 10

/-- Commands A or POS, B or NEG, PRE of a state (Tables 12-3, 12-4). -/
def contactorCommands (b : Block) : Bool × Bool × Bool :=
  if b.type = 0x10 then
    match b.state with
    | 1 => (true, false, false)
    | 2 => (false, true, false)
    | 3 | 4 | 5 => (true, true, false)
    | _ => (false, false, false)
  else
    match b.state with
    | 1 => (false, true, true)
    | 3 => (true, true, true)
    | 4 | 5 => (true, true, false)
    | _ => (false, false, false)

/-- What a contactor state expects of feedback A and B in the steady state: open is `true` (Tables 12-3, 12-4). -/
def steadyFeedback (b : Block) : Option Bool × Option Bool :=
  match b.state with
  | 0 => (some true, some true)
  | 4 | 5 => (some false, some false)
  | 1 => if b.type = 0x11 then (some true, none) else (none, none)
  | _ => (none, none)

/-- Enter a contactor state: its state timer starts with the preset latched now, from the placement of the new command, or, for STOPPING,
from the state entry (R340, R383); PRECHARGE also times PRE_MAX from its entry, in `mix`'s place as the second timer. -/
def State.contactorGoto (s : State) (new : Nat) (planned : Bool) (e : Evaluated) : Evaluated :=
  let b := e.1
  let t : Option Timer := match new with
    | 1 => if b.type = 0x10 then some { start := s.placedAt, preset := param b 7 } else some { start := s.placedAt, preset := param b 5 }
    | 2 => some { start := s.placedAt, preset := param b 7 }
    | 3 | 6 => some { start := s.placedAt, preset := feedbackTime b }
    | 5 => some { start := s.rt.boundary, preset := offDelay b }
    | _ => none
  let second : Option Timer := if b.type = 0x11 ∧ new = 1 then some { start := s.rt.boundary, preset := param b 9 } else none
  let (b, l) := s.goto new (new == 6) e
  ({ b with timer := t, mix := second, plannedOpening := planned }, l)

/-- The link and battery voltages of a DC_CONTACTOR and whether every channel used has NVALID > 0 (R351). -/
def State.linkVoltages (s : State) (b : Block) : Int × Int × Bool :=
  let l := param b 6
  let okL := s.sampled l 0 && s.sampled l 1
  let vl := min (s.anLast l 0) (s.anLast l 1)
  if param b 7 = 0xFF then (vl, 0, okL)
  else
    let k := param b 7
    (vl, max (s.anLast k 0) (s.anLast k 1), okL && s.sampled k 0 && s.sampled k 1)

/-- The link is pre-charged (R351). -/
def precharged (b : Block) (vl vb : Int) : Bool :=
  if param b 7 = 0xFF then decide ((param b 8 : Int) ≤ vl) else decide (vb - param b 8 ≤ vl)

/-- Tables 12-3 and 12-4. -/
def State.evalContactor (s : State) (fresh : List Block) (b : Block) : Evaluated :=
  let en := linksReleased fresh b && requested fresh b
  let openA := s.frozenAt (feedbackA b)
  let openB := s.frozenAt (feedbackB b)
  let (expA, expB) := steadyFeedback b
  let wrong (exp : Option Bool) (v : Bool) : Bool := match exp with | some x => x != v | none => false
  let b := { b with
    fbA := departure b.fbA (wrong expA openA) (s.edgeAt (feedbackA b)) (feedbackTime b)
    fbB := departure b.fbB (wrong expB openB) (s.edgeAt (feedbackB b)) (feedbackTime b) }
  let (vl, vb, valid) := if b.type = 0x11 then s.linkVoltages b else (0, 0, false)
  let b := if b.type = 0x11 && valid then { b with level := vl, baseline := vb } else b
  let lateA := s.dueOpt b.fbA
  let lateB := s.dueOpt b.fbB
  let timed := s.dueOpt b.timer
  let ready := valid && precharged b vl vb
  let (e, ack) := s.acknowledged (b, [])
  let b := e.1
  let take (new : Nat) : Evaluated := s.contactorGoto new false e
  let fail (cause : Nat) : Evaluated := fault cause (s.contactorGoto 7 false e)
  let e := match b.state with
    | 0 =>
      if lateA then fail 0x10 else if lateB then fail 0x11
      else if en && openA && openB then
        (if b.type = 0x11 then take 1 else if param b 6 = 1 then take 1 else take 3)
      else e
    | 1 =>
      if !en then take 6
      else if b.type = 0x10 then
        if timed && openA then fail 0x12 else if timed && !openB then fail 0x11 else if timed then take 2 else e
      else if timed && openB then fail 0x13 else if lateA then fail 0x10
      else if s.dueOpt b.mix && !ready then fail 0x14
      else if !openB && ready then take 3 else e
    | 2 =>
      if !en then take 6
      else if timed && openB then fail 0x13 else if timed && !openA then fail 0x10 else if timed then take 3 else e
    | 3 =>
      if !en then take 6 else if !openA && !openB then take 4
      else if timed && openA then fail 0x12 else if timed && openB then fail 0x13 else e
    | 4 =>
      if !en then (if offDelay b = 0 then take 6 else take 5)
      else if lateA then fail 0x12 else if lateB then fail 0x13 else e
    | 5 => if en then take 4 else if timed then s.contactorGoto 6 true e else e
    | 6 =>
      if openA && openB then take 0 else if timed && !openA then fail 0x10 else if timed && !openB then fail 0x11 else e
    | _ => if openA && openB && ack then take 0 else e
  let (ca, cb, cp) := contactorCommands e.1
  ({ e.1 with out := BitVec.ofNat 8 (bit ca + 2 * bit cb + 4 * bit cp + 8 * bit openA + 16 * bit openB) }, e.2)

/-- The permission's output in PERMIT: level, or toggling every TOGGLE_CYCLES cycles from an initial 1 (R353). -/
def togglePhase (entered : Bool) (b : Block) : Block × Bool :=
  if param b 1 = 0 then (b, true)
  else if entered then ({ b with toggle := 0, togglePreset := param b 2 }, true)
  else if b.togglePreset ≤ b.toggle + 1 then ({ b with toggle := 0, togglePreset := param b 2 }, !b.out.getLsbD 0)
  else ({ b with toggle := b.toggle + 1 }, b.out.getLsbD 0)

/-- Table 12-5. The state timer runs from the placement of the permission; the second feedback timer from that of a withdrawal. -/
def State.evalPermission (s : State) (fresh : List Block) (b : Block) : Evaluated :=
  let en := linksReleased fresh b
  let hasFb := param b 3 != 0xFF
  let tx := hasFb && s.frozenAt (param b 3)
  let from_ := match b.timer with | some t => max t.start (s.edgeAt (param b 3)) | none => s.edgeAt (param b 3)
  let b := { b with fbA := departure b.fbA (b.state == 1 && hasFb && !tx) from_ (param b 4) }
  let late := s.dueOpt b.fbA
  let (e, ack) := s.acknowledged (b, [])
  let e : Evaluated := if s.dueOpt e.1.fbB then
      (let x := if tx then fault 0x16 e else e; ({ x.1 with fbB := none }, x.2))
    else e
  let placed : Option Timer := some { start := s.placedAt, preset := param b 4 }
  let permit (e : Evaluated) : Evaluated := let x := s.goto 1 false e; ({ x.1 with timer := placed, fbB := none }, x.2)
  let withdraw (e : Evaluated) : Evaluated := let x := s.goto 2 true e; ({ x.1 with timer := none }, x.2)
  let was := e.1.state
  let e := match was with
    | 0 | 2 => if en then (if param b 5 = 1 then s.goto 3 false e else permit e) else e
    | 1 =>
      if !en then (let x := withdraw e; ({ x.1 with fbB := placed }, x.2))
      else if late then fault 0x15 (let x := s.goto 7 false e; ({ x.1 with timer := none }, x.2)) else e
    | 3 => if !en then withdraw e else if ack then permit e else e
    | _ => if ack then withdraw e else e
  let (b2, out) := if e.1.state = 1 then togglePhase (was != 1) e.1 else (e.1, false)
  ({ b2 with out := BitVec.ofNat 8 (bit out + 2 * bit tx) }, e.2)

/-! ### The whole library in a cycle -/

/-- Evaluate one instance: `old` are the instances at the end of the previous cycle, `fresh` those evaluated in this one (R339). In Service
the actuator blocks stay as they are (R341). -/
def State.evalBlock (s : State) (old fresh : List Block) (b : Block) : Evaluated :=
  match b.type with
  | 1 | 2 | 3 | 4 => s.evalTwoChannel b
  | 5 => s.evalRcd b
  | 8 => s.evalInterlock old fresh b
  | 0x10 | 0x11 => if s.rt.state == .run then s.evalContactor fresh b else (b, [])
  | _ => if s.rt.state == .run then s.evalPermission fresh b else (b, [])

/-- Evaluate every instance once, in order; the instances keep the order of the image, which is that of R339. -/
def State.evalAll (s : State) (old : List Block) : List Block → List Evaluated → List Evaluated
  | [], acc => acc
  | b :: r, acc => s.evalAll old r (acc ++ [s.evalBlock old (acc.map (·.1)) b])

/-- The record of a block's event (R345, R359, R580), timed at t_k (Table 21-1). -/
def State.blockEvent (b : Block) (ev : BlockEvent) (s : State) : State :=
  match ev with
  | .cause c => s.eventAt (0x1000 + c) s.rt.boundary (leBytes 2 b.id ++ leBytes 1 b.type ++ leBytes 1 b.state)
  | .ackDiscarded =>
    let (v, s) := s.drawFree
    s.eventAt (v.toNat % 65536) s.rt.boundary []

/-- Every instance evaluated on the native input area. -/
def State.evaluated (s : State) : List Evaluated := s.evalAll s.lib.blocks s.lib.blocks []

/-- The plain pass's evaluation: new instance states and their records; the acknowledges of the frozen image are spent. -/
def State.evaluateLibrary (s : State) : State :=
  let es := s.evaluated
  let s := { s with lib.blocks := es.map (·.1), lib.ackFrozen := [] }
  es.foldl (fun t e => e.2.foldl (fun t ev => t.blockEvent e.1 ev) t) s

/-- An instance at entry to Run or Service, or brought by an exchange: its initial state, every clock, counter and flag 0 (R341, R209, R382). -/
def freshBlock (since : Nat) (b : Block) : Block :=
  { id := b.id, type := b.type, presetImmediate := b.presetImmediate, stateOffset := b.stateOffset, params := b.params
    changeTime := since, since := since }

/-- The same, `INST_CAUSE` kept, as it is until the next fault of the instance or the next entry to Run (R359). -/
def resetBlock (since : Nat) (b : Block) : Block := { freshBlock since b with cause := b.cause }

/-- Every instance takes its initial state (R341); only an entry to Run clears `INST_CAUSE` (R359). -/
def State.startLibrary (s : State) : State :=
  { s with
    lib.blocks := s.lib.blocks.map (if s.rt.state == .run then freshBlock s.rt.runSince else resetBlock s.rt.runSince)
    lib.ackPending := []
    lib.ackFrozen := []
    lib.dirPending := none }

/-- Leaving Run discards all instance state (R362); the objects of an instance then read what they read at an entry, and `INST_CAUSE` stays
(R359, log entry 130). -/
def State.discardLibrary (s : State) : State := { s with lib.blocks := s.lib.blocks.map (resetBlock s.rt.runSince) }

/-- The freeze carries the acknowledges and the direction request accepted in the cycle before it (R345, R354). -/
def State.freezeLibrary (s : State) : State :=
  { s with
    lib.ackFrozen := s.lib.ackPending
    lib.ackPending := []
    lib.blocks := match s.lib.dirPending with
      | some v => s.lib.blocks.map (fun b => if b.type == 8 then ({ b with dirRequest := v } : Block) else b)
      | none => s.lib.blocks
    lib.dirFrozen := s.lib.dirPending.isSome
    lib.dirPending := none }

/-! ### Output slots -/

/-- Commands a block gives its channels. -/
def blockOutputs (b : Block) : List (Nat × Bool) :=
  match b.type with
  | 0x10 => [(param b 0, b.out.getLsbD 0), (param b 1, b.out.getLsbD 1)]
  | 0x11 => [(param b 0, b.out.getLsbD 0), (param b 1, b.out.getLsbD 1), (param b 2, b.out.getLsbD 2)]
  | 0x12 => [(param b 0, b.out.getLsbD 0)]
  | 8 => [(param b 5, b.out.getLsbD 0), (param b 6, b.out.getLsbD 1), (param b 7, b.out.getLsbD 2), (param b 8, b.out.getLsbD 3)]
  | _ => []

/-- The command of slot n: from the instance that drives it, or, for a non-safety channel, from the `INST_OUT` bit its channel-use entry
names (Table 13-4); a slot that neither drives is off (log entry 36). -/
def State.slotValue (s : State) (n : Nat) : Bool :=
  match (s.lib.blocks.flatMap blockOutputs).find? (fun o => o.1 == n) with
  | some o => o.2
  | none =>
    let u := s.use n
    if bitsAt u.1 7 0 = 3 ∧ bitsAt u.2 27 16 ≠ 0 then
      s.lib.blocks.any (fun b => b.id == bitsAt u.2 27 16 && b.out.getLsbD (bitsAt u.2 2 0))
    else false

/-- The 32 output slots as the blocks command them. -/
def State.slots (s : State) : BitVec 32 :=
  (List.range 32).foldl (fun v n => if s.slotValue n then v ||| BitVec.twoPow 32 n else v) 0

/-- Input items that a block reads: value and timestamp of its channels, its acknowledge input, the items of its pairs. -/
def blockItems (b : Block) : List Nat :=
  let ch (n : Nat) : List Nat := if n < 32 then [channelItem n 0, channelItem n 1, channelItem n 2] else []
  let pair (p : Nat) (ks : List Nat) : List Nat := if p < 4 then ks.map (analogItem p 0) ++ ks.map (analogItem p 1) else []
  (match b.type with
    | 1 | 2 | 3 | 4 => ch (param b 0) ++ ch (param b 1)
    | 5 => pair (param b 0) [2, 3, 4, 5]
    | 0x10 => ch (param b 2) ++ ch (param b 3)
    | 0x11 => ch (param b 3) ++ ch (param b 4) ++ pair (param b 6) [1, 4] ++ pair (param b 7) [1, 4]
    | 0x12 => ch (param b 3)
    | _ => []) ++ (if b.type = 8 then [] else ch (ackSource b))

/-- The slots that the shadow pass commands: the same evaluation on the coded input area (R183). The passes keep one instance state in this
model (log entry 7). -/
def State.shadowSlots (s : State) : BitVec 32 :=
  let t : State := { s with le.inputs := decodeInputs s.images.codeConstant s.le.inputsCoded }
  State.slots { t with lib.blocks := (State.evaluated t).map (fun e => e.1) }

/-- The instance of type 0x08. -/
def State.interlock (s : State) : Option Block := s.lib.blocks.find? (fun b => b.type == 8)

end Sys2Proof.Machine
end

