-- ==== Sys2Proof/Machine/Zop.lean ====
section
/-!
DEFINITION. Machine/Zop.lean: heartbeats, ZOP-S sessions, data connections and bus-off (ch. 17, with the pair's rules of R531).
-/

namespace Sys2Proof.Machine

/-! ### Codes and small helpers -/

/-- Codes of Table 3-3. -/
def SyncState.code : SyncState → Nat
  | .free => 0 | .locking => 1 | .locked => 2 | .holdover => 3 | .master => 4

/-- The other node of a node pair 2j − 1 and 2j (R509). -/
def twinOf (n : Nat) : Nat := if n % 2 = 1 then n + 1 else n - 1

/-- VERSION of a received header (R480). -/
def versionOk (d : List Byte) : Bool := bitsAt (leAt d 0 1) 7 5 == 1

/-- SOURCE of a received header. -/
def sourceOf (d : List Byte) : Nat := leAt d 1 1

/-- CRC-32C with its register loaded with `seed` in place of 0xFFFF_FFFF (R488, R490). -/
def seededCrc (seed : Nat) (bytes : List Byte) : Nat := crcFold seed bytes ^^^ 0xFFFFFFFF

/-- KEY_SEED: the CRC-32C of the 32 bytes of OEM_KEY (R488). -/
def State.keySeed (s : State) : Nat := crc32c (leBytes 32 s.zop.key.toNat)

/-- SEED of one direction (R489). -/
def State.sessionSeed (s : State) (uid connId sender receiver epoch : Nat) : Nat :=
  crc32c (leBytes 32 s.zop.key.toNat ++ leBytes 16 uid ++ leBytes 2 connId ++ leBytes 1 sender ++ leBytes 1 receiver ++ leBytes 4 epoch)

/-- The last valid ANNOUNCE of a node. -/
def State.peer (s : State) (node : Nat) : Option Announced := s.zop.peers.find? (fun p => p.node == node)

/-- The receiver's node ID in a SEED: a pair is addressed as 2j − 1 (R531). -/
def State.receiverId (s : State) : Nat := if s.pairMember then s.zop.nodeId - (if s.zop.nodeId % 2 = 0 then 1 else 0) else s.zop.nodeId

/-- Change connection c. -/
def State.modConn (c : Nat) (f : Connection → Connection) (s : State) : State := { s with zop.conns := s.zop.conns.modify c f }

/-- The LE posts a payload of Table 17-6 to the CE: its firmware claims a buffer, fills it and posts it (R30, R245; log entry 75). -/
def State.lePost (kind : Nat) (payload : List Byte) (s : State) : State :=
  s.addTasks .le [.deliver { target := .ce, kind := kind, payload := payload }]

/-- The code of a CAN channel in Table 17-6. -/
def channelCode : CanChannel → Nat | .a => 1 | .b => 2

/-- The channel that a code of Table 17-6 names. -/
def channelOf (code : Nat) : CanChannel := if code = 2 then .b else .a

/-- Kind 0x01 of Table 17-6. -/
def framePayload (id channels : Nat) (data : List Byte) : List Byte :=
  leBytes 2 id ++ leBytes 1 channels ++ leBytes 1 (padFd data).length ++ padFd data

/-- Kind 0x02 of Table 17-6: a ZOP-S frame received on `ch` at network time `rx`. -/
def receivedPayload (id : Nat) (ch : CanChannel) (rx : Nat) (data : List Byte) : List Byte :=
  leBytes 2 id ++ leBytes 1 (channelCode ch) ++ leBytes 1 data.length ++ leBytes 8 rx ++ data

/-- The LE posts a ZOP-S frame to be transmitted on every enabled channel. -/
def State.leSend (id : Nat) (data : List Byte) (s : State) : State := s.lePost 1 (framePayload id 3 data)

/-- The LE posts a ZOP-S frame for one channel (R478). -/
def State.leSendOn (ch : CanChannel) (id : Nat) (data : List Byte) (s : State) : State := s.lePost 1 (framePayload id (channelCode ch) data)

/-- The CE posts a payload of Table 17-6 to the LE, in a buffer of its own home (R483). -/
def State.cePost (kind : Nat) (payload : List Byte) (s : State) : State :=
  s.addTasks .ce [.deliver { target := .le, kind := kind, payload := payload }]

/-- A buffer of kind 0x03: the CE posts at most 3 of them in a cycle and holds the rest in CE RAM, in arrival order (R484). -/
def State.postDict (payload : List Byte) (s : State) : State :=
  if s.zop.held = [] ∧ s.zop.dictPosted < 3 then (State.cePost 3 payload { s with zop.dictPosted := s.zop.dictPosted + 1 })
  else { s with zop.held := s.zop.held ++ [payload] }

/-- A cycle begins: the CE posts what it holds, up to the three of the cycle. -/
def State.postHeld (s : State) : State :=
  s.zop.held.foldl (fun t p => t.postDict p) { s with zop.held := [], zop.dictPosted := 0 }

/-- The records entered since the last exchange work go to the CE as kind 0x05 and, on an active member, to the ME as kind 0x06 (R519, R582). -/
def State.postRecords (s : State) : State :=
  s.ledger.toPost.foldl (fun t r =>
    let t := t.addTasks .le [.deliver { target := .ce, kind := 5, payload := r.bytes }]
    if t.mirror.role = 1 then t.addTasks .le [.deliver { target := .me, kind := 6, payload := r.bytes }] else t)
    { s with ledger.toPost := [] }

/-! ### HEARTBEAT and STATE (R485) -/

/-- The HEARTBEAT frame. -/
def State.heartbeatFrame (s : State) : List Byte :=
  s.zopHeader false ++ leBytes 1 s.rt.state.code ++ leBytes 1 s.clock.sync.code ++ leBytes 1 s.mirror.role ++
    leBytes 1 s.otp.lifecycle ++ leBytes 2 (s.zop.heartbeatUs / 10000)

/-- Send STATE for a change of `RUN_STATE` or `STATE_CAUSE` at boundary t_b. -/
def State.sendState (s : State) : State :=
  s.send (0x50 + s.zop.nodeId)
    (s.zopHeader false ++ leBytes 1 s.rt.state.code ++ leBytes 1 0 ++ leBytes 2 s.rt.stateCause ++ leBytes 2 0 ++ leBytes 8 s.rt.boundary)

/-- HEARTBEAT_SEND: every `HEARTBEAT_PERIOD` from release. -/
def State.heartbeatSend (s : State) : State :=
  if s.rt.cycling && s.passed s.zop.heartbeatAt (us s.zop.heartbeatUs) then
    State.send (0x200 + s.zop.nodeId) s.heartbeatFrame { s with zop.heartbeatAt := s.localNow }
  else s

def execHeartbeatSend (dt : Nat) (s : State) : Host.Outcome State Fault Refusal := done (s.elapse dt).heartbeatSend

/-- A HEARTBEAT from another node: its presence and its period in units of 10 ms. -/
def State.hearNode (node period : Nat) (s : State) : State :=
  if s.rt.cycling && decide (1 ≤ node) && decide (node ≤ 16) then
    { s with zop.nodes := s.zop.nodes.filter (fun n => n.node != node) ++ [{ node := node, at_ := s.localNow, period := period }] }
  else s

def execHeartbeat (dt node _runState period : Nat) (s : State) : Host.Outcome State Fault Refusal := done ((s.elapse dt).hearNode node period)

/-- NODE_PRESENCE_TIMEOUT: no HEARTBEAT within three of the node's periods. -/
def State.presenceTimeout (node : Nat) (s : State) : State :=
  { s with zop.nodes := s.zop.nodes.filter (fun n => !(n.node == node && decide (n.at_ + 3 * ms (10 * n.period) < s.localNow))) }

def execNodePresenceTimeout (dt node : Nat) (s : State) : Host.Outcome State Fault Refusal := done ((s.elapse dt).presenceTimeout node)

/-! ### Sessions (R487 to R489) -/

/-- A control frame's CHECK appended to its bytes. -/
def State.withCheck (s : State) (body : List Byte) : List Byte := body ++ leBytes 4 (seededCrc s.keySeed body)

/-- Bytes of a control frame by its MSG (Table 17-9); a frame of another MSG has the length it has. -/
def controlLength (d : List Byte) : Nat := if leAt d 2 1 = 1 then 32 else if leAt d 2 1 = 2 then 16 else max 4 d.length

/-- The CHECK of a control frame matches: it is the last field of the layout. -/
def State.checkOk (s : State) (d : List Byte) : Bool :=
  let n := controlLength d
  d.length == n && leAt d (n - 4) 4 == seededCrc s.keySeed (d.take (n - 4))

/-- A control frame reaches the LE: one whose CHECK fails is event 0x0A04 and ignored, whatever its MSG and SOURCE; under a Keys fallback no
session exists (R459, R488). -/
def State.controlFrame (d : List Byte) (take : Nat → State → State) (s : State) : State :=
  let node := sourceOf d
  if !s.rt.cycling || !versionOk d || s.zop.session == 2 then s
  else if !s.checkOk d then s.eventLimited 0x0A04 node (ms 1000) []
  else if node == 0 || decide (16 < node) then s
  else take node s

/-- The ANNOUNCE frame. -/
def State.announceFrame (s : State) : List Byte :=
  s.withCheck (s.zopHeader false ++ leBytes 1 1 ++ leBytes 1 0 ++ leBytes 4 s.zop.epoch ++ leBytes 16 s.boot.uid ++ leBytes 4 0)

/-- Send ANNOUNCE; `SESSION_STATE` leaves 0x00 once the first is posted (R487). -/
def State.announce (s : State) : State :=
  if s.zop.session == 2 then s
  else
    let s := { s with zop.announcedAt := some s.localNow, zop.announceDue := false }
    s.leSend (0x70 + s.zop.nodeId) s.announceFrame

/-- ANNOUNCE_SEND: every 1 s after the one at the entry to Hold, and within 10 ms of a request with an old EPOCH (R488). -/
def State.announceSend (s : State) : State :=
  let due := match s.zop.announcedAt with
    | some t => s.passed t (ms 1000)
    | none => s.rt.state == .hold
  if s.rt.cycling && (due || s.zop.announceDue) then s.announce else s

def execAnnounceSend (dt : Nat) (s : State) : Host.Outcome State Fault Refusal := done (s.elapse dt).announceSend

/-- The node a consumer synchronises with: its current source, or PEER. -/
def consumedFrom (c : Connection) : Nat := if c.source = 0 then c.peer else c.source

/-- The RESYNC_REQUEST frame of consumer c: EPOCH_SEEN is the producer's EPOCH held, 0 for none. -/
def State.resyncFrame (s : State) (c : Connection) : List Byte :=
  let seen := match s.peer (consumedFrom c) with
    | some p => p.epoch
    | none => 0
  s.withCheck (s.zopHeader false ++ leBytes 1 2 ++ leBytes 1 0 ++ leBytes 2 c.connId ++ leBytes 2 0 ++ leBytes 4 seen)

/-- Consumer c sends RESYNC_REQUEST. -/
def State.requestResync (c : Nat) (s : State) : State :=
  match s.zop.conns[c]? with
  | none => s
  | some k =>
    let s := s.modConn c (fun x => { x with requestedAt := some s.localNow })
    s.leSend (0x70 + s.zop.nodeId) (s.resyncFrame k)

/-- Consumer c awaits a frame with RESYNC = 1 (R492). -/
def State.toSyncing (c : Nat) (s : State) : State :=
  (s.modConn c (fun x => { x with state := 1, payload := [] })).requestResync c

/-- A node conflict: a frame on an identifier that this unit transmits, or an ANNOUNCE with its own node ID and another UID (R503). -/
def State.nodeConflict (s : State) : State := State.recoverable 0x0A09 [] { s with zop.conflictAt := some s.localNow }

/-- An ANNOUNCE of `node`: a new EPOCH or UID takes its consumers to SYNCING and resets the dictionary sequence (R489, R494, R497). -/
def State.takeAnnounce (d : List Byte) (node : Nat) (s : State) : State :=
  let epoch := leAt d 4 4
  let uid := leAt d 8 16
  if node == s.zop.nodeId then (if uid == s.boot.uid then s else s.nodeConflict)
  else if s.peer node == some { node := node, uid := uid, epoch := epoch } then s
  else
    let s := { s with
      zop.peers := s.zop.peers.filter (fun p => p.node != node) ++ [{ node := node, uid := uid, epoch := epoch }]
      zop.dictSeqs := s.zop.dictSeqs.map (fun q => if q.node == node then ({ q with last := none, answer := [] } : DictSeq) else q) }
    (List.range s.zop.conns.length).foldl (fun t i =>
      match t.zop.conns[i]? with
      | some c =>
        if c.role == 2 && (if c.source = 0 then node == c.peer || node == twinOf c.peer else node == c.source) then t.toSyncing i else t
      | none => t) s

/-- A RESYNC_REQUEST asks for an ANNOUNCE when its EPOCH_SEEN differs from this unit's EPOCH (R488), and else for RESYNC in the next frame of
the connection, where this unit produces it (R491). -/
def State.takeResync (d : List Byte) (s : State) : State :=
  let id := leAt d 4 2
  if leAt d 8 4 != s.zop.epoch then { s with zop.announceDue := true }
  else { s with zop.conns :=
    s.zop.conns.map (fun c => if c.role == 1 && c.connId == id then ({ c with resync := true } : Connection) else c) }

/-- A control frame by its MSG (Table 17-9); any other is ignored. -/
def State.hearControl (d : List Byte) (s : State) : State :=
  s.controlFrame d (fun node t => match leAt d 2 1 with
    | 1 => t.takeAnnounce d node
    | 2 => t.takeResync d
    | _ => t)

/-- ANNOUNCE: a control frame of MSG 0x01 reaches the LE. -/
def execAnnounce (dt : Nat) (data : List Byte) (s : State) : Host.Outcome State Fault Refusal := done ((s.elapse dt).hearControl data)

/-- RESYNC_REQUEST: a control frame of MSG 0x02 reaches the LE. -/
def execResyncRequest (dt : Nat) (data : List Byte) (s : State) : Host.Outcome State Fault Refusal := done ((s.elapse dt).hearControl data)

/-- RESYNC_REQUEST_REPEAT: every CONN_WD_TIME until the consumer leaves SYNCING (R492). -/
def State.repeatResync (c : Nat) (s : State) : State :=
  match s.zop.conns[c]? with
  | some k =>
    let due := match k.requestedAt with
      | some t => s.passed t (us k.wdTime)
      | none => true
    if s.rt.cycling && k.role == 2 && k.state == 1 && due then s.requestResync c else s
  | none => s

def execResyncRequestRepeat (dt conn : Nat) (s : State) : Host.Outcome State Fault Refusal := done ((s.elapse dt).repeatResync conn)

/-! ### Data connections (R490 to R494) -/

/-- Data length of a frame with W words: the smallest FD length that holds 16 + 4·W bytes. -/
def dataLength (words : Nat) : Nat := (fdLengths.find? (fun n => decide (16 + 4 * words ≤ n))).getD 64

/-- A data frame of a producer (Table 17-10). -/
def State.dataFrame (s : State) (c : Connection) (resync : Bool) (words : List Byte) : List Byte :=
  let body := s.zopHeader resync ++ leBytes 2 c.seqNext ++ leBytes 8 s.rt.boundary ++ words
  body ++ leBytes 4 (seededCrc (s.sessionSeed s.boot.uid c.connId s.zop.nodeId c.peer s.zop.epoch) body)

/-- The payload words of a producer: its slot in the native output area (R491). -/
def State.slotWords (s : State) (c : Connection) : List Byte := cellBytes 0 s.le.ram (0x20010000 + c.slot) (4 * c.words)

/-- At the hand-over of a cycle of Run, every producer whose PERIOD falls due sends its frame; in a pair the active alone (R491, R510). -/
def State.produceFrames (s : State) : State :=
  if s.rt.state != .run || (s.pairMember && s.mirror.role != 1) then s
  else (List.range s.zop.conns.length).foldl (fun t i =>
    match t.zop.conns[i]? with
    | some c =>
      if c.role == 1 && t.rt.boundary / us t.rt.cycleUs % (max c.period 1) == 0 then
        let f := t.dataFrame c c.resync (t.slotWords c)
        (t.modConn i (fun x => { x with
          seqLast := c.seqNext, seqNext := (c.seqNext + 1) % 65536, resync := false, timeLast := t.rt.boundary, state := 2 })).leSend
          (0x100 + c.connId) f
      else t
    | none => t) s

/-- Every producer starts again at SEQ 0 with RESYNC = 1 (R491). -/
def State.restartProducers (s : State) : State :=
  { s with zop.conns := s.zop.conns.map (fun c => if c.role == 1 then ({ c with seqNext := 0, resync := true } : Connection) else c) }

/-- The slot a consumer writes at a freeze: CONN_OK and the payload (R492). -/
def freezeConn (c : Connection) : Connection :=
  if c.role = 2 then
    { c with fOk := c.state == 2
             fPayload := if c.state = 2 then (List.range c.words).map (fun i => c.payload.getD i 0) else List.replicate c.words 0 }
  else c

/-- The words of a consumer's slot: safety RAM offset, type and value (R492). -/
def consumerWords (c : Connection) : List (Nat × WordType × BitVec 32) :=
  if c.role = 2 then
    (0xC000 + c.slot, .bool, boolWord c.fOk) :: c.fPayload.mapIdx (fun i w => (0xC000 + c.slot + 4 * (i + 1), .unsigned, w))
  else []

/-- Write a word to the native and, encoded, to the coded input area (R184). -/
def State.storeBoth (s : State) (w : Nat × WordType × BitVec 32) : State :=
  (s.storeNative (w.1, w.2.2)).storeCoded (w.1, encodeWord s.images.codeConstant w.2.1 w.2.2)

/-- Every consumer writes its slot at the freeze. -/
def State.freezeConns (s : State) : State :=
  let s := { s with zop.conns := s.zop.conns.map freezeConn }
  (s.zop.conns.flatMap consumerWords).foldl State.storeBoth s

/-- A frame that the judgement rejects counts as a sequence error. -/
def State.seqError (c : Nat) (s : State) : State := s.modConn c (fun x => { x with seqErrors := sat32 (x.seqErrors + 1) })

/-- Judge a popped data frame for consumer c (R493, R531). -/
def State.judgeData (i : Nat) (c : Connection) (d : List Byte) (s : State) : State :=
  let node := sourceOf d
  match s.peer node with
  | none => s
  | some p =>
    let n := 12 + 4 * c.words
    let len := dataLength c.words
    let good := d.length == len && (d.drop (n + 4)).all (· == 0) &&
      leAt d n 4 == seededCrc (s.sessionSeed p.uid c.connId node s.receiverId p.epoch) (d.take n)
    if !good then
      State.eventLimited 0x0A02 i (ms 1000) [] (s.modConn i (fun x => { x with crcErrors := sat32 (x.crcErrors + 1) }))
    else
      let head := leAt d 0 1
      let resync := bitOf head 2
      let seq := leAt d 2 2
      let stamp := leAt d 4 8
      let aged := s.synced && bitOf head 3
      let ref := if aged then stamp else s.now
      if aged && !(decide (stamp ≤ s.now + 200) && decide (s.now ≤ stamp + us c.wdTime)) then s.seqError i
      else if resync then
        if c.state = 1 ∨ c.state = 3 then
          s.modConn i (fun x => { x with state := 2, seqNext := seq, source := node, wdFrom := ref, payload := [] })
        else if c.state = 2 then
          State.event 0x0A0A [] (s.modConn i (fun x => { x with seqNext := seq, source := node }))
        else s
      else if c.state = 1 ∨ c.state = 3 then s.seqError i
      else if c.state = 2 then
        if node ≠ consumedFrom c then s.seqError i
        else
          let gap := (seq + 65536 - c.seqNext) % 65536
          if gap = 0 then s
          else if 32768 ≤ gap then State.event 0x0A03 [] (s.seqError i)
          else
            let s := if 1 < gap then s.seqError i else s
            s.modConn i (fun x => { x with
              seqNext := seq, seqLast := seq, timeLast := stamp, wdFrom := ref
              payload := (List.range c.words).map (fun w => BitVec.ofNat 32 (leAt d (12 + 4 * w) 4)) })
      else s

/-- ZOPS_DATA_FRAME: a frame of connection `connId` is popped and judged. A frame of no consumer's is ignored, and so is one whose sender is
neither PEER nor PEER's twin, or has no ANNOUNCE held (R489, R531). -/
def State.dataFrameIn (connId : Nat) (d : List Byte) (s : State) : State :=
  if !s.rt.cycling || !versionOk d then s
  else match s.zop.conns.findIdx? (fun c => c.role == 2 && c.connId == connId) with
    | none => s
    | some i =>
      match s.zop.conns[i]? with
      | some c => if sourceOf d == c.peer || sourceOf d == twinOf c.peer then s.judgeData i c d else s
      | none => s

def execZopsDataFrame (dt connId : Nat) (data : List Byte) (s : State) : Host.Outcome State Fault Refusal :=
  done ((s.elapse dt).dataFrameIn connId data)

/-- CONNECTION_WATCHDOG_EXPIRY: no frame delivered for CONN_WD_TIME at the last boundary, where the consumer checks it (R494). -/
def State.connExpiry (i : Nat) (s : State) : State :=
  match s.zop.conns[i]? with
  | none => s
  | some c =>
    if s.rt.cycling && c.role == 2 && c.state == 2 && decide (c.wdFrom + us c.wdTime ≤ (s.rt.boundary : Instant)) then
      let s := s.modConn i (fun x => { x with state := 3, payload := [], wdExpiries := sat32 (x.wdExpiries + 1) })
      let s := if s.zop.connFault == 0xFF then { s with zop.connFault := i } else s
      (s.event 0x0A01 []).requestResync i
    else s

def execConnectionWatchdogExpiry (dt conn : Nat) (s : State) : Host.Outcome State Fault Refusal := done ((s.elapse dt).connExpiry conn)

/-- Every consumer in IDLE whose producer's ANNOUNCE is held goes to SYNCING (R492). -/
def State.syncHeld (s : State) : State :=
  (List.range s.zop.conns.length).foldl (fun t i =>
    match t.zop.conns[i]? with
    | some c =>
      if c.role == 2 && c.state == 0 && ((t.peer c.peer).isSome || (t.peer (twinOf c.peer)).isSome) then t.toSyncing i else t
    | none => t) s

/-- At entry to Run consumers start in IDLE, and go to SYNCING where the producer's ANNOUNCE is held; producers start at SEQ 0 (R491, R492). -/
def State.startConns (s : State) : State :=
  State.syncHeld { s with zop.conns := s.zop.conns.map (fun c =>
    if c.role = 1 then ({ c with state := 2, seqNext := 0, resync := true } : Connection)
    else ({ c with state := 0, payload := [], source := 0 } : Connection)) }

/-- Outside Run a producer is idle (Table 17-11). -/
def State.stopConns (s : State) : State :=
  { s with zop.conns := s.zop.conns.map (fun c => if c.role = 1 then ({ c with state := 0 } : Connection) else c) }

/-- The connections of a new map at an online exchange: carried, or new (R505). -/
def State.exchangeConns (fresh : List Connection) (s : State) : State :=
  let old := s.zop.conns
  let carried (c : Connection) : Option Connection :=
    old.find? (fun o => o.connId == c.connId && o.role == c.role && o.peer == c.peer && o.words == c.words)
  State.syncHeld { s with zop.conns := fresh.map (fun c =>
    match carried c with
    | some o => ({ o with period := c.period, wdTime := c.wdTime, slot := c.slot } : Connection)
    | none => if c.role = 1 then ({ c with state := 2, resync := true } : Connection) else c) }

/-! ### Bus-off (R498) -/

/-- A controller. -/
def Zop.can (z : Zop) : CanChannel → CanState
  | .a => z.canA
  | .b => z.canB

/-- Change a controller. -/
def State.modCan (ch : CanChannel) (f : CanState → CanState) (s : State) : State :=
  match ch with
  | .a => { s with zop.canA := f s.zop.canA }
  | .b => { s with zop.canB := f s.zop.canB }

/-- Enabled, and neither bus-off nor disabled. -/
def CanState.up (c : CanState) : Bool := c.enabled && !c.busOff && !c.disabled

/-- BUS_OFF of a channel. -/
def State.busOff (ch : CanChannel) (s : State) : State :=
  let c := s.zop.can ch
  if !s.rt.cycling || !c.up then s
  else
    let lost := c.queue.length
    let recent := c.busOffs.filter (fun t => decide (s.localNow < t + ms 60000)) ++ [s.localNow]
    let dead := decide (8 ≤ recent.length)
    let s := s.modCan ch (fun c => { c with
      busOff := true, recovering := !dead, sequence := false, disabled := dead, tec := 255, queue := [], busOffs := recent
      busOffCount := sat32 (c.busOffCount + 1) })
    let s := { s with
      zop.txDiscard := sat32 (s.zop.txDiscard + lost)
      zop.transfers := s.zop.transfers.filter (fun t => t.channel != ch)
      zop.allDown := s.zop.allDown || (!s.zop.canA.up && !s.zop.canB.up) }
    let s := s.event 0x0A06 []
    if dead then s.event 0x0A07 [] else s

def execBusOff (dt : Nat) (ch : CanChannel) (s : State) : Host.Outcome State Fault Refusal := done ((s.elapse dt).busOff ch)

/-- BUS_OFF_RECOVERY_START: the recovery sequence begins 10 ms after bus-off. -/
def State.recoveryStart (ch : CanChannel) (s : State) : State :=
  let c := s.zop.can ch
  let due := match c.busOffs.getLast? with
    | some t => s.passed t (ms 10)
    | none => false
  if c.busOff && c.recovering && due then s.modCan ch (fun c => { c with sequence := true }) else s

def execBusOffRecoveryStart (dt : Nat) (ch : CanChannel) (s : State) : Host.Outcome State Fault Refusal :=
  done ((s.elapse dt).recoveryStart ch)

/-- BUS_OFF_RECOVERY_COMPLETE: the channel carries traffic again; after every enabled channel was bus-off the producers start again (R491). -/
def State.recoveryDone (ch : CanChannel) (s : State) : State :=
  let c := s.zop.can ch
  if c.busOff && c.sequence then
    let s := s.modCan ch (fun c => { c with busOff := false, recovering := false, sequence := false, tec := 0, rec_ := 0 })
    if s.zop.allDown then State.restartProducers { s with zop.allDown := false } else s
  else s

def execBusOffRecoveryComplete (dt : Nat) (ch : CanChannel) (s : State) : Host.Outcome State Fault Refusal :=
  done ((s.elapse dt).recoveryDone ch)

end Sys2Proof.Machine
end

