-- ==== Sys2Proof/Machine/Image.lean ====
section
/-!
DEFINITION. Machine/Image.lean: loading, selecting and exchanging logic images (R374 to R393, R505).
-/

namespace Sys2Proof.Machine

/-! ### Loading (R376, R377) -/

/-- A load command or write is refused while an exchange is pending or has switched and is not yet complete, here or at the active twin of a
standby or joining unit (R377, R387, R393, R532). -/
def State.exchangeBars (s : State) : Bool :=
  s.images.pending.isSome || s.images.switched.isSome ||
    ((s.mirror.role == 2 || s.mirror.role == 3) && (match s.mirror.twin with
      | some t => t.flags.getLsbD 2
      | none => false))

/-- The owner refuses a load command or write with its status code (Table 13-10). -/
def State.refuseLoad (a : Access) (code : Nat) (s : State) : State :=
  State.refuse a code { s with images.loadStatus := code }

/-- Change the bookkeeping of a bank. -/
def State.modImageBank (bank : Nat) (f : ImageBank → ImageBank) (s : State) : State :=
  { s with images := s.images.modBank bank f }

/-- The erase of the load target begins; a validation of that bank in progress has nothing left to validate. -/
def State.startImageErase (s : State) : State :=
  let s := { s with
    images.loadStatus := 1
    images.validating := s.images.validating.filter (fun v => v.1 != s.loadTarget) }
  s.modImageBank s.loadTarget (fun b => { b with state := .erasing, complete := false })

/-- Why `IMAGE_LOAD_COMMAND` is refused by its owner, 0 when it is not. -/
def State.loadCommandRefusal (s : State) : Nat := if s.exchangeBars then 0x84 else if s.power.gateClosed then 0x83 else 0

/-- A write of `IMAGE_LOAD_COMMAND`: 0x01 erases, 0x02 abandons. -/
def State.loadCommand (a : Access) (s : State) : State :=
  if a.value = 1 then
    match s.loadCommandRefusal with
    | 0 => s.startImageErase.accept a
    | c => s.refuseLoad a c
  else if s.exchangeBars then s.refuseLoad a 0x84
  else State.accept a { s with images.loadStatus := 0 }

/-- IMAGE_ERASE (R376): a write of `IMAGE_LOAD_COMMAND` = 0x01. -/
def execImageErase (dt : Nat) (r : Req) (s : State) : Host.Outcome State Fault Refusal :=
  done ((s.elapse dt).takeRow (rowAccess r 0x5000 5 1))

/-- IMAGE_LOAD_ABANDON (R377): a write of `IMAGE_LOAD_COMMAND` = 0x02. -/
def execImageLoadAbandon (dt : Nat) (r : Req) (s : State) : Host.Outcome State Fault Refusal :=
  done ((s.elapse dt).takeRow (rowAccess r 0x5000 5 2))

/-- The bank whose erase is in progress. -/
def State.erasingBank (s : State) : Option Nat :=
  if s.images.bankA.state == .erasing then some 1 else if s.images.bankB.state == .erasing then some 2 else none

/-- IMAGE_ERASE_COMPLETE (R376): the bank is blank and its erase counted; a closed gate suspends the erase until the
held-back data is persisted (R62, R64). -/
def State.imageErased (s : State) : State :=
  match s.erasingBank with
  | none => s
  | some bank =>
    if s.power.gateClosed || s.store.heldLeft != 0 then s
    else
      let n := sat32 ((s.images.bank bank).erases + 1)
      let s := { s with le.flash := cellClear (bankBase bank) 0x40000 s.le.flash }
      let s := s.modImageBank bank (fun _ => { state := .blank, reason := 1, erases := n, complete := false })
      let s := { s with images.loadStatus := if s.images.loadStatus = 1 then 2 else s.images.loadStatus }
      s.persist (if bank = 2 then keyErasesB else keyErasesA) 4 n

def execImageEraseComplete (dt : Nat) (s : State) : Host.Outcome State Fault Refusal := done (s.elapse dt).imageErased

/-- Why an `IMAGE_DATA` write is refused by its owner, 0 when it is not (R377). -/
def State.dataRefusal (n : Nat) (s : State) : Nat :=
  let off := s.images.loadOffset
  let okPlace := if off = 0 then n == 0x80 else decide (0x80 ≤ off) && decide (off + n ≤ 0x40000)
  let bank := s.loadTarget
  if !(decide (32 ≤ n) && decide (n ≤ 4096) && n % 32 == 0 && okPlace) then 0x81
  else if (s.images.bank bank).state == .erasing || (s.le.bank bank off n).any (· != erasedByte) ||
      s.store.flashWaits (bankBase bank + off) n then 0x82
  else if s.power.gateClosed then 0x83
  else if s.exchangeBars then 0x84
  else 0

/-- Program a write at `IMAGE_LOAD_OFFSET`; the header write begins the validation (R374, R376). -/
def State.programImage (data : List Byte) (s : State) : State :=
  let bank := s.loadTarget
  let off := s.images.loadOffset
  let header := off == 0
  let s := s.programFlash (bankBase bank + off) data
  let s := { s with images.loadOffset := off + data.length }
  let s := s.modImageBank bank (fun b => { b with state := if header then .validating else .loading, complete := header })
  if header then { s with images.loadStatus := 3, images.validating := some (bank, .load) } else s

/-- A write of `IMAGE_DATA`. -/
def State.writeImageData (a : Access) (data : List Byte) (s : State) : State :=
  match s.dataRefusal data.length with
  | 0 => (s.programImage data).accept a
  | c => s.refuseLoad a c

/-- IMAGE_DATA (R377). -/
def execImageData (dt : Nat) (r : Req) (data : List Byte) (s : State) : Host.Outcome State Fault Refusal :=
  done ((s.elapse dt).takeRow { rowAccess r 0x5000 7 (ofLe data) with len := data.length })

/-- BANK_VALIDATION_COMPLETE (R373, R374). -/
def State.validationDone (s : State) : State :=
  match s.images.validating with
  | none => s
  | some (bank, why) =>
    if !s.store.deferred.isEmpty then s
    else
    let s := State.validateBank bank { s with images.validating := none }
    if why = .load then { s with images.loadStatus := if s.bankValid bank then 4 else 5 } else s

def execBankValidationComplete (dt : Nat) (s : State) : Host.Outcome State Fault Refusal := done (s.elapse dt).validationDone

/-! ### Selection (R378) -/

/-- Make a valid bank's image the active one. -/
def State.selectImage (bank : Nat) (s : State) : State :=
  let h := s.imageHeader bank
  { s with
    images.active := bank
    images.image := some (s.loadImage bank)
    images.codeConstant := h.codeConstant
    lib.blocks := s.loadBlocks bank
    zop.conns := s.loadConnections bank }

/-- At release both banks are validated, so that an erase or a load that a reset cut short leaves an invalid bank (R374, R390), and the one
that `IMAGE_BANK_SELECT` names is selected if it is valid; the other bank never is. -/
def State.selectAtRelease (s : State) : State :=
  let bank := s.imageBankSelect
  let s := (s.validateBank 1).validateBank 2
  if s.bankValid bank then s.selectImage bank else s

/-- Store a new `IMAGE_BANK_SELECT`: its record is queued unless the value stands in the store already (R441). -/
def State.storeSelect (bank : Nat) (s : State) : State :=
  let key := objKey 0x5000 2
  let t := { s with
    dict.values := setValue key bank 1 s.dict.values
    dict.configChanged := s.dict.configChanged || s.imageBankSelect != bank }
  if s.imageBankSelect != bank || !s.store.recorded.contains key then t.persist key 1 bank else t

/-- A write of `IMAGE_BANK_SELECT`: the named bank is validated, and the write refused with its reason unless it is valid; a bank whose erase is
in progress stays so (R376). -/
def State.bankSelect (a : Access) (s : State) : State :=
  if (s.images.bank a.value).state == .erasing then s.refuse a (s.bankReason a.value)
  else
  let s := s.validateBank a.value
  if s.bankValid a.value then ((s.selectImage a.value).syncHeld.storeSelect a.value).accept a
  else s.refuse a (s.images.bank a.value).reason

/-- IMAGE_BANK_SELECT. -/
def execImageBankSelect (dt : Nat) (r : Req) (value : Nat) (s : State) : Host.Outcome State Fault Refusal :=
  done ((s.elapse dt).takeRow (rowAccess r 0x5000 2 value))

/-! ### Online exchange (R379 to R387) -/

/-- EXCHANGE_REQUEST value that cancels. -/
abbrev cancelTick : Nat := 0xFFFFFFFFFFFFFFFF

/-- A pending exchange ends without a switch. -/
def State.cancelExchange (code : Nat) (s : State) : State :=
  if s.images.pending.isSome then { s with images.pending := none, images.exchangeStatus := code } else s

/-- A standby or joining unit refuses the commands that only the active takes, with its role (R523). -/
def State.roleRefusal (s : State) : Nat := if s.mirror.role = 2 ∨ s.mirror.role = 3 then s.mirror.role else 0

/-- The pair's condition 10: no twin is standby or joining, or it reports EXCHANGE_AGREE (R532). -/
def State.twinAgrees (s : State) : Bool :=
  if !s.pairMember then true
  else match s.mirror.twin with
    | some t => if t.role = 2 ∨ t.role = 3 then t.flags.getLsbD 3 else true
    | none => true

/-- Every check of R372 but DECLARED_PASS_TIME, with the other chapters' checks of the same declarations. -/
def State.imageChecks (s : State) (img : ActiveImage) (bs : List Block) (cs : List Connection) : Bool :=
  s.channelCheck img bs && s.glintCheck img bs && s.analogCheck img && s.connectionCheck img cs &&
    (!s.pairMember || (s.mirroredCheck img && s.snapshotCheck img cs.length))

/-- First failing condition of Table 13-8 for t_x, 0 when all hold. -/
def State.exchangeRefusal (tx : Nat) (s : State) : Nat :=
  let bank := s.loadTarget
  let bs := s.loadBlocks bank
  let img := s.loadImage bank
  let family := match s.images.image with | some i => i.familyId | none => 0
  let cycle := us s.rt.cycleUs
  let sw := switchTime img.stateSize ((s.imageHeader bank).codeConstant != s.images.codeConstant)
  let common := s.lib.blocks.filterMap (fun o => (bs.find? (fun n => n.id == o.id)).map (fun n => (o, n)))
  if !s.onlineChangeEnable then 0x81
  else if s.images.pending.isSome || s.images.switched.isSome || s.power.gateClosed then 0x8B
  else if !s.bankValid bank then 0x83
  else if img.familyId ≠ family then 0x84
  else if common.any (fun p => p.1.type != p.2.type) then 0x85
  else if common.any (fun p => wiring p.1 != wiring p.2) then 0x86
  else if !s.imageChecks img bs (s.loadConnections bank) then 0x87
  else if s.safeCycle < img.declaredUs + sw + 60 then 0x88
  else if !(tx == 0 || (tx % cycle == 0 && decide (s.rt.boundary + ms 100 ≤ tx) && decide (tx ≤ s.rt.boundary + ms 60000))) then 0x89
  else if !s.twinAgrees then 0x8D
  else 0

/-- A request is judged at the boundary after its receipt, when its write reaches its owner: an exchange is pending, or the request is refused
with the first code of Table 13-8, which leaves a pending exchange as it was (R379, R448; DEDUCED, log entry 84). -/
def State.requestExchange (a : Access) (s : State) : State :=
  match s.exchangeRefusal a.value with
  | 0 => State.accept a { s with images.exchangeStatus := 1, images.pending := some { at_ := a.value, ready := false } }
  | c => State.refuse a c { s with images.exchangeStatus := c }

/-- A write of `EXCHANGE_REQUEST` reaches its owner: a request, or the cancellation of a pending exchange. -/
def State.exchangeWrite (a : Access) (s : State) : State :=
  match s.roleRefusal with
  | 0 => if a.value = cancelTick then (s.cancelExchange 0x8C).accept a else s.requestExchange a
  | c => s.refuse a c

/-- EXCHANGE_READY (R380): the carry-over map and the tag plan are built. -/
def State.exchangeReady (s : State) : State :=
  match s.images.pending with
  | some e => if e.ready then s else { s with images.pending := some { e with ready := true }, images.exchangeStatus := 2 }
  | none => s

def execExchangeReady (dt : Nat) (s : State) : Host.Outcome State Fault Refusal := done (s.elapse dt).exchangeReady

/-- At a boundary: an exchange that is ready takes place here when t_x is 0 (R380), or when overrunning passes let t_x go by (DEDUCED, log
entry 122); leaving Run, or passing t_x unready, ends a pending one (R381, R393). One that has switched and whose first hand-over leaving Run
prevents never completes (DESIGN CHOICE, log entry 147). -/
def State.exchangeBoundary (s : State) : State :=
  match s.images.pending with
  | none => if s.images.switched.isSome && s.rt.state != .run then { s with images.switched := none, images.exchangeStatus := 0x8C } else s
  | some e =>
    if s.rt.state != .run then s.cancelExchange 0x8C
    else if s.rt.boundary ≤ e.at_ then s
    else if e.ready then { s with images.pending := some { e with at_ := s.rt.boundary } }
    else if e.at_ = 0 then s
    else s.cancelExchange 0x8A

/-- A carried block: the new entry's parameters, the old block's state; running timers latch new presets with PRESET_IMMEDIATE = 1
(R382, R383). -/
def carryBlock (o n : Block) : Block :=
  let b := { o with presetImmediate := n.presetImmediate, stateOffset := n.stateOffset, params := n.params }
  if !n.presetImmediate then b
  else
    let latch (p : Nat) (t : Option Timer) : Option Timer := t.map (fun x => ({ x with preset := p } : Timer))
    match n.type with
    | 5 => { b with
        cond := b.cond.mapIdx (fun i t => latch (param n (2 * i + 2)) t)
        invalid := latch (param n 10) b.invalid }
    | 8 => { b with dwellGrid := latch (param n 1) b.dwellGrid, dwellBatt := latch (param n 2) b.dwellBatt }
    | 0x10 => { b with
        timer := latch (if b.state = 5 then param n 5 else if b.state = 1 ∨ b.state = 2 then param n 7 else param n 4) b.timer
        fbA := latch (param n 4) b.fbA
        fbB := latch (param n 4) b.fbB }
    | 0x11 => { b with
        timer := latch (if b.state = 5 then param n 10 else param n 5) b.timer
        mix := latch (param n 9) b.mix
        fbA := latch (param n 5) b.fbA
        fbB := latch (param n 5) b.fbB }
    | 0x12 => { b with
        timer := latch (param n 4) b.timer
        fbA := latch (param n 4) b.fbA
        fbB := latch (param n 4) b.fbB
        togglePreset := if b.togglePreset = 0 then 0 else param n 2 }
    | _ => { b with mix := latch (param n 3) b.mix }

/-- The instances after the switch (R382). -/
def State.exchangedBlocks (s : State) (fresh : List Block) : List Block :=
  fresh.map (fun n => match s.lib.blocks.find? (fun o => o.id == n.id) with
    | some o => carryBlock o n
    | none => freshBlock s.rt.boundary n)

/-- Re-encode coded bytes from constant `a` to constant `b`: the offset of the first word that fails R189, or the new bytes (R204). -/
def recode (a b : Nat) : Nat → Nat → List Byte → Nat ⊕ List Byte
  | 0, _, _ => .inr []
  | n + 1, off, bytes =>
    match codedQuotient a (BitVec.ofNat 64 (ofLe (bytes.take 8))) with
    | none => .inl off
    | some q =>
      match recode a b n (off + 4) (bytes.drop 8) with
      | .inl e => .inl e
      | .inr r => .inr (leBytes 8 (codeWord b q).toNat ++ r)

/-- Regions of carried instances in the old layout and their offset in the new one. -/
def State.carriedRegions (s : State) (fresh : List Block) : List (Nat × Nat × Nat) :=
  s.lib.blocks.filterMap (fun o =>
    (fresh.find? (fun n => n.id == o.id)).map (fun n => (o.stateOffset, n.stateOffset, stateLength o.type)))

/-- Coded bytes of every carried region under the new constant, or the safety RAM offset of the word that fails (R204). -/
def State.recodeRegions (s : State) (new : Nat) : List (Nat × Nat × Nat) → Nat ⊕ List (Nat × List Byte)
  | [] => .inr []
  | (o, n, len) :: r =>
    let bytes := s.areaBytes true o (len / 64)
    let coded := if new = s.images.codeConstant then .inr bytes
      else recode s.images.codeConstant new (len / 4) (s.areaOffset o) bytes
    match coded with
    | .inl e => .inl e
    | .inr b => match s.recodeRegions new r with
      | .inl e => .inl e
      | .inr t => .inr ((n, b) :: t)

/-- The frozen input image under the constant of the image that now runs: the items, and the consumers' slots (R204). -/
def State.reencodeInputs (oldBank : Nat) (s : State) : State :=
  if (s.imageHeader oldBank).codeConstant = s.images.codeConstant then s
  else s.writeInputs.freezeConns

/-- Lines 5 to 9 of R381. -/
def State.switchImage (coded : List (Nat × List Byte)) (s : State) : State :=
  let bank := s.loadTarget
  let old := s.images.active
  let fresh := s.loadBlocks bank
  let img := s.loadImage bank
  let native := (s.carriedRegions fresh).map (fun x => (x.2.1, s.areaBytes false x.1 (x.2.2 / 64)))
  let size := max img.stateSize (match s.images.image with | some i => i.stateSize | none => 0)
  let vanishedAck := s.lib.ackFrozen.filter (fun id => !fresh.any (fun b => b.id == id))
  let vanishedDir := s.lib.dirFrozen && s.lib.blocks.any (fun b => b.type == 8 && !fresh.any (fun n => n.id == b.id))
  let s := s.clearArea 0 ((size + 63) / 64)
  let s := native.foldl (fun t x => t.putArea false x.1 x.2) s
  let s := coded.foldl (fun t x => t.putArea true x.1 x.2) s
  let tx := s.rt.boundary
  let blocks := s.exchangedBlocks fresh
  let conns := s.loadConnections bank
  let s := { s with
    lib.blocks := blocks
    lib.ackFrozen := s.lib.ackFrozen.filter (fun id => !vanishedAck.contains id)
    images.active := bank
    images.image := some img
    images.codeConstant := (s.imageHeader bank).codeConstant
    images.pending := none
    images.switched := some (tx, old) }
  let s := ((s.exchangeConns conns).tagLogic img.stateSize img.stackSize).restartWindow.reencodeInputs old
  let s := vanishedAck.foldl (fun t _ => let (v, t) := t.drawFree; t.eventAt (v.toNat % 65536) tx []) s
  if vanishedDir then (let (v, s) := s.drawFree; s.eventAt (v.toNat % 65536) tx []) else s

/-- EXCHANGE_SWITCH (R381): at t_x, with the input images frozen and before the first pass of that cycle. `trapAt` is a word that the
re-encoding found wrong. -/
def State.exchangeSwitch (trapAt : Option Nat) (s : State) : State :=
  match s.images.pending with
  | none => s
  | some e =>
    if s.rt.state == .run && (!s.rt.passesRunning || s.rt.libDone || s.rt.passTag != s.rt.boundary) then s
    else if e.at_ ≠ s.rt.boundary then s
    else if s.rt.state != .run then s.cancelExchange 0x8C
    else if s.power.gateClosed then s.cancelExchange 0x8B
    else if !e.ready then s.cancelExchange 0x8A
    else
      let new := (s.imageHeader s.loadTarget).codeConstant
      let recoded := s.recodeRegions new (s.carriedRegions (s.loadBlocks s.loadTarget))
      match (if new = s.images.codeConstant then none else trapAt), recoded with
      | some off, _ => s.passFault 0x0403 off
      | none, .inl off => s.passFault 0x0403 off
      | none, .inr coded => s.switchImage coded

def execExchangeSwitch (dt : Nat) (trapAt : Option Nat) (s : State) : Host.Outcome State Fault Refusal :=
  done ((s.elapse dt).exchangeSwitch trapAt)

/-- The exchange completes at the hand-over of the first images of the new image (R387); its record has no stated code (log entry 34). -/
def State.completeExchange (s : State) : State :=
  match s.images.switched with
  | none => s
  | some (tx, old) =>
    let n := sat32 (s.images.exchangeCount + 1)
    let seqs := leBytes 4 (s.imageHeader old).sequence ++ leBytes 4 (s.imageHeader s.images.active).sequence
    let s := s.storeSelect s.images.active
    let s := State.persist keyExchanges 4 n { s with
      images.switched := none, images.exchangeStatus := 3, images.exchangeCount := n, images.exchangeTime := tx }
    let (v, s) := s.drawFree
    s.event (v.toNat % 65536) (seqs ++ leBytes 8 tx)

/-! ### Background integrity (R375, R389) -/

/-- IMAGE_CRC_SCAN: the flash controller's scan of the active bank ends with CRC-32C `crc`. A difference is cause 0x0407; in Hold it only
blocks Hold → Run, until a scan agrees again (R389). -/
def State.crcScan (crc : Nat) (s : State) : State :=
  match s.images.image with
  | none => s
  | some i =>
    if i.crc = crc then s.clearCause 0x0407
    else if s.rt.state == .hold then s.recoverable 0x0407 []
    else s.detectOnce 0x0407 .nonRecoverable

def execImageCrcScan (dt crc : Nat) (s : State) : Host.Outcome State Fault Refusal := done ((s.elapse dt).crcScan crc)

/-- IMAGE_UNCORRECTABLE_READ: cause 0x0408, with the fault line asserted; in Hold it blocks Hold → Run (R375, R389). -/
def State.imageUncorrectable (s : State) : State :=
  match s.images.image with
  | none => s
  | some _ => if s.rt.state == .hold then (s.recoverable 0x0408 []).faultLine else s.lineFault 0x0408 []

def execImageUncorrectableRead (dt : Nat) (s : State) : Host.Outcome State Fault Refusal := done (s.elapse dt).imageUncorrectable

/-! ### The commands of the library (R345, R354, R364) -/

/-- An accepted `INST_ACK`: it enters the next freeze. -/
def State.ackWrite (a : Access) (s : State) : State :=
  match s.roleRefusal with
  | 0 => State.accept a { s with lib.ackPending := s.lib.ackPending ++ [a.index - 0x4000] }
  | c => s.refuse a c

/-- INST_ACK. -/
def execInstAck (dt : Nat) (r : Req) (id value : Nat) (s : State) : Host.Outcome State Fault Refusal :=
  done ((s.elapse dt).takeRow (rowAccess r (0x4000 + id) 5 value))

/-- An accepted `DIR_REQUEST`: the last of a cycle enters the next freeze. -/
def State.dirWrite (a : Access) (s : State) : State :=
  match s.roleRefusal with
  | 0 => State.accept a { s with lib.dirPending := some a.value }
  | c => s.refuse a c

/-- DIR_REQUEST. -/
def execDirRequest (dt : Nat) (r : Req) (id value : Nat) (s : State) : Host.Outcome State Fault Refusal :=
  done ((s.elapse dt).takeRow (rowAccess r (0x4000 + id) 0xA value))

end Sys2Proof.Machine
end

