-- ==== Sys2Proof/Machine/Ledger.lean ====
section
/-!
DEFINITION. Machine/Ledger.lean: the ledger counters and their COUNTERS records (R588, R589, R592, Tables 21-2, 21-3), and the temperature
supervision (R609, R610). Event records are in Ops.lean, the log's objects in Dict.lean.
-/

namespace Sys2Proof.Machine

/-! ### COUNTERS records (R592, Table 21-3) -/

/-- Whole seconds of a counter. -/
def seconds (ticks : Nat) : Nat := ticks / 100000000

/-- Payload of a group. -/
def Ledger.payload (l : Ledger) (g : Nat) : List Byte :=
  leBytes 1 g ++ leBytes 1 1 ++ leBytes 2 0 ++
    (match g with
    | 0 => leBytes 4 (seconds l.powered) ++ leBytes 4 (seconds l.run) ++ leBytes 4 (rawI32 l.tempMax) ++ leBytes 4 (rawI32 l.tempMin) ++
        leBytes 4 l.count ++ leBytes 4 l.lost ++ l.bins.flatMap (fun b => leBytes 4 (seconds b))
    | 1 => l.switches.flatMap (leBytes 4)
    | _ => l.breaks.flatMap (leBytes 4))

/-- Request the COUNTERS record of a group. -/
def State.persistGroup (g : Nat) (s : State) : State :=
  let s := s.requestRecord { area := .ledger, type := 0x20, payload := s.ledger.payload g, origin := 0, retried := false }
  match g with
  | 0 => s
  | 1 => { s with ledger.switchesKept := s.ledger.switches }
  | _ => { s with ledger.breaksKept := s.ledger.breaks }

/-- All three groups, at an entry to SafeStop or Lockout (R592). -/
def State.persistGroups (s : State) : State := ((s.countSeconds.persistGroup 0).persistGroup 1).persistGroup 2

/-- `LEDGER_INTERVAL` has elapsed: group 0, and groups 1 and 2 where a value changed (R592). -/
def State.ledgerElapse (s : State) : State :=
  let interval := us s.ledgerInterval
  if s.rt.cycling && s.passed s.ledger.intervalFrom interval then
    let s := s.countSeconds.persistGroup 0
    let s := if s.ledger.switches != s.ledger.switchesKept then s.persistGroup 1 else s
    let s := if s.ledger.breaks != s.ledger.breaksKept then s.persistGroup 2 else s
    { s with ledger.intervalFrom := s.ledger.intervalFrom + interval }
  else s

def execLedgerIntervalElapse (dt : Nat) (s : State) : Host.Outcome State Fault Refusal := done (s.elapse dt).ledgerElapse

/-! ### Temperatures (R588, R589, R609, R610) -/

/-- The board sample of each second: extremes, event 0x0110 from 102.0 °C, armed again at 100.0 °C, and cause 0x0111 at ten samples from
108.0 °C, cleared after sixty at 100.0 °C or below. -/
def State.boardSample (tenths : Int) (s : State) : State :=
  if s.rt.cycling then
    let t := max (-400) (min 1250 tenths)
    let s := s.countSeconds
    let warn := decide (1020 ≤ t) && s.ledger.warnArmed
    let s := { s with
      ledger.tempNow := t
      ledger.tempMax := max s.ledger.tempMax t
      ledger.tempMin := min s.ledger.tempMin t
      ledger.hotRun := if 1080 ≤ t then satAt 10 (s.ledger.hotRun + 1) else 0
      ledger.coolRun := if t ≤ 1000 then satAt 60 (s.ledger.coolRun + 1) else 0
      ledger.warnArmed := if t ≤ 1000 then true else s.ledger.warnArmed && !warn }
    let s := if warn then s.event 0x0110 [] else s
    let s := if s.ledger.hotRun = 10 then s.recoverable 0x0111 [] else s
    if s.ledger.coolRun = 60 then s.clearCause 0x0111 else s
  else s

def execTempSample (dt : Nat) (tenths : Int) (s : State) : Host.Outcome State Fault Refusal := done ((s.elapse dt).boardSample tenths)

/-- The die sample of each 100 µs: two in a row from 140 °C are cause 0x0112, by the comparator's fault line; before release the cause
is held in the retained register (R610). -/
def State.dieSample (tenths : Int) (s : State) : State :=
  if s.power.logicOn && s.boot.step != .resetHeld then
    let n := if 1400 ≤ tenths then satAt 2 (s.ledger.dieRun + 1) else 0
    let first := decide (n = 2 ∧ s.ledger.dieRun ≠ 2)
    let s := { s with ledger.dieRun := n }
    if first then (if s.rt.cycling then s.lineFault 0x0112 [] else s.pendCause 0x0112) else s
  else s

def execDieTempSample (dt : Nat) (tenths : Int) (s : State) : Host.Outcome State Fault Refusal := done ((s.elapse dt).dieSample tenths)

end Sys2Proof.Machine
end

