-- ==== Sys2Proof/Machine/Power.lean ====
section
/-!
DEFINITION. Machine/Power.lean: entries, the holdup store and its estimate, the power-fail warning, the write admission gate, rail and draw
supervision (ch. 2). The domains are in Domains.lean.
-/

namespace Sys2Proof.Machine

/-! ### Entries (R56, R61, R82) -/

/-- SK-3250-D has no mains entry (R23): its variant as burned. -/
def State.noMains (s : State) : Bool := s.otp.bits 0 8 == 0x44

/-- An entry meets its condition of Table 2-1. The auxiliary window's limits belong to it (log entry 92). -/
def State.qualifies (s : State) (e : Entry) (x : EntrySample) : Bool :=
  match e with
  | .mains =>
    if s.power.mainsOver then x.halfCycleEnd && decide (115 < x.peak) && decide (x.peak ≤ 470) else decide (115000 < x.mv)
  | .aux => decide (17500 ≤ x.mv) && decide (x.mv ≤ 32500) && decide (ms 1 ≤ x.held)

/-- Rule (c) of Table 2-1: two consecutive half-cycle peaks above 470 V. -/
def overPeaks (x : EntrySample) : Bool := x.halfCycleEnd && decide (470 < x.peak) && decide (470 < x.before)

/-- An entry meets a condition of its disqualification (Table 2-1). -/
def disqualifies (e : Entry) (x : EntrySample) : Bool :=
  match e with
  | .mains =>
    (decide (x.mv < 20000) && decide (us 1500 ≤ x.held)) || (x.halfCycleEnd && decide (x.peak < 100) && decide (x.before < 100)) ||
      overPeaks x
  | .aux => (decide (x.mv < 16500) || decide (33000 < x.mv)) && decide (us 50 ≤ x.held)

/-- A ride-through counts (R63): in its object, or towards it before recovery has loaded the object. -/
def State.countRide (s : State) : State :=
  if s.store.ready then
    let n := sat32 (s.power.rideCount + 1)
    State.persist keyRideCount 4 n { s with power.rideCount := n }
  else { s with power.ridesEarly := sat32 (s.power.ridesEarly + 1) }

/-- A group that the warning cut short restarts from its beginning, and one that had not begun begins now or at its time; a save-and-restore
group in progress was not cut short and runs on (R86, R142). -/
def State.resumeGroup (s : State) : State :=
  match s.boot.step with
  | .bist g =>
    if s.keepsRegion g && decide (s.boot.groupAt ≤ s.power.rideSince) then s
    else { s with boot.groupAt := max s.boot.groupAt s.localNow }
  | _ => s

/-- The power-fail warning clears because an entry qualified again: the ride-through is counted (R63), and a start that waited goes on
(R86, R121). -/
def State.clearWarning (s : State) : State :=
  if s.power.pfw then (State.countRide { s with power.pfw := false }).resumeGroup.resumeWatchdog else s

/-- An entry qualifies by Table 2-1; the mains entry of SK-3250-D never does (R23). -/
def State.qualify (e : Entry) (x : EntrySample) (holdupMv : Nat) (s : State) : State :=
  if !s.qualifies e x || (e == .mains && s.noMains) then s
  else
    let s := match e with
      | .mains => { s with power.mainsOk := true, power.mainsOver := false }
      | .aux => { s with power.auxOk := true }
    State.clearWarning (State.storeAt holdupMv { s with power.lostAt := none })

def execEntryQualified (dt : Nat) (x : EntrySample) (holdupMv : Nat) (s : State) : Host.Outcome State Fault Refusal :=
  done ((s.elapse dt).qualify x.entry x holdupMv)

/-- An entry is disqualified by Table 2-1: the loss of one while the other stays qualified is event 0x0106; the loss of the last starts the
100 µs to the warning (R61). A measuring pause ends at once, with the charger on again (R60). -/
def State.disqualify (e : Entry) (x : EntrySample) (s : State) : State :=
  let was := match e with
    | .mains => s.power.mainsOk
    | .aux => s.power.auxOk
  if !was || !disqualifies e x then s
  else
    let s := { s with power.pause := none }
    let s := match e with
      | .mains => { s with power.mainsOk := false, power.mainsOver := overPeaks x }
      | .aux => { s with power.auxOk := false }
    let s := s.charge
    if s.entryOk then
      if s.power.logicOn then s.event 0x0106 (leBytes 1 (match e with | .mains => 0 | .aux => 1)) else s
    else { s with power.lostAt := some s.localNow }

def execEntryDisqualified (dt : Nat) (x : EntrySample) (s : State) : Host.Outcome State Fault Refusal :=
  done ((s.elapse dt).disqualify x.entry x)

/-! ### The power-fail warning and the gate (R61 to R64) -/

/-- A save-and-restore group is in progress: the pause of a warning follows its end (R142). -/
def State.savingGroup (s : State) : Bool :=
  match s.boot.step with
  | .bist g => s.keepsRegion g && decide (s.boot.groupAt ≤ s.localNow)
  | _ => false

/-- The warning is raised 100 µs after the last qualified entry was lost. The gate closes in the same tick, and an OTP command pauses
(R62, R175); a start pauses with its watchdog (R86, R121). -/
def State.raiseWarning (s : State) : State :=
  match s.power.lostAt with
  | none => s
  | some t =>
    if s.power.logicOn && !s.power.pfw && !s.entryOk && s.passed t (us 100) then
      let s := { s with power.pfw := true, power.rideSince := s.localNow }
      let s := s.closeGate
      let s := match s.otp.running with
        | some run => { s with otp.opStatus := 0x02, otp.running := some (run.pause s.localNow) }
        | none => s
      if s.savingGroup then s else s.pauseWatchdog
    else s

def execPowerFailWarning (dt : Nat) (s : State) : Host.Outcome State Fault Refusal := done (s.elapse dt).raiseWarning

/-- The ride-through ends when `PF_RIDETHROUGH` has elapsed or the store has fallen below 22 V: the shutdown follows (R63, R65). -/
def State.rideThroughEnd (holdupMv : Nat) (s : State) : State :=
  if s.power.pfw && (s.passed s.power.rideSince (us s.pfRidethrough) || decide (holdupMv < 22000)) then
    (State.powerFailShutdown { s with power.holdupMv := holdupMv }).charge
  else s

def execRideThroughEnd (dt holdupMv : Nat) (s : State) : Host.Outcome State Fault Refusal :=
  done ((s.elapse dt).rideThroughEnd holdupMv)

/-- The gate reopens once the warning is clear and the store is at or above 30 V (R64); a paused OTP command resumes (R175). -/
def State.gateReopens (holdupMv : Nat) (s : State) : State :=
  let s := s.storeAt holdupMv
  if s.power.gateClosed && !s.power.pfw && decide (30000 ≤ holdupMv) then
    let s := s.openGate
    match s.otp.running with
    | some run => { s with otp.opStatus := 0x01, otp.running := some (run.resume s.localNow) }
    | none => s
  else s

def execGateReopen (dt holdupMv : Nat) (s : State) : Host.Outcome State Fault Refusal := done ((s.elapse dt).gateReopens holdupMv)

/-! ### The holdup estimate (R59, R60, R81) -/

/-- `HOLDUP_ESTIMATE` is below 20,000 µs: cause 0x0103 holds until a cold start measures more (Table 2-9). -/
def State.holdupShort (s : State) : Bool := s.power.estimateMade && decide (s.power.estimate < 20000)

/-- HOLDUP_DEGRADED: the estimate is below `HOLDUP_REQUIRED` (Table 2-8). -/
def State.holdupDegraded (s : State) : Bool := s.power.estimateMade && decide (s.power.estimate < 40000)

/-- What the estimate brings: cause 0x0103 below 20,000 µs, event 0x0107 from there up to `HOLDUP_REQUIRED` (R81). -/
def State.judgeEstimate (s : State) : State :=
  if s.holdupShort then
    if s.rt.cycling then s.recoverable 0x0103 [] else s.bootCause 0x0103 true
  else if s.holdupDegraded then s.event 0x0107 (leBytes 4 s.power.estimate)
  else s

/-- The estimate is made, once a cold start. -/
def State.makeEstimate (us_ : Nat) (s : State) : State :=
  State.judgeEstimate { s with power.estimate := min 500000 us_, power.estimateMade := true }

/-- The constant-current charge from 20 V, or from V_0 of at most 30 V, up to 36 V has been timed: C_est × 1344 V² / 18 W (R59, R60). The
rules state no rounding to whole microseconds: DESIGN CHOICE, rounded down (log entry 93). -/
def State.chargeTimed (startMv chargeUs : Nat) (s : State) : State :=
  if s.power.estimateMade || decide (30000 < startMv) then s
  else s.makeEstimate (chargeUs * 56000 / (3 * (36000 - max 20000 startMv)))

def execHoldupChargeTimed (dt startMv chargeUs : Nat) (s : State) : Host.Outcome State Fault Refusal :=
  done ((s.elapse dt).chargeTimed startMv chargeUs)

/-- The charger is held off for the measurement at the first boundary after release with the store at 40 V and the warning clear, when no
estimate has been made (R60). -/
def State.pauseStart (holdupMv : Nat) (s : State) : State :=
  if s.rt.cycling && s.now == s.rt.boundary && !s.power.estimateMade && s.power.pause.isNone && !s.power.pfw && s.entryOk &&
      decide (40000 ≤ holdupMv) then
    State.storeAt holdupMv { s with power.pause := some { start := s.localNow, v1 := holdupMv, sum := 0, count := 0 } }
  else s

def execHoldupPauseStart (dt holdupMv : Nat) (s : State) : Host.Outcome State Fault Refusal := done ((s.elapse dt).pauseStart holdupMv)

/-- The pause ends after 10 ms: C_est = 2E / (V_1² − V_2²), E the mean of the pause's measurements, that of its end among them, times 10 ms.
Rounding as at `State.chargeTimed` (log entry 93). Where the store did not fall the spec states no result: a free value. -/
def State.pauseEnd (holdupMv logicMw : Nat) (s : State) : State :=
  match s.power.pause with
  | none => s
  | some p =>
    if s.passed p.start (ms 10) then
      let s := State.storeAt holdupMv { s with power.pause := none, power.logicMw := logicMw }
      if holdupMv < p.v1 then
        s.makeEstimate ((p.sum + logicMw) * 20 * 1344 * 1000000 / (18 * (p.count + 1) * (p.v1 * p.v1 - holdupMv * holdupMv)))
      else
        let (v, s) := s.drawFree
        s.makeEstimate v.toNat
    else s

def execHoldupPauseEnd (dt holdupMv logicMw : Nat) (s : State) : Host.Outcome State Fault Refusal :=
  done ((s.elapse dt).pauseEnd holdupMv logicMw)

/-! ### Off → Boot (R58, R66, R76, R118) -/

/-- The start threshold is met in Off: a cold start begins, with PD53 (Tables 2-5 and 4-3). -/
def State.supplyStart (holdupMv : Nat) (s : State) : State :=
  let s := s.storeAt holdupMv
  if !s.power.logicOn && s.entryOk && decide (36000 ≤ holdupMv) then
    { s with
      rt.state := .boot
      power.logicOn := true
      power.domainCommand := pdBit 53
      power.domainStatus := pdBit 53
      clock.net := 0
      boot.step := .waitLock
      boot.cold := true
      boot.noBank := false
      boot.meKept := false
      otp.coldClean := false
      boot.coldEarly := sat32 (s.boot.coldEarly + 1)
      boot.lockRetrying := false
      boot.retained := {}
      boot.retainedStatus := 0
      boot.resetSources := 1
      boot.resetCause := 1
      boot.entryAt := s.localNow
      boot.retryAt := s.localNow + us 150
      boot.watchdogRun := 0
      boot.watchdogPaused := false
      boot.watchdogSince := some (s.localNow + us 150)
      store.config.accruedAt := s.localNow
      store.event.accruedAt := s.localNow
      store.ledgerArea.accruedAt := s.localNow }
  else s

def execLogicSupplyStart (dt holdupMv : Nat) (s : State) : Host.Outcome State Fault Refusal := done ((s.elapse dt).supplyStart holdupMv)

/-! ### Supervision (R67, R68) -/

/-- A rail leaves its window before a shutdown has begun: outputs off, warm reset, cause 0x0102; a reset already held keeps the cause too
(R67, R116). -/
def State.railFault (s : State) : State :=
  if s.power.logicOn then (s.pendCause 0x0102).assertWarmReset 3 else s

def execRailFault (dt : Nat) (s : State) : Host.Outcome State Fault Refusal := done (s.elapse dt).railFault

/-- The field supplies are measured; one that is lost drops the outputs of its banks at once, and one that returns energises those still
commanded on (R79, R292). -/
def State.suppliesAt (fs1Mv fs2Mv : Nat) (s : State) : State :=
  State.refreshDrivers [] { s with power.fs1Mv := fs1Mv, power.fs2Mv := fs2Mv }

/-- The 1 ms measurement of the store, the entries, the field supplies and the logic draw (R68, R79). `MAINS_PEAK` reads 0 on SK-3250-D;
`BIST_POWER_PEAK` takes the highest draw of a Test (R77); a pause sums the draw (R60). -/
def State.measure (x : PowerSample) (s : State) : State :=
  let s := (s.storeAt x.holdupMv).suppliesAt x.fs1Mv x.fs2Mv
  { s with
    power.mainsPeak := if s.noMains then 0 else x.mainsPeak
    power.auxMv := x.auxMv
    power.logicMw := x.logicMw
    power.bistPeak := if s.rt.state == .test then max s.power.bistPeak x.logicMw else s.power.bistPeak
    power.pause := s.power.pause.map (fun p => ({ p with sum := p.sum + x.logicMw, count := p.count + 1 } : HoldupPause))
    power.overdrawSince := if 9000 < x.logicMw then some (s.power.overdrawSince.getD s.localNow) else none
    power.calmSince := if x.logicMw < 8500 then some (s.power.calmSince.getD s.localNow) else none }

/-- A measurement; above 9.0 W for 100 ms it is cause 0x0104, recorded at once in Boot and Test too (R68). -/
def State.overdraw (x : PowerSample) (s : State) : State :=
  let s := s.measure x
  match s.power.overdrawSince with
  | some t =>
    if s.power.logicOn && s.passed t (ms 100) then
      if s.rt.cycling then s.recoverable 0x0104 []
      else if s.rt.active.contains 0x0104 then s
      else s.bootCause 0x0104 true
    else s
  | none => s

def execLogicOverdraw (dt : Nat) (x : PowerSample) (s : State) : Host.Outcome State Fault Refusal := done ((s.elapse dt).overdraw x)

end Sys2Proof.Machine
end

