-- ==== Sys2Proof/Machine/Recovery.lean ====
section
/-!
DEFINITION. Machine/Recovery.lean: start-up recovery of the non-volatile store (R409, R416 to R421), the reload of the ledger working copy
(R583), and `SESSION_EPOCH` of the start (R487).
-/

namespace Sys2Proof.Machine

/-! ### Step 1: the erase ledger (R407, R409) -/

/-- The latest entry of a sector or row code, by ENTRY_SEQ, among the valid ones. -/
def latestEntry (es : List (Nat × Nat × Nat × Bool × Nat × Nat)) (code : Nat) : Option (Nat × Nat × Nat × Bool × Nat × Nat) :=
  es.foldl (fun best e =>
    if e.1 = code then
      match best with
      | none => some e
      | some b => if b.2.2.1 ≤ e.2.2.1 then some e else some b
    else best) none

/-- A sector is blocked: its latest entry is not done, and no valid header carries that entry's count (R409). -/
def Store.isBlocked (st : Store) (es : List (Nat × Nat × Nat × Bool × Nat × Nat)) (sec : Nat) : Bool :=
  match latestEntry es sec with
  | none => false
  | some e => !e.2.2.2.1 && (match st.header sec with | some h => h.1 != e.2.1 | none => true)

/-- The entry of a ledger row whose erase did not finish: the row and index of that entry. -/
def blockedRow (es : List (Nat × Nat × Nat × Bool × Nat × Nat)) : Option (Nat × Nat) :=
  [0x80, 0x81].findSome? (fun code =>
    match latestEntry es code with
    | some e => if e.2.2.2.1 then none else some (e.2.2.2.2.1, e.2.2.2.2.2)
    | none => none)

/-- The index after the last entry of a row that does not read erased. -/
def Store.nextEntry (st : Store) (row : Nat) : Nat :=
  st.ledger.foldl (fun m c => if 4096 * row ≤ c.1 ∧ c.1 < 4096 * row + 4096 then max m ((c.1 - 4096 * row) / 32 + 1) else m) 0

/-- The controller's place in the ledger: the row of the highest ENTRY_SEQ, the entry after its last one, and the next ENTRY_SEQ. -/
def Store.readLedger (st : Store) : Store :=
  let es := st.ledgerEntries
  let last := es.foldl (fun best e =>
    match best with
    | none => some e
    | some b => if b.2.2.1 ≤ e.2.2.1 then some e else some b) (none : Option (Nat × Nat × Nat × Bool × Nat × Nat))
  let st := { st with blocked := (List.range 128).filter (st.isBlocked es) }
  match last with
  | none => { st with entrySeq := 1, row := 0, entry := min 127 (st.nextEntry 0) }
  | some e =>
    let row := e.2.2.2.2.1
    let next := st.nextEntry row
    if next ≤ 127 then { st with entrySeq := e.2.2.1 + 1, row := row, entry := next }
    else if e.2.2.2.1 then { st with entrySeq := e.2.2.1 + 1, row := 1 - row, entry := min 127 (st.nextEntry (1 - row)) }
    else { st with entrySeq := e.2.2.1 + 1, row := row, entry := 127 }

/-- The manager reads the header of every sector at a start; that of a blocked one fails (R409, Table 14-13; DEDUCED, log entry 123). -/
def Store.noteReads (st : Store) : Store := { st with readFaults := sat32 (st.readFaults + st.blocked.length) }

/-! ### Steps 2 to 5 (R417 to R419) -/

/-- Sectors of an area in order of use that hold records, and what the scan found in each. -/
def Store.scanArea (st : Store) (a : Area) : List (Nat × List FoundRecord × List (Nat × Bool)) :=
  (st.usedSectors a).map (fun sec => (sec, st.scanSector sec))

/-- Offset after the last byte of a sector that does not read 0xFF. -/
def Store.sectorEnd (st : Store) (sec : Nat) : Nat :=
  st.array.foldl (fun m c => if 4096 * sec ≤ c.1 ∧ c.1 < 4096 * sec + 4096 then max m (c.1 - 4096 * sec + 1) else m) 0

/-- Highest SECTOR_SEQ of the valid headers of an area. -/
def Store.topSeq (st : Store) (a : Area) : Nat :=
  ((List.range (areaCount a)).map (· + areaFirst a)).foldl (fun m sec => match st.header sec with | some h => max m h.2 | none => m) 0

/-- Next SEQ, SECTOR_SEQ and write position of an area (R417). -/
def Store.placeArea (a : Area) (st : Store) : Store :=
  let seq := (st.records a).foldl (fun m r => max m r.seq) 0 + 1
  let (sector, pos) := match (st.usedSectors a).getLast? with
    | some sec => (sec, min 4096 ((st.sectorEnd sec + 255) / 256 * 256))
    | none => match st.freeSectors a with
      | sec :: _ => (sec, 32)
      | [] => (areaFirst a, 4096)
  st.modArea a (fun x => { x with seq := seq, sectorSeq := st.topSeq a + 1, sector := sector, pos := pos })

/-- Kill a rejected record: its first unit is programmed to zeros (R418). -/
def Store.kill (sec off : Nat) (st : Store) : Store :=
  st.program (4096 * sec + off) (List.replicate 32 0)

/-- Erase one sector by R408 to its end; where the ledger row is full the other row is erased first (R407). -/
def Store.eraseNow (sec : Nat) (st : Store) : Store :=
  let finish (st : Store) : Store := match st.erase with
    | some e => if 0x80 ≤ e.sector then st.finishRow e.row e.entry else st.finishErase e.sector e.count e.row e.entry
    | none => st
  let st := if st.entry = 127 then finish (st.beginErase sec) else st
  finish (st.beginErase sec)

/-- The tail record of an area, copied forward (R419). -/
def State.copyTail (a : Area) (s : State) : State :=
  let last := (s.store.records a).foldl (fun best r =>
    match best with
    | none => some r
    | some b => if b.seq ≤ r.seq then some r else some b) (none : Option FoundRecord)
  match last with
  | none => s
  | some r => s.requestRecord { area := a, type := r.type, payload := r.payload, origin := r.seq, retried := false }

/-- Commit what is queued, oldest first, while the gate is open. -/
def State.drain : Nat → State → State
  | 0, s => s
  | n + 1, s => if s.store.queue.isEmpty || s.power.gateClosed then s else (s.commitRecord true).drain n

/-! ### Step 6: the persisted objects (R420, R421) -/

/-- An object held in OBJECT records: key, size and literal default. `STATE_CAUSE` lies in the LATCH record, and the ledger's objects
but `LEDGER_INTERVAL` in COUNTERS records. -/
def persistedObjects : List (Nat × Nat × Nat) :=
  objectIndex.flatMap (fun g => (List.range g.count).flatMap (fun i => g.objs.flatMap (fun o =>
    if o.store then
      ((List.range (o.hi + 1 - o.lo)).map (fun k => (objKey (g.base + i * g.stride) (o.lo + k), o.type.size, o.dflt))).filter (fun e =>
        let index := e.1 / 256
        e.1 != objKey 0x2200 3 && !(0x5E00 ≤ index && index ≤ 0x5EFF && e.1 != objKey 0x5E00 1))
    else [])))

/-- Give a persisted object its value: the unit's own counters in their registers, the others among the values in force. -/
def State.loadObject (key v dflt : Nat) (s : State) : State :=
  if key = keyRideCount then { s with power.rideCount := v }
  else if key = keyColdStarts then { s with boot.coldStarts := v }
  else if key = keyWarmResets then { s with boot.warmResets := v }
  else if key = keySafetyWrites then { s with dict.safetyWrites := v }
  else if key = keyEpoch then { s with zop.epoch := v }
  else if key = keyEraseTotal then { s with store.eraseTotal := v }
  else if key = keyCreditConfig then { s with store.config.credit := ofRawI32 v }
  else if key = keyCreditEvent then { s with store.event.credit := ofRawI32 v }
  else if key = keyCreditLedger then { s with store.ledgerArea.credit := ofRawI32 v }
  else if key = keyRefused then { s with store.refusedCount := v }
  else if key = keyDropped then { s with store.eventDropped := v }
  else if key = keyExchanges then { s with images.exchangeCount := v }
  else if key = keyErasesA then { s with images.bankA.erases := v }
  else if key = keyErasesB then { s with images.bankB.erases := v }
  else if key = keyTakeovers then { s with mirror.takeovers := v }
  else if key = keySessions then { s with service.sessions := v }
  else { s with dict.values := setValue key v dflt s.dict.values }

/-- Load the configuration objects and the unit's own counters: the current record of each, or its default with cause 0x0903. -/
def State.loadObjects (s : State) : State :=
  let rs := s.store.records .config
  let entries := (sortBy (fun x y => decide (x.seq ≤ y.seq)) (rs.filter (fun r => r.type == 1))).flatMap (fun r => objectEntries 256 r.payload)
  let value (key : Nat) : Option Nat := (entries.reverse.find? (fun e => e.1 == key)).map (·.2)
  let s := persistedObjects.foldl (fun t o => t.loadObject o.1 ((value o.1).getD o.2.2) o.2.2) s
  let missing := (persistedObjects.filter (fun o => (value o.1).isNone)).map (·.1)
  let s := { s with
    store.missing := missing
    store.recorded := (persistedObjects.map (·.1)).filter (fun k => !missing.contains k) }
  if missing.isEmpty then s else s.bootCause 0x0903 true

/-- The logic was off since the last release: the contents of retained RAM are those of a cold start, also where a warm reset cut that start
short (R41, R66). -/
def State.sincePowerOn (s : State) : Bool := s.boot.cold || s.boot.coldEarly != 0

/-- Load the lockout latch and `STATE_CAUSE`; without a valid record the latch is set (R420). After a warm reset of a released unit both stand
in retained RAM as they were (R52). -/
def State.loadLatch (s : State) : State :=
  match currentRecord (s.store.records .config) 0 with
  | some r =>
    if s.sincePowerOn then { s with rt.lockoutLatch := leAt r.payload 0 1 == 1, rt.stateCause := leAt r.payload 1 2 } else s
  | none => { s with rt.lockoutLatch := true }

/-- A COUNTERS group at store initialisation. -/
def Ledger.initial (g : Nat) (l : Ledger) : Ledger :=
  let f : Ledger := {}
  match g with
  | 0 => { l with powered := f.powered, run := f.run, tempMax := f.tempMax, tempMin := f.tempMin, count := f.count, lost := f.lost, bins := f.bins }
  | 1 => { l with switches := f.switches, switchesKept := f.switchesKept }
  | _ => { l with breaks := f.breaks, breaksKept := f.breaksKept }

/-- Load one COUNTERS group; without a record it takes its values at store initialisation (R420). -/
def State.loadCounters (g : Nat) (s : State) : State :=
  match currentRecord (s.store.records .ledger) (1 + g) with
  | none => { s with ledger := s.ledger.initial g }
  | some r =>
    let p := r.payload
    let sec (off : Nat) : Nat := leAt p off 4 * 100000000
    let counts := (List.range 32).map (fun n => leAt p (4 + 4 * n) 4)
    match g with
    | 0 => { s with
        ledger.powered := sec 4, ledger.run := sec 8, ledger.tempMax := ofRawI32 (leAt p 0xC 4), ledger.tempMin := ofRawI32 (leAt p 0x10 4)
        ledger.count := leAt p 0x14 4, ledger.lost := leAt p 0x18 4
        ledger.bins := (List.range 16).map (fun i => sec (0x1C + 4 * i)) }
    | 1 => { s with ledger.switches := counts, ledger.switchesKept := counts }
    | _ => { s with ledger.breaks := counts, ledger.breaksKept := counts }

/-- EVENT records of the store, the copy replacing its original (R402), in the order of EVENT_SEQ. -/
def State.loadEvents (s : State) : State :=
  let rs := (s.store.records .event).map (fun r => parseEvent r.payload)
  let once := rs.foldl (fun acc e => acc.filter (fun x => x.seq != e.seq) ++ [e]) []
  { s with ledger.stored := sortBy (fun x y => decide (x.seq ≤ y.seq)) once }

/-- Highest EVENT_SEQ in the event log RAM or the store. -/
def Ledger.highest (l : Ledger) : Nat := (l.ring ++ l.stored).foldl (fun m e => max m e.seq) 0

/-- The working copy is loaded after a cold start, or where the event log RAM was zeroed; records lost in between are counted (R583). -/
def State.loadLedger (s : State) : State :=
  let s := if s.sincePowerOn || s.boot.retainedStatus.getLsbD 2 then ((s.loadCounters 0).loadCounters 1).loadCounters 2 else s
  let persisted := match currentRecord (s.store.records .ledger) 1 with
    | some r => leAt r.payload 0x14 4
    | none => 0
  { s with ledger.lost := sat32 (s.ledger.lost + (persisted - s.ledger.highest)) }

/-- Initialise the store: headers, every object and counter at its default with a record of each object, a clear LATCH record, credits at their
caps (R421). -/
def State.initialiseStore (s : State) : State :=
  let st := s.store
  let headed := (List.range 128).foldl (fun (t : Store) sec =>
    if (t.header sec).isSome || t.retired.contains sec then t
    else
      let a := areaOfSector sec
      let written := t.program (4096 * sec) (headerBytes a 0 (t.areaState a).sectorSeq)
      written.modArea a (fun x => { x with sectorSeq := x.sectorSeq + 1 })) st
  let placed := [Area.config, .event, .ledger].foldl (fun (t : Store) a => (t.placeArea a).modArea a (fun x => { x with credit := areaCap a })) headed
  let s := { s with
    store := { placed with missing := [], initialised := true }
    rt.lockoutLatch := false
    rt.stateCause := 0
    ledger := ((s.ledger.initial 0).initial 1).initial 2 }
  let s := persistedObjects.foldl (fun t o => (t.loadObject o.1 o.2.2 o.2.2).persist o.1 o.2.1 o.2.2) s
  s.persistLatch.event 0x0904 []

/-- Erases of step 3 count in the credits and the total that step 6 loads, which are persisted at each erase (R413). -/
def State.countRedo (redo : List Nat) (s : State) : State :=
  if redo.isEmpty then s
  else
    let st := redo.foldl (fun (t : Store) sec => t.modArea (areaOfSector sec) (fun x => { x with credit := x.credit - 1 })) s.store
    State.persistCredits { s with store := { st with eraseTotal := sat32 (st.eraseTotal + redo.length) } }

/-- The EPOCH of the start: one more than the value last persisted; at its end it is kept, and no session opens (R487). -/
def State.takeEpoch (s : State) : State :=
  if 0xFFFFFFFE ≤ s.zop.epoch then { s with zop.session := 2 }
  else
    let e := s.zop.epoch + 1
    State.persist keyEpoch 4 e { s with zop.epoch := e }

/-- Ride-throughs of this start enter `RIDETHROUGH_COUNT`, which is now loaded (R63). -/
def State.countRidesEarly (s : State) : State :=
  if s.power.ridesEarly = 0 then s
  else
    let n := sat32 (s.power.rideCount + s.power.ridesEarly)
    State.persist keyRideCount 4 n { s with power.rideCount := n, power.ridesEarly := 0 }

/-- Cause 0x0906 does not clear: at a start it is raised again (R415). -/
def State.recheckUsable (a : Area) (s : State) : State :=
  if (s.store.usable a).length < areaMin a then State.bootCause 0x0906 true { s with store.areaLow := true } else s

/-- The steps of Table 14-8, after which a compaction that a reset cut short runs again (R426). A sector that step 3 erases counts for R421 as it was found (log entry 37). -/
def State.recoverStore (elapsedUs : Nat) (s : State) : State :=
  let s := s.readTorn
  let st := s.store.readLedger
  let areas := [Area.config, Area.event, Area.ledger]
  let live := (List.range 128).filter (fun sec => !st.retired.contains sec)
  let scans := areas.flatMap st.scanArea
  let rejected := scans.flatMap (fun x => (x.2.2.filter (fun r => !r.2)).map (fun r => (x.1, r.1)))
  let unheaded := live.filter (fun sec => !st.blocked.contains sec && st.kind sec == .unheaded)
  let fresh := live.all (fun sec => st.blocked.contains sec || st.kind sec == .blank || st.kind sec == .unheaded)
  let redo := live.filter (fun sec => st.blocked.contains sec || unheaded.contains sec)
  let s := { s with store := st.noteReads }
  let s := rejected.foldl (fun t _ => t.event 0x0902 []) s
  let st := areas.foldl (fun (t : Store) a => t.placeArea a) s.store
  let st := match blockedRow st.ledgerEntries with
    | some (row, entry) => st.finishRow row entry
    | none => st
  let st := redo.foldl (fun (t : Store) sec => t.eraseNow sec) st
  let s := redo.foldl (fun t _ => t.event 0x0901 []) { s with store := st }
  let st := rejected.foldl (fun (t : Store) r => t.kill r.1 r.2) s.store
  let s := { s with store := { st with
    reerased := min 255 redo.length, rejected := satAt 65535 rejected.length
    recovered := !redo.isEmpty || !rejected.isEmpty } }
  let s := if fresh then s.initialiseStore
    else
      let s := areas.foldl (fun t a => t.copyTail a) s
      ((((s.loadObjects).countRedo redo).loadLatch).loadEvents).loadLedger
  let s := s.drain (s.store.queue.length + 8)
  let s := areas.foldl (fun t a => t.recheckUsable a) s.countRidesEarly.takeEpoch.housekeep
  { s with
    store.ready := true
    store.recoveryTime := min 250000 elapsedUs
    boot.step := .release }

/-- Recovery begins once the warning is clear and the gate is open: with the gate closed no program unit starts (R62, R86). -/
def execStoreRecovery (dt elapsedUs : Nat) (s : State) : Host.Outcome State Fault Refusal :=
  let s := s.elapse dt
  done (if s.boot.step == .recovery && !s.power.pfw && !s.power.gateClosed then s.recoverStore elapsedUs else s)

end Sys2Proof.Machine
end

