-- ==== Sys2Proof/Machine/Boot.lean ====
section
/-!
DEFINITION. Machine/Boot.lean: reset sources, the boot ROM sequence, BIST, the comparator injection test, the MPU seal and release (ch. 4).
-/

namespace Sys2Proof.Machine

/-! ### Warm reset (R116 to R119) -/

/-- A source of Table 4-1 asserts. A clock fault and an LE stall leave their cause in the retained register; the boot watchdog's expiry
is noted there and counts as a boot failure (R42, R93, R121, R122). -/
def State.resetSource (source : Nat) (s : State) : State :=
  match source with
  | 2 => s.clockFault (if s.clock.pllLock then 0x0201 else 0x0202)
  | 3 => (s.pendCause 0x0102).assertWarmReset 3
  | 4 => (s.pendCause 0x0D01).assertWarmReset 4
  | 5 => if s.boot.step == .resetHeld then s.assertWarmReset 5 else State.bootFailure 5 { s with boot.retained.watchdogExpiry := true }
  | 6 => s.assertWarmReset 6
  | 7 => s.assertWarmReset 7
  | _ => s

def execWarmReset (dt source : Nat) (s : State) : Host.Outcome State Fault Refusal :=
  let s := s.elapse dt
  done (if s.power.logicOn then s.resetSource source else s)

/-- Step 3 of Table 4-3 at a warm start: the retained register's CRC, and the regions whose save-in-progress flag is set (R118, R138). Such a
flag stays set until the destructive test of the region has ended (`State.bistClears`; DESIGN CHOICE, log entry 137). -/
def State.checkRetained (crcOk : Bool) (s : State) : State :=
  let s := if crcOk then s
    else State.event 0x0308 [] { s with boot.retained := { ({} : Retained) with saveEvent := true, saveSnapshot := true } }
  let me := s.power.domainCommand.getLsbD 49
  let lostE := s.boot.retained.saveEvent
  let lostS := s.boot.retained.saveSnapshot
  let bits := bit (!lostE) + 2 * bit (me && !lostS) + 4 * bit lostE + 8 * bit lostS
  let s := { s with
    boot.retainedStatus := BitVec.ofNat 8 bits
    ledger := if lostE then { ({} : Ledger) with early := s.ledger.early } else s.ledger
    mirror.store := if lostS || !me then none else s.mirror.store }
  let s := if lostE then s.event 0x0307 [] else s
  if lostS then s.event 0x0307 [] else s

/-- The boot ROM has stopped until a cold start: three boot failures, or no valid bank (R122, R125). Firmware that a violation stopped in Boot
is no such case: the boot watchdog resets it (R235). -/
def State.startBarred (s : State) : Bool :=
  s.rt.state == .boot && s.boot.step == .stopped && (decide (3 ≤ s.boot.retained.bootFailures) || s.boot.noBank)

/-- Reset is released after 1 ms: the boot sequence starts at its step 2 (Table 4-2). Three boot failures, or a start that found no valid
bank, have stopped it until a cold start (R122, R125); during a warning it waits, its watchdog paused (R86). DESIGN CHOICE (log entry 138):
a register whose CRC fails counts no boot failures. -/
def State.releaseReset (crcOk : Bool) (s : State) : State :=
  if s.boot.step == .resetHeld && s.passed s.boot.resetAt (ms 1) then
    let s := s.checkRetained crcOk
    let s := { s with boot.cold := false, boot.entryAt := s.localNow, boot.watchdogRun := 0, boot.watchdogSince := none
                      boot.meKept := s.power.domainCommand.getLsbD 49 }
    if 3 ≤ s.boot.retained.bootFailures ∨ s.boot.noBank = true then { s with boot.step := .stopped }
    else { s with
      boot.step := .waitLock
      boot.retryAt := s.localNow + us 150
      boot.watchdogPaused := s.power.pfw
      boot.watchdogSince := if s.power.pfw then none else some (s.localNow + us 150) }
  else s

def execResetRelease (dt : Nat) (crcOk : Bool) (s : State) : Host.Outcome State Fault Refusal := done ((s.elapse dt).releaseReset crcOk)

/-! ### Firmware banks (R125, Table 4-5) -/

/-- LE address of firmware bank `b`. -/
def fwBase (b : Nat) : Nat := 0x08000000 + 0x80000 * b

/-- The header of a firmware bank. -/
def LeMem.fwHeader (m : LeMem) (b : Nat) : FwHeader :=
  let h := cellBytes erasedByte m.flash (fwBase b) 64
  { magic := leAt h 0 4, version := leAt h 4 4, length := leAt h 8 4, sequence := leAt h 0xC 4, bodyCrc := leAt h 0x10 4
    headerCrc := leAt h 0x3C 4 }

/-- A firmware bank is valid. -/
def LeMem.fwValid (m : LeMem) (b : Nat) : Bool :=
  let h := m.fwHeader b
  h.magic == 0x5B3A0C71 && h.headerCrc == crc32c (cellBytes erasedByte m.flash (fwBase b) 0x3C) && decide (h.length ≤ 524224) &&
    h.bodyCrc == crc32c (cellBytes erasedByte m.flash (fwBase b + 0x40) h.length)

/-- The bank selected: the valid one of higher SEQUENCE, bank 0 where both are equal. -/
def LeMem.fwSelect (m : LeMem) : Option Nat :=
  match m.fwValid 0, m.fwValid 1 with
  | true, true => some (if (m.fwHeader 0).sequence < (m.fwHeader 1).sequence then 1 else 0)
  | true, false => some 0
  | false, true => some 1
  | false, false => none

/-! ### Boot to Test (Table 4-3, steps 8 to 12) -/

/-- Domains on when Test begins: steps 1, 2, 4 and 6 of Table 4-3, PD49 over a warm reset, and PD55 where a bank was selected. -/
def State.bootDomains (s : State) (test : Bool) : BitVec 56 :=
  pdSet (53 :: (bootOrder.map (·.1) ++ (if test then [55] else []) ++ (if s.boot.meKept then [49] else [])))

/-- OTP read, bank selection and repairs; then Test begins with BIST group 1 50 µs later. No result of an earlier sequence survives
(R139). Without a valid bank the unit stays in Boot until a cold start (R122, R125). -/
def State.bootEntry (s : State) : State :=
  if s.boot.step == .locked && !s.power.pfw then
    let bank := s.le.fwSelect
    let s := { s.otpRead with
      power.domainCommand := s.bootDomains bank.isSome
      power.domainStatus := s.bootDomains false }
    match bank with
    | none => State.event 0x0305 [] { s with
        boot.step := .stopped, boot.noBank := true, boot.watchdogSince := none, boot.watchdogPaused := false }
    | some b =>
      let v := (s.le.fwHeader b).version
      { s with
        rt.state := .test
        lib.version := (Config.libVersion v).toNat
        power.bistPeak := 0
        power.switching := [(55, s.localNow + us 50)]
        boot.fwBank := b
        boot.fwVersion := v
        boot.step := .bist 1
        boot.bistAt := s.localNow + us 50
        boot.groupAt := s.localNow + us 50
        boot.bistMode := if s.boot.cold then 1 else 2
        boot.groupRun := 0
        boot.groupFail := 0
        boot.failCount := 0
        boot.failRecords := []
        boot.comparator := 0
        boot.lineLatched := 0 }
  else s

def execBootEntry (dt : Nat) (s : State) : Host.Outcome State Fault Refusal := done (s.elapse dt).bootEntry

/-! ### BIST (R127 to R130) -/

/-- Time limit of a group in µs (Table 4-7). -/
def groupLimit (cold : Bool) (g : Nat) : Nat :=
  match g with
  | 1 => if cold then 28000 else 30000
  | 2 | 3 => 30000
  | 4 => 40000
  | 5 => if cold then 22000 else 26000
  | 6 => 25000
  | 7 => 15000
  | _ => 20000

/-- A failure record of group `g` as Table 4-8 lays it out: EXPECTED and OBSERVED read 0 where no bit is named. -/
def failRecord (g : Nat) (raw : BitVec 64) : BitVec 64 :=
  let v := raw.toNat / 2 ^ 16 % 2 ^ 44 * 2 ^ 16 + (if bitsAt raw.toNat 31 24 = 0xFF then 0 else bitsAt raw.toNat 15 14 * 2 ^ 14)
  BitVec.ofNat 64 (v + g % 16 * 2 ^ 60)

/-- One of the values a list allows. -/
def pick (l : List Nat) (v : Nat) : Nat := l.getD (v % l.length) 0

/-- MEMORY and ADDRESS that Table 4-8 allows in a record of group `g` that names no failing word: the memories the group tests, with the
address it had come to, or the logic of a domain of groups 6 and 7, or the flash controllers of group 8. -/
def timeoutPlace (g v : Nat) : Nat × Nat :=
  match g with
  | 1 => (pick [1, 2, 3] v, v / 16 % 2 ^ 24)
  | 2 | 3 => (4, v / 16 % 2 ^ 24)
  | 4 => (5, v / 16 % 2 ^ 24)
  | 5 => (pick [6, 7] v, v / 16 % 2 ^ 24)
  | 6 | 7 => (8, pick (groupDomains g) v)
  | _ => (9, pick (groupDomains 8) v)

/-- ELEMENT of such a record: one of the March elements, or 0xF in a logic or controller test (Table 4-8). -/
def timeoutElement (g v : Nat) : Nat := if 6 ≤ g then 0xF else v % 6

/-- The record of a group that exceeded its time: KIND 3, no bit; the memory, address, March element and background it had come to are
operands of the command, within what Table 4-8 allows (log entry 57). -/
def timeoutRecord (g place element : Nat) : BitVec 64 :=
  let p := timeoutPlace g place
  failRecord g (BitVec.ofNat 64 (p.1 * 2 ^ 56 + p.2 * 2 ^ 32 + 0xFF * 2 ^ 24 + timeoutElement g element * 2 ^ 20 +
    element / 6 % 4 * 2 ^ 18 + 3 * 2 ^ 16))

/-- Failures of a group with its time-out, if any; `ran` is how long the group ran, in ticks. -/
def State.groupFailures (limitUs g ran : Nat) (raw : List (BitVec 64)) (place element : Nat) (s : State) : List (BitVec 64) :=
  let found := (raw.filter (s.otp.tested (s.otp.applied.map (fun e => e.toNat)))).map (failRecord g)
  if us limitUs < ran then found ++ [timeoutRecord g place element] else found

/-- Enter failures: the first eight are kept, all are counted (R129). -/
def Boot.noteFailures (g : Nat) (fs : List (BitVec 64)) (b : Boot) : Boot :=
  let mask : BitVec 8 := BitVec.twoPow 8 (g - 1)
  { b with
    groupRun := b.groupRun ||| mask
    groupFail := if fs.isEmpty then b.groupFail else b.groupFail ||| mask
    failCount := satAt 65535 (b.failCount + fs.length)
    failRecords := (b.failRecords ++ fs).take 8 }

/-- What a group leaves in the memories it tests destructively: every word zero, with its tags, the items of the input and output areas among
them (R127, Table 2-6); the save-in-progress flag of a region so tested clears (R138). -/
def State.bistClears (g : Nat) (s : State) : State :=
  let clear (a n : Nat) (s : State) : State := { s with le.ram := cellClear a n s.le.ram }
  match g with
  | 1 =>
    let s := { clear 0x20000000 0x60000 s with
      le.tags := [], le.inputs := List.replicate 180 0, le.outputs := List.replicate 32 0 }
    if s.keepsRegion 1 then s else { clear 0x22000000 0x4000 s with boot.retained.saveEvent := false }
  | 2 => { clear 0x21000000 0x60000 s with le.inputsCoded := List.replicate 180 0, le.outputsCoded := List.replicate 32 0 }
  | 3 => clear 0x21060000 0x60000 s
  | 5 =>
    let s := clear 0x24000000 0x10000 s
    if s.keepsRegion 5 then s else { clear 0x25000000 0x10000 s with mirror.store := none, boot.retained.saveSnapshot := false }
  | _ => s

/-- The domains after a group: those powered for it only go off, and PD53 is switched off and on again after its isolation (R74, R77,
Table 4-6). -/
def State.bistDomainsAfter (g : Nat) (s : State) : State :=
  let keep := s.bootDomains true
  let good := s.power.domainStatus &&& keep
  { s with
    power.domainCommand := keep
    power.domainStatus := if g = 7 then good &&& ~~~(pdBit 53) else good
    power.switching := if g = 7 then s.power.switching ++ [(53, s.localNow + us 50)] else s.power.switching }

/-- How long the group in progress has run, in ticks; a warning stops its clock, but for a save-and-restore group (R142). -/
def State.groupRan (g : Nat) (s : State) : Nat :=
  (if s.power.pfw && !s.keepsRegion g then s.power.rideSince else s.localNow) - s.boot.groupAt

/-- A BIST group ends (R129). During a power-fail warning only the group that was in progress when it was raised does, and the next waits
(R86): where its end does not come before the warning clears it restarts from its beginning (R142). The pause of the boot watchdog follows a
save-and-restore group. -/
def State.groupComplete (g : Nat) (raw : List (BitVec 64)) (place element : Nat) (s : State) : State :=
  if s.boot.step == .bist g && decide (1 ≤ g) && decide (g ≤ 8) && decide (s.boot.groupAt ≤ s.localNow) &&
      (!s.power.pfw || decide (s.boot.groupAt ≤ s.power.rideSince)) then
    let fs := s.groupFailures (groupLimit s.boot.cold g) g (s.groupRan g) raw place element
    let s := s.bistPower
    let s := State.bistDomainsAfter g (State.bistClears g { s with boot := s.boot.noteFailures g fs })
    let s := if s.power.pfw then s.pauseWatchdog else s
    if g = 8 then { s with boot.step := .comparator, boot.bistDuration := min 220000 ((s.localNow - s.boot.bistAt) / 100) }
    else { s with boot.step := .bist (g + 1), boot.groupAt := s.localNow + us 200 }
  else s

def execBistGroupComplete (dt group : Nat) (failures : List (BitVec 64)) (place element : Nat) (s : State) :
    Host.Outcome State Fault Refusal :=
  done ((s.elapse dt).groupComplete group failures place element)

/-! ### Comparator injection test (R131, R132) -/

/-- The injection of step `i + 1` of Table 4-9, for the steps that compare signatures: what is XORed into the shadow signature. -/
def injected : Nat → BitVec 32
  | 1 => 0x00000001
  | 2 => 0x80000000
  | 3 => 0xFFFFFFFF
  | _ => 0

/-- The built-in test logic's A, and the word of step 5: 62,141 × 1000 + 1. -/
abbrev testConstant : Nat := 62141
abbrev testWord : BitVec 64 := 62141001

/-- A working comparator and coded reader detect step `i + 1`: the two signatures of the test logic, equal but for the injection, differ,
or the coded word of step 5 fails R189. -/
def testDetects (sig : BitVec 32) (i : Nat) : Bool :=
  if i = 4 then (codedQuotient testConstant testWord).isNone else sig ^^^ injected i != sig

/-- Whether this unit detects step `i + 1`; `faulty` has bit i set where its hardware does the contrary. -/
def stepDetected (faulty : BitVec 7) (i : Nat) : Bool := (testDetects 0xFFFFFFFF i) != faulty.getLsbD i

/-- The steps of Table 4-9 that succeed: 1 and 6 without a detection, 2 to 5 with one; 7 when the IOS latched the line once for each of
steps 2 to 5 and at no other. -/
def comparatorResult (faulty : BitVec 7) : BitVec 8 :=
  let det := stepDetected faulty
  let latched := det 1 && det 2 && det 3 && det 4 && !det 0 && !det 5 && !faulty.getLsbD 6
  BitVec.ofBoolListLE [!det 0, det 1, det 2, det 3, det 4, !det 5, latched, false]

/-- The seven steps, every one run whatever the result of the one before it (R132). The injection register is clear after them. -/
def State.comparatorTest (faulty : BitVec 7) (s : State) : State :=
  if s.boot.step == .comparator && !s.power.pfw then
    { s with
      boot.comparator := comparatorResult faulty
      boot.lineLatched := ((List.range 6).filter (stepDetected faulty)).length
      boot.injection := 0
      boot.step := .mpuSeal }
  else s

def execComparatorInjectionTest (dt : Nat) (faulty : BitVec 7) (s : State) : Host.Outcome State Fault Refusal :=
  done ((s.elapse dt).comparatorTest faulty)

/-! ### MPU seal (R133) -/

/-- Both sets are written, read back and sealed; a descriptor that fails in an intact region is cause 0x0C05 (R227), and a difference or a
seal that does not read as set is boot failure 0x0304. -/
def State.seal (differs fails : Bool) (s : State) : State :=
  if s.boot.step == .mpuSeal && !s.power.pfw then
    let s := s.writeSets
    let s := s.bootCauseIf (s.le.denyAll && !s.otp.protectionFallback) 0x0C05 true
    if differs || fails then (s.event 0x0304 []).bootFailure 0
    else { s with le.isSealed := true, boot.step := .recovery }
  else s

def execMpuSeal (dt : Nat) (readbackDiffers sealFails : Bool) (s : State) : Host.Outcome State Fault Refusal :=
  done ((s.elapse dt).seal readbackDiffers sealFails)

/-! ### Release (R134, R135, R487, R581, R583) -/

/-- The causes that Table 4-10 finds, in its order; the first decides. DESIGN CHOICE (log entry 99): condition 3 names a pending cause and a
watchdog expiry in one line and does not say which comes first where both stand; the pending cause does here. -/
def State.releaseCauses (s : State) : List Nat :=
  (if 0 < s.boot.failCount then [0x0301] else []) ++
    (if s.boot.comparator = 0x7F then []
      else if s.boot.comparator.getLsbD 0 && s.boot.comparator.getLsbD 5 then [0x0302] else [0x0303]) ++
    (match s.boot.retained.cause with | some c => [c] | none => []) ++
    (if s.boot.retained.watchdogExpiry then [0x0306] else [])

/-- A record of `SESSION_EPOCH` still waits for its commit. -/
def State.epochWaits (s : State) : Bool :=
  (s.store.queue ++ s.store.heldBack).any (fun r => r.type == 1 && objKey (leAt r.payload 0 2) (leAt r.payload 2 1) == keyEpoch)

/-- Objects that come into force at a start: node, rates, CAN channels, the signature window, cycle and session. -/
def State.startConfiguration (s : State) : State :=
  let en (c : CanState) (b : Nat) : CanState := { c with enabled := bitOf s.canEnable b }
  { s with
    zop.nodeId := if s.otp.identityFallback then 16 else s.nodeIdSet
    zop.arbRate := s.arbRateSet
    zop.dataRate := s.dataRateSet
    zop.heartbeatUs := s.heartbeatSet
    zop.canA := en s.zop.canA 0
    zop.canB := en s.zop.canB 1
    zop.heartbeatAt := s.localNow
    zop.session := if s.otp.keysFallback || s.zop.session == 2 then 2 else 0
    zop.key := if s.otp.reported .keysOem = 0 then 0 else BitVec.ofNat 256 (s.otp.content .keysOem)
    passes.windowActive := s.sigWindow
    rt.cycleUs := s.safeCycle
    clock.lastHeard := s.now }

/-- A record still waiting from before a warm reset is persisted, or dropped when the event credit is used up (R412, R583). -/
def State.storeAgain (r : EventRecord) (s : State) : State :=
  if 0 < s.store.event.credit then s.storeEvent r
  else
    let s : State := { s with
      ledger.ring := s.ledger.ring.map (fun (x : EventRecord) => if x.seq = r.seq then ({ x with waiting := false } : EventRecord) else x) }
    s.dropEvent.selfRecord 0x0908 (ms 3600000)

/-- The log goes on at release: records still waiting from before a warm reset are persisted, and those made since are numbered (R581,
R583). -/
def State.startLog (s : State) : State :=
  let l := s.ledger
  let early := l.early.map (fun r => ({ r with epoch := if r.epoch = 0 then s.zop.epoch else r.epoch, node := s.zop.nodeId } : EventRecord))
  let s := { s with
    ledger := s.ledger.refit s.logSlots }
  let s := { s with
    ledger.early := []
    ledger.nextSeq := max l.highest l.count + 1
    ledger.countedTo := s.localNow
    ledger.intervalFrom := s.localNow }
  let s := (l.ring.filter (·.waiting)).foldl (fun t r => t.storeAgain r) s
  let s := early.foldl (fun t r => t.logRecord r) s
  let first := if s.heldSeqs.isEmpty then s.ledger.nextSeq else s.eventRange.1
  { s with ledger.readSeq := (List.range 17).map (fun n => (n, first)) }

/-- DATA of the release record (R580). -/
def Boot.releaseData (b : Boot) : List Byte :=
  leBytes 1 b.resetCause ++ leBytes 1 b.resetSources.toNat ++ leBytes 1 b.bistMode ++ leBytes 4 b.bootDuration

/-- Every cold start and warm reset since the last release counts (R136), persisted with the gate open (log entry 100). -/
def State.countStart (s : State) : State :=
  let cold := sat32 (s.boot.coldStarts + s.boot.coldEarly)
  let warm := sat32 (s.boot.warmResets + s.boot.warmEarly)
  let s := if s.boot.coldEarly = 0 then s else s.persist keyColdStarts 4 cold
  let s := if s.boot.warmEarly = 0 then s else s.persist keyWarmResets 4 warm
  { s with boot.coldStarts := cold, boot.warmResets := warm, boot.coldEarly := 0, boot.warmEarly := 0 }

/-- The state that Table 4-10 decides, with the latch and `STATE_CAUSE`. -/
def State.releaseState (causes : List Nat) (s : State) : State :=
  let enter (st : RunState) (s : State) : State := { s with rt.state := st, rt.entryTime := s.now }
  match causes with
  | c :: _ => ((enter .lockout { s with rt.lockoutLatch := true, rt.stateCause := c }).persistLatch).persistGroups
  | [] =>
    if s.boot.retained.latch then
      ((enter .lockout { s with rt.lockoutLatch := true, rt.stateCause := s.boot.retained.latchCause }).persistLatch).persistGroups
    else if s.rt.lockoutLatch then (enter .lockout s).persistGroups
    else enter .hold { s with rt.autoStart := s.autoStartSet }

/-- The sessions opened before the release enter `SESSIONS`, once the gate has opened (R591). -/
def State.countEarlySessions (s : State) : State :=
  if s.service.openedEarly == 0 then s
  else
    let n := sat32 (s.service.sessions + s.service.openedEarly)
    State.persist keySessions 4 n { s with service.sessions := n, service.openedEarly := 0 }

/-- The one transition out of Test. It waits for the gate and for the commit of `SESSION_EPOCH` (R487). DESIGN CHOICE (log entry 101):
`BOOT_DURATION` and `BIST_DURATION` count the pauses of R86 and R109 and stop at the ends of their ranges. DESIGN CHOICE (log entry 136): a
warm start disarms the acceptance of 0x05 (R41). -/
def State.release (s : State) : State :=
  if s.boot.step == .release && !s.power.pfw && (s.zop.session == 2 || (!s.power.gateClosed && !s.epochWaits)) then
    let causes := s.releaseCauses
    let s := causes.zipIdx.foldl (fun t c => t.logRecord (t.newRecord c.1 t.now (c.2 == 0) [])) s
    let lost := !s.boot.cold && s.boot.retainedStatus.getLsbD 2
    let s := { s with
      boot.bootDuration := min 2000000 ((s.localNow - s.boot.entryAt) / 100)
      boot.step := .idle
      boot.watchdogSince := none
      boot.watchdogPaused := false
      boot.retained.cause := none
      le.violation := false
      le.faultAddress := 0
      le.faultInfo := 0
      le.faultCycle := 0
      le.laterViolations := 0
      xch.faultBuffer := 0xFF
      xch.refusedCount := 0
      boot.retained.watchdogExpiry := false
      boot.retained.bootFailures := 0
      otp.coldClean := if s.boot.cold then s.boot.failCount == 0 && s.boot.comparator == 0x7F else s.otp.coldClean
      rt.ackArmed := s.boot.cold && causes.isEmpty
      rt.cycling := true
      mirror.linkOk := s.pairMember
      rt.boundary := s.now
      clock.rootMin := 65535
      clock.rootMax := 0 }
    let s := s.startConfiguration.useTrim
    let s := s.startLog
    let s := s.releaseState causes
    let s := if lost then s.event 0x0912 [] else s
    let s := s.event 0x0300 s.boot.releaseData
    let s := if s.service.resetEventDue then State.event 0x0D06 [] { s with service.resetEventDue := false } else s
    let s := State.countEarlySessions s
    let s := s.countStart
    let s := (s.selectAtRelease.tagFirmware).maskBuffers
    let s := (List.range 32).foldl (fun t n => t.applyMode n) s
    let s := (List.range 4).foldl (fun t p => t.applyRatio p) s
    let s := s.applyDomains.setBanks
    let s := { s with field.applyState := true }
    (if s.rt.state == .hold then s.announce else s).sendState
  else s

def execRelease (dt : Nat) (s : State) : Host.Outcome State Fault Refusal := done (s.elapse dt).release

/-! ### The boot watchdog (R121, R122) -/

/-- Local ticks the boot watchdog has run. -/
def State.watchdogTicks (s : State) : Nat :=
  s.boot.watchdogRun + (match s.boot.watchdogSince with | some t => s.localNow - t | none => 0)

/-- It expires after 2 s of running: a boot failure, and Lockout at the following release. -/
def State.watchdogExpires (s : State) : State :=
  if s.boot.watchdogSince.isSome && decide (us 2000000 ≤ s.watchdogTicks) then s.resetSource 5 else s

def execBootWatchdogExpiry (dt : Nat) (s : State) : Host.Outcome State Fault Refusal := done (s.elapse dt).watchdogExpires

end Sys2Proof.Machine
end

