-- ==== Sys2Proof/Machine/Registry.lean ====
section
/-!
DEFINITION. Machine/Registry.lean: the configuration objects as one list, `CONFIG_CRC` (R451) and PAIR_CONFIG_CRC (R511).
-/

namespace Sys2Proof.Machine

/-- The objects that `CONFIG_CRC` covers, of persistence store and access RW or RWS: key, size and literal default, ascending. -/
def configObjects : List (Nat × Nat × Nat) :=
  sortBy (fun x y => decide (x.1 ≤ y.1)) (objectIndex.flatMap (fun g => (List.range g.count).flatMap (fun i => g.objs.flatMap (fun o =>
    if o.store && (o.access == .rw || o.access == .rws) then
      (List.range (o.hi + 1 - o.lo)).map (fun k => (objKey (g.base + i * g.stride) (o.lo + k), o.type.size, o.dflt))
    else []))))

/-- The CRC of R451 over the objects of `keep`. -/
def State.crcOver (keep : Nat → Bool) (s : State) : Nat :=
  crc32c ((configObjects.filter (fun o => keep o.1)).flatMap (fun o =>
    leBytes 2 (o.1 / 256) ++ leBytes 1 o.1 ++ leBytes o.2.1 (s.setting (o.1 / 256) (o.1 % 256) o.2.2)))

/-- `CONFIG_CRC`. -/
def State.configCrc (s : State) : Nat := s.crcOver (fun _ => true)

/-- An object of the pair configuration set (R511). -/
def pairKey (key : Nat) : Bool :=
  !(decide (0x1000 ≤ key / 256) && decide (key / 256 ≤ 0x1FFF)) && !(decide (0x5800 ≤ key / 256) && decide (key / 256 ≤ 0x5FFF)) &&
    key != objKey 0x5000 2

/-- PAIR_CONFIG_CRC. -/
def State.pairCrc (s : State) : Nat := s.crcOver pairKey

end Sys2Proof.Machine
end

