-- ==== Sys2Proof/Machine/Mirror.lean ====
section
/-!
DEFINITION. Machine/Mirror.lean: the pair: roles, token, link frames, snapshots, takeover and replacement (ch. 18), and the records of the
twin (R584).
-/

namespace Sys2Proof.Machine

/-! ### The token (R514, R515) -/

/-- The active unit asserts its token once the twin's has been sensed deasserted for 20 µs, unless the IOS safe state holds (R515). -/
def State.tryToken (s : State) : State :=
  if s.rt.state == .run && s.mirror.role == 1 && !s.mirror.token && !s.field.safeState && !s.mirror.twinToken &&
      decide (s.mirror.twinTokenAt + us 20 ≤ s.now) then
    State.refreshDrivers [] { s with mirror.token := true }
  else s

/-- TWIN_TOKEN_CHANGE: the IOS senses the twin's token; the gates of mirrored outputs follow, and both tokens asserted are a contention
(R514, R515, R538). -/
def State.twinTokenChange (on : Bool) (s : State) : State :=
  if s.mirror.twinToken == on then s
  else
    State.refreshDrivers [] { s with
      mirror.twinToken := on
      mirror.twinTokenAt := s.now
      mirror.claimSince := if on then s.mirror.claimSince else false
      mirror.contentionSince := if on && s.mirror.token then some s.now else none }

def execTwinTokenChange (dt : Nat) (asserted : Bool) (s : State) : Host.Outcome State Fault Refusal :=
  done ((s.elapse dt).twinTokenChange asserted)

/-- TOKEN_CONTENTION: both tokens asserted for 10 µs are cause 0x0B05 on both units (R538). -/
def State.tokenContention (s : State) : State :=
  match s.mirror.contentionSince with
  | some t => if s.rt.cycling && s.mirror.token && s.mirror.twinToken && decide (t + us 10 ≤ s.now) then s.recoverable 0x0B05 [] else s
  | none => s

def execTokenContention (dt : Nat) (s : State) : Host.Outcome State Fault Refusal := done (s.elapse dt).tokenContention

/-- PRESENCE_LOOP_CHANGE (R516): an open loop is event 0x0B03 on a pair member. -/
def State.presenceLoop (intact : Bool) (s : State) : State :=
  let opened := s.mirror.loopOk && !intact
  let s := { s with mirror.loopOk := intact }
  if opened && s.rt.cycling && s.pairMember then s.event 0x0B03 [] else s

def execPresenceLoopChange (dt : Nat) (intact : Bool) (s : State) : Host.Outcome State Fault Refusal :=
  done ((s.elapse dt).presenceLoop intact)

/-! ### Agreement (R511) -/

/-- CODE_CONSTANT of the twin's image: as its snapshots have shown it; before that no frame carries it, and it is a free value (log entry
151). -/
def TwinStatus.constant (t : TwinStatus) : Nat :=
  if t.codeConstant = 0 then Config.twinConstant t.imageSequence t.imageCrc else t.codeConstant

/-- The units agree: image, CODE_CONSTANT and PAIR_CONFIG_CRC. -/
def State.pairAgrees (s : State) : Bool :=
  match s.mirror.twin, s.images.image with
  | some t, some i =>
    t.imageSequence == i.sequence && t.imageCrc == i.crc && t.pairConfigCrc == s.pairCrc && t.constant == s.images.codeConstant
  | _, _ => false

/-- A unit that stops being standby because the link or the snapshots failed joins again (R517, R522). -/
def State.standbyJoins (s : State) : State := if s.mirror.role = 2 then { s with mirror.role := 3, mirror.joined := 0 } else s

/-! ### STATUS frames (R517, Table 18-3) -/

/-- The load target holds a valid image: its SEQUENCE and IMAGE_CRC, else zeros. -/
def State.loadNames (s : State) : Nat × Nat :=
  let b := s.loadTarget
  if s.bankValid b then ((s.imageHeader b).sequence, (s.imageHeader b).imageCrc) else (0, 0)

/-- EXCHANGE_AGREE (R532). -/
def State.exchangeAgree (s : State) : Bool :=
  let n := s.loadNames
  match s.mirror.twin with
  | some t => s.onlineChangeEnable && n != (0, 0) && n == (t.loadSequence, t.loadImageCrc)
  | none => false

/-- The STATUS this unit sends at boundary t_b. -/
def State.ownStatus (s : State) : TwinStatus :=
  let load := s.loadNames
  let entering := s.rt.state == .run && s.rt.runSince == s.rt.boundary
  let active := s.mirror.role == 1
  { role := s.mirror.role
    runState := s.rt.state.code
    flags := BitVec.ofNat 8 (bit (active && s.mirror.token) + 2 * bit s.mirror.sendStop.isSome + 4 * bit (active && s.images.pending.isSome) +
      8 * bit s.exchangeAgree + 16 * bit entering + 32 * bit s.mirrorPreferActive)
    node := s.zop.nodeId
    stopTarget := s.mirror.sendStop.getD 0
    boundary := s.rt.boundary
    imageSequence := match s.images.image with | some i => i.sequence | none => 0
    imageCrc := match s.images.image with | some i => i.crc | none => 0
    pairConfigCrc := s.pairCrc
    loadSequence := load.1
    loadImageCrc := load.2
    snapSeq := if active then s.mirror.seqSent else s.mirror.seqCommitted
    exchangeTx := match s.images.pending with | some e => if active then e.at_ else 0 | none => 0
    codeConstant := s.images.codeConstant }

/-- A STATUS frame's bytes (Table 18-3). -/
def TwinStatus.bytes (t : TwinStatus) : List Byte :=
  let b := leBytes 2 0x4D53 ++ leBytes 1 1 ++ leBytes 1 t.role ++ leBytes 1 t.runState ++ [t.flags] ++ leBytes 1 t.node ++
    leBytes 1 t.stopTarget ++ leBytes 8 t.boundary ++ leBytes 4 t.imageSequence ++ leBytes 4 t.imageCrc ++ leBytes 4 t.pairConfigCrc ++
    leBytes 4 t.loadSequence ++ leBytes 4 t.loadImageCrc ++ leBytes 4 t.snapSeq ++ leBytes 8 t.exchangeTx ++ List.replicate 12 0
  b ++ leBytes 4 (crc32c b)

/-- A valid STATUS frame; CODE_CONSTANT is known from snapshots only. -/
def parseStatus (codeConstant : Nat) (b : List Byte) : Option TwinStatus :=
  if b.length = 64 ∧ leAt b 0 2 = 0x4D53 ∧ leAt b 2 1 = 1 ∧ leAt b 0x3C 4 = crc32c (b.take 0x3C) then
    some
      { role := leAt b 3 1, runState := leAt b 4 1, flags := BitVec.ofNat 8 (leAt b 5 1), node := leAt b 6 1, stopTarget := leAt b 7 1
        boundary := leAt b 8 8, imageSequence := leAt b 0x10 4, imageCrc := leAt b 0x14 4, pairConfigCrc := leAt b 0x18 4
        loadSequence := leAt b 0x1C 4, loadImageCrc := leAt b 0x20 4, snapSeq := leAt b 0x24 4, exchangeTx := leAt b 0x28 8
        codeConstant := codeConstant }
  else none

/-- Frames pass between a pair member and its twin from release onwards, once PD49 is held in reset no more (R74, R517). -/
def State.linked (s : State) : Bool := s.rt.cycling && s.pairMember && !s.startingUp 49

/-- A pair member sends STATUS at each of its boundaries in Run, Hold and Service (R517). -/
def State.sendStatus (s : State) : State :=
  if s.linked && (s.rt.state == .run || s.rt.state == .hold || s.rt.state == .service) then
    { s with mirror.sentStatus := some s.ownStatus, mirror.sendStop := none }
  else { s with mirror.sentStatus := none, mirror.sendStop := none }

/-- A valid frame of the twin arrived: the link is not lost; a claim against a deasserted token is event 0x0B04, which holds until the two
agree again (R517, Table 18-10). -/
def State.frameValid (claim : Bool) (s : State) : State :=
  let m := s.mirror
  let disagree := claim && !m.twinToken
  let late := disagree && decide (m.twinTokenAt + us 10 ≤ s.now)
  let fault := if late then true else if claim == m.twinToken then false else m.tokenFault
  let s := { s with
    mirror.frameSeen := true
    mirror.linkOk := true
    mirror.missed := if m.linkOk then m.missed else 0
    mirror.claimSince := m.claimSince || disagree
    mirror.tokenFault := fault }
  if fault && !m.tokenFault then s.event 0x0B04 [] else s

/-- What is known of the CODE_CONSTANT of an image of the twin: that of its last STATUS, where this names the same image. -/
def State.knownConstant (s : State) (sequence crc : Nat) : Nat :=
  match s.mirror.twin with
  | some t => if t.imageSequence = sequence ∧ t.imageCrc = crc then t.codeConstant else 0
  | none => 0

/-- STATUS. -/
def State.statusFrame (data : List Byte) (s : State) : State :=
  if !s.linked then s
  else
    match parseStatus 0 data with
    | none => { s with mirror.linkErrors := sat32 (s.mirror.linkErrors + 1) }
    | some t =>
      let s := s.frameValid (t.flags.getLsbD 0)
      { s with
        mirror.twin := some { t with codeConstant := s.knownConstant t.imageSequence t.imageCrc }
        mirror.pairStop := if t.flags.getLsbD 1 then some t.stopTarget else s.mirror.pairStop }

def execStatus (dt : Nat) (data : List Byte) (s : State) : Host.Outcome State Fault Refusal := done ((s.elapse dt).statusFrame data)

/-- At a boundary: the boundaries since the last valid frame are counted, this one included (R517, Table 23-6). -/
def State.countMissed (s : State) : State :=
  { s with mirror.missed := if s.mirror.frameSeen then 1 else satAt 3 (s.mirror.missed + 1), mirror.frameSeen := false }

/-- MIRROR_LINK_LOST: three consecutive boundaries without a valid frame (R517). -/
def State.linkLost (s : State) : State :=
  if s.linked && s.mirror.linkOk && decide (3 ≤ s.mirror.missed) then
    (State.event 0x0B02 [] { s with mirror.linkOk := false, mirror.serving := false }).standbyJoins
  else s

def execMirrorLinkLost (dt : Nat) (s : State) : Host.Outcome State Fault Refusal := done (s.elapse dt).linkLost

/-! ### Snapshots sent (R518, R519, Table 18-4) -/

/-- Native bytes of a snapshot. -/
def nativeSize (stateSize conns : Nat) : Nat := stateSize + 128 + 16 * conns

/-- The words of a connection's record. -/
def connWords (c : Connection) : List (BitVec 32) :=
  [BitVec.ofNat 32 c.state, BitVec.ofNat 32 c.seqLast, BitVec.ofNat 32 (ts64 c.timeLast), BitVec.ofNat 32 (ts64 c.timeLast / 2 ^ 32)]

/-- The LE keeps the connection records and their twins in the mirrored areas. -/
def State.keepRecords (s : State) : State :=
  let words := s.zop.conns.flatMap connWords
  { s with le.connWords := words, le.connTwins := words.map (fun w => codeWord s.images.codeConstant w.toNat) }

/-- Records that fit a tail of 512 bytes, and those that wait (R519). -/
def fillTail : Nat → List (List Byte) → List Byte × List (List Byte)
  | _, [] => ([], [])
  | room, r :: rest =>
    if r.length ≤ room then
      let t := fillTail (room - r.length) rest
      (r ++ t.1, t.2)
    else ([], r :: rest)

/-- The frame of Table 18-4. -/
def snapshotBytes (claim : Bool) (seq tag : Nat) (i : ActiveImage) (a : Nat) (native coded tail : List Byte) : List Byte :=
  let b := leBytes 2 0x4D53 ++ leBytes 1 2 ++ leBytes 1 (bit claim) ++ leBytes 4 seq ++ leBytes 8 tag ++
    leBytes 4 (580 + 3 * native.length) ++ leBytes 4 i.sequence ++ leBytes 4 i.crc ++ leBytes 4 a ++ leBytes 4 native.length ++
    leBytes 2 tail.length ++ List.replicate 26 0 ++ native ++ coded ++ tail ++ List.replicate (512 - tail.length) 0
  b ++ leBytes 4 (crc32c b)

/-- The native section: instance states, output slots, connection records (R518). -/
def State.nativeSection (s : State) (i : ActiveImage) : List Byte :=
  (s.areaBytes false 0 ((i.stateSize + 63) / 64)).take i.stateSize ++
    (s.le.outputs ++ s.le.connWords).flatMap (fun (w : BitVec 32) => leBytes 4 w.toNat)

/-- The coded section: their twins as shadow RAM holds them. -/
def State.codedSection (s : State) (i : ActiveImage) : List Byte :=
  (s.areaBytes true 0 ((i.stateSize + 63) / 64)).take (2 * i.stateSize) ++
    (s.le.outputsCoded ++ s.le.connTwins).flatMap (fun (c : BitVec 64) => leBytes 8 c.toNat)

/-- At the hand-over the active unit captures the cycle's state and sends it. -/
def State.captureSnapshot (s : State) : State :=
  match s.images.image with
  | none => s
  | some i =>
    if !(s.pairMember && s.rt.state == .run) then s
    else
      let s := s.keepRecords
      if s.mirror.role != 1 then s
      else
        let (tail, waiting) := fillTail 512 s.mirror.tail
        let seq := wrap32 (s.mirror.seqSent + 1)
        let bytes := snapshotBytes s.mirror.token seq (ts64 s.rt.passTag) i s.images.codeConstant (s.nativeSection i) (s.codedSection i) tail
        { s with mirror.seqSent := seq, mirror.tail := waiting, mirror.sentSnapshot := some { bytes := bytes, blocks := s.lib.blocks } }

/-! ### Snapshots received and committed (R521, R522, R525, R532) -/

/-- The bank of the image a snapshot must match: the active one, or the load target's when it names that image (R521, R532). -/
def State.snapshotBank (s : State) (sequence crc : Nat) : Nat :=
  let own := match s.images.image with | some i => i.sequence == sequence && i.crc == crc | none => false
  if !own && s.bankValid s.loadTarget && s.loadNames == (sequence, crc) then s.loadTarget else s.images.active

/-- A coded word is the twin of a native word (R205, R521). -/
def twinOk (a : Nat) (w : BitVec 32) (c : BitVec 64) : Bool :=
  match codedQuotient a c with
  | some q => nativeOf q == w
  | none => false

/-- SNAP_SEQ `n` exceeds `o` modulo 2^32, as R493 compares. -/
def seqAfter (n o : Nat) : Bool :=
  let d := (n + 2 ^ 32 - o % 2 ^ 32) % 2 ^ 32
  decide (1 ≤ d) && decide (d < 2 ^ 31)

/-- `n` numbers of `size` bytes each. -/
def numbers (size : Nat) : Nat → List Byte → List Nat
  | 0, _ => []
  | n + 1, b => ofLe (b.take size) :: numbers size n (b.drop size)

/-! Fields of a snapshot frame (Table 18-4). -/

def snapClaim (f : SnapshotFrame) : Bool := bitOf (leAt f.bytes 3 1) 0
def snapSeq (f : SnapshotFrame) : Nat := leAt f.bytes 4 4
def snapTag (f : SnapshotFrame) : Nat := leAt f.bytes 8 8
def snapLength (f : SnapshotFrame) : Nat := leAt f.bytes 0x10 4
def snapImage (f : SnapshotFrame) : Nat × Nat := (leAt f.bytes 0x14 4, leAt f.bytes 0x18 4)
def snapConstant (f : SnapshotFrame) : Nat := leAt f.bytes 0x1C 4
def snapN (f : SnapshotFrame) : Nat := leAt f.bytes 0x20 4

/-- The words of the native section. -/
def snapWords (f : SnapshotFrame) : List (BitVec 32) := (numbers 4 (snapN f / 4) (f.bytes.drop 0x40)).map (BitVec.ofNat 32)

/-- The words of the coded section. -/
def snapTwins (f : SnapshotFrame) : List (BitVec 64) :=
  (numbers 8 (snapN f / 4) (f.bytes.drop (0x40 + snapN f))).map (BitVec.ofNat 64)

/-- The event records of the tail. -/
def snapTail (f : SnapshotFrame) : List Byte := (f.bytes.drop (0x40 + 3 * snapN f)).take (min 512 (leAt f.bytes 0x24 2))

/-- The CRC at the end matches. -/
def snapCrcOk (f : SnapshotFrame) : Bool :=
  let n := f.bytes.length - 4
  decide (0x44 ≤ f.bytes.length) && leAt f.bytes n 4 == crc32c (f.bytes.take n)

/-- Every reserved field is 0. -/
def snapReserved (f : SnapshotFrame) : Bool := decide (leAt f.bytes 3 1 < 2) && ((f.bytes.drop 0x26).take 26).all (· == 0)

/-- The frame was cut short: it is neither complete nor rejected (R521). -/
def snapCut (f : SnapshotFrame) : Bool :=
  !snapCrcOk f && (decide (f.bytes.length < 0x44) || decide (f.bytes.length < snapLength f))

/-- The channel slots that a snapshot carries behind `size` bytes of instance state. -/
def snapSlots (size : Nat) (f : SnapshotFrame) : BitVec 32 :=
  BitVec.ofNat 32 ((((snapWords f).drop (size / 4)).take 32).foldr (fun w n => bit (w != 0) + 2 * n) 0)

/-- A snapshot whose bytes have all arrived is complete (R521). -/
def State.snapshotOk (s : State) (f : SnapshotFrame) : Bool :=
  let bank := s.snapshotBank (snapImage f).1 (snapImage f).2
  let img := s.loadImage bank
  let conns := (s.loadConnections bank).length
  let a := (s.imageHeader bank).codeConstant
  let t := us s.rt.cycleUs
  s.images.active != 0 && leAt f.bytes 0 3 == 0x24D53 && snapCrcOk f && snapReserved f && f.bytes.length == snapLength f &&
    snapLength f == snapshotSize img.stateSize conns && snapN f == nativeSize img.stateSize conns &&
    snapTag f % t == 0 && decide (s.rt.boundary ≤ snapTag f + 2 * t) && decide (snapTag f ≤ s.rt.boundary) &&
    (match s.mirror.store with | some p => seqAfter (snapSeq f) (snapSeq p) | none => true) &&
    ((snapWords f).zip (snapTwins f)).all (fun p => twinOk a p.1 p.2)

/-- SNAPSHOT_RECEIVED. -/
def State.receiveSnapshot (f : SnapshotFrame) (s : State) : State :=
  if !s.linked || snapCut f then s
  else
    let s := if snapCrcOk f then
        let t := s.frameValid (snapClaim f)
        { t with mirror.twin := t.mirror.twin.map (fun x =>
          if snapImage f = (x.imageSequence, x.imageCrc) then ({ x with codeConstant := snapConstant f } : TwinStatus) else x) }
      else { s with mirror.linkErrors := sat32 (s.mirror.linkErrors + 1) }
    if !(s.rt.state == .run && (s.mirror.role == 2 || s.mirror.role == 3)) then s
    else if s.snapshotOk f then { s with mirror.store := some f, mirror.storeNew := true }
    else State.eventLimited 0x0B01 0 (ms 1000) [] { s with mirror.rejectCount := sat32 (s.mirror.rejectCount + 1) }

def execSnapshotReceived (dt : Nat) (frame : SnapshotFrame) (s : State) : Host.Outcome State Fault Refusal :=
  done ((s.elapse dt).receiveSnapshot frame)

/-- A record of the twin is newer than the last one entered from its node (R584). -/
def Ledger.newer (l : Ledger) (r : EventRecord) : Bool :=
  match l.mirrored.find? (fun e => e.1 == r.node) with
  | none => true
  | some e => r.epoch != e.2.1 || decide (e.2.2 < r.origin)

/-- Enter one record of the twin. -/
def State.enterTwin (r : EventRecord) (s : State) : State :=
  if s.ledger.newer r then
    State.logRecord { r with flags := r.flags ||| 2, waiting := true } { s with
      ledger.mirrored := s.ledger.mirrored.filter (fun e => e.1 != r.node) ++ [(r.node, r.epoch, r.origin)] }
  else s

/-- The records of a payload or tail: one with EVENT_SEQ 0 ends the sequence (R579). -/
def tailRecords : Nat → List Byte → List EventRecord
  | 0, _ => []
  | fuel + 1, b =>
    if b.length < 26 ∨ leAt b 0 4 = 0 then []
    else parseEvent b :: tailRecords fuel (b.drop (26 + leAt b 0x19 1))

/-- Commits K in succession make a joining unit standby (R525). -/
def State.joinCount (s : State) (f : SnapshotFrame) : Nat :=
  if s.boot.retainedStatus.getLsbD 1 && s.mirror.retainedImage == some (snapImage f) then 2 else 8

/-- A connection takes its record: state, SEQ or LAST, and the TIMESTAMP of the last frame (R518, R522, log entry 38). -/
def commitConn (c : Connection) (record : List (BitVec 32)) : Connection :=
  let at_ := joinHalves (record.getD 2 0) (record.getD 3 0)
  let last := (record.getD 1 0).toNat
  { c with
    state := (record.getD 0 0).toNat
    seqLast := last
    timeLast := at_
    seqNext := if c.role = 2 then last else c.seqNext
    wdFrom := if c.role = 2 then at_ else c.wdFrom }

/-- A block of the image that runs takes the state that a snapshot carries for its instance. The acknowledge input is the unit's own: one at
the value last seen has made no edge (R363, R513). -/
def State.commitBlock (s : State) (from_ : List Block) (b : Block) : Block :=
  match from_.find? (fun x => x.id == b.id && x.type == b.type) with
  | some x =>
    let src := ackSource b
    { x with
      presetImmediate := b.presetImmediate, stateOffset := b.stateOffset, params := b.params
      ackIn := x.ackIn.map (fun e => if src < 32 ∧ e.value = s.frozenAt src then ({ e with time := s.edgeAt src } : Edge) else e) }
  | none => b

/-- Write a snapshot into the mirrored areas, tag the logic area for its image and post its tail to the LE; the first one of a new image
switches the active bank and, as an online exchange, restarts the window (R194, R522, R532). Without a record in the tail nothing is posted
(DESIGN CHOICE, log entry 152). -/
def State.writeSnapshot (f : SnapshotFrame) (s : State) : State :=
  let bank := s.snapshotBank (snapImage f).1 (snapImage f).2
  let s := if bank = s.images.active then s
    else
      let fresh := s.loadConnections bank
      let old := s.zop.conns
      ((State.exchangeConns fresh { s.selectImage bank with zop.conns := old }).storeSelect bank).restartWindow
  match s.images.image with
  | none => s
  | some i =>
    let n := i.stateSize / 4
    let words := snapWords f
    let twins := snapTwins f
    let s := s.putArea false 0 ((words.take n).flatMap (fun (w : BitVec 32) => leBytes 4 w.toNat))
    let s := s.putArea true 0 ((twins.take n).flatMap (fun (c : BitVec 64) => leBytes 8 c.toNat))
    let records := words.drop (n + 32)
    let s := { s with
      le.outputs := (words.drop n).take 32
      le.outputsCoded := (twins.drop n).take 32
      le.connWords := records
      le.connTwins := twins.drop (n + 32)
      lib.blocks := s.lib.blocks.map (s.commitBlock f.blocks)
      zop.conns := s.zop.conns.mapIdx (fun k c => commitConn c (records.drop (4 * k))) }
    let s := s.tagLogic i.stateSize i.stackSize
    if (snapTail f).isEmpty then s else s.addTasks .me [.deliver { target := .le, kind := 7, payload := snapTail f }]

/-- The newest complete snapshot received since the entry to Run; a boundary that the passes overrun takes none of another image. -/
def State.newestSnapshot (s : State) : Option SnapshotFrame :=
  if !s.mirror.storeNew then none
  else s.mirror.store.filter (fun f => !s.rt.passesRunning || s.snapshotBank (snapImage f).1 (snapImage f).2 == s.images.active)

/-- At each of its boundaries a standby or joining unit commits the newest complete snapshot, and a boundary that only repeats one, or
commits none, is stale (R522, R525). -/
def State.commitBoundary (s : State) : State :=
  if !(s.rt.state == .run && (s.mirror.role == 2 || s.mirror.role == 3)) then s
  else
    let snap := s.newestSnapshot
    let isNew := match snap with
      | some f => s.mirror.committed.isNone || snapSeq f != s.mirror.seqCommitted
      | none => false
    let s := if isNew then s else { s with mirror.stale := if s.mirror.stale < 3 then s.mirror.stale + 1 else s.mirror.stale }
    match snap with
    | none => s
    | some f =>
      let next := s.mirror.committed.isSome && snapSeq f == wrap32 (s.mirror.seqCommitted + 1)
      let joined := if !isNew then s.mirror.joined else if next then satAt 8 (s.mirror.joined + 1) else 1
      let s := s.writeSnapshot f
      let size := match s.images.image with
        | some i => i.stateSize
        | none => 0
      { s with
        mirror.seqCommitted := snapSeq f
        mirror.committed := some (snapTag f, snapSlots size f)
        mirror.stale := if isNew then 0 else s.mirror.stale
        mirror.joined := joined
        mirror.role := if s.mirror.role = 3 ∧ s.joinCount f ≤ joined then 2 else s.mirror.role }

/-- The commit of this boundary takes 1.25 ns a byte of 3N (R522); it is also made at the boundary of a takeover (R528). -/
def State.commitTicks (s : State) : Nat :=
  let m := s.mirror
  let commits := m.committed.isSome && (m.role == 2 || m.role == 3 || (m.role == 1 && decide (m.takeoverTime = s.rt.boundary)))
  match s.images.image with
  | some i => if commits then (3 * nativeSize i.stateSize s.zop.conns.length + 7) / 8 else 0
  | none => 0

/-- SNAPSHOT_STALE: three consecutive stale boundaries are cause 0x0B0A, recorded once (R522). -/
def State.snapshotStale (s : State) : State :=
  if s.linked && s.mirror.stale = 3 then (State.event 0x0B0A [] { s with mirror.stale := 4 }).standbyJoins else s

def execSnapshotStale (dt : Nat) (s : State) : Host.Outcome State Fault Refusal := done (s.elapse dt).snapshotStale

/-! ### Roles and takeover (R524, R526 to R530) -/

/-- A pair member enters Run: its role is decided 10 µs later (R524). -/
def State.enterPair (s : State) : State :=
  { s with
    mirror.roleDue := s.pairMember
    mirror.pairStop := none
    mirror.stale := 0
    mirror.joined := 0
    mirror.committed := none
    mirror.storeNew := false
    mirror.placeFrom := 0
    mirror.retainedImage := s.mirror.store.map snapImage }

/-- A unit leaves Run: its role ends, its token stops and records that wait for a tail are discarded (R510, R514, R519). -/
def State.leavePair (s : State) : State :=
  { s with
    mirror.role := 0, mirror.token := false, mirror.roleDue := false, mirror.tail := [], mirror.committed := none, mirror.storeNew := false
    mirror.contentionSince := none, mirror.sentSnapshot := none }

/-- The role of Table 18-5. -/
def State.entryRole (s : State) : Nat :=
  match s.mirror.twin with
  | some t =>
    let now := t.boundary == s.rt.runSince
    let rival := now && t.flags.getLsbD 4
    let theirs := t.flags.getLsbD 5
    if s.mirror.twinToken || (now && t.role == 1) then 3
    else if rival && theirs && !s.mirrorPreferActive then 3
    else if rival && theirs == s.mirrorPreferActive && decide (t.node < s.zop.nodeId) then 3
    else 1
  | none => if s.mirror.twinToken then 3 else 1

/-- ROLE_DECISION, 10 µs after the boundary that entered Run. -/
def State.roleDecision (s : State) : State :=
  if s.rt.state == .run && s.mirror.roleDue && decide (s.rt.runSince + us 10 ≤ s.now) then
    State.tryToken { s with mirror.roleDue := false, mirror.role := s.entryRole }
  else s

def execRoleDecision (dt : Nat) (s : State) : Host.Outcome State Fault Refusal := done (s.elapse dt).roleDecision

/-- The snapshot committed at this boundary is fresh (R527). -/
def State.snapshotFresh (s : State) : Bool :=
  match s.mirror.committed with
  | some (tag, _) => decide (s.rt.boundary ≤ tag + 2 * us s.rt.cycleUs)
  | none => false

/-- Cable and health of R527; a token fault and a PAIR_STOP bar the takeover (Table 18-10, R526). -/
def State.standbyFit (s : State) : Bool :=
  s.rt.state == .run && s.mirror.role == 2 && s.mirror.loopOk && !s.field.safeState && !s.mirror.tokenFault && s.mirror.pairStop.isNone

/-- ELIGIBLE: every condition of R527 other than token loss. -/
def State.eligible (s : State) : Bool := s.standbyFit && s.snapshotFresh && !s.mirror.claimSince

/-- The actions of a takeover at this boundary (R528). The snapshots it sends go on from the last one committed (DESIGN CHOICE, log entry
153). -/
def State.takeOver (s : State) : State :=
  let n := sat32 (s.mirror.takeovers + 1)
  let s := { s with
    mirror.role := 1
    mirror.takeoverTime := s.rt.boundary
    mirror.takeovers := n
    mirror.placeFrom := s.rt.boundary
    mirror.seqSent := s.mirror.seqCommitted
    mirror.sentSnapshot := none }
  let s := ((s.persist keyTakeovers 4 n).event 0x0B08 []).tryToken
  (s.restartWindow).restartProducers

/-- TAKEOVER_DECISION, 10 µs after a boundary: with the twin's token deasserted from 10 µs before it on, an eligible standby takes over; one
that is fit but lacks a fresh snapshot enters SafeStop by cause 0x0B06 (R527, R530, log entry 40). -/
def State.takeoverDecision (s : State) : State :=
  let lost := !s.mirror.twinToken && decide (s.mirror.twinTokenAt + us 10 ≤ s.rt.boundary)
  if s.standbyFit && lost && decide (s.rt.boundary + us 10 ≤ s.now) then
    if s.eligible then s.takeOver else if s.mirror.claimSince then s else s.recoverable 0x0B06 []
  else s

def execTakeoverDecision (dt : Nat) (s : State) : Host.Outcome State Fault Refusal := done (s.elapse dt).takeoverDecision

/-! ### Replacing a unit (R533) -/

/-- A write of `MIRROR_REPLACE`: a copy is requested from the twin. -/
def State.replaceWrite (a : Access) (s : State) : State := State.accept a { s with mirror.replace := 1 }

/-- MIRROR_REPLACE. -/
def execMirrorReplace (dt : Nat) (r : Req) (value : Nat) (s : State) : Host.Outcome State Fault Refusal :=
  done ((s.elapse dt).takeRow (rowAccess r 0x5800 0xE value))

/-- COPY_REQUEST: the twin asks for a copy, which this unit serves in any state from Hold onwards. -/
def execCopyRequest (dt : Nat) (s : State) : Host.Outcome State Fault Refusal :=
  let s := s.elapse dt
  done (if s.released && s.pairMember then { s with mirror.serving := true } else s)

/-- The copy's image goes into the load target and is validated there. -/
def State.copyImage (image : List Byte) (s : State) : State :=
  let bank := s.loadTarget
  let erases := (s.images.bank bank).erases
  let s := { s with le.flash := cellWrite erasedByte (bankBase bank) (image.take 0x40000) (cellClear (bankBase bank) 0x40000 s.le.flash) }
  let s := s.modImageBank bank (fun _ => { state := .validating, reason := 1, erases := erases, complete := true })
  let s := s.validateBank bank
  if s.bankValid bank then { s with mirror.selectDue := some bank } else s

/-- The bank of a replacement copy is selected once the unit is in Hold (R378, R533). -/
def State.selectCopied (s : State) : State :=
  match s.mirror.selectDue with
  | some bank =>
    if s.rt.state == .hold then
      let s := { s with mirror.selectDue := none }
      if s.bankValid bank then (s.selectImage bank).syncHeld.storeSelect bank else s
    else s
  | none => s

/-- REPLACEMENT_COPY_END: every object of the pair configuration set takes the twin's value at the next boundary; a failure leaves
everything as it was and is event 0x0B09. A copy whose image the closed gate, or held-back data, keeps from its bank has not ended (R62,
R64; DEDUCED, log entry 120). -/
def State.copyEnd (ok : Bool) (values : List (Nat × Nat)) (image : List Byte) (s : State) : State :=
  if s.mirror.replace ≠ 1 ∨ (ok = true ∧ (s.power.gateClosed = true ∨ s.store.heldLeft ≠ 0)) then s
  else if ok then
    let twin := s.mirrorPartner
    let writes := (values.filter (fun v => pairKey v.1 && configObjects.any (fun o => o.1 == v.1))).map (fun v =>
      let len := ((configObjects.find? (fun o => o.1 == v.1)).map (fun o => o.2.1)).getD 0
      ({ requester := twin, channel := .zops, confirmed := false, index := v.1 / 256, sub := v.1 % 256, type := 0, value := v.2, len := len,
         isCopy := true } : QueuedWrite))
    State.copyImage image { s with mirror.replace := 2, dict.queued := s.dict.queued ++ writes }
  else State.event 0x0B09 [] { s with mirror.replace := 3 }

def execReplacementCopyEnd (dt : Nat) (ok : Bool) (values : List (Nat × Nat)) (image : List Byte) (s : State) :
    Host.Outcome State Fault Refusal :=
  done ((s.elapse dt).copyEnd ok values image)

end Sys2Proof.Machine
end

