-- ==== Sys2Proof/Machine/Flags.lean ====
section
/-!
DEFINITION. Machine/Flags.lean: the status words of the chapters (Tables 2-8, 3-7, 4-12, 5-14, 6-8, 7-7, 8-6, 9-7 to 9-9, 10-5, 10-6, 11-7,
11-8, 14-10, 15-11, 17-15, 18-9, 20-4, 20-5), each computed from the state it reports. Reserved bits read 0 (R24).
-/

namespace Sys2Proof.Machine

/-- Flags from bit 0 upwards as a number. -/
def flags : List Bool → Nat
  | [] => 0
  | b :: r => bit b + 2 * flags r

/-- `ENTRY_STATUS` (Table 2-8). -/
def State.entryStatus (s : State) : Nat :=
  flags [s.power.mainsOk, s.power.auxOk, s.power.pfw, s.power.gateClosed, s.holdupDegraded]

/-- `CLOCK_STATUS` (Table 3-7). -/
def State.clockStatus (s : State) : Nat := flags [s.clock.pllLock, s.clock.monitorOk, s.clock.trimValid]

/-- `BIST_STATUS` (Table 4-12). -/
def State.bistStatus (s : State) : Nat := 256 * s.boot.groupRun.toNat + s.boot.groupFail.toNat

/-- `LIFECYCLE_STATUS` (Table 5-14). LC_VALID and LC_INCOMPLETE are those of the last start: DESIGN CHOICE (log entry 142). -/
def State.lifecycleStatus (s : State) : Nat :=
  flags [s.otp.lcValid, s.otp.lcIncomplete, s.otp.debugOff, s.otp.shadow.isSome]

/-- The passes run in this cycle (Table 6-6), where there is an image to run. -/
def State.passesActive (s : State) : Bool := s.logicState && s.images.image.isSome && s.service.bistFrom.isNone && !(s.rt.state == .service && s.rt.encoding.isSome) &&
  !s.passes.halted

/-- `SIG_STATUS` (Table 6-8). -/
def State.sigStatus (s : State) : Nat :=
  let p := s.passes
  flags [p.mismatch, p.codedTrap, p.decodeTrap, p.disagree, s.passesActive, p.split || p.halted, p.halted, p.split]

/-- `MPU_STATUS` (Table 7-7). -/
def State.mpuStatus (s : State) : Nat := flags [s.le.isSealed, s.le.denyAll, s.le.violation]

/-- Codes of OWNER and HOME (Table 8-6). -/
def ownerCode : Owner → Nat
  | .free => 0 | .le => 1 | .ce => 2 | .me => 3

/-- `XCH_BUFFER_STATE` of buffer `n` (Table 8-6). -/
def State.bufferState (s : State) (n : Nat) : Nat :=
  let b := s.buffer n
  (if b.busy.isSome || b.masked then 0 else ownerCode b.owner) * 2 ^ 62 + ownerCode (homeOf n) * 2 ^ 60 +
    flags [b.ue, b.queued, b.masked, b.busy.isSome] * 2 ^ 56 + b.kind * 2 ^ 48 + b.seq * 2 ^ 32 + b.len * 2 ^ 16

/-- `CH_STATE` of CHn (Table 9-7). -/
def State.chState (s : State) (n : Nat) : Nat :=
  let c := s.ch n
  let out := isOutputMode c.mode
  flags [c.frozen, c.on && c.raw, out && c.command, out && c.readback, c.readbackFault, (s.bank (n / 8)).faultNow, s.field.safeState,
    s.supplyLow n, c.init, !c.on]

/-- `BANK_STATUS` (Table 9-8). -/
def State.bankStatus (s : State) : Nat :=
  flags ((List.range 4).flatMap (fun b =>
    let k := s.bank b
    [k.faultNow, k.faultLatched, k.railClosed, s.safetyBank b]))

/-- `FS_STATUS` (Table 9-9). -/
def State.fsStatus (s : State) : Nat :=
  flags [!s.field.fs1.low, !s.field.fs2.low, s.supplyRequired 1, s.supplyRequired 2]

/-- `GLINT_STATUS` (Table 10-5). -/
def State.glintStatus (s : State) : Nat :=
  flags [s.glintActive, s.glint.fault] + 256 * (s.glintCodes.foldl (fun v c => v + 2 ^ c) 0)

/-- `CNT_STATUS` of counting input `n` (Table 10-6). -/
def State.cntStatus (s : State) (n : Nat) : Nat :=
  let c := s.counter n
  flags [(s.ch (28 + n)).on && (s.ch (28 + n)).raw, c.fStopped, c.overrun]

/-- `AN_STATUS` (Table 11-7). -/
def State.anStatus (s : State) : Nat :=
  flags ((List.range 4).map (fun p => (s.pair p).on) ++ (List.range 4).map (fun p => (s.pair p).syncAt.isSome))

/-- `AN_PAIR_STATE` of pair `p` (Table 11-8). -/
def State.pairState (s : State) (p : Nat) : Nat :=
  let q := s.pair p
  flags [q.refFault, q.modFault, q.a.fFlags.getLsbD 1, q.b.fFlags.getLsbD 1, q.disagreeFault, q.disagree, q.syncing, !q.on]

/-- `STORE_STATUS` (Table 14-10). -/
def State.storeStatus (s : State) : Nat :=
  let t := s.store
  flags [t.ready, t.erase.isSome, s.eraseSuspended, t.initialised, t.recovered, decide (t.config.credit ≤ 0), decide (t.event.credit ≤ 0),
    t.areaLow]

/-- `DICT_STATUS` (Table 15-11). -/
def State.dictStatus (s : State) : Nat := flags [!s.dict.slots.isEmpty, s.dict.configChanged, s.dict.restored]

/-- `CAN_A_STATUS` and `CAN_B_STATUS` (Table 17-15). Error passive from 128 on either counter: PRESUMED, the CAN protocol's rule (log
entry 41). -/
def State.canStatus (s : State) (c : CanState) : Nat :=
  let esi := match c.esiAt with | some t => decide (s.localNow < t + ms 1000) | none => false
  let count (n : Nat) : Bool := decide (n ≤ c.tec) || decide (n ≤ c.rec_)
  flags [c.enabled, count 96, count 128 && !c.busOff, c.busOff, c.recovering, esi, c.disabled] + satAt 255 c.tec * 256 +
    satAt 255 c.rec_ * 65536

/-- DEGRADED: active without a standby twin. -/
def State.degraded (s : State) : Bool :=
  s.mirror.role == 1 && !(s.mirror.linkOk && (match s.mirror.twin with | some t => t.role == 2 | none => false))

/-- `MIRROR_STATE` (Table 18-9). -/
def State.mirrorState (s : State) : Nat :=
  let m := s.mirror
  flags [false, m.pairStop.isSome, s.degraded, m.twinToken, s.eligible, s.pairAgrees, m.linkOk, m.loopOk, m.tokenFault,
    m.token && m.twinToken] + m.replace * 1024

/-- `DEBUG_STATUS` (Table 20-4). -/
def State.debugStatus (s : State) : Nat :=
  let v := s.service
  flags [false, false, s.passes.split, v.haltArmed, s.passes.halted, v.simActive, v.bistFrom.isSome, v.session]

/-- Tested or Returned (Table 20-2). -/
def State.workshop (s : State) : Bool := s.otp.lifecycle == 2 || s.otp.lifecycle == 5

/-- KIND 0x03 is permitted (R562, R568). -/
def State.memoryPermitted (s : State) : Bool := s.workshop && s.passes.halted

/-- The recovery loader is offered (R573): the boot ROM holds the unit in Boot after three boot failures or for want of a valid bank (R122,
R125), in a lifecycle state that has the loader (Table 20-2). -/
def State.loaderPermitted (s : State) : Bool := s.otp.lifecycle == 1 || s.workshop
def State.loaderOffered (s : State) : Bool := s.startBarred && s.loaderPermitted

/-- `SERVICE_PORT_STATUS` (Table 20-5). -/
def State.portStatus (s : State) : Nat :=
  flags [s.service.session, s.loaderPermitted, s.loaderOffered, s.memoryPermitted]

end Sys2Proof.Machine
end

