-- ==== Sys2Proof/Machine/Otp.lean ====
section
/-!
DEFINITION. Machine/Otp.lean: the OTP objects and commands (R158 to R167, R175 to R179).
-/

namespace Sys2Proof.Machine

/-! ### Staging (R161) -/

/-- Content of the section a select code names, as `OTP_SELECT` loads it: a Keys section, or none, as 0. -/
def Otp.stagedContent (o : Otp) (code : Nat) : BitVec 512 :=
  match sectionOfSelect code with
  | some .keysFactory | some .keysOem | none => 0
  | some sec => BitVec.ofNat 512 (o.content sec)

/-- A write of `OTP_SELECT` takes effect: the content is the one currently read. -/
def State.selectSection (code : Nat) (s : State) : State :=
  let s := s.senseFuses
  { s with otp.select := code, otp.offset := 0, otp.staging := s.otp.stagedContent code }

/-- The staging word at `OTP_OFFSET`. -/
def Otp.stagingWord (o : Otp) : Nat := (o.staging >>> o.offset).toNat % 2 ^ 32

/-- A write of `OTP_DATA` changes the staging word at `OTP_OFFSET` and nothing else. -/
def State.stageWord (value : Nat) (s : State) : State :=
  let rest := s.otp.staging &&& ~~~((0xFFFFFFFF : BitVec 512) <<< s.otp.offset)
  { s with otp.staging := rest ||| (BitVec.ofNat 512 (value % 2 ^ 32) <<< s.otp.offset) }

/-- An OTP write is refused with an `OTP_OP_STATUS` code. -/
def State.otpRefuse (a : Access) (code status : Nat) (s : State) : State :=
  { (s.reject a code (if code = 0x800E then status else 0)) with otp.opStatus := status }

/-- A staging write while a command runs is refused with 0x88 (R162). -/
def State.stagingWrite (a : Access) (effect : State → State) (s : State) : State :=
  if s.otp.running.isSome then s.otpRefuse a 0x800E 0x88 else (effect s).accept a

/-- The write of `OTP_SELECT`, `OTP_OFFSET` or `OTP_DATA` reaches its owner. -/
def State.otpStaging (a : Access) (s : State) : State :=
  s.stagingWrite a (fun s =>
    if a.sub = 5 then s.selectSection a.value
    else if a.sub = 6 then { s with otp.offset := a.value }
    else s.stageWord a.value)

def execOtpSelect (dt : Nat) (r : Req) (value : Nat) (s : State) : Host.Outcome State Fault Refusal :=
  done ((s.elapse dt).takeRow (rowAccess r 0x2300 5 value))

def execOtpData (dt : Nat) (r : Req) (value : Nat) (s : State) : Host.Outcome State Fault Refusal :=
  done ((s.elapse dt).takeRow (rowAccess r 0x2300 7 value))

/-! ### Permissions (Table 5-6) -/

/-- Lifecycle states in which a section can be burned or finalised. -/
def burnStates : OtpSection → List Nat
  | .identity => [1] | .trim => [1, 2] | .repairT => [2] | .repairR => [5] | .keysFactory => [1] | .keysOem => [3]
  | .protection => [1, 2] | .user => [3, 4, 5] | .lifecycle => []

/-- Lifecycle states in which a section can be tried. -/
def trialStates : OtpSection → List Nat
  | .trim | .repairT => [2]
  | .repairR => [5]
  | _ => []

/-- `ADVANCE` to `target` completes a pending ADV field (R166). -/
def Otp.completes (o : Otp) (target : Nat) : Bool :=
  match o.lifecycleRegion with
  | .incomplete i => decide (i < 5) && target == i + 2
  | _ => false

/-- The conditions of Table 5-9 for the transition that leaves lifecycle state `lc`. -/
def State.transitionMet (lc : Nat) (s : State) : Bool :=
  let fin (sec : OtpSection) : Bool := s.otp.reported sec == 2
  match lc with
  | 1 => fin .identity && fin .keysFactory
  | 2 => fin .trim && fin .repairT && fin .protection && s.otp.coldClean && s.otp.shadow.isNone
  | 3 => fin .keysOem && (s.otp.reported .user == 0 || fin .user)
  | _ => true

/-- Refusal of `OTP_COMMAND` = `cmd` on the selected section: access code and `OTP_OP_STATUS`; (0, 0) where it is accepted.
With no section selected the status is 0x81: DESIGN CHOICE (log entry 139). -/
def State.otpRefusal (s : State) (cmd : Nat) : Nat × Nat :=
  let lc := s.otp.lifecycle
  if s.otp.running.isSome then (0x800E, 0x88)
  else match cmd with
    | 1 | 2 => match sectionOfSelect s.otp.select with
      | none => (0x800E, 0x81)
      | some sec =>
        if !(burnStates sec).contains lc then (0x800F, 0x81)
        else if cmd = 1 ∧ s.otp.digestField sec ≠ 0 then (0x800E, 0x85)
        else if cmd = 2 ∧ (s.otp.status lc sec = 2 ∨ s.otp.status lc sec = 4) then (0x800E, 0x85)
        else (0, 0)
    | 3 =>
      let target := s.otp.stagingWord % 256
      if s.otp.completes target then (0, 0)
      else if target = lc + 1 ∧ target ≤ 6 ∧ s.transitionMet lc = true then (0, 0)
      else (0x800E, 0x86)
    | 4 => match sectionOfSelect s.otp.select with
      | none => (0x800E, 0x81)
      | some sec => if (trialStates sec).contains lc && s.otp.regionValid then (0, 0) else (0x800F, 0x81)
    | 6 => if lc ≤ 5 then (0, 0) else (0x800F, 0x81)
    | _ => (0, 0)

/-! ### Starting a command (R162 to R167) -/

/-- Reserved bits of a section that are staged as 1 (Table 5-3), or a Repair entry with VALID = 1 that is not valid (R163). -/
def stagedInvalid (sec : OtpSection) (v : Nat) : Bool :=
  let m := sectionMap sec
  let above (n : Nat) : Bool := v % 2 ^ m.size / 2 ^ n != 0
  match sec with
  | .identity => above 192
  | .trim => above 280
  | .keysFactory | .keysOem => above 256
  | .repairT | .repairR =>
    (List.range (m.size / 32)).any (fun i => let e := v / 2 ^ (32 * i) % 2 ^ 32; bitOf e 31 && !entryValid e)
  | _ => false

/-- Some bit reads 1 where `v` holds 0. -/
def conflicts (burned v : Nat) : Bool := burned &&& v != burned

/-- The checks before the first fuse: the status a `BURN` or `FINALISE` stops with, 0 where it goes on (R163, R177). -/
def State.startStatus (s : State) (cmd : Nat) (sec : OtpSection) : Nat :=
  let v := s.otp.staging.toNat % 2 ^ (sectionMap sec).size
  if conflicts (s.otp.content sec) v then 0x83
  else if cmd = 2 ∧ conflicts (s.otp.digestField sec) (digestOf sec v) = true then 0x83
  else if stagedInvalid sec v then 0x89
  else 0

/-- A burning command begins: busy, or paused while the gate is closed; PD54 switches on (R72, R175). -/
def State.startRun (run : OtpRun) (s : State) : State :=
  State.applyDomains { s with
    otp.running := some { run with since := s.localNow }
    otp.opStatus := if s.power.gateClosed then 0x02 else 0x01
    otp.progress := 0 }

/-- An accepted `OTP_COMMAND` begins or, for a trial, completes. The comparison and the burning take the section as read (R163, R164). -/
def State.startOtp (cmd : Nat) (s : State) : State :=
  let s := s.senseFuses
  match cmd with
  | 1 | 2 => match sectionOfSelect s.otp.select with
    | some sec =>
      let st := s.startStatus cmd sec
      if st = 0 then s.startRun { code := cmd, sel := sec, item := 0 } else { s with otp.opStatus := st }
    | none => s
  | 3 => s.startRun { code := 3, sel := .lifecycle, item := s.otp.stagingWord % 256 - 2 }
  | 4 => { s with otp.shadow := some (s.otp.select, s.otp.staging), otp.opStatus := 0x03 }
  | 5 => { s with otp.shadow := none, otp.opStatus := 0x03 }
  | 6 => s.startRun { code := 6, sel := .lifecycle, item := 5 }
  | _ => s

/-- `OTP_COMMAND` reaches its owner. -/
def State.otpCommand (a : Access) (s : State) : State :=
  match s.otpRefusal a.value with
  | (0, _) => (s.startOtp a.value).accept a
  | (code, status) => s.otpRefuse a code status

def execBurn (dt : Nat) (r : Req) (s : State) : Host.Outcome State Fault Refusal :=
  done ((s.elapse dt).takeRow (rowAccess r 0x2300 8 1))

def execFinalise (dt : Nat) (r : Req) (s : State) : Host.Outcome State Fault Refusal :=
  done ((s.elapse dt).takeRow (rowAccess r 0x2300 8 2))

def execAdvance (dt : Nat) (r : Req) (s : State) : Host.Outcome State Fault Refusal :=
  done ((s.elapse dt).takeRow (rowAccess r 0x2300 8 3))

def execTrialApply (dt : Nat) (r : Req) (s : State) : Host.Outcome State Fault Refusal :=
  done ((s.elapse dt).takeRow (rowAccess r 0x2300 8 4))

def execTrialClear (dt : Nat) (r : Req) (s : State) : Host.Outcome State Fault Refusal :=
  done ((s.elapse dt).takeRow (rowAccess r 0x2300 8 5))

def execDebugDisable (dt : Nat) (r : Req) (s : State) : Host.Outcome State Fault Refusal :=
  done ((s.elapse dt).takeRow (rowAccess r 0x2300 8 6))

/-! ### Completion (R164 to R166) -/

/-- What the strict verify of a command expects of logical bit `n`: the staged content, the computed digest half or the item's bits, and
the current content for the rest of the region (R165). -/
def Otp.intended (o : Otp) (run : OtpRun) (n : Nat) : Bool :=
  let m := sectionMap run.sel
  if run.code = 2 ∧ m.base ≤ n ∧ n < m.base + m.size then o.staging.getLsbD (n - m.base)
  else (o.planned run).contains n || o.logical.getLsbD n

/-- Fuses that the strict verify of a command reads: those it burned for `BURN`, `before` being the array at its start; of the region
otherwise (Table 5-8). -/
def Otp.verifies (before : Otp) (run : OtpRun) (f : Nat) : Bool :=
  let m := sectionMap run.sel
  if run.code = 1 then (before.toBurn (before.planned run)).contains f
  else decide (m.regionBase ≤ f / 3) && decide (f / 3 < m.regionBase + m.regionSize)

/-- One fuse passes its strict margin (Table 5-1): intended as 1 it reads 1 above 5,000 Ω, intended as 0 it reads 0 below 500 Ω. `weak` fuses
lie between that margin and the normal one, as does a fuse whose pulse was cut short. -/
def Otp.passes (o : Otp) (weak : List Nat) (want : Bool) (f : Nat) : Bool :=
  o.fuse f == want && !weak.contains f && !o.unstable.contains f

/-- Logical bit `n` fails the strict verify: fewer than two of its fuses pass. A fuse that the command does not verify counts as passing. -/
def Otp.bitFails (before o : Otp) (run : OtpRun) (weak : List Nat) (n : Nat) : Bool :=
  let fails (f : Nat) : Bool := before.verifies run f && !o.passes weak (before.intended run n) f
  decide (2 ≤ ([3 * n, 3 * n + 1, 3 * n + 2].filter fails).length)

/-- Logical bits that a command's strict verify covers. -/
def verifiedBits (run : OtpRun) : List Nat :=
  let m := sectionMap run.sel
  (List.range m.regionSize).map (m.regionBase + ·)

/-- The strict verify of a command fails. -/
def Otp.verifyFails (before o : Otp) (run : OtpRun) (weak : List Nat) : Bool :=
  (verifiedBits run).any (before.bitFails o run weak)

/-- Burn the damage marker into a section's digest half or field (R165). -/
def Otp.burnMarker (sec : OtpSection) (o : Otp) : Otp := (o.toBurn (markerBits sec)).foldl (fun x f => x.burnFuse f) o

/-- The reported status of one section is read anew. -/
def Otp.reread (sec : OtpSection) (o : Otp) : Otp :=
  let sh := 4 * statusIndex sec
  { o with regionStatus := (o.regionStatus &&& ~~~((0xF : BitVec 64) <<< sh)) ||| (BitVec.ofNat 64 (o.status o.lifecycle sec) <<< sh) }

/-- The running command ends: its fuses are burned, `unburned` of them still reading 0 after eight pulses, and `weak` ones failing their
margin in the strict verify. A paused command does not end (R175). DESIGN CHOICE (log entry 112): the spec gives the damage marker, 0x84 and
event 0x0C08 for a failed `FINALISE`; a `BURN`, `ADVANCE` or `DEBUG_DISABLE` whose strict verify fails ends with 0x84 alone. -/
def State.otpComplete (unburned weak : List Nat) (s : State) : State :=
  match s.otp.running with
  | none => s
  | some run =>
    if s.power.gateClosed then s
    else
      let (o, count, stopped) := burnBits unburned (s.otp.planned run) s.otp 0
      let bad := s.otp.verifyFails o run weak
      let marked := !stopped && bad && run.code == 2
      let more := if marked then (o.toBurn (markerBits run.sel)).length else 0
      let o := if marked then o.burnMarker run.sel else o
      let st := if stopped then 0x87 else if bad then 0x84 else 0x03
      let s := State.applyDomains { s with
        otp := { (o.reread run.sel) with running := none, progress := (count + more) % 2 ^ 16, opStatus := st } }
      if marked then s.event 0x0C08 [] else s

def execOtpCommandComplete (dt : Nat) (unburned weak : List Nat) (s : State) : Host.Outcome State Fault Refusal :=
  done ((s.elapse dt).otpComplete unburned weak)

end Sys2Proof.Machine
end

