-- ==== Sys2Proof/Machine/ObjectRead.lean ====
section
/-!
DEFINITION. Machine/ObjectRead.lean: what a read of each object of ch. 16 returns (R435, R461 to R470).
-/

namespace Sys2Proof.Machine

/-! ### The Modbus map (R545 to R547), which `MODBUS_MAP_COUNT` reports -/

/-- A map entry: index, subindex, first register. -/
structure MapEntry where
  index : Nat
  sub : Nat
  first : Nat
  count : Nat
deriving DecidableEq, Repr

/-- Registers of a type (Table 19-2); 0 where it is not mappable. -/
def registersOf : ObjType → Nat
  | .bool => 1 | .u8 => 1 | .u16 => 1 | .u32 => 2 | .i32 => 2 | .time32 => 2 | .u64 => 4 | .ts64 => 4 | .str => 0 | .domain => 0

/-- The entry that a `MODBUS_MAP` value spells, where it names a listed readable object of a mappable type. -/
def parseMap (v : Nat) : Option MapEntry :=
  let index := bitsAt v 63 48
  let sub := bitsAt v 47 40
  let first := bitsAt v 31 16
  match findObj index sub with
  | some o =>
    let n := registersOf o.type
    if o.access != .wo && o.access != .woc && n != 0 && decide (first + n ≤ 0x10000) then
      some { index := index, sub := sub, first := first, count := n }
    else none
  | none => none

/-- Registers of two entries meet. -/
def MapEntry.meets (a b : MapEntry) : Bool := decide (a.first < b.first + b.count) && decide (b.first < a.first + a.count)

/-- The valid entries, in ascending subindex order (R547). -/
def State.mapEntries (s : State) : List MapEntry :=
  (List.range 64).foldl (fun acc k => match parseMap (s.modbusMap (k + 1)) with
    | some e => if acc.any (fun x => x.meets e) then acc else acc ++ [e]
    | none => acc) []

/-! ### Values by chapter -/

/-- Ch. 0, 15 and 16: identity and dictionary. -/
def State.readIdentity (s : State) (index sub : Nat) : Option Nat :=
  match index, sub with
  | 0x1000, 3 => some s.boot.variant
  | 0x1000, 4 => some s.boot.hardwareIssue
  | 0x1000, 5 => some s.boot.serial
  | 0x1000, 6 => some s.boot.fwVersion
  | 0x1000, 7 => some Config.bootRomVersion
  | 0x1000, 8 => some s.boot.identityStatus
  | 0x1010, 1 => some s.dictStatus
  | 0x1010, 3 => some s.dict.token
  | 0x1010, 4 => some s.dict.safetyWrites
  | 0x1010, 5 => some s.dict.confirmFails
  | 0x1010, 6 => some s.configCrc
  | 0x1010, 8 => some s.dict.lastError.toNat
  | _, _ => none

/-- Ch. 17: ZOP and its connections. -/
def State.readZop (s : State) (index sub : Nat) : Option Nat :=
  match index, sub with
  | 0x1100, 2 => some s.zop.nodeId
  | 0x1100, 7 => some (s.canStatus s.zop.canA)
  | 0x1100, 8 => some (s.canStatus s.zop.canB)
  | 0x1100, 9 => some s.zop.canA.busOffCount
  | 0x1100, 0xA => some s.zop.canB.busOffCount
  | 0x1100, 0xB => some ((List.range 16).foldl (fun v n => v + bit (s.zop.nodes.any (fun h => h.node == n + 1)) * 2 ^ n) 0)
  | 0x1100, 0xC => some s.zop.txDiscard
  | 0x1200, 1 => some s.zop.conns.length
  | 0x1200, 2 => some s.zop.session
  | 0x1200, 3 => some s.zop.connFault
  | 0x1200, 4 => some s.zop.epoch
  | _, _ =>
    if 0x1210 ≤ index ∧ index < 0x1230 then
      match s.zop.conns[index - 0x1210]? with
      | none => none
      | some c =>
        match sub with
        | 1 => some c.role
        | 2 => some c.peer
        | 3 => some c.state
        | 4 => some c.wdTime
        | 5 => some c.seqLast
        | 6 => some (ts64 c.timeLast)
        | 7 => some c.crcErrors
        | 8 => some c.seqErrors
        | 9 => some c.wdExpiries
        | _ => none
    else none

/-- Ch. 3: time and clocks. DESIGN CHOICE (log entry 113): `MASTER_NODE` of a unit that is MASTER and follows none reads its own node ID. -/
def State.readClock (s : State) (index sub : Nat) : Option Nat :=
  match index, sub with
  | 0x1800, 1 => some s.clock.sync.code
  | 0x1800, 5 => some s.now
  | 0x1800, 6 => some (rawI32 s.clock.offsetLast)
  | 0x1800, 7 => some s.clock.offsetMax
  | 0x1800, 8 => some (rawI32 s.clock.r)
  | 0x1800, 9 => some (if s.clock.sync == .master then s.zop.nodeId else match s.followed with | some h => h.node | none => 0)
  | 0x1800, 0xA => some s.clock.rejectCount
  | 0x1800, 0xB => some s.clock.stepCount
  | 0x1800, 0xC => some s.clock.epochUtc
  | 0x2100, 1 => some s.clockStatus
  | 0x2100, 2 => some s.clock.rootLast
  | 0x2100, 3 => some s.clock.rootMin
  | 0x2100, 4 => some s.clock.rootMax
  | 0x2100, 5 => some s.clock.pllLockTime
  | 0x2100, 6 => some s.clock.rcTrim
  | _, _ => none

/-- Ch. 2: power. A measurement reads within the range of its object (Table 2-7, R473). -/
def State.readPower (s : State) (index sub : Nat) : Option Nat :=
  let p := s.power
  match index, sub with
  | 0x2000, 1 => some s.entryStatus
  | 0x2000, 2 => some (min 600 p.mainsPeak)
  | 0x2000, 3 => some (min 40000 p.auxMv)
  | 0x2000, 4 => some (min 42000 p.holdupMv)
  | 0x2000, 5 => some p.estimate
  | 0x2000, 7 => some p.rideCount
  | 0x2000, 8 => some (min 15000 p.logicMw)
  | 0x2000, 9 => some (min 40000 p.fs1Mv)
  | 0x2000, 0xA => some (min 40000 p.fs2Mv)
  | 0x2000, 0xB => some p.domainStatus.toNat
  | 0x2000, 0xC => some p.domainCommand.toNat
  | 0x2000, 0xD => some (min 15000 p.bistPeak)
  | _, _ => none

/-- Ch. 1 and 4: state, reset, boot and BIST. -/
def State.readState (s : State) (index sub : Nat) : Option Nat :=
  let b := s.boot
  match index, sub with
  | 0x2200, 1 => some s.rt.state.code
  | 0x2200, 3 => some s.rt.stateCause
  | 0x2200, 6 => some s.rt.entryTime
  | 0x2200, 0x10 => some b.resetCause
  | 0x2200, 0x11 => some b.resetSources.toNat
  | 0x2200, 0x13 => some b.coldStarts
  | 0x2200, 0x14 => some b.warmResets
  | 0x2200, 0x15 => some b.bootDuration
  | 0x2200, 0x16 => some b.bistDuration
  | 0x2200, 0x17 => some b.bistMode
  | 0x2200, 0x18 => some s.bistStatus
  | 0x2200, 0x19 => some b.failCount
  | 0x2200, 0x1A => some b.comparator.toNat
  | 0x2200, 0x1B => some b.fwBank
  | 0x2200, 0x1C => some b.retainedStatus.toNat
  | 0x2210, k => if k = 0 then none else some (b.failRecords.getD (k - 1) 0).toNat
  | _, _ => none

/-- Ch. 5: OTP. -/
def State.readOtp (s : State) (index sub : Nat) : Option Nat :=
  let o := s.otp
  match index, sub with
  | 0x2300, 1 => some o.lifecycle
  | 0x2300, 2 => some s.lifecycleStatus
  | 0x2300, 3 => some o.regionStatus.toNat
  | 0x2300, 4 => some o.disagree
  | 0x2300, 5 => some o.select
  | 0x2300, 6 => some o.offset
  | 0x2300, 7 => some o.stagingWord
  | 0x2300, 9 => some o.opStatus
  | 0x2300, 0xA => some s.burnProgress
  | 0x2300, 0xB => some o.maskedRows.length
  | 0x2300, 0xC => some o.safetyRam
  | 0x2300, 0xD => some o.shadowRam
  | 0x2300, 0xE => some o.keyFingerprint.toNat
  | 0x2300, 0xF => some o.buildDay
  | 0x2300, 0x10 => some (bit o.userValid)
  | 0x2300, 0x11 => some (match o.shadow with | some x => x.1 | none => 0)
  | 0x2310, k => if k = 0 then none else some (o.repairEntry (k - 1))
  | _, _ => none

/-- Ch. 1, 6 and 7: the cycle, the passes and memory protection. -/
def State.readLe (s : State) (index sub : Nat) : Option Nat :=
  let p := s.passes
  match index, sub with
  | 0x2400, 4 => some s.rt.cycleCount
  | 0x2400, 5 => some s.rt.overrunCount
  | 0x2400, 6 => some s.rt.passTimeMax
  | 0x2400, 7 => some s.images.codeConstant
  | 0x2400, 8 => some s.sigStatus
  | 0x2400, 9 => some p.windowActive
  | 0x2400, 0xA => some p.position
  | 0x2400, 0xB => some p.compareCount
  | 0x2400, 0xC => some p.plainLast.toNat
  | 0x2400, 0xD => some p.shadowLast.toNat
  | 0x2400, 0xE => some p.faultAddress
  | 0x2400, 0xF => some p.faultCycle
  | 0x2400, 0x10 => some p.plainTime
  | 0x2400, 0x11 => some p.shadowTime
  | 0x2500, 1 => some s.mpuStatus
  | 0x2500, 2 => some s.le.faultAddress
  | 0x2500, 3 => some s.le.faultInfo.toNat
  | 0x2500, 4 => some s.le.faultCycle
  | 0x2510, k => if k = 0 then none else some (s.le.setA.getD (k - 1) 0).toNat
  | 0x2520, k => if k = 0 then none else some (s.le.setB.getD (k - 1) 0).toNat
  | _, _ => none

/-- Ch. 8: exchange RAM. `XCH_FREE_COUNT` is Table 8-4's word: FREE buffers by home. -/
def State.readXch (s : State) (index sub : Nat) : Option Nat :=
  let x := s.xch
  match index, sub with
  | 0x2600, 2 => some (s.freeCountOf .le + s.freeCountOf .ce * 256 + s.freeCountOf .me * 65536)
  | 0x2600, 3 => some x.revokeCount
  | 0x2600, 4 => some x.starvedCount
  | 0x2600, 5 => some x.refusedCount
  | 0x2600, 6 => some x.correctedCount
  | 0x2600, 7 => some x.uncorrectedCount
  | 0x2600, 8 => some ((x.buffers.filter (fun b => b.masked)).length)
  | 0x2600, 9 => some x.leQueueMax
  | 0x2600, 0xA => some x.faultBuffer
  | 0x2610, k => if k = 0 then none else some (s.bufferState (k - 1))
  | _, _ => none

/-- Ch. 9: channels, banks and field supplies. -/
def State.readField (s : State) (index sub : Nat) : Option Nat :=
  if 0x3100 ≤ index ∧ index < 0x3120 then
    let c := s.ch (index - 0x3100)
    match sub with
    | 1 => some (s.chState (index - 0x3100))
    | 2 => some (ts64 c.edgeTime)
    | 3 => some c.edgeCount
    | 4 => some c.mismatchCount
    | _ => none
  else match index, sub with
    | 0x3120, 1 => some s.bankStatus
    | 0x3120, 2 => some s.fsStatus
    | 0x3120, 3 => some s.field.wdMissed
    | 0x3120, 4 => some s.field.wdExpiries
    | 0x3120, 5 => some (bit s.field.safeState)
    | _, _ => none

/-- Ch. 10: glint and counting inputs. -/
def State.readGlint (s : State) (index sub : Nat) : Option Nat :=
  if 0x3240 ≤ index ∧ index < 0x3244 then
    let n := index - 0x3240
    let c := s.counter n
    match sub with
    | 3 => some c.fValue
    | 4 => some c.fPeriod
    | 5 => some (ts64 c.fLast)
    | 6 => some (s.cntStatus n)
    | _ => none
  else match index, sub with
    | 0x3200, 3 => some s.glintStatus
    | 0x3200, 4 => some (s.glintCodes.length * s.glintStride)
    | 0x3200, 5 => some s.glint.faultChannel
    | 0x3230, k => if k = 0 then none else some (s.glint.missCount.getD (k - 1) 0)
    | _, _ => none

/-- Ch. 11: analog pairs. -/
def State.readAnalog (s : State) (index sub : Nat) : Option Nat :=
  if 0x3320 ≤ index ∧ index < 0x3324 then
    let p := index - 0x3320
    let q := s.pair p
    match sub with
    | 1 => some q.a.fWord.toNat
    | 2 => some q.b.fWord.toNat
    | 3 => some (rawI32 q.a.fLast)
    | 4 => some (rawI32 q.b.fLast)
    | 5 => some (ts64 q.a.fTime)
    | 6 => some (s.pairState p)
    | 7 => some q.diffMax
    | 8 => some q.syncTime
    | _ => none
  else match index, sub with
    | 0x3300, 3 => some s.anStatus
    | 0x3300, 4 => some s.analog.faultChannel
    | _, _ => none

/-- The report of an I32 object: its value, or a free one where an I32 does not hold it, which only the magnitude 2^31 is (log entry 35). -/
def State.readI32 (s : State) (v : Int) : Nat :=
  if -(2 ^ 31) ≤ v ∧ v < 2 ^ 31 then rawI32 v else (Config.freeValue s.freeCount).toNat % 2 ^ 32

/-- Ch. 12: the library and its instances. -/
def State.readLibrary (s : State) (index sub : Nat) : Option Nat :=
  if index = 0x4000 then
    match sub with
    | 1 => some s.lib.version
    | 2 => some s.lib.blocks.length
    | 3 => some (match s.interlock with | some b => b.id | none => 0)
    | _ => none
  else if 0x4001 ≤ index ∧ index < 0x5000 then
    match s.block (index - 0x4000) with
    | none => none
    | some b =>
      match sub with
      | 1 => some b.type
      | 2 => some b.state
      | 3 => some b.out.toNat
      | 4 => some b.cause
      | 6 => some b.discLast
      | 7 => some b.discMax
      | 8 => some (ts64 b.changeTime)
      | 9 => some b.demandCount
      | 0xB => some (s.readI32 b.level)
      | 0xC => some (s.readI32 b.baseline)
      | k => if 0x10 ≤ k then some (param b (k - 0x10)) else none
  else none

/-- Ch. 13: images. A bank's header fields read 0 unless it is valid. -/
def State.readImages (s : State) (index sub : Nat) : Option Nat :=
  let i := s.images
  if index = 0x5010 ∨ index = 0x5020 then
    let bank := if index = 0x5020 then 2 else 1
    let b := i.bank bank
    let h := s.imageHeader bank
    let field (v : Nat) : Option Nat := some (if s.bankValid bank then v else 0)
    match sub with
    | 1 => some b.state.code
    | 2 => some b.reason
    | 3 => field h.version
    | 4 => field h.sequence
    | 5 => field h.familyId
    | 6 => field h.imageCrc
    | 7 => field h.passUs
    | 8 => some b.erases
    | _ => none
  else match index, sub with
    | 0x5000, 1 => some i.active
    | 0x5000, 4 => some s.loadTarget
    | 0x5000, 6 => some i.loadOffset
    | 0x5000, 8 => some i.loadStatus
    | 0x5000, 0xA => some i.exchangeStatus
    | 0x5000, 0xB =>
      let h := s.imageHeader s.loadTarget
      some (if s.bankValid s.loadTarget then switchTime h.stateSize (h.codeConstant != i.codeConstant) else 0)
    | 0x5000, 0xC => some i.exchangeCount
    | 0x5000, 0xD => some i.exchangeTime
    | 0x5000, 0xE => some i.eccCorrected
    | _, _ => none

/-- Greatest erase count of the sector headers. -/
def Store.eraseMax (t : Store) : Nat := (List.range 128).foldl (fun m sec => max m (t.eraseCount sec)) 0

/-- Ch. 14: the store. -/
def State.readStore (s : State) (index sub : Nat) : Option Nat :=
  let t := s.store
  match index, sub with
  | 0x5100, 1 => some s.storeStatus
  | 0x5100, 2 => some t.recoveryTime
  | 0x5100, 3 => some t.reerased
  | 0x5100, 4 => some t.rejected
  | 0x5100, 5 => some t.readFaults
  | 0x5100, 6 => some t.eraseMax
  | 0x5100, 7 => some t.eraseTotal
  | 0x5100, 8 => some (t.eraseMax * 100 / 100000)
  | 0x5100, 9 => some (rawI32 t.config.credit)
  | 0x5100, 0xA => some (rawI32 t.event.credit)
  | 0x5100, 0xB => some (rawI32 t.ledgerArea.credit)
  | 0x5100, 0xC => some t.refusedCount
  | 0x5100, 0xD => some t.eventDropped
  | 0x5100, 0xE => some t.retired.length
  | 0x5110, k => if k = 0 then none else some (t.eraseCount (k - 1))
  | _, _ => none

/-- Ch. 18: the pair. -/
def State.readMirror (s : State) (index sub : Nat) : Option Nat :=
  let m := s.mirror
  match index, sub with
  | 0x5800, 4 => some m.role
  | 0x5800, 5 => some s.mirrorState
  | 0x5800, 6 => some (bit m.token)
  | 0x5800, 7 => some (match s.images.image with | some i => snapshotSize i.stateSize s.zop.conns.length | none => 0)
  | 0x5800, 8 => some m.seqSent
  | 0x5800, 9 => some m.seqCommitted
  | 0x5800, 0xA => some m.rejectCount
  | 0x5800, 0xB => some m.linkErrors
  | 0x5800, 0xC => some m.takeovers
  | 0x5800, 0xD => some m.takeoverTime
  | _, _ => none

/-- Ch. 19 and 20: the Modbus window, debug and service. -/
def State.readService (s : State) (index sub : Nat) : Option Nat :=
  let v := s.service
  match index, sub with
  | 0x5A00, 5 => some s.modbus.requests
  | 0x5A00, 6 => some s.modbus.exceptions
  | 0x5A00, 7 => some s.modbus.crcErrors
  | 0x5A00, 8 => some s.mapEntries.length
  | 0x5C00, 1 => some s.debugStatus
  | 0x5C00, 3 => some v.haltPoint
  | 0x5C00, 5 => some v.simOutputs.toNat
  | 0x5C00, 7 => some v.bistStatus
  | 0x5C00, 8 => some s.portStatus
  | 0x5C00, 9 => some v.sessions
  | 0x5C00, 0xA => some (bit (!s.otp.debugOff && s.otp.regionValid && s.workshop))
  | _, _ => none

/-- Ch. 21: the ledger; hours are seconds divided by 3,600. `EVENT_READ_SEQ` belongs to the requester. -/
def State.readLedger (s : State) (node index sub : Nat) : Option Nat :=
  let l := s.ledger
  match index, sub with
  | 0x5E00, 2 => some (seconds l.powered / 3600)
  | 0x5E00, 3 => some (seconds l.run / 3600)
  | 0x5E00, 4 => some (rawI32 l.tempNow)
  | 0x5E00, 5 => some (rawI32 l.tempMax)
  | 0x5E00, 6 => some (rawI32 l.tempMin)
  | 0x5E00, 7 => some l.count
  | 0x5E00, 8 => some s.eventRange.1
  | 0x5E00, 9 => some s.eventRange.2
  | 0x5E00, 0xA => some (match l.readSeq.find? (fun e => e.1 == node) with | some e => e.2 | none => s.eventRange.1)
  | 0x5E00, 0xC => some l.lost
  | 0x5E10, k => if k = 0 then none else some (seconds (l.bins.getD (k - 1) 0) / 3600)
  | 0x5E20, k => if k = 0 then none else some (l.switches.getD (k - 1) 0)
  | 0x5E30, k => if k = 0 then none else some (l.breaks.getD (k - 1) 0)
  | _, _ => none

/-! ### A read -/

/-- The value an object reports, for the requester `node`: what its chapter reports, or, for a configuration object or a literal, its value
in force (R438). -/
def State.objectValue (s : State) (node index sub : Nat) (o : Obj) : Nat :=
  let reported :=
    if index < 0x1100 then s.readIdentity index sub
    else if index < 0x1800 then s.readZop index sub
    else if index < 0x2000 ∨ index = 0x2100 then s.readClock index sub
    else if index < 0x2100 then s.readPower index sub
    else if index < 0x2300 then s.readState index sub
    else if index < 0x2400 then s.readOtp index sub
    else if index < 0x2600 then s.readLe index sub
    else if index < 0x3000 then s.readXch index sub
    else if index < 0x3200 then s.readField index sub
    else if index < 0x3300 then s.readGlint index sub
    else if index < 0x4000 then s.readAnalog index sub
    else if index < 0x5000 then s.readLibrary index sub
    else if index < 0x5100 then s.readImages index sub
    else if index < 0x5800 then s.readStore index sub
    else if index < 0x5A00 then s.readMirror index sub
    else if index < 0x5E00 then s.readService index sub
    else s.readLedger node index sub
  match reported with
  | some v => v
  | none => s.setting index sub o.dflt

/-- Bytes of an ASCII text. -/
def textBytes (t : List Nat) : List Byte := t.map (fun c => BitVec.ofNat 8 c)

/-- `VENDOR_NAME`, "Bymund Systems". -/
def vendorName : List Byte := textBytes [0x42, 0x79, 0x6D, 0x75, 0x6E, 0x64, 0x20, 0x53, 0x79, 0x73, 0x74, 0x65, 0x6D, 0x73]

/-- `PRODUCT_NAME`, "Tavrel SK-3250". -/
def productName : List Byte := textBytes [0x54, 0x61, 0x76, 0x72, 0x65, 0x6C, 0x20, 0x53, 0x4B, 0x2D, 0x33, 0x32, 0x35, 0x30]

/-- The record at the requester's `EVENT_READ_SEQ`: from the RAM or the store, or, for a plain read, from the CE's spool first (R585, R586). -/
def State.eventRecord (s : State) (r : Req) : Option (List Byte) :=
  let seq := (s.readLedger r.node 0x5E00 0xA).getD 0
  let held := (if r.chan = .plain then s.ledger.spool else []) ++ s.ledger.ring ++ s.ledger.stored
  (held.find? (fun e => e.seq == seq)).map (fun e => e.bytes)

/-- The bytes a read of an object returns, or the DETAIL with which its owner refuses (0x800E): `EVENT_RECORD` without a record (R585). -/
def State.objectBytes (s : State) (r : Req) (index sub : Nat) (o : Obj) : Nat ⊕ List Byte :=
  match o.type with
  | .str => .inr (if sub = 1 then vendorName else productName)
  | .domain => match s.eventRecord r with
    | some b => .inr b
    | none => .inl 1
  | t => .inr (leBytes t.size (s.objectValue r.node index sub o))

end Sys2Proof.Machine
end

