-- ==== Sys2Proof/Machine/Service.lean ====
section
/-!
DEFINITION. Machine/Service.lean: debug conditions, output simulation, the service BIST, debug memory access, the recovery loader and the
lines of the service port (ch. 20).
-/

namespace Sys2Proof.Machine

/-! ### Requests of the debug objects (R564, R565, R569, R570) -/

/-- A request takes effect at the next boundary, in pop order (R576). -/
def State.pendDebug (p : DebugPending) (s : State) : State := { s with service.pending := s.service.pending ++ [p] }

/-- SPLIT_DEBUG_PERMITTED (R157): not in the Lifecycle fallback, which is no workshop state. The region and the item count as they read now
(DEDUCED, log entry 119). -/
def State.splitPermitted (s : State) : Bool := !s.otp.debugOff && s.otp.regionValid && s.workshop

/-- HALT_ARMED or HALTED once every request before this one has taken effect. -/
def State.haltSoon (s : State) : Bool :=
  s.service.pending.foldl (fun h p => match p with
    | .halt => true
    | .resume => false
    | _ => h) (s.service.haltArmed || s.passes.halted)

/-- Why `DEBUG_REQUEST` = `v` is rejected: access code and DETAIL, (0, 0) where it is accepted. -/
def State.debugRefusal (v : Nat) (s : State) : Nat × Nat :=
  if v = 1 then (if s.splitPermitted then (0, 0) else (0x800F, 0))
  else if v = 2 then (if s.haltSoon || s.service.pending.contains .bist then (0x800E, 1) else (0, 0))
  else if v = 3 then (if s.haltSoon then (0, 0) else (0x800E, 1))
  else if s.passes.halted then (0, 0) else (0x800E, 1)

/-- A write of `DEBUG_REQUEST`; `i` is the instruction of the logic code that a step executes. -/
def State.debugWrite (a : Access) (i : Option LogicInstr) (s : State) : State :=
  match s.debugRefusal a.value with
  | (0, _) =>
    State.accept a (s.pendDebug (if a.value = 1 then .split else if a.value = 2 then .halt else if a.value = 3 then .resume else .step i))
  | (code, detail) => s.reject a code detail

/-- SPLIT_DEBUG. -/
def execSplitDebug (dt : Nat) (r : Req) (s : State) : Host.Outcome State Fault Refusal :=
  done ((s.elapse dt).takeRow (rowAccess r 0x5C00 2 1))

/-- JOINT_HALT. -/
def execJointHalt (dt : Nat) (r : Req) (s : State) : Host.Outcome State Fault Refusal :=
  done ((s.elapse dt).takeRow (rowAccess r 0x5C00 2 2))

/-- RESUME. -/
def execResume (dt : Nat) (r : Req) (s : State) : Host.Outcome State Fault Refusal :=
  done ((s.elapse dt).takeRow (rowAccess r 0x5C00 2 3))

/-- STEP. -/
def execStep (dt : Nat) (x : StepRequest) (s : State) : Host.Outcome State Fault Refusal :=
  done ((s.elapse dt).takeRow (rowAccess x.r 0x5C00 2 4) x.instr)

/-- A write of `SIM_ENABLE`. -/
def State.simWrite (a : Access) (s : State) : State := State.accept a (s.pendDebug (.sim (a.value == 1)))

/-- SIM_ENABLE. -/
def execSimEnable (dt : Nat) (r : Req) (value : Nat) (s : State) : Host.Outcome State Fault Refusal :=
  done ((s.elapse dt).takeRow (rowAccess r 0x5C00 4 value))

/-- A write of `SIM_OUTPUTS`. -/
def State.simOutputsWrite (a : Access) (s : State) : State := State.accept a (s.pendDebug (.simOutputs (BitVec.ofNat 32 a.value)))

/-- SIM_OUTPUTS. -/
def execSimOutputs (dt : Nat) (r : Req) (value : Nat) (s : State) : Host.Outcome State Fault Refusal :=
  done ((s.elapse dt).takeRow (rowAccess r 0x5C00 5 value))

/-- A write of `SERVICE_BIST_REQUEST`. -/
def State.bistWrite (a : Access) (s : State) : State := State.accept a (s.pendDebug .bist)

/-- SERVICE_BIST_REQUEST. -/
def execServiceBistRequest (dt : Nat) (r : Req) (value : Nat) (s : State) : Host.Outcome State Fault Refusal :=
  done ((s.elapse dt).takeRow (rowAccess r 0x5C00 6 value))

/-! ### What takes effect at a boundary -/

/-- Split debug begins (R202, R564). -/
def State.enterSplit (s : State) : State :=
  if s.passes.split then s
  else State.event 0x0D02 [] { s with passes.split := true, rt.splitSinceReset := true }

/-- A resume: the arming clears; halted passes complete in the cycle that begins here (R203, R565, R567). -/
def State.resumeHalt (s : State) : State :=
  let halted := s.passes.halted
  let s := { s with
    service.haltArmed := false
    service.haltedAt := none
    service.resuming := halted
    passes.halted := false }
  if halted then s.event 0x0D03 [] else s

/-- The plain pass executes one instruction, then the shadow pass the same one, unless split debug has only the plain pass (R202, R565): with
their folds, and with the coded-word check of every read (R203). Both then stand at the next point, whose offset no row of the table gives
(free, log entry 44). -/
def State.stepHalt (i : Option LogicInstr) (s : State) : State :=
  if !s.passes.halted then s
  else
    let (v, s) := s.drawFree
    let s := { s with service.haltedAt := some (v.toNat % 2 ^ 32) }
    match i with
    | none => s
    | some i =>
      match thenPass (State.plainInstr (!s.passes.split) i s) (fun t => if t.passes.split then (t, none) else t.shadowInstr i) with
      | (t, none) => t
      | (t, some e) => t.stopPass e

/-- Output simulation starts or ends; the watchdog is disarmed, or armed again from the next placement instant (R283, R569). -/
def State.setSim (on : Bool) (s : State) : State :=
  if s.service.simActive == on then s
  else if on then State.event 0x0D04 [] { s with service.simActive := true, field.wdArmed := false, field.wdArmAt := none }
  else
    State.event 0x0D04 [] { s with
      service.simActive := false
      service.simOutputs := 0
      field.applyState := true
      field.wdArmAt := some (s.rt.boundary + us 100) }

/-- An image erase or load is in progress (R570). -/
def State.imageBusy (s : State) : Bool :=
  let busy (b : ImageBank) : Bool := b.state == .erasing || b.state == .loading || b.state == .validating
  busy s.images.bankA || busy s.images.bankB

/-- The service BIST is refused, or begins: the passes stop, the outputs are those of Hold, PD55 switches on (R570). The output watchdog stays
as Service has it (R283). BIST_POWER_PEAK stays that of the last Test (R77). -/
def State.startServiceBist (s : State) : State :=
  if s.passes.halted || s.service.haltArmed || s.otp.running.isSome || s.power.gateClosed || s.imageBusy || s.service.bistFrom.isSome then
    { s with service.bistStatus := 0x81 }
  else
    State.applyDomains (State.event 0x0D05 [] { s with
      service.bistFrom := some s.rt.state
      service.bistStatus := 1
      boot.bistAt := s.localNow
      field.applyState := true })

/-- One request takes effect. Requests of Service that meet another state there are void (R576). -/
def State.takeDebug (p : DebugPending) (s : State) : State :=
  let inService := s.rt.state == .service
  match p with
  | .split => if inService then s.enterSplit else s
  | .halt => if inService && s.service.bistFrom.isNone then { s with service.haltArmed := true } else s
  | .resume => if inService then s.resumeHalt else s
  | .step i => if inService then s.stepHalt i else s
  | .sim on => if inService then s.setSim on else s
  | .simOutputs v => if inService then { s with service.simOutputs := v } else s
  | .bist => if inService || (s.rt.state == .lockout && s.workshop) then s.startServiceBist else s

/-- The requests of the last cycle take effect, in pop order. -/
def State.debugBoundary (s : State) : State :=
  let ps := s.service.pending
  ps.foldl (fun t p => t.takeDebug p) { s with service.pending := [] }

/-- Leaving Service ends a joint halt without completing its cycle, clears the arming and ends simulation (R569, R576); the watchdog expiry
of a halt clears (R577). -/
def State.leaveService (s : State) : State :=
  let s := s.setSim false
  let s := if s.service.haltExpiry then s.clearCause 0x0703 else s
  { s with
    service.haltExpiry := false
    passes.plainFolds := 0
    passes.shadowFolds := 0
    service.haltArmed := false
    service.haltedAt := none
    service.resuming := false
    service.simOutputs := 0
    service.pending := s.service.pending.filter (fun p => p == .bist)
    passes.halted := false
    field.wdArmed := false
    field.wdArmAt := none }

/-- The plain pass reaches `HALT_POINT`: both passes stand there (R203, R565). -/
def State.reachHalt (s : State) : State :=
  State.event 0x0D03 [] { s with
    service.haltArmed := false
    service.haltedAt := some s.service.haltPoint
    service.haltedTag := s.rt.passTag
    passes.halted := true }

/-! ### The end of a service BIST (R571) -/

/-- Repair entries in effect during a service BIST: those applied, and the trial held in the shadow registers (R167). -/
def State.bistEntries (s : State) : List Nat :=
  let trial : List Nat := match s.otp.shadow with
    | some (code, v) => match sectionOfSelect code with
      | some .repairT => (List.range ((sectionMap .repairT).size / 32)).map (fun i => v.toNat / 2 ^ (32 * i) % 2 ^ 32)
      | some .repairR => (List.range ((sectionMap .repairR).size / 32)).map (fun i => v.toNat / 2 ^ (32 * i) % 2 ^ 32)
      | _ => []
    | none => []
  (applyEntries (s.otp.applied.map (fun e => e.toNat) ++ trial)).1

/-- Time limit in µs of a group of the service BIST (Table 20-3). -/
def serviceLimit (g : Nat) : Nat := if g = 5 then 12000 else if g = 8 then 20000 else 30000

/-- Results as R129 and R130 state, with `BIST_MODE` = 0x03; groups 2 and 3 leave shadow RAM zero. A group can have exceeded its time only if
the BIST has run longer than that. -/
def State.bistResults (raw : List (BitVec 64)) (late place : Nat) (s : State) : State :=
  let groups := [1, 2, 3, 5, 8]
  let ran := s.localNow - s.boot.bistAt
  let blank : Boot := { s.boot with groupRun := 0, groupFail := 0, failCount := 0, failRecords := [] }
  let groupOf (r : BitVec 64) : Nat := r.toNat / 2 ^ 60
  let found := raw.filter (fun r => groups.contains (groupOf r) && s.otp.tested s.bistEntries r)
  let timedOut := groups.contains late && decide (us (serviceLimit late) < ran)
  let records := found.map (fun r => failRecord (groupOf r) r) ++ (if timedOut then [timeoutRecord late place (place / 2 ^ 32)] else [])
  let b := groups.foldl (fun (b : Boot) g => b.noteFailures g (records.filter (fun r => groupOf r == g))) blank
  { s with
    boot := { b with
      failRecords := records.take 8
      bistMode := 3
      bistDuration := min 220000 (ran / 100) }
    le.ram := cellClear 0x21000000 0xC0000 s.le.ram
    le.inputsCoded := List.replicate 180 0
    le.outputsCoded := List.replicate 32 0
    le.connTwins := s.le.connTwins.map (fun _ => 0) }

/-- SERVICE_BIST_COMPLETE. A power-fail warning pauses the BIST, so that it does not end meanwhile (R142). -/
def State.bistDone (raw : List (BitVec 64)) (late place : Nat) (s : State) : State :=
  match s.service.bistFrom with
  | none => s
  | some _ =>
    if s.power.pfw then s
    else
      let s := s.bistResults raw late place
      let failed := decide (0 < s.boot.failCount)
      let s := State.event 0x0D05 [] { s with service.bistFrom := none, service.bistStatus := if failed then 3 else 2 }
      let s := s.applyDomains
      if failed then s.detect 0x0301 .nonRecoverable
      else if s.rt.state == .service then { s with rt.encoding := some .service, rt.encodingDone := false }
      else s

def execServiceBistComplete (dt : Nat) (failures : List (BitVec 64)) (late place : Nat) (s : State) : Host.Outcome State Fault Refusal :=
  done ((s.elapse dt).bistDone failures late place)

/-! ### The lines of X8 (R560) -/

/-- TOOL_DETECT: an opening counts, and LAST of the confirmed frames starts afresh (Table 20-1). -/
def State.toolDetect (low : Bool) (s : State) : State :=
  if s.service.session == low then s
  else if !low then { s with service.session := false }
  else
    let s := { s with service.session := true, service.seqLast := none }
    if !s.power.logicOn then s
    else if s.released then
      let n := sat32 (s.service.sessions + 1)
      State.persist keySessions 4 n { s with service.sessions := n }
    else { s with service.openedEarly := sat32 (s.service.openedEarly + 1) }

def execToolDetect (dt : Nat) (low : Bool) (s : State) : Host.Outcome State Fault Refusal := done ((s.elapse dt).toolDetect low)

/-- RESET_REQ: held low for 10 ms in an open session it asserts a warm reset, in every runtime state, recorded at the next release. -/
def State.resetReq (low : Bool) (s : State) : State :=
  let held := match s.service.resetLowAt with
    | some t => s.passed t (ms 10)
    | none => false
  if held && s.service.session && s.power.logicOn then
    (State.resetSource 6 { s with service.resetEventDue := true, service.resetLowAt := none })
  else if !low then { s with service.resetLowAt := none }
  else match s.service.resetLowAt with
    | some _ => s
    | none => { s with service.resetLowAt := some s.localNow }

def execResetReq (dt : Nat) (low : Bool) (s : State) : Host.Outcome State Fault Refusal := done ((s.elapse dt).resetReq low)

/-! ### Debug memory access (R239, R562, R568) -/

/-- The port answers: a session is open and the unit is released (R563). -/
def State.portAnswers (s : State) : Bool := s.service.session && s.released

/-- Set A allows every word of a debug access. -/
def State.setAAllows (kind : AccessKind) (addr n : Nat) (s : State) : Bool :=
  let a := { s with le.inB := false }
  (List.range (n / 4)).all (fun i => (a.mpuVerdict kind (addr + 4 * i) 4 0).isNone)

/-- Flash of Table 7-1: the firmware banks and the image banks. -/
def inFlash (addr : Nat) : Bool :=
  (decide (0x08000000 ≤ addr) && decide (addr < 0x08100000)) || (decide (0x0C000000 ≤ addr) && decide (addr < 0x0C080000))

/-- Bytes of the MPU registers (Table 7-1): the region registers of both sets, then status and capture in the order of Table 7-7's objects;
what the rest of the window reads is not stated (log entry 62). -/
def State.mpuRegisterBytes (s : State) : List Byte :=
  (s.le.setA ++ s.le.setB).flatMap (fun r => leBytes 8 r.toNat) ++ leBytes 4 s.mpuStatus ++ leBytes 4 s.le.faultAddress ++
    leBytes 4 s.le.faultInfo.toNat ++ leBytes 4 s.le.faultCycle

/-- An address of the event log RAM outside the ring: the layout of the ledger working copy is not stated (log entry 62). -/
def State.unstatedRam (s : State) (addr : Nat) : Bool := inEventLog addr && (s.ringPlace addr).isNone

/-- Bytes at an LE address: RAM, flash and MPU registers as they hold them; what the ledger working copy, a peripheral register or the ROM
reads is not stated. -/
def State.debugBytes (addr n : Nat) (s : State) : List Byte × State :=
  if inPlainRam addr || inExchangeRam addr then
    let known := s.ramBytes addr n
    if (List.range n).any (fun i => s.unstatedRam (addr + i)) then
      let (free, t) := s.freeBytes n
      ((known.zip free).zipIdx.map (fun p => if s.unstatedRam (addr + p.2) then p.1.2 else p.1.1), t)
    else (known, s)
  else if inFlash addr then (cellBytes erasedByte s.le.flash addr n, s)
  else
    let (free, s) := s.freeBytes n
    if inMpuRegisters addr then
      let known := (s.mpuRegisterBytes.drop (addr - 0x48000000)).take n
      (known ++ free.drop known.length, s)
    else (free, s)

/-- The first buffer that a debug access touches and the LE does not own (R242, R258). -/
def State.foreignBuffer (addr n : Nat) (s : State) : Option Nat :=
  if inExchangeRam addr then
    ((List.range ((n + addr % 512 + 511) / 512)).map (fun i => (addr - 0x24000000) / 512 + i)).find? (fun b => !s.owns .le b)
  else none

/-- Why a debug memory access is refused: STATUS 0x83, 0x81 or 0x82, 0 where it is made. -/
def State.debugStatusOf (kind : AccessKind) (addr n : Nat) (s : State) : Nat :=
  if !s.workshop then 0x83 else if !s.passes.halted then 0x81 else if !s.setAAllows kind addr n then 0x82 else 0

/-- COUNT of Table 20-1: 4 to 4,096 in multiples of 4. -/
def countOf (n : Nat) : Bool := decide (4 ≤ n) && decide (n ≤ 4096) && n % 4 == 0

/-- A debug access is answered: the MPU decides first (its refusal is event 0x0D07), then the ownership of the exchange buffers, where an access
to one that the LE does not own is not made and is cause 0x0601 (R256, R258; log entry 62). A frame whose COUNT is none of Table 20-1's is no such frame: it is
not answered. -/
def State.debugAccess (kind : AccessKind) (addr n : Nat) (data : List Byte) (s : State) : State :=
  if !s.portAnswers || !countOf n then s
  else match s.debugStatusOf kind addr n with
    | 0 =>
      match s.foreignBuffer addr n with
      | some b =>
        let (free, s) := if kind == .store then ([], s) else s.freeBytes n
        State.xchFault 0x0601 b { s with service.status := 0, service.data := free }
      | none =>
        if kind == .store then
          let s := { s with service.status := 0, service.data := [] }
          if inPlainRam addr || inExchangeRam addr then s.putRam addr data else s
        else
          let (b, s) := s.debugBytes addr n
          { s with service.status := 0, service.data := b }
    | c =>
      let s := { s with service.status := c, service.data := [] }
      if c = 0x82 then s.eventLimited 0x0D07 0 (ms 1000) [] else s

/-- DEBUG_MEMORY_READ. -/
def execDebugMemoryRead (dt : Nat) (addr count : Nat) (s : State) : Host.Outcome State Fault Refusal :=
  done ((s.elapse dt).debugAccess .load (addr % 2 ^ 32) count [])

/-- DEBUG_MEMORY_WRITE: the native word only. -/
def execDebugMemoryWrite (dt : Nat) (addr : Nat) (data : List Byte) (s : State) : Host.Outcome State Fault Refusal :=
  done ((s.elapse dt).debugAccess .store (addr % 2 ^ 32) data.length data)

/-! ### The recovery loader (R573) -/

/-- A loader command is answered while the boot ROM holds the unit in Boot. -/
def State.loaderCommand (effect : State → State) (s : State) : State :=
  if !(s.service.session && s.startBarred) then s
  else if !s.loaderPermitted then { s with service.status := 0x83, service.data := [] }
  else effect { s.bootPower with service.status := 0, service.data := [] }

/-- Erase a firmware bank. -/
def State.loaderErase (bank : Nat) (s : State) : State := if bank ≤ 1 then s.programFlash (fwBase bank) [] else s

/-- LOADER_ERASE. -/
def execLoaderErase (dt : Nat) (bank : Nat) (s : State) : Host.Outcome State Fault Refusal :=
  done ((s.elapse dt).loaderCommand (State.loaderErase bank))

/-- Program data into a firmware bank. What a unit that is not erased reads afterwards the spec does not state. -/
def State.loaderWrite (bank off : Nat) (data : List Byte) (s : State) : State :=
  let n := data.length
  if decide (bank ≤ 1) && off % 32 == 0 && decide (32 ≤ n) && decide (n ≤ 4096) && n % 32 == 0 && decide (off + n ≤ 0x80000) then
    let addr := fwBase bank + off
    let blank := (cellBytes erasedByte s.le.flash addr n).all (· == erasedByte)
    let (bytes, s) := if blank then (data, s) else s.freeBytes n
    s.programFlash addr bytes
  else s

/-- LOADER_WRITE. -/
def execLoaderWrite (dt : Nat) (bank offset : Nat) (data : List Byte) (s : State) : Host.Outcome State Fault Refusal :=
  done ((s.elapse dt).loaderCommand (State.loaderWrite bank offset data))

/-- The validity of both banks by R125. -/
def State.loaderReport (s : State) : State :=
  { s with service.data := [BitVec.ofNat 8 (bit (s.le.fwValid 0)), BitVec.ofNat 8 (bit (s.le.fwValid 1))] }

/-- LOADER_STATUS. -/
def execLoaderStatus (dt : Nat) (s : State) : Host.Outcome State Fault Refusal := done ((s.elapse dt).loaderCommand State.loaderReport)

end Sys2Proof.Machine
end

