-- ==== Sys2Proof/Machine/Dict.lean ====
section
/-!
DEFINITION. Machine/Dict.lean: reads, plain writes and the confirmed write (R443 to R458, R481, R497, R561), what accepted writes do at the
next boundary, and the frames that answer them. Every write waits for its boundary, also one that comes as a command of the table that names
it (log entry 46).
-/

namespace Sys2Proof.Machine

/-! ### Answers on the wire -/

/-- The value bytes of an answer: only a READ carries a value. -/
def answerValue (service : Nat) (a : Response) : List Byte := if service = 1 then leBytes a.size a.value else []

/-- The frames of a plain response: one of up to 48 value bytes, then SEGMENT frames of up to 56 (Table 17-5, R482). -/
def State.plainFrames (s : State) (service reqSeq : Nat) (a : Response) : List (List Byte) :=
  let bytes := answerValue service a
  let n := bytes.length
  let more := (n - 48 + 55) / 56
  let first := s.zopHeader false ++ leBytes 1 (0x80 + service) ++ leBytes 1 (1 + 2 * bit (more == 0)) ++ leBytes 2 reqSeq ++
    leBytes 2 a.index ++ leBytes 1 a.sub ++ leBytes 1 a.type ++ leBytes 2 n ++ leBytes 2 a.error ++ leBytes 1 a.detail ++ leBytes 1 0 ++
    bytes.take 48
  first :: (List.range more).map (fun i =>
    s.zopHeader false ++ leBytes 1 0x85 ++ leBytes 1 (2 * bit (i + 1 == more)) ++ leBytes 2 reqSeq ++ leBytes 2 (48 + 56 * i) ++
      (bytes.drop (48 + 56 * i)).take 56)

/-- The CE transmits a plain response: its frames on the channel that carried the request (R478). -/
def State.transmitPlain (ch : CanChannel) (requester service reqSeq : Nat) (a : Response) (s : State) : State :=
  (s.plainFrames service reqSeq a).foldl (fun t f => t.sendOn ch (0x600 + 16 * (s.zop.nodeId - 1) + (requester - 1)) f) s

/-- Number of buffers of kind 0x03 or 0x04 that `n` value bytes occupy (R483). -/
def partsOf (n : Nat) : Nat := max 1 ((n + 491) / 492)

/-- What kinds 0x03 and 0x04 of Table 17-6 say of a request or a response, beside its value. -/
structure DictHead where
  node : Nat
  channel : Nat
  service : Nat
  reqSeq : Nat
  index : Nat
  sub : Nat
  type : Nat
  error : Nat := 0
  detail : Nat := 0

/-- Part `i` of a dictionary request or response in an exchange buffer (Table 17-6). -/
def dictPart (h : DictHead) (value : List Byte) (i : Nat) : List Byte :=
  leBytes 1 h.node ++ leBytes 1 h.channel ++ leBytes 1 h.service ++ leBytes 1 (bit (i == 0) + 2 * bit (i + 1 == partsOf value.length)) ++
    leBytes 2 h.reqSeq ++ leBytes 2 h.index ++ leBytes 1 h.sub ++ leBytes 1 h.type ++ leBytes 2 value.length ++ leBytes 2 (492 * i) ++
    leBytes 2 h.error ++ leBytes 1 h.detail ++ [0, 0, 0] ++ (value.drop (492 * i)).take 492

/-- Its parts, in ascending OFFSET (R483). -/
def dictParts (h : DictHead) (value : List Byte) : List (List Byte) := (List.range (partsOf value.length)).map (dictPart h value)

/-- The answer to a plain request goes to the CE, which sends it on the channel that carried the request (R478, R483). -/
def State.sendPlain (ch : CanChannel) (requester service reqSeq : Nat) (s : State) : State :=
  match s.dict.response with
  | none => s
  | some a =>
    let h : DictHead :=
      { node := requester, channel := channelCode ch, service := service, reqSeq := reqSeq, index := a.index, sub := a.sub, type := a.type
        error := a.error, detail := a.detail }
    (dictParts h (answerValue service a)).foldl (fun t p => t.lePost 4 p) s

/-- Sequence state of the ZOP-S dictionary frames of one requester. -/
def State.dictSeq (s : State) (node : Nat) : DictSeq :=
  (s.zop.dictSeqs.find? (fun q => q.node == node)).getD { node := node, last := none, sent := 0, answer := [] }

/-- Store it. -/
def State.setDictSeq (q : DictSeq) (s : State) : State :=
  { s with zop.dictSeqs := s.zop.dictSeqs.filter (fun x => x.node != q.node) ++ [q] }

/-- A ZOP-S dictionary response (Table 17-13). -/
def State.zopsFrame (s : State) (requester service : Nat) (a : Response) : List Byte :=
  let body := s.zopHeader false ++ leBytes 2 (s.dictSeq requester).sent ++ leBytes 8 s.now ++ leBytes 1 (0x80 + service) ++
    leBytes 1 a.detail ++ leBytes 2 a.index ++ leBytes 1 a.sub ++ leBytes 1 a.type ++ leBytes 2 a.error ++ leBytes 8 a.value ++
    leBytes 8 a.current ++ leBytes 4 a.token ++ leBytes 4 a.code
  body ++ leBytes 4 (seededCrc (s.sessionSeed s.boot.uid 0xFFFF s.zop.nodeId requester s.zop.epoch) body)

/-- The answer to a ZOP-S dictionary request goes out, and is kept for a duplicate of the request (R497). -/
def State.sendZops (ch : CanChannel) (requester service : Nat) (s : State) : State :=
  match s.dict.response with
  | none => s
  | some a =>
    let f := s.zopsFrame requester service a
    let q := s.dictSeq requester
    State.leSendOn ch (0x400 + 16 * (s.zop.nodeId - 1) + (requester - 1)) f
      (s.setDictSeq { q with sent := (q.sent + 1) % 65536, answer := f })

/-- Set the token and code that an answer carries. -/
def State.withToken (token code : Nat) (s : State) : State :=
  { s with dict.response := s.dict.response.map (fun a => ({ a with token := token, code := code } : Response)) }

/-! ### Reads (R435, R448, R545) -/

/-- A rejected read is reported and answered. -/
def State.rejectRead (r : Req) (index sub code detail : Nat) (s : State) : State :=
  let answer : Response :=
    { requester := r.node, index := index, sub := sub, type := 0, error := code, detail := detail
      value := 0, size := 0, current := 0, token := 0, code := 0 }
  { s with dict.lastError := accessError code index sub r.node detail, dict.response := some answer }

/-- The window carries reads of the mapped subset only (Table 15-2). -/
def State.readCarried (s : State) (r : Req) (index sub : Nat) : Bool :=
  r.chan != .modbus || s.mapEntries.any (fun e => e.index == index && e.sub == sub)

/-- A read is judged and answered at its pop. -/
def State.readObject (r : Req) (index sub : Nat) (s : State) : State :=
  match s.judgeRead index sub, findObj index sub with
  | 0, some o =>
    if !s.readCarried r index sub then s.rejectRead r index sub 0x8009 0
    else match s.objectBytes r index sub o with
      | .inr b =>
        let answer : Response :=
          { requester := r.node, index := index, sub := sub, type := o.type.code, error := 0, detail := 0
            value := ofLe b, size := b.length, current := 0, token := 0, code := 0 }
        { s with dict.response := some answer }
      | .inl d => s.rejectRead r index sub 0x800E d
  | c, _ => s.rejectRead r index sub c 0

/-- READ. -/
def execRead (dt : Nat) (r : Req) (index sub : Nat) (s : State) : Host.Outcome State Fault Refusal :=
  done ((s.elapse dt).request (State.readObject r (index % 2 ^ 16) (sub % 2 ^ 8)))

/-! ### Plain writes (R443, R481) -/

/-- Place of a REQ_SEQ after LAST: new, duplicate or stale. -/
inductive SeqPlace where
  | fresh | again | stale
deriving DecidableEq, Repr

/-- The rule of R481; REQ_SEQ 0 and a first write are always new. -/
def seqPlace (last : Option Nat) (seq : Nat) : SeqPlace :=
  match last with
  | none => .fresh
  | some l =>
    let d := (seq + 65536 - l) % 65536
    if seq = 0 then .fresh else if d = 0 then .again else if d ≤ 32767 then .fresh else .stale

/-- LAST of a requester's plain writes. -/
def State.lastReqSeq (s : State) (node : Nat) : Option Nat := (s.dict.reqSeq.find? (fun e => e.1 == node)).map (fun e => e.2)

/-- A duplicate is answered 0x0000 again without being applied. -/
def State.acceptAgain (a : Access) (s : State) : State :=
  let answer : Response :=
    { requester := a.r.node, index := a.index, sub := a.sub, type := a.type, error := 0, detail := 0
      value := a.value, size := a.len, current := 0, token := 0, code := 0 }
  { s with dict.response := some answer }

/-- A plain write over ZOP, with its REQ_SEQ. -/
def State.sequencedWrite (a : Access) (via : Option CanChannel) (reqSeq : Nat) (s : State) : State :=
  match seqPlace (s.lastReqSeq a.r.node) reqSeq with
  | .fresh => s.takeWrite a via (some reqSeq)
  | .again => s.acceptAgain a
  | .stale => (s.reject a 0x800D 0).event 0x0A05 []

/-- WRITE. REQ_SEQ orders the writes of plain ZOP. -/
def execWrite (dt : Nat) (r : Req) (reqSeq index sub type : Nat) (value : List Byte) (s : State) : Host.Outcome State Fault Refusal :=
  let a : Access := { r := r, index := index % 2 ^ 16, sub := sub % 2 ^ 8, type := type, value := ofLe value, len := value.length, confirmed := false }
  done ((s.elapse dt).request (fun s =>
    if r.chan = .plain then s.sequencedWrite a none (reqSeq % 65536) else s.takeWrite a none none))

/-- REGISTER_WRITE: the write of an object as its requester's channel carries it. -/
def execRegisterWrite (dt : Nat) (r : Req) (index sub value : Nat) (s : State) : Host.Outcome State Fault Refusal :=
  done ((s.elapse dt).takeRow (rowAccess r (index % 2 ^ 16) (sub % 2 ^ 8) value))

/-- STATE_REQUEST_RUN. -/
def execStateRequestRun (dt : Nat) (r : Req) (s : State) : Host.Outcome State Fault Refusal :=
  done ((s.elapse dt).takeRow (rowAccess r 0x2200 2 1))

/-- STATE_REQUEST_SERVICE. -/
def execStateRequestService (dt : Nat) (r : Req) (s : State) : Host.Outcome State Fault Refusal :=
  done ((s.elapse dt).takeRow (rowAccess r 0x2200 2 2))

/-- STATE_REQUEST_HOLD. -/
def execStateRequestHold (dt : Nat) (r : Req) (s : State) : Host.Outcome State Fault Refusal :=
  done ((s.elapse dt).takeRow (rowAccess r 0x2200 2 3))

/-- STATE_REQUEST_LOCKOUT_ACK. -/
def execStateRequestLockoutAck (dt : Nat) (r : Req) (s : State) : Host.Outcome State Fault Refusal :=
  done ((s.elapse dt).takeRow (rowAccess r 0x2200 2 5))

/-- SAFESTOP_ACK. -/
def execSafestopAck (dt : Nat) (r : Req) (value : Nat) (s : State) : Host.Outcome State Fault Refusal :=
  done ((s.elapse dt).takeRow (rowAccess r 0x2200 5 value))

/-- RESET_REQUEST (R117). -/
def execResetRequest (dt : Nat) (r : Req) (value : Nat) (s : State) : Host.Outcome State Fault Refusal :=
  done ((s.elapse dt).takeRow (rowAccess r 0x2200 0x12 value))

/-- EVENT_READ_SEQ. -/
def execEventReadSeq (dt : Nat) (r : Req) (value : Nat) (s : State) : Host.Outcome State Fault Refusal :=
  done ((s.elapse dt).takeRow (rowAccess r 0x5E00 0xA value))

/-- TIME_EPOCH_UTC. -/
def execTimeEpochUtc (dt : Nat) (r : Req) (value : Nat) (s : State) : Host.Outcome State Fault Refusal :=
  done ((s.elapse dt).takeRow (rowAccess r 0x1800 0xC value))

/-- DICT_RESTORE. -/
def execDictRestore (dt : Nat) (r : Req) (value : Nat) (s : State) : Host.Outcome State Fault Refusal :=
  done ((s.elapse dt).takeRow (rowAccess r 0x1010 7 value))

/-- EXCHANGE_REQUEST (R379). -/
def execExchangeRequest (dt : Nat) (r : Req) (tx : Nat) (s : State) : Host.Outcome State Fault Refusal :=
  done ((s.elapse dt).takeRow (rowAccess r 0x5000 9 tx))

/-- EXCHANGE_CANCEL (R379). -/
def execExchangeCancel (dt : Nat) (r : Req) (s : State) : Host.Outcome State Fault Refusal :=
  done ((s.elapse dt).takeRow (rowAccess r 0x5000 9 cancelTick))

/-- A write of `AN_SYNC_REQUEST` reaches its owner. -/
def State.syncWrite (a : Access) (s : State) : State := (s.requestSyncs a.value).accept a

/-- AN_SYNC_REQUEST (R326). -/
def execAnSyncRequest (dt : Nat) (r : Req) (value : Nat) (s : State) : Host.Outcome State Fault Refusal :=
  done ((s.elapse dt).takeRow (rowAccess r 0x3300 2 value))

/-! ### Owners' refusals (order 12) -/

/-- The access code and status with which the owner would refuse the write now; (0, 0) where it would take it. -/
def State.ownerRefusal (s : State) (a : Access) : Nat × Nat :=
  let as (c : Nat) : Nat × Nat := if c = 0 then (0, 0) else (0x800E, c)
  if a.index = 0x2300 then
    if a.sub = 8 then s.otpRefusal a.value
    else as (if (a.sub = 5 ∨ a.sub = 6 ∨ a.sub = 7) ∧ s.otp.running.isSome = true then 0x88 else 0)
  else if a.index = 0x5000 then
    match a.sub with
    | 2 => as (s.bankReason a.value)
    | 5 => as (if a.value = 1 then s.loadCommandRefusal else if s.exchangeBars then 0x84 else 0)
    | 9 => as s.roleRefusal
    | _ => (0, 0)
  else if 0x4001 ≤ a.index ∧ a.index < 0x5000 then as s.roleRefusal
  else if a.index = 0x5C00 ∧ a.sub = 2 then s.debugRefusal a.value
  else (0, 0)

/-- The owner's refusal is answered, with its status object written where it names one (R448). -/
def State.refuseAs (a : Access) (code detail : Nat) (s : State) : State :=
  if a.index = 0x2300 then s.otpRefuse a code detail
  else if a.index = 0x5000 ∧ a.sub = 5 then s.refuseLoad a detail
  else s.reject a code detail

/-- Judge a confirmed write by every check, and go on where it passes. -/
def State.judgeAll (a : Access) (next : State → State) (s : State) : State :=
  match s.judgeWrite a with
  | 0 => match s.ownerRefusal a with
    | (0, _) => next s
    | (code, detail) => s.refuseAs a code detail
  | c => s.reject a c 0

/-! ### The confirmed write (R444 to R447, R453) -/

/-- Size of a TYPE code. -/
def typeSize (type : Nat) : Nat :=
  if type = 1 ∨ type = 2 then 1 else if type = 3 then 2 else if type = 4 ∨ type = 5 ∨ type = 7 then 4
  else if type = 6 ∨ type = 8 then 8 else 0

/-- The confirmation block (Table 15-7). -/
def confirmBlock (serial token index sub type requester value : Nat) : List Byte :=
  leBytes 4 serial ++ leBytes 4 token ++ leBytes 2 index ++ leBytes 1 sub ++ leBytes 1 type ++ leBytes 1 requester ++ leBytes 3 0 ++
    leBytes 8 value

/-- CONFIRM_CODE of a pending slot. -/
def State.confirmCode (s : State) (p : PendingSlot) : Nat :=
  crc32c (confirmBlock s.boot.serial p.token p.index p.sub p.type p.requester p.value)

/-- The value an object holds now, 0 where it has none that can be read. -/
def State.currentValue (s : State) (r : Req) (index sub : Nat) : Nat :=
  match findObj index sub with
  | some o => if o.access = .wo ∨ o.access = .woc then 0 else s.objectValue r.node index sub o
  | none => 0

/-- An accepted PREPARE: a token, the requester's slot, and the answer (R444). -/
def State.fillSlot (a : Access) (s : State) : State :=
  let token := if s.dict.token = 0xFFFFFFFF then 1 else s.dict.token + 1
  let p : PendingSlot :=
    { requester := a.r.node, token := token, index := a.index, sub := a.sub, type := a.type, value := a.value, at_ := s.localNow
      channel := a.r.chan }
  let answer : Response :=
    { requester := a.r.node, index := a.index, sub := a.sub, type := a.type, error := 0, detail := 0, value := a.value, size := a.len
      current := s.currentValue a.r a.index a.sub, token := token, code := s.confirmCode p }
  { s with
    dict.token := token
    dict.slots := s.dict.slots.filter (fun x => x.requester != a.r.node) ++ [p]
    dict.superseded := s.dict.superseded.filter (fun x => x.requester != a.r.node)
    dict.response := some answer }

/-- PREPARE is judged. -/
def State.prepareWrite (r : Req) (index sub type value : Nat) (s : State) : State :=
  let a : Access := { r := r, index := index, sub := sub, type := type, value := value, len := typeSize type, confirmed := true }
  s.judgeAll a (State.fillSlot a)

/-- PREPARE. -/
def execPrepare (dt : Nat) (r : Req) (index sub type value : Nat) (s : State) : Host.Outcome State Fault Refusal :=
  done ((s.elapse dt).request (State.prepareWrite r (index % 2 ^ 16) (sub % 2 ^ 8) type (value % 2 ^ 64)))

/-- `CONFIRM_WINDOW` in ticks. -/
abbrev confirmWindow : Nat := us 5000000

/-- A CONFIRM as it arrives: who sends it, the object its frame names (the row CONFIRM names none), token and code. -/
structure ConfirmRequest where
  r : Req
  named : Option (Nat × Nat) := none
  token : Nat
  code : Nat
deriving DecidableEq, Repr

/-- A CONFIRM is rejected: the object is the one that its frame names (Table 17-13), else the slot's, or not stated where no slot holds one
(free, log entry 42). -/
def State.rejectConfirm (c : ConfirmRequest) (slot : Option PendingSlot) (code : Nat) (s : State) : State :=
  match c.named, slot with
  | some (index, sub), _ => s.reject { r := c.r, index := index, sub := sub, type := 0, value := 0, len := 0, confirmed := true } code 0
  | none, some p => s.reject { r := c.r, index := p.index, sub := p.sub, type := p.type, value := 0, len := 0, confirmed := true } code 0
  | none, none =>
    let (v, s) := s.drawFree
    s.rejectRead c.r (v.toNat % 65536) (v.toNat / 65536 % 256) code 0

/-- A CONFIRM that fails counts (R446). -/
def State.failConfirm (c : ConfirmRequest) (slot : Option PendingSlot) (code : Nat) (s : State) : State :=
  s.rejectConfirm c slot code |> fun s => { s with dict.confirmFails := sat32 (s.dict.confirmFails + 1) }

/-- Empty a requester's slot. -/
def State.emptySlot (node : Nat) (s : State) : State := { s with dict.slots := s.dict.slots.filter (fun x => x.requester != node) }

/-- A CONFIRM whose code matches: the write is judged again and waits for the boundary (R446). -/
def State.acceptConfirm (c : ConfirmRequest) (via : Option CanChannel) (p : PendingSlot) (s : State) : State :=
  let a : Access := { r := c.r, index := p.index, sub := p.sub, type := p.type, value := p.value, len := typeSize p.type, confirmed := true }
  if s.confirmedAlready c.r p.index p.sub then s.rejectConfirm c (some p) 0x800D
  else s.judgeAll a (fun s => s.enqueueWrite a via none p.token c.code)

/-- CONFIRM is judged. -/
def State.confirmWrite (c : ConfirmRequest) (via : Option CanChannel) (s : State) : State :=
  State.withToken c.token c.code (
    if !(c.r.chan == .zops || c.r.chan == .service) then s.rejectConfirm c none 0x8009
    else match s.dict.superseded.find? (fun x => x.requester == c.r.node && x.token == c.token) with
      | some p => s.rejectConfirm c (some p) 0x800D
      | none => match s.dict.slots.find? (fun x => x.requester == c.r.node) with
        | none => s.failConfirm c none 0x800C
        | some p =>
          if p.token ≠ c.token ∨ s.passed p.at_ confirmWindow = true then s.failConfirm c (some p) 0x800C
          else if c.code ≠ s.confirmCode p then (s.emptySlot c.r.node).failConfirm c (some p) 0x800B
          else (s.emptySlot c.r.node).acceptConfirm c via p)

/-- CONFIRM. -/
def execConfirm (dt : Nat) (r : Req) (token code : Nat) (s : State) : Host.Outcome State Fault Refusal :=
  done ((s.elapse dt).request (State.confirmWrite { r := r, token := token % 2 ^ 32, code := code % 2 ^ 32 } none))

/-- The window of a pending write has elapsed: the write lapses. -/
def State.windowExpiry (node : Nat) (s : State) : State :=
  { s with dict.slots := s.dict.slots.filter (fun x => !(x.requester == node && s.passed x.at_ confirmWindow)) }

/-- CONFIRM_WINDOW_EXPIRY. -/
def execConfirmWindowExpiry (dt : Nat) (node : Nat) (s : State) : Host.Outcome State Fault Refusal := done ((s.elapse dt).windowExpiry node)

/-! ### What a write does at its boundary (R441 to R443, R452, R453) -/

/-- The access that a queued write stands for. -/
def QueuedWrite.access (q : QueuedWrite) : Access :=
  { r := { node := q.requester, chan := q.channel }, index := q.index, sub := q.sub, type := q.type, value := q.value, len := q.len
    confirmed := q.confirmed }

/-- An object takes a value: in force at once, its record queued unless the value stands in the store already (R441, R442). -/
def State.setObject (index sub : Nat) (o : Obj) (value : Nat) (s : State) : State :=
  let key := objKey index sub
  let s' := { s with dict.values := setValue key value o.dflt s.dict.values }
  if o.store && (s.setting index sub o.dflt != value || !s.store.recorded.contains key) then s'.persist key o.type.size value else s'

/-- Pending writes to an object that another write has changed are superseded. -/
def State.supersede (index sub : Nat) (s : State) : State :=
  let hit (p : PendingSlot) : Bool := supersedable index sub && p.index == index && p.sub == sub
  { s with
    dict.superseded := s.dict.superseded ++ s.dict.slots.filter hit
    dict.slots := s.dict.slots.filter (fun p => !hit p) }

/-- Objects that `DICT_RESTORE` restores: those of `CONFIG_CRC` but `IMAGE_BANK_SELECT` (R437, R452). -/
def restoredObjects : List (Nat × Nat × Nat) := configObjects.filter (fun o => o.1 != objKey 0x5000 2)

/-- Payloads of up to 1,024 bytes for the entries, in ascending order (log entry 43). -/
def restorePayloads : List (List Byte) :=
  restoredObjects.foldl (fun acc o =>
    let e := objectEntry o.1 o.2.1 o.2.2
    match acc.getLast? with
    | some l => if l.length + e.length ≤ 1024 then acc.dropLast ++ [l ++ e] else acc ++ [e]
    | none => [e]) []

/-- Every covered object returns to its literal default, persisted as records of several entries. -/
def State.restoreDefaults (s : State) : State :=
  let keep := s.dict.values.filter (fun e => !restoredObjects.any (fun o => o.1 == e.1))
  restorePayloads.foldl (fun t p => t.requestRecord { area := .config, type := 1, payload := p, origin := 0, retried := false })
    { s with dict.values := keep, dict.restored := true }

/-- The requester's own `EVENT_READ_SEQ`. -/
def State.setReadSeq (node value : Nat) (s : State) : State :=
  { s with ledger.readSeq := s.ledger.readSeq.filter (fun e => e.1 != node) ++ [(node, value)] }

/-- A write reaches its owner, or sets its object. -/
def State.ownerTakes (q : QueuedWrite) (s : State) : State :=
  let a := q.access
  if q.index = 0x2300 then (if q.sub = 8 then s.otpCommand a else s.otpStaging a)
  else if q.index = 0x5000 ∧ q.sub = 2 then s.bankSelect a
  else if q.index = 0x5000 ∧ q.sub = 5 then s.loadCommand a
  else if q.index = 0x5000 ∧ q.sub = 6 then State.accept a { s with images.loadOffset := q.value }
  else if q.index = 0x5000 ∧ q.sub = 7 then s.writeImageData a (leBytes q.len q.value)
  else if q.index = 0x5000 ∧ q.sub = 9 then s.exchangeWrite a
  else if 0x4001 ≤ q.index ∧ q.index < 0x5000 then (if q.sub = 5 then s.ackWrite a else s.dirWrite a)
  else if q.index = 0x3300 ∧ q.sub = 2 then s.syncWrite a
  else if q.index = 0x1010 ∧ q.sub = 7 then s.restoreDefaults.accept a
  else if q.index = 0x2200 ∧ q.sub = 0x12 then State.accept a { s with rt.resetAtBoundary := true }
  else if q.index = 0x5800 ∧ q.sub = 0xE then s.replaceWrite a
  else if q.index = 0x5C00 ∧ q.sub = 2 then s.debugWrite a q.instr
  else if q.index = 0x5C00 ∧ q.sub = 3 then State.accept a { s with service.haltPoint := q.value }
  else if q.index = 0x5C00 ∧ q.sub = 4 then s.simWrite a
  else if q.index = 0x5C00 ∧ q.sub = 5 then s.simOutputsWrite a
  else if q.index = 0x5C00 ∧ q.sub = 6 then s.bistWrite a
  else if q.index = 0x1800 ∧ q.sub = 0xC then State.accept a (State.event 0x0910 (leBytes 8 q.value) { s with clock.epochUtc := q.value })
  else if q.index = 0x5E00 ∧ q.sub = 0xA then (s.setReadSeq q.requester q.value).accept a
  else match findObj q.index q.sub with
    | some o => (s.setObject q.index q.sub o q.value).accept a
    | none => s

/-- The last answer is an acceptance. -/
def State.answeredOk (s : State) : Bool :=
  match s.dict.response with
  | some a => a.error == 0
  | none => false

/-- LAST of a requester's plain writes becomes the REQ_SEQ of the write applied. -/
def State.noteApplied (q : QueuedWrite) (s : State) : State :=
  match q.reqSeq with
  | some n => { s with dict.reqSeq := s.dict.reqSeq.filter (fun e => e.1 != q.requester) ++ [(q.requester, n)] }
  | none => s

/-- The answer of a queued write goes out on the channel its request came by. -/
def State.answerQueued (q : QueuedWrite) (s : State) : State :=
  let s := if q.confirmed then s.withToken q.token q.code else s
  match q.via with
  | none => s
  | some ch => if q.channel = .zops then s.sendZops ch q.requester 4 else s.sendPlain ch q.requester 2 (q.reqSeq.getD 0)

/-- Answer a request: accepted, or refused with an access code; 0x800E carries the owner's status as DETAIL. -/
def State.answerRequest (q : QueuedWrite) (code detail : Nat) (s : State) : State :=
  let s := { s with dict.response := none }
  let s := if code = 0 then (s.accept q.access).noteApplied q else s.reject q.access code detail
  s.answerQueued q

/-- An earlier request of the same cycle is discarded, with a record whose code the spec does not state (R48, R354, log entry 34). -/
def State.discardRequest (s : State) (q : QueuedWrite) : State :=
  let s := s.answerRequest q 0x800D 0
  let (v, s) := s.drawFree
  s.event (v.toNat % 65536) []

/-- A value of a replacement copy takes effect; nobody waits for an answer (R533). -/
def State.applyCopy (q : QueuedWrite) (s : State) : State :=
  match findObj q.index q.sub with
  | some o => (s.setObject q.index q.sub o q.value).supersede q.index q.sub
  | none => s

/-- One queued write at the boundary: judged again where the state has changed (R454), then applied and answered. -/
def State.applyWrite (changed : Bool) (s : State) (q : QueuedWrite) : State :=
  if q.isCopy then s.applyCopy q
  else
    let verdict := if changed then s.judgeWrite q.access else 0
    let s := { s with dict.response := none }
    let s := if verdict = 0 then s.ownerTakes q else s.reject q.access verdict 0
    let s := if s.answeredOk then (s.noteApplied q).supersede q.index q.sub else s
    s.answerQueued q

/-- A `STATE_REQUEST` or `SAFESTOP_ACK`, which the boundary evaluates with the faults (R48, R49). -/
def QueuedWrite.isStateRequest (q : QueuedWrite) : Bool := q.index == 0x2200 && (q.sub == 2 || q.sub == 5)

/-- A `DIR_REQUEST`: of several in a cycle the last applies (R354). -/
def QueuedWrite.isDirRequest (q : QueuedWrite) : Bool := decide (0x4001 ≤ q.index) && decide (q.index < 0x5000) && q.sub == 0xA

/-- The writes of a cycle in pop order; a `DIR_REQUEST` that a later one follows is discarded (R354). -/
def State.applyInOrder (changed : Bool) : List QueuedWrite → State → State
  | [], s => s
  | q :: qs, s =>
    State.applyInOrder changed qs (if q.isDirRequest && qs.any QueuedWrite.isDirRequest then s.discardRequest q else s.applyWrite changed q)

/-- The configuration changes of a replacement copy take effect in Hold or Service only (R73); in another state they wait. -/
def State.copyWaits (s : State) (q : QueuedWrite) : Bool := q.isCopy && s.rt.state != .hold && s.rt.state != .service

/-- Every other write of the last cycle takes effect, in pop order; a change of `CONFIG_CRC` is noted, and one of the line settings of the
Modbus window discards the request in progress (R443, R451, R555). -/
def State.applyWrites (changed : Bool) (s : State) : State :=
  let qs := s.dict.queued.filter (fun q => !s.copyWaits q)
  let old := s.dict.values
  let line (t : State) : Nat × Nat × Nat × Bool := (t.modbusAddress, t.modbusBaud, t.modbusFraming, t.modbusEnable)
  let was := line s
  let s := State.applyInOrder changed qs { s with dict.queued := s.dict.queued.filter s.copyWaits }
  if s.dict.values = old then s
  else
    let s := s.applyConfig
    let s := if line s = was then s else { s with modbus.outstanding := none }
    let crc (l : List (Nat × Nat)) : Nat := ({ s with dict.values := l } : State).configCrc
    if crc old = crc s.dict.values then s else { s with dict.configChanged := true }

/-! ### The service port's frames (R561) -/

/-- Requester 0x00. -/
abbrev servicePort : Req := { node := 0, chan := .service }

/-- KIND 0x01: a plain read or write. -/
def State.serviceDict (service index sub type : Nat) (value : List Byte) (s : State) : State :=
  let a : Access := { r := servicePort, index := index, sub := sub, type := type, value := ofLe value, len := value.length, confirmed := false }
  match service with
  | 1 => s.readObject servicePort index sub
  | 2 => s.takeWrite a none none
  | 3 | 4 => s.reject a 0x8009 0
  | _ => s

/-- SERVICE_DICT_FRAME. -/
def execServiceDictFrame (dt : Nat) (service index sub type : Nat) (value : List Byte) (s : State) : Host.Outcome State Fault Refusal :=
  let s := s.elapse dt
  done (if s.service.session then s.request (State.serviceDict service (index % 2 ^ 16) (sub % 2 ^ 8) type value) else s)

/-- A request in a ZOP-S dictionary frame: PREPARE, CONFIRM, or a service such a frame cannot carry (R497). -/
def State.confirmedRequest (r : Req) (via : Option CanChannel) (service index sub type value token code : Nat) (s : State) : State :=
  match service with
  | 3 => s.prepareWrite r index sub type value
  | 4 => s.confirmWrite { r := r, named := some (index, sub), token := token, code := code } via
  | _ => s.reject { r := r, index := index, sub := sub, type := type, value := value, len := typeSize type, confirmed := true } 0x8009 0

/-- KIND 0x02: SEQ follows R497. -/
def State.serviceConfirmed (seq service index sub type value token code : Nat) (s : State) : State :=
  let take (s : State) : State := State.request
    (State.confirmedRequest servicePort none service index sub type value token code) { s with service.seqLast := some seq }
  match s.service.seqLast with
  | none => take s
  | some last =>
    let d := (seq + 65536 - last) % 65536
    if d = 0 then s else if d ≤ 32767 then take s else s.event 0x0A03 []

/-- SERVICE_CONFIRMED_FRAME. -/
def execServiceConfirmedFrame (dt : Nat) (seq service index sub type value token code : Nat) (s : State) :
    Host.Outcome State Fault Refusal :=
  let s := s.elapse dt
  done (if s.portAnswers then
    s.serviceConfirmed (seq % 65536) service (index % 2 ^ 16) (sub % 2 ^ 8) type (value % 2 ^ 64) (token % 2 ^ 32) (code % 2 ^ 32) else s)

end Sys2Proof.Machine
end

