-- ==== Sys2Proof/Machine/Modbus.lean ====
section
/-!
DEFINITION. Machine/Modbus.lean: the Modbus window (ch. 19): which frames it answers, the register map, device identification and the
exception responses.
-/

namespace Sys2Proof.Machine

/-! ### Responses (R544, R553) -/

/-- One bit of the CRC-16 that Modbus RTU frames carry (PRESUMED, log entry 45). -/
def crc16Bit (c : Nat) : Nat := if c % 2 = 1 then (c / 2) ^^^ 0xA001 else c / 2

/-- The CRC-16 of Modbus RTU. -/
def crc16 (bytes : List Byte) : Nat :=
  bytes.foldl (fun c b =>
    crc16Bit (crc16Bit (crc16Bit (crc16Bit (crc16Bit (crc16Bit (crc16Bit (crc16Bit (c ^^^ b.toNat))))))))) 0xFFFF

/-- The window serves requests (R542). -/
def State.modbusServes (s : State) : Bool := s.modbusEnable && s.power.domainStatus.getLsbD 52 && s.released

/-- A request is answered: the frame from the address to the CRC, counted. -/
def State.modbusAnswer (pdu : List Byte) (s : State) : State :=
  let frame := BitVec.ofNat 8 s.modbusAddress :: pdu
  { s with
    modbus.outstanding := none
    modbus.response := frame ++ leBytes 2 (crc16 frame)
    modbus.requests := sat32 (s.modbus.requests + 1) }

/-- An exception response. -/
def State.modbusException (fc code : Nat) (s : State) : State :=
  let s := s.modbusAnswer [BitVec.ofNat 8 (fc % 128 + 128), BitVec.ofNat 8 code]
  { s with modbus.exceptions := sat32 (s.modbus.exceptions + 1) }

/-- A frame with a matching CRC and address arrives: it is served unless an earlier request is unanswered (R544). -/
def State.modbusFrame (serve : State → State) (s : State) : State :=
  if s.modbusServes && s.modbus.outstanding.isNone then serve s else s

/-! ### Reading registers (R546 to R549, R553) -/

/-- A number as two bytes, the more significant first. -/
def beWord (n : Nat) : List Byte := [BitVec.ofNat 8 (n / 256), BitVec.ofNat 8 n]

/-- The entries that meet the range and whose object exists now, by their registers. -/
def State.entriesIn (s : State) (start quantity : Nat) : List MapEntry :=
  let range : MapEntry := { index := 0, sub := 0, first := start, count := quantity }
  sortBy (fun a b => decide (a.first ≤ b.first)) (s.mapEntries.filter (fun e => e.meets range && s.judgeRead e.index e.sub == 0))

/-- The registers of one entry, most significant byte first (Table 19-2). -/
def State.entryBytes (s : State) (e : MapEntry) : List Byte :=
  match findObj e.index e.sub with
  | none => []
  | some o =>
    match s.objectBytes { node := 0xFE, chan := .modbus } e.index e.sub o with
    | .inr b => List.replicate (2 * e.count - b.length) 0 ++ b.reverse
    | .inl _ => []

/-- The registers of a range, none where one is unmapped or an object lies in it only in part. -/
def State.readRange (s : State) (start quantity : Nat) : Option (List Byte) :=
  let es := s.entriesIn start quantity
  let whole := es.all (fun e => decide (start ≤ e.first) && decide (e.first + e.count ≤ start + quantity))
  let covered := es.foldl (fun n e => n + e.count) 0
  if whole && covered == quantity then some (es.flatMap s.entryBytes) else none

/-- The request as the CE posts it to the LE (R549): REQ_SEQ tells this request from one that has timed out. -/
def modbusRequest (tag start quantity : Nat) : List Byte :=
  [0xFE, 3, 6, 3] ++ leBytes 2 tag ++ leBytes 2 start ++ [0, 0] ++ leBytes 2 (2 * quantity) ++ List.replicate 8 0

/-- The CE's checks of a register read, and its post to the LE, which shares the three dictionary buffers of a cycle (R484, R549). -/
def State.modbusRead (fc start quantity : Nat) (s : State) : State :=
  if quantity = 0 ∨ 125 < quantity then s.modbusException fc 3
  else if 0x10000 < start + quantity then s.modbusException fc 2
  else
    let tag := (s.modbus.tag + 1) % 65536
    State.postDict (modbusRequest tag start quantity) { s with
      modbus.tag := tag
      modbus.outstanding := some (BitVec.ofNat 8 fc :: (beWord start ++ beWord quantity), s.localNow) }

/-- The CE answers the outstanding request with what the LE posted: the function code and the values, or an exception. An answer that repeats
another REQ_SEQ came too late (R550). -/
def State.modbusDeliver (tag : Nat) (values : Option (List Byte)) (s : State) : State :=
  match s.modbus.outstanding, values with
  | some (fc :: _, _), v =>
    if tag ≠ s.modbus.tag then s
    else match v with
      | some b => s.modbusAnswer (fc :: BitVec.ofNat 8 b.length :: b)
      | none => s.modbusException fc.toNat 2
  | _, _ => s

/-- The LE's answer in a buffer of kind 0x04: NODE 0xFE, CHANNEL 0x03, SERVICE 0x06, ERROR where no values can be given (R549). -/
def modbusPayload (tag start : Nat) (values : Option (List Byte)) : List Byte :=
  let b := values.getD []
  [0xFE, 3, 6, 3] ++ leBytes 2 tag ++ leBytes 2 start ++ [0, 0] ++ leBytes 2 b.length ++ leBytes 2 0 ++
    leBytes 2 (if values.isSome then 0 else 2) ++ [0, 0, 0, 0] ++ b

/-- The LE pops the request: it judges and reads every object of it at this instant, and posts the answer to the CE (R549, R556). -/
def State.modbusPop (tag start quantity : Nat) (s : State) : State :=
  s.lePost 4 (modbusPayload tag start (s.readRange start quantity))

/-- MODBUS_READ_HOLDING_REGISTERS. -/
def execModbusReadHoldingRegisters (dt : Nat) (start quantity : Nat) (s : State) : Host.Outcome State Fault Refusal :=
  done ((s.elapse dt).modbusFrame (State.modbusRead 3 (start % 2 ^ 16) (quantity % 2 ^ 16)))

/-- MODBUS_READ_INPUT_REGISTERS. -/
def execModbusReadInputRegisters (dt : Nat) (start quantity : Nat) (s : State) : Host.Outcome State Fault Refusal :=
  done ((s.elapse dt).modbusFrame (State.modbusRead 4 (start % 2 ^ 16) (quantity % 2 ^ 16)))

/-! ### Device identification (R552) -/

/-- A number in decimal. -/
def decimalText (n : Nat) : List Byte := (Nat.toDigits 10 n).map (fun c => BitVec.ofNat 8 c.toNat)

/-- `ProductCode` by `VARIANT`. -/
def State.productCode (s : State) : List Byte :=
  let stem := textBytes [0x53, 0x4B, 0x2D, 0x33, 0x32, 0x35, 0x30]
  if s.boot.variant = 0x41 then stem ++ textBytes [0x2D, 0x41] else if s.boot.variant = 0x44 then stem ++ textBytes [0x2D, 0x44] else stem

/-- MAJOR.MINOR.BUILD of `FIRMWARE_VERSION` (Table 0-6). -/
def State.revisionText (s : State) : List Byte :=
  let v := s.boot.fwVersion
  decimalText (bitsAt v 31 24) ++ textBytes [0x2E] ++ decimalText (bitsAt v 23 16) ++ textBytes [0x2E] ++ decimalText (bitsAt v 15 0)

/-- The objects of Table 19-4: Object Id, value, and the lowest stream code that returns it. -/
def State.deviceObjects (s : State) : List (Nat × List Byte × Nat) :=
  [(0, vendorName, 1), (1, s.productCode, 1), (2, s.revisionText, 1), (4, productName, 2), (0x80, decimalText s.boot.serial, 3)]

/-- One object of a response: Id, length, value. -/
def deviceBytes (o : Nat × List Byte × Nat) : List Byte := BitVec.ofNat 8 o.1 :: BitVec.ofNat 8 o.2.1.length :: o.2.1

/-- Answer a Read Device Identification request. -/
def State.identify (mei code objectId : Nat) (s : State) : State :=
  let answer (os : List (Nat × List Byte × Nat)) : State :=
    s.modbusAnswer ([0x2B, 0x0E, BitVec.ofNat 8 code, 0x83, 0, 0, BitVec.ofNat 8 os.length] ++ os.flatMap deviceBytes)
  if mei ≠ 0x0E then s.modbusException 0x2B 1
  else if code = 0 ∨ 4 < code then s.modbusException 0x2B 3
  else if code = 4 then
    match s.deviceObjects.find? (fun o => o.1 == objectId) with
    | some o => answer [o]
    | none => s.modbusException 0x2B 2
  else
    let os := s.deviceObjects.filter (fun o => decide (o.2.2 ≤ code))
    answer (if os.any (fun o => o.1 == objectId) then os.filter (fun o => decide (objectId ≤ o.1)) else os)

/-- READ_DEVICE_IDENTIFICATION. -/
def execReadDeviceIdentification (dt : Nat) (mei code objectId : Nat) (s : State) : Host.Outcome State Fault Refusal :=
  done ((s.elapse dt).modbusFrame (State.identify (mei % 256) (code % 256) (objectId % 256)))

/-! ### Other frames and the time limit -/

/-- The frame of an illegal function. A frame that holds a function code of Table 19-3 and nothing else has the wrong length. -/
def State.illegal (code : Nat) (s : State) : State :=
  s.modbusException code (if code = 3 ∨ code = 4 ∨ code = 0x2B then 3 else 1)

/-- ILLEGAL_FUNCTION. -/
def execIllegalFunction (dt : Nat) (code : Nat) (s : State) : Host.Outcome State Fault Refusal :=
  done ((s.elapse dt).modbusFrame (State.illegal (code % 256)))

/-- A frame that is discarded; only a bad CRC counts. -/
def State.modbusDiscard (why : ModbusDiscard) (s : State) : State :=
  if s.modbusServes && why == .badCrc then { s with modbus.crcErrors := sat32 (s.modbus.crcErrors + 1) } else s

/-- MODBUS_FRAME_DISCARD. -/
def execModbusFrameDiscard (dt : Nat) (why : ModbusDiscard) (s : State) : Host.Outcome State Fault Refusal :=
  done ((s.elapse dt).modbusDiscard why)

/-- The LE has not answered within 100 ms: exception 0x04, and a late answer finds no request (R550). -/
def State.modbusLate (s : State) : State :=
  match s.modbus.outstanding with
  | some (fc :: _, t) => if s.passed t (ms 100) then s.modbusException fc.toNat 4 else s
  | _ => s

/-- MODBUS_LE_TIMEOUT. -/
def execModbusLeTimeout (dt : Nat) (s : State) : Host.Outcome State Fault Refusal := done (s.elapse dt).modbusLate

end Sys2Proof.Machine
end

