-- ==== Sys2Proof/Machine/Receive.lean ====
section
/-!
DEFINITION. Machine/Receive.lean: frames received on CAN: what the CE handles, posts and reassembles, and what the LE pops and judges
(R474, R477 to R484, R497, R503).
-/

namespace Sys2Proof.Machine

/-! ### Segmented requests (R482) -/

/-- The CE posts a plain request towards the LE (R483). -/
def State.postRequest (h : DictHead) (value : List Byte) (s : State) : State := (dictParts h value).foldl (fun t p => t.postDict p) s

/-- The CE posts a received ZOP-S frame towards the LE (R483). -/
def State.postFrame (ch : CanChannel) (id : Nat) (d : List Byte) (s : State) : State := s.cePost 2 (receivedPayload id ch s.now d)

/-- The CE answers a broken transfer or frame with 0x8005 itself: no exchange buffer is used (R482). -/
def State.brokenRequest (ch : CanChannel) (requester service reqSeq index sub type : Nat) (s : State) : State :=
  let s := s.rejectRead { node := requester, chan := .plain } index sub 0x8005 0
  match s.dict.response with
  | some x =>
    let x : Response := { x with type := type }
    State.transmitPlain ch requester service reqSeq x { s with dict.response := some x }
  | none => s

/-- Drop the open transfer of a requester on a channel. -/
def State.dropTransfer (ch : CanChannel) (node : Nat) (s : State) : State :=
  { s with zop.transfers := s.zop.transfers.filter (fun t => !(t.requester == node && t.channel == ch)) }

/-- The open transfer of a requester on a channel. -/
def State.transfer (s : State) (ch : CanChannel) (node : Nat) : Option Transfer :=
  s.zop.transfers.find? (fun t => t.requester == node && t.channel == ch)

/-- The transfer breaks off. -/
def State.breakTransfer (t : Transfer) (s : State) : State :=
  (s.dropTransfer t.channel t.requester).brokenRequest t.channel t.requester t.service t.reqSeq t.index t.sub t.type

/-- A segment continues a transfer: same write, next offset, in time, and no more than LENGTH. -/
def State.continues (s : State) (t : Transfer) (reqSeq offset : Nat) (data : List Byte) : Bool :=
  reqSeq == t.reqSeq && offset == t.data.length && !s.passed t.at_ (ms 100) && decide (data.length ≤ 56) &&
    decide (t.data.length + data.length ≤ t.length)

/-- A SEGMENT frame. One that belongs to no open transfer is ignored. -/
def State.segmentIn (ch : CanChannel) (node reqSeq offset : Nat) (data : List Byte) (last : Bool) (s : State) : State :=
  match s.transfer ch node with
  | none => s
  | some t =>
    let all := t.data ++ data
    if !s.continues t reqSeq offset data || (last && decide (all.length < t.length)) then s.breakTransfer t
    else if last then
      (s.dropTransfer ch node).postRequest
        { node := node, channel := channelCode ch, service := t.service, reqSeq := t.reqSeq, index := t.index, sub := t.sub, type := t.type } all
    else
      let s := s.dropTransfer ch node
      { s with zop.transfers := s.zop.transfers ++ [{ t with data := all, at_ := s.localNow }] }

/-- SEGMENT. -/
def execSegment (dt : Nat) (ch : CanChannel) (node reqSeq offset : Nat) (data : List Byte) (last : Bool) (s : State) :
    Host.Outcome State Fault Refusal :=
  let s := s.elapse dt
  done (if s.rt.cycling && (s.zop.can ch).up then s.segmentIn ch node (reqSeq % 2 ^ 16) (offset % 2 ^ 16) data last else s)

/-- 100 ms have passed since the last segment. -/
def State.segmentLate (ch : CanChannel) (node : Nat) (s : State) : State :=
  match s.transfer ch node with
  | some t => if s.passed t.at_ (ms 100) then s.breakTransfer t else s
  | none => s

/-- SEGMENT_TIMEOUT. -/
def execSegmentTimeout (dt : Nat) (ch : CanChannel) (node : Nat) (s : State) : Host.Outcome State Fault Refusal :=
  done ((s.elapse dt).segmentLate ch node)

/-- A first frame of a plain request: complete, or the beginning of a transfer. -/
def State.plainFirst (ch : CanChannel) (node : Nat) (d : List Byte) (s : State) : State :=
  let s := s.dropTransfer ch node
  let h : DictHead :=
    { node := node, channel := channelCode ch, service := leAt d 2 1, reqSeq := leAt d 4 2, index := leAt d 6 2, sub := leAt d 8 1
      type := leAt d 9 1 }
  let total := leAt d 10 2
  if d.length < 16 then s
  else if bitOf (leAt d 3 1) 1 then
    if d.length < 16 + total then s.brokenRequest ch node h.service h.reqSeq h.index h.sub h.type
    else s.postRequest h ((d.drop 16).take total)
  else
    { s with zop.transfers := s.zop.transfers ++
        [{ requester := node, channel := ch, service := h.service, index := h.index, sub := h.sub, type := h.type, reqSeq := h.reqSeq
           length := total, data := (d.drop 16).take (min 48 total), at_ := s.localNow }] }

/-- A plain frame with a service of the confirmed write, FIRST clear: the LE rejects it as any other of that service (R481). -/
def State.plainConfirmed (ch : CanChannel) (node : Nat) (d : List Byte) (s : State) : State :=
  s.postRequest
    { node := node, channel := channelCode ch, service := leAt d 2 1, reqSeq := leAt d 4 2, index := leAt d 6 2, sub := leAt d 8 1
      type := leAt d 9 1 } []

/-- A plain request frame reaches the CE. -/
def State.plainFrame (ch : CanChannel) (node : Nat) (d : List Byte) (s : State) : State :=
  let service := leAt d 2 1
  if bitOf (leAt d 3 1) 0 then s.plainFirst ch node d
  else if service = 5 then
    let left := match s.transfer ch node with
      | some t => t.length - leAt d 6 2
      | none => 56
    s.segmentIn ch node (leAt d 4 2) (leAt d 6 2) ((d.drop 8).take (min 56 left)) (bitOf (leAt d 3 1) 1)
  else if service = 3 ∨ service = 4 then s.plainConfirmed ch node d
  else s

/-! ### Reception (R474, R477, R479, R480, R503) -/

/-- Identifiers this unit transmits; a connection's too where it produces it and its twin did not send the frame (R503, R531). -/
def State.ownIdentifier (s : State) (id : Nat) (d : List Byte) : Bool :=
  let n := s.zop.nodeId
  id == 0x10 + n || id == 0x30 + n || id == 0x50 + n || id == 0x70 + n || id == 0x200 + n ||
    (decide (0x100 ≤ id) && decide (id < 0x200) && s.zop.conns.any (fun c => c.role == 1 && c.connId == id - 0x100) &&
      !(s.pairMember && sourceOf d == twinOf n)) ||
    (decide (0x400 ≤ id) && decide (id < 0x500) && (id - 0x400) / 16 + 1 == n) ||
    (decide (0x600 ≤ id) && decide (id < 0x700) && (id - 0x600) / 16 + 1 == n)

/-- A frame that the CE posts; a copy of one posted in the preceding T_cycle is not posted again (R479). -/
def State.postOnce (id : Nat) (d : List Byte) (effect : State → State) (s : State) : State :=
  let recent := s.zop.posted.filter (fun p => decide (s.localNow < p.2.2 + us s.rt.cycleUs))
  if recent.any (fun p => p.1 == id && p.2.1 == d) then { s with zop.posted := recent }
  else effect { s with zop.posted := recent ++ [(id, d, s.localNow)] }

/-- A SEGMENT frame continues a transfer on its own channel only (R482): a copy that finds none there leads to no post, and is no copy of one. -/
def plainPosts (s : State) (ch : CanChannel) (node : Nat) (d : List Byte) : Bool :=
  bitOf (leAt d 3 1) 0 || leAt d 2 1 != 5 || (s.transfer ch node).isSome

/-- What the CE does with a frame on each identifier of Table 17-3. -/
def State.dispatchFrame (ch : CanChannel) (id : Nat) (d : List Byte) (s : State) : State :=
  let n := s.zop.nodeId
  if 0x11 ≤ id ∧ id ≤ 0x20 then (if d.length = 8 then s.syncFrame ch (id - 0x10) (leAt d 2 1) (leAt d 4 4) else s)
  else if 0x31 ≤ id ∧ id ≤ 0x40 then
    (if d.length = 24 then
      s.followUpFrame (id - 0x30) (bitOf (leAt d 2 1) 0) (bitOf (leAt d 2 1) 1) (leAt d 4 4) (leAt d 8 8) (leAt d 16 8) else s)
  else if 0x71 ≤ id ∧ id ≤ 0x80 then s.postOnce id d (State.postFrame ch id d)
  else if 0x100 ≤ id ∧ id < 0x200 then
    (if s.zop.conns.any (fun c => c.role == 2 && c.connId == id - 0x100) then s.postOnce id d (State.postFrame ch id d) else s)
  else if 0x201 ≤ id ∧ id ≤ 0x210 then (if d.length = 8 then s.hearNode (id - 0x200) (leAt d 6 2) else s)
  else if 0x300 ≤ id ∧ id < 0x400 ∧ (id - 0x300) % 16 + 1 = n then s.postOnce id d (State.postFrame ch id d)
  else if 0x500 ≤ id ∧ id < 0x600 ∧ (id - 0x500) % 16 + 1 = n then
    let node := (id - 0x500) / 16 + 1
    if plainPosts s ch node d then s.postOnce id d (State.plainFrame ch node d) else s
  else s

/-- PD46, the CE, or the domain of a controller is held in reset (R74). -/
def State.canHeld (s : State) (ch : CanChannel) : Bool := s.startingUp 46 || s.startingUp (match ch with | .a => 50 | .b => 51)

/-- A frame is received on a channel in use. Classical frames, frames with IDE = 1 and frames of another VERSION are ignored. -/
def State.receiveFrame (ch : CanChannel) (id : Nat) (d : List Byte) (fd ide esi : Bool) (s : State) : State :=
  if !s.rt.cycling || !(s.zop.can ch).up || s.canHeld ch || !fd || ide || !fdLengths.contains d.length || decide (0x800 ≤ id) then s
  else
    let s := if esi then s.modCan ch (fun c => { c with esiAt := some s.localNow }) else s
    if !versionOk d then s
    else if s.ownIdentifier id d then s.nodeConflict
    else s.dispatchFrame ch id d

/-- CAN_FRAME_RECEIVE. -/
def execCanFrameReceive (dt : Nat) (ch : CanChannel) (id : Nat) (data : List Byte) (fd ide esi : Bool) (s : State) :
    Host.Outcome State Fault Refusal :=
  done ((s.elapse dt).receiveFrame ch id data fd ide esi)

/-! ### Dictionary requests at the LE (R481, R497) -/

/-- A plain request is judged, and answered at once unless it waits for a boundary. A service other than those of R481 is no request. -/
def State.plainRequest (h : DictHead) (value : List Byte) (s : State) : State :=
  let r : Req := { node := h.node, chan := .plain }
  let ch := channelOf h.channel
  let a : Access :=
    { r := r, index := h.index, sub := h.sub, type := h.type, value := ofLe value, len := value.length, confirmed := false }
  let s := s.request (fun s => match h.service with
    | 1 => s.readObject r h.index h.sub
    | 2 => s.sequencedWrite a (some ch) h.reqSeq
    | 3 | 4 => s.reject a 0x8009 0
    | _ => s)
  s.sendPlain ch h.node h.service h.reqSeq

/-- A ZOP-S dictionary frame passes its CRC under the requester's session (R489, R490). -/
def State.zopsDictOk (s : State) (p : Announced) (d : List Byte) : Bool :=
  d.length == 48 && leAt d 44 4 == seededCrc (s.sessionSeed p.uid 0xFFFF p.node s.zop.nodeId p.epoch) (d.take 44)

/-- A ZOP-S dictionary request is judged by CRC and sequence, then by its service (R497); under a Keys fallback no session exists (R459). -/
def State.zopsRequest (ch : CanChannel) (node : Nat) (d : List Byte) (s : State) : State :=
  match (if s.zop.session = 2 then none else s.peer node) with
  | none => s
  | some p =>
    if !s.zopsDictOk p d then s.eventLimited 0x0A02 (32 + node) (ms 1000) []
    else
      let q := s.dictSeq node
      let seq := leAt d 2 2
      let service := leAt d 12 1
      let place := match q.last with
        | none => SeqPlace.fresh
        | some l =>
          let gap := (seq + 65536 - l) % 65536
          if gap = 0 then .again else if gap ≤ 32767 then .fresh else .stale
      match place with
      | .stale => s.event 0x0A03 []
      | .again =>
        if q.answer.isEmpty then s else s.leSendOn ch (0x400 + 16 * (s.zop.nodeId - 1) + (node - 1)) q.answer
      | .fresh =>
        let s := s.setDictSeq { q with last := some seq, answer := [] }
        let s := s.request (State.confirmedRequest { node := node, chan := .zops } (some ch) service (leAt d 14 2) (leAt d 16 1) (leAt d 17 1)
          (leAt d 20 8) (leAt d 36 4) (leAt d 40 4))
        s.sendZops ch node service

/-! ### The LE's pop (R250, R484) -/

/-- The bytes that buffer n carries. -/
def State.payload (s : State) (n : Nat) : List Byte := cellBytes 0 s.le.ram (bufferAddr n 0) (s.buffer n).len

/-- A received ZOP-S frame, kind 0x02. -/
def State.readFrame (d : List Byte) (s : State) : State :=
  let id := leAt d 0 2
  let data := (d.drop 12).take (leAt d 3 1)
  if !versionOk data then s
  else if 0x71 ≤ id ∧ id ≤ 0x80 then s.hearControl data
  else if 0x100 ≤ id ∧ id < 0x200 then s.dataFrameIn (id - 0x100) data
  else if 0x300 ≤ id ∧ id < 0x400 then s.zopsRequest (channelOf (leAt d 2 1)) ((id - 0x300) / 16 + 1) data
  else s

/-- A part of a dictionary request, kind 0x03: the request is judged when its last part has arrived (R483). NODE 0xFE is the Modbus window
(R549). -/
def State.readPart (d : List Byte) (s : State) : State :=
  let node := leAt d 0 1
  if node = 0xFE then s.modbusPop (leAt d 4 2) (leAt d 6 2) (leAt d 0xA 2 / 2)
  else
    let part := leAt d 3 1
    let value := (if bitOf part 0 then [] else s.zop.parts) ++ d.drop 0x14
    if !bitOf part 1 then { s with zop.parts := value }
    else
      let s := { s with zop.parts := [] }
      if node = 0 ∨ 16 < node then s
      else s.plainRequest
        { node := node, channel := leAt d 1 1, service := leAt d 2 1, reqSeq := leAt d 4 2, index := leAt d 6 2, sub := leAt d 8 1
          type := leAt d 9 1 } value

/-- The LE reads a buffer it has popped. -/
def State.readBuffer (n : Nat) (s : State) : State :=
  match (s.buffer n).kind with
  | 2 => s.readFrame (s.payload n)
  | 3 => s.readPart (s.payload n)
  | 7 => (tailRecords 20 (s.payload n)).foldl (fun t r => t.enterTwin r) s
  | _ => s

/-- The LE takes the oldest entry of its queue: it reads the buffer unless UE is set, and releases it (R250, R253). -/
def State.popRead (s : State) : State :=
  match s.popped .le with
  | none => s.popQueue .le
  | some n =>
    let bad := (s.buffer n).ue
    let s := s.popQueue .le
    (if bad then s else s.readBuffer n).releaseRead .le n

/-- What the LE still takes in a cycle: ZOP-S frames, dictionary buffers, entries of the ME (R484). A ZOP-S dictionary frame is taken as a
dictionary buffer (DESIGN CHOICE, log entry 118). -/
structure Allotment where
  data : Nat
  dict : Nat
  me : Nat

/-- The allotment with buffer n taken, none where it is used up. -/
def State.allot (s : State) (n : Nat) (a : Allotment) : Option Allotment :=
  let kind := (s.buffer n).kind
  let dict := kind = 3 ∨ (kind = 2 ∧ 0x300 ≤ leAt (s.payload n) 0 2)
  if dict then (if a.dict = 0 then none else some { a with dict := a.dict - 1 })
  else if kind = 7 then (if a.me = 0 then none else some { a with me := a.me - 1 })
  else if a.data = 0 then none else some { a with data := a.data - 1 }

/-- The LE pops entries in order, up to its allotment: no entry overtakes another (R249, R499). -/
def State.popBuffers : Nat → Allotment → State → State
  | 0, _, s => s
  | k + 1, a, s =>
    match s.popped .le with
    | none => s
    | some n => match s.allot n a with
      | none => s
      | some a => State.popBuffers k a s.popRead

/-- The LE's exchange work of a cycle: it pops its queue, up to 12 ZOP-S frames, 3 dictionary buffers, 1 entry of the ME and 16 entries in
all, and posts the records entered since (R250, R484, R582). -/
def State.popInbound (s : State) : State :=
  State.postRecords { State.popBuffers 16 { data := 12, dict := 3, me := 1 } s with rt.popped := true }

/-! ### POP, and what the CE and the ME do with what they pop (R30, R248) -/

/-- The CE's part of buffer n: a frame goes to the transmit queues, the last part of a response is answered, records enter the spool of the
newest 1,024 (R586). -/
def State.ceHandles (n : Nat) (s : State) : State :=
  let d := s.payload n
  match (s.buffer n).kind with
  | 1 =>
    let data := (d.drop 4).take (leAt d 3 1)
    let s := if bitOf (leAt d 2 1) 0 then s.sendOn .a (leAt d 0 2) data else s
    if bitOf (leAt d 2 1) 1 then s.sendOn .b (leAt d 0 2) data else s
  | 4 =>
    let error := leAt d 0xE 2
    if leAt d 0 1 = 0xFE then s.modbusDeliver (leAt d 4 2) (if error = 0 then some (d.drop 0x14) else none)
    else
      let value := (if bitOf (leAt d 3 1) 0 then [] else s.zop.ceParts) ++ d.drop 0x14
      if !bitOf (leAt d 3 1) 1 then { s with zop.ceParts := value }
      else
        let a : Response :=
          { requester := leAt d 0 1, index := leAt d 6 2, sub := leAt d 8 1, type := leAt d 9 1, error := error, detail := leAt d 0x10 1
            value := ofLe value, size := value.length, current := 0, token := 0, code := 0 }
        State.transmitPlain (channelOf (leAt d 1 1)) (leAt d 0 1) (leAt d 2 1) (leAt d 4 2) a { s with zop.ceParts := [] }
  | 5 =>
    let rs := tailRecords 20 d
    { s with ledger.spool := (s.ledger.spool ++ rs).drop (s.ledger.spool.length + rs.length - 1024) }
  | _ => s

/-- The ME's part of buffer n: records for the next snapshot's tail, on an active member (R519). -/
def State.meHandles (n : Nat) (s : State) : State :=
  if (s.buffer n).kind = 6 ∧ s.mirror.role = 1 then { s with mirror.tail := s.mirror.tail ++ (tailRecords 20 (s.payload n)).map EventRecord.bytes }
  else s

/-- POP: the engine takes the oldest entry, does what the entry asks of it unless UE is set, and releases the buffer. -/
def State.pop (port : Owner) (s : State) : State :=
  match port, s.popped port with
  | .le, _ => s.popRead
  | .ce, some n => ((if (s.buffer n).ue then s.popQueue .ce else (s.popQueue .ce).ceHandles n)).releaseRead .ce n
  | .me, some n => ((if (s.buffer n).ue then s.popQueue .me else (s.popQueue .me).meHandles n)).releaseRead .me n
  | _, _ => s.popQueue port

def execPop (dt : Nat) (port : Owner) (s : State) : Host.Outcome State Fault Refusal := done ((s.elapse dt).pop port)

end Sys2Proof.Machine
end

