-- ==== Sys2Proof/Machine/States.lean ====
section
/-!
DEFINITION. Machine/States.lean: the transitions of Table 1-6: what leaving and entering a state does, the evaluation of faults, and that of
state requests (R37 to R54).
-/

namespace Sys2Proof.Machine

/-! ### Leaving and entering a state -/

/-- Leaving Run ends the pair's role, the producers and a pulse in progress, and discards the instances' state (R298, R314, R362, R510). -/
def State.leaveRun (s : State) : State := ((s.stopConns.leavePair).breakPulse).discardLibrary

/-- What leaving the present state does. -/
def State.leaveState (s : State) : State :=
  match s.rt.state with
  | .run => s.leaveRun
  | .service => s.leaveService
  | _ => s

/-- The passes begin at the last boundary, at an entry to Run or Service or after a service BIST: the encoding of R209 with its zeroing and
tags, the instances' initial states, a new window, and the placement instant that arms the watchdog unless simulation is active (R194, R208,
R209, R218, R283, R341). The restart after a service BIST loads `SIG_WINDOW` too: DESIGN CHOICE (log entry 145). -/
def State.startPasses (s : State) : State :=
  let s := { s with
    rt.runSince := s.rt.boundary
    rt.encoding := none
    rt.encodingDone := false
    field.images := []
    field.wdArmAt := if s.service.simActive then none else some (s.rt.boundary + us s.rt.cycleUs + us 100)
    passes.windowActive := s.sigWindow
    passes.plainFolds := 0
    passes.shadowFolds := 0
    service.resuming := false }
  let s := (s.startLibrary.restartWindow).zeroGranules 1280 4864
  match s.images.image with
  | some i => ((s.tagLogic i.stateSize i.stackSize).putStateNative).putStateCoded
  | none => { s with le.tags := s.le.tags.filter (fun t => decide (t.1 < 1280)) }

/-- What Run adds: the new cycle length, the glint counts, the connections and the pair (R46, R301, R491, R492, R524). -/
def State.beginRun (s : State) : State :=
  let s := State.startPasses { s with rt.cycleUs := s.safeCycle }
  let s := { s with
    glint.ownRun := List.replicate 32 0
    glint.foreignRun := List.replicate 256 0
    field.banks := s.field.banks.map (fun (b : Bank) => ({ b with closeFailed := false } : Bank)) }
  let s := (List.range 32).foldl (fun t n => if t.sensorSupply n then t.command n true else t) s
  s.startConns.enterPair

/-- The lifecycle states from which Run is reachable (Table 1-9). -/
def State.runReachable (s : State) : Bool := decide (2 ≤ s.otp.lifecycle) && decide (s.otp.lifecycle ≤ 5)

/-- The safety bank switches wait for the first placement instant after the boundary: on leaving Run by a request or to SafeStop, where the
outputs go off then too (R285, R311; DEDUCED, log entry 116). -/
def switchesWait (old st : RunState) : Bool := old == .run && st != .lockout

/-- Enter state `st` at the last boundary: pending slots empty (R454), an entry to Run or Service clears the latched safe state (R284), the
bank switches follow the state, and outside Run the outputs take Table 9-5 at the next placement instant (R275, R285). -/
def State.enterState (st : RunState) (s : State) : State :=
  let old := s.rt.state
  let s := s.leaveState
  let passes := decide (st = RunState.run) || decide (st = RunState.service)
  let s := { s with
    field.safeState := s.field.safeState && !passes
    field.faultLine := s.field.faultLine && !passes
    rt.state := st
    rt.entryTime := s.rt.boundary
    rt.encoding := none
    rt.encodingDone := false
    rt.autoStart := decide (st = RunState.hold) && s.autoStartSet && s.runReachable
    dict.slots := []
    dict.superseded := []
    field.wdArmed := false
    field.wdArmAt := none
    field.applyState := decide (st ≠ RunState.run)
    field.safeStopCycles := 0 }
  let s := match st with
    | .run => s.beginRun
    | .service => s.startPasses
    | _ => s
  (if switchesWait old st then s else s.setBanks).refreshDrivers []

/-! ### Faults (R40, R45, R49, R85, R592) -/

/-- The lowest cause of a class among those detected. -/
def lowestCause (cls : FaultClass) (l : List Detected) : Option Nat :=
  l.foldl (fun m d => if d.cls == cls then some (match m with | some c => min c d.cause | none => d.cause) else m) none

/-- The transition that the faults of a boundary bring: the state and the cause (R38, R49). -/
def State.faultOutcome (l : List Detected) (s : State) : Option (RunState × Nat) :=
  let lockable := s.rt.state == .hold || s.logicState || s.rt.state == .safeStop
  match lowestCause .nonRecoverable l, lowestCause .recoverable l with
  | some c, r => if lockable then some (.lockout, c) else if s.rt.state == .run then r.map (fun c => (.safeStop, c)) else none
  | none, some c => if s.rt.state == .run then some (.safeStop, c) else none
  | none, none => none

/-- Record every fault, the one that becomes `STATE_CAUSE` marked (R49). -/
def State.recordFaults (chosen : Option Nat) : List Detected → State → State
  | [], s => s
  | d :: r, s =>
    let isCause := chosen == some d.cause
    State.recordFaults (if isCause then none else chosen) r (s.logRecord (s.newRecord d.cause d.time isCause d.data))

/-- A non-recoverable fault ends an OTP command in progress, but in Tested and Returned (R179): the fuses burned so far stay, and the status
of the section is read anew (log entry 53). -/
def State.lockoutCommand (s : State) : State :=
  match s.otp.running with
  | none => s
  | some run =>
    if s.workshop then s
    else
      let s := s.abortBurn false
      State.applyDomains { s with otp := s.otp.reread run.sel }

/-- Entry to SafeStop or Lockout by a cause. The latch is set in the store, or in the retained register while the gate is closed; its
acknowledge waits for the next cold start (R41). -/
def State.enterByFault (st : RunState) (cause : Nat) (s : State) : State :=
  let s := s.enterState st
  let lock := st == .lockout
  let s := if lock then s.lockoutCommand else s
  let s := { s with
    rt.stateCause := cause
    rt.lockoutLatch := s.rt.lockoutLatch || lock
    rt.ackArmed := s.rt.ackArmed && !lock
    boot.retained.latch := s.boot.retained.latch || (lock && s.power.gateClosed)
    boot.retained.latchCause := if lock && s.power.gateClosed then cause else s.boot.retained.latchCause }
  s.persistLatch.persistGroups

/-- Evaluate the faults of the last cycle. At an entry to SafeStop glint causes not yet carried into an evaluated image are recorded too, and
clear with the others (R313). -/
def State.evaluateFaults (l : List Detected) (s : State) : State :=
  match s.faultOutcome l with
  | some (.safeStop, c) =>
    let s := (s.recordFaults (some c) l).recordFaults none (s.glint.carried ++ s.glint.waiting)
    State.enterByFault .safeStop c { s with glint.carried := [], glint.waiting := [] }
  | some (st, c) => (s.recordFaults (some c) l).enterByFault st c
  | none => s.recordFaults none l

/-! ### Hold → Run (R40, R46, R53, R54, R60, R110, R179, R289, R312, R333, R372, R378, R487, R502, R537) -/

/-- The pair's check (R537). -/
def State.pairCheck (s : State) (i : ActiveImage) : Bool :=
  !s.pairMember ||
    (s.mirrorPartner == twinOf s.zop.nodeId && s.syncRequired && s.mirroredCheck i && s.snapshotCheck i s.zop.conns.length &&
      (match s.mirror.twin with
        | some t => t.role != 1 || s.pairAgrees
        | none => true))

/-- An enabled pair whose channels have no valid sample yet, or that a pending reset leaves without one (R327, R332). -/
def State.sampleMissing (s : State) : Bool :=
  (List.range 4).any (fun p =>
    let q := s.pair p
    s.anEnable p && !(q.on && q.synced && q.syncAt.isNone && q.a.valid && q.b.valid))

/-- Events that refuse Hold → Run, ascending. -/
def State.runEvents (s : State) : List Nat :=
  let when_ (b : Bool) (code : Nat) : List Nat := if b then [code] else []
  let byImage (f : ActiveImage → Bool) : Bool := match s.images.image with
    | some i => !f i
    | none => false
  when_ (!s.power.estimateMade) 0x0105 ++
    when_ (s.syncRequired && !s.synced) 0x0204 ++
    when_ (byImage (fun i => decide (i.declaredUs + 60 ≤ s.safeCycle))) 0x0401 ++
    when_ (!s.groupsOk || byImage (fun i => s.channelCheck i s.lib.blocks)) 0x0708 ++
    when_ (!s.glintSettings || byImage (fun i => s.glintCheck i s.lib.blocks)) 0x0710 ++
    when_ (!s.analogSettings || byImage s.analogCheck) 0x0805 ++
    when_ s.sampleMissing 0x0806 ++
    when_ (byImage (fun i => s.connectionCheck i s.zop.conns)) 0x0A08 ++
    when_ (byImage s.pairCheck) 0x0B07 ++
    when_ s.otp.shadow.isSome 0x0C0B

/-- In Tested or Returned a DAMAGED Repair or Keys section leaves the unit unable to reach Run (R178). -/
def State.damaged (s : State) : Bool :=
  s.workshop && [OtpSection.repairT, .repairR, .keysFactory, .keysOem].any (fun sec => s.otp.reported sec == 4)

/-- Conditions that refuse Hold → Run without an event of their own. -/
def State.runBarred (s : State) : Bool :=
  !s.rt.active.isEmpty || !s.store.missing.isEmpty || s.images.image.isNone || s.rt.splitSinceReset || s.zop.session != 1 ||
    s.boot.identityStatus != 0 || s.otp.running.isSome || s.damaged

/-- A refusal for an OTP command in progress is recorded; its record has no stated code (R179, log entry 34). -/
def State.noteCommand (s : State) : State :=
  if s.otp.running.isSome then
    let (v, s) := s.drawFree
    s.event (v.toNat % 65536) []
  else s

/-- A Run request in Hold: the encoding begins, or the refusal's events are recorded. The flag says that it was accepted. -/
def State.judgeRun (s : State) : State × Bool :=
  if s.rt.state != .hold || !s.runReachable then (if s.rt.state == .service then s.noteCommand else s, false)
  else if s.rt.encoding == some .run then (s, true)
  else
    let es := s.runEvents
    if es.isEmpty && !s.runBarred then ({ s with rt.encoding := some .run, rt.encodingDone := false }, true)
    else (State.noteCommand (es.foldl (fun t c => t.event c []) s), false)

/-! ### State requests (R38, R39, R41, R48, R50) -/

/-- In Raw and Retired the unit reaches Hold and stays there (R54). -/
def State.serviceReachable (s : State) : Bool := s.otp.lifecycle != 1 && s.otp.lifecycle != 6

/-- A request for Service begins the encoding: from Hold or Run (Table 1-6), but not in Raw and Retired (R54). -/
def State.judgeService (s : State) : State × Bool :=
  if (s.rt.state == .hold || s.rt.state == .run) && s.serviceReachable then
    ({ s with rt.encoding := some .service, rt.encodingDone := false }, true)
  else (s, false)

/-- A request for Hold: at once from Run and Service; in Hold it ends an encoding. -/
def State.judgeHold (s : State) : State × Bool :=
  if s.logicState then
    let stop := s.rt.state == .run && s.mirror.role == 1
    let s := s.enterState .hold
    (if stop then { s with mirror.sendStop := some 3 } else s, true)
  else if s.rt.state == .hold && s.rt.encoding.isSome then ({ s with rt.encoding := none, rt.encodingDone := false }, true)
  else (s, false)

/-- The lockout acknowledge clears the latch after a start that armed it (R41, R135). -/
def State.judgeAck (s : State) : State × Bool :=
  if s.rt.state == .lockout && s.rt.ackArmed then
    let s := { s with rt.lockoutLatch := false, boot.retained.latch := false }
    (State.enterState .hold s.persistLatch, true)
  else (s, false)

/-- `SAFESTOP_ACK` with every cause cleared (R50). -/
def State.judgeSafeStopAck (s : State) : State × Bool :=
  if s.rt.state == .safeStop && s.rt.active.isEmpty then (s.enterState .hold, true) else (s, false)

/-- Evaluate one request. -/
def State.judgeRequest (q : QueuedWrite) (s : State) : State × Bool :=
  if q.sub = 5 then s.judgeSafeStopAck
  else match q.value with
    | 1 => s.judgeRun
    | 2 => s.judgeService
    | 3 => s.judgeHold
    | 5 => s.judgeAck
    | _ => (s, false)

/-- At a boundary at which a fault changed the state a request is only judged again, and refused (R49, R454). -/
def State.outrankRequest (s : State) (q : QueuedWrite) : State :=
  match s.judgeWrite q.access with
  | 0 => s.answerRequest q 0x800E s.rt.state.code
  | c => s.answerRequest q c 0

/-- The requests of the last cycle, in the order of their receipt: the earlier ones are discarded (R48), and the last one is evaluated unless
a fault outranks it. It ends a pending automatic start. -/
def State.evaluateRequests (qs : List QueuedWrite) (faulted : Bool) (s : State) : State :=
  match qs.getLast? with
  | none => s
  | some q =>
    let s := qs.dropLast.foldl State.discardRequest { s with rt.autoStart := s.rt.autoStart && faulted }
    if faulted then s.outrankRequest q
    else
      let old := s.rt.state.code
      let (s, ok) := s.judgeRequest q
      s.answerRequest q (if ok then 0 else 0x800E) (if ok then 0 else old)

/-- The twin's PAIR_STOP moves a standby or joining unit to the same state (R526). -/
def State.followPairStop (s : State) : State :=
  if s.rt.state == .run && (s.mirror.role == 2 || s.mirror.role == 3) then
    match s.mirror.pairStop with
    | some 2 => s.enterState .service
    | some 3 => s.enterState .hold
    | _ => s
  else s

/-- The automatic start, evaluated once at the first boundary at which `SESSION_STATE` no longer reads 0x00 (R38, R487). -/
def State.automaticStart (s : State) : State :=
  if s.rt.autoStart && s.rt.state == .hold && s.zop.session != 0 then (State.judgeRun { s with rt.autoStart := false }).1 else s

/-- An encoding complete: Run or Service begins at this boundary, Run at the first one that is also a boundary of the new cycle; a fault that
blocks Run, or a refusal that has arisen meanwhile, ends it and is recorded as at the request (R40, R46, R110, R209, R289). -/
def State.finishEncoding (s : State) : State :=
  if !s.rt.encodingDone then s
  else match s.rt.encoding with
    | some .run =>
      let es := s.runEvents
      if s.rt.state != .hold then { s with rt.encoding := none, rt.encodingDone := false }
      else if s.runBarred || !es.isEmpty then
        State.noteCommand (es.foldl (fun t c => t.event c []) { s with rt.encoding := none, rt.encodingDone := false })
      else if s.rt.boundary % us s.safeCycle = 0 then s.enterState .run
      else s
    | some .service =>
      if s.rt.state == .service then s.startPasses
      else
        let stop := s.rt.state == .run && s.mirror.role == 1
        let s := s.enterState .service
        if stop then { s with mirror.sendStop := some 2 } else s
    | _ => { s with rt.encoding := none, rt.encodingDone := false }

/-- The encoding has been made and read back; a word that differs from its native twin is cause 0x0403 (R209). -/
def State.encodingComplete (differs : Option Nat) (s : State) : State :=
  if s.rt.encoding.isNone || s.rt.encodingDone then s
  else match differs with
    | some off => State.passFault 0x0403 off { s with rt.encoding := none }
    | none => { s with rt.encodingDone := true }

/-- RUN_ENCODING_COMPLETE. -/
def execRunEncodingComplete (dt : Nat) (differs : Option Nat) (s : State) : Host.Outcome State Fault Refusal :=
  done ((s.elapse dt).encodingComplete differs)

end Sys2Proof.Machine
end

