-- ==== Sys2Proof/Machine/Cycle.lean ====
section
/-!
DEFINITION. Machine/Cycle.lean: the boundary of the safety cycle: the IOS's freeze and checks, the LE's evaluation of faults, requests and
writes, and the start of the passes (R33 to R36, R42, R47 to R49).
-/

namespace Sys2Proof.Machine

/-! ### The evaluation of the library in a cycle -/

/-- The library's part of both passes: the plain pass's evaluation and what the shadow pass reads and commands, with the words each writes
(R183, R191, R195). The coded words are checked as they are read (R189). -/
def State.evaluatePasses (s : State) : State :=
  let bad := (s.badInput (s.lib.blocks.flatMap blockItems)).map (fun i => 0xC000 + itemPlace false i)
  let trap := bad.orElse fun _ => s.badState s.stateRegions
  let slots := s.shadowSlots
  let t := s.evaluateLibrary
  let t := t.plainBlocks t.slotValue
  let t := if trap.isSome then t else t.shadowBlocks slots.getLsbD
  { t with
    passes.shadowSlots := slots
    passes.readTrap := trap
    rt.libDone := true }

/-! ### The IOS's side of a boundary -/

/-- A bank's fault bit at the freeze: cause 0x0704 in a safety bank, event 0x0709 at its rise in another (R280). -/
def State.bankFault (old : Bank) (b : Nat) (s : State) : State :=
  let k := s.bank b
  if !k.faultNow then s
  else if s.safetyBank b then s.recoverable 0x0704 []
  else if old.faultNow then s
  else s.event 0x0709 []

/-- Whether a cycle carried a mark, as the stall count sees it (R42). -/
def State.countStall (s : State) : State :=
  { s with rt.stallCount := if s.rt.leMark then 0 else s.rt.stallCount + 1, rt.leMark := false }

/-- The freeze at the boundary: supplies, domains, channels, banks, counting inputs, glint causes and analog pairs, each as the IOS or the
power controller samples it, and the causes that the image carries (R34, R75, R280, R281, R308, R311, R324). -/
def State.freeze (tk : Nat) (x : Sensors) (s : State) : State :=
  let old := s.field.banks
  let s := (s.compareSupplies x.fs1Mv x.fs2Mv).compareDomains x.domainGood
  let s := (List.range 32).foldl (fun t n => t.freezeChannel tk (x.pinMv.getD n 0) n) s
  let s := (List.range 4).foldl (fun t b => t.freezeBank x.railHigh x.railLow b) s
  let s := { s with
    counters := s.counters.map Counter.freeze
    glint.carried := s.glint.waiting
    glint.waiting := [] }
  let s := s.freezeAnalog x.ref1 x.ref2 x.bandgap
  (List.range 4).foldl (fun t b => t.bankFault (old.getD b {}) b) s

/-- A new cycle begins at the last multiple of T_cycle (R33): the counts of R42 and R44, and the freeze. -/
def State.newCycle (x : Sensors) (s : State) : State :=
  let tk := s.dueLocal
  let s := s.countSeconds
  let s := State.countStall { s with
    rt.boundary := s.dueBoundary
    clock.steppedTo := none
    rt.cycleCount := wrap32 (s.rt.cycleCount + 1)
    rt.popped := false
    xch.correctedCount := sat32 (s.xch.correctedCount + x.xchCorrected)
    images.eccCorrected := sat32 (s.images.eccCorrected + x.imageCorrected)
    field.placementDue := true
    field.safeStopCycles := if s.rt.state == .safeStop then satAt 255 (s.field.safeStopCycles + 1) else s.field.safeStopCycles }
  (s.freeze tk x).postHeld

/-- The frozen image enters both input areas (R184). While the passes are halted they hold the image of their own t_k, which a step or the
resumed cycle still reads (R183, R565). -/
def State.takeImage (s : State) : State := if s.passes.halted then s else s.writeInputs

/-- A boundary that the LE passes while its passes still run: only the IOS and the ME work, the causes wait for the next boundary of the LE,
and what is frozen here is never evaluated: the areas keep the image of the passes' own t_k (R36, R183, R193, R517, R522). -/
def State.passedBoundary (x : Sensors) (s : State) : State :=
  let s := if s.rt.libDone then s else s.evaluatePasses
  let g := s.glint.carried
  let a := s.analog.carried
  let s := s.newCycle x
  let s := { s with rt.popped := true, glint.carried := g ++ s.glint.carried, analog.carried := a ++ s.analog.carried }
  (s.countMissed.commitBoundary).sendStatus

/-! ### The LE's side -/

/-- Faults detected before this boundary, with those that the image evaluated now carried. -/
def State.pendingFaults (s : State) : List Detected := s.rt.detected ++ s.glint.carried ++ s.analog.carried

/-- Faults, then requests, then the other writes, then debug requests (R49, R443, R454, R576). While the service BIST has the LE, requests
and writes wait (R570). -/
def State.evaluateBoundary (faults : List Detected) (s : State) : State :=
  let old := s.rt.state
  let s := s.evaluateFaults faults
  let faulted := s.rt.state != old
  if s.service.bistFrom.isSome then s
  else
    let reqs := s.dict.queued.filter QueuedWrite.isStateRequest
    let s := { s with dict.queued := s.dict.queued.filter (fun q => !q.isStateRequest) }
    let s := s.evaluateRequests reqs faulted
    let s := if faulted then s else (s.followPairStop.automaticStart).finishEncoding
    (s.applyWrites (s.rt.state != old)).debugBoundary

/-- The LE's remaining work at the boundary: exchanges, buffers, the twin's snapshot and frames, the image the passes read, and the STATE
and STATUS frames. -/
def State.boundaryWork (old : RunState) (cause : Nat) (s : State) : State :=
  let s := s.exchangeBoundary.xchBoundary
  let s := ((s.countMissed.commitBoundary).selectCopied).freezeConns.freezeLibrary
  let s := s.useTrim
  let s := if s.rt.state != old || s.rt.stateCause != cause then s.sendState else s
  s.sendStatus

/-- The passes of the new cycle start where Table 6-6 has them run; after a resume they complete the halted cycle (R203, R567). -/
def State.launchPasses (s : State) : State :=
  { s with
    rt.passesRunning := s.passesActive
    rt.passTag := if s.service.resuming then s.service.haltedTag else s.rt.boundary
    rt.libDone := s.service.resuming }

/-- A boundary at which the LE is free. -/
def State.fullBoundary (x : Sensors) (s : State) : State :=
  let s := if s.rt.popped || s.service.bistFrom.isSome then s else s.popInbound
  let faults := s.pendingFaults
  let old := s.rt.state
  let cause := s.rt.stateCause
  let s := (State.newCycle x { s with rt.detected := [], glint.carried := [], analog.carried := [] }).takeImage
  let s := s.evaluateBoundary faults
  let s := (s.boundaryWork old cause).launchPasses
  if s.rt.resetAtBoundary then s.resetSource 7 else s

/-- CYCLE_BOUNDARY: a pending step first (R112), then the boundary. -/
def State.cycleBoundary (x : Sensors) (s : State) : State :=
  if !s.boundaryDue then s
  else
    let s := s.stepAtBoundary
    if s.rt.passesRunning then s.passedBoundary x else s.fullBoundary x

def execCycleBoundary (dt : Nat) (sense : Sensors) (s : State) : Host.Outcome State Fault Refusal := done ((s.elapse dt).cycleBoundary sense)

/-! ### The LE's mark and its stall (R42) -/

/-- LE_ALIVE_WRITE. -/
def State.aliveMark (s : State) : State := if s.rt.cycling then { s with rt.leMark := true, rt.stallCount := 0 } else s

def execLeAliveWrite (dt : Nat) (s : State) : Host.Outcome State Fault Refusal := done (s.elapse dt).aliveMark

/-- LE_STALL: 256 boundaries after cycles without a mark. -/
def State.leStall (s : State) : State := if s.rt.cycling && decide (256 ≤ s.rt.stallCount) then s.resetSource 4 else s

def execLeStall (dt : Nat) (s : State) : Host.Outcome State Fault Refusal := done (s.elapse dt).leStall

end Sys2Proof.Machine
end

