-- ==== Sys2Proof/Machine/Handover.lean ====
section
/-!
DEFINITION. Machine/Handover.lean: the end of the passes: what they wrote, folds and window, the joint halt, the overrun rule, the comparison
of the output images and what follows the hand-over (R34, R36, R189 to R196, R199, R210).
-/

namespace Sys2Proof.Machine

/-! ### What the passes did -/

/-- Native output words found inverted at the hand-over (R196). -/
def State.alterOutputs (r : PassResult) (s : State) : State :=
  { s with le.outputs := s.le.outputs.mapIdx (fun n w => if r.plainDiff.getLsbD n then boolWord (w == 0) else w) }

/-- Coded output words found altered at the hand-over (R190). -/
def State.alterCoded (r : PassResult) (s : State) : State :=
  { s with le.outputsCoded := s.le.outputsCoded.mapIdx (fun n w => match r.codedOut.find? (fun c => c.1 == n) with
      | some c => c.2
      | none => w) }

/-- The plain pass up to its end, to the halt point or to a violation: its instructions, its further writes, and its folds unless split
debug froze them (R191, R202, R222). -/
def State.plainPass (r : PassResult) (ended : Bool) (s : State) : State × Option PassStop :=
  let live := !s.passes.split
  match thenPass (runPass (State.plainInstr live) r.instrs s) (runPass (State.plainWrite live) r.plainWrites) with
  | (t, some e) => (t, some e)
  | (t, none) =>
    (if ended && live then { t with
        passes.sigPlain := foldEnd t.passes.sigPlain t.passes.plainFolds t.rt.passTag, passes.plainFolds := 0 }
      else t, none)

/-- The shadow pass up to its end, the halt point, its first trap or a violation (R189, R191, R222). -/
def State.shadowPass (r : PassResult) (ended : Bool) (s : State) : State × Option PassStop :=
  match s.passes.readTrap with
  | some off => (s, some (.trap off))
  | none =>
    match thenPass (runPass State.shadowInstr r.instrs s) (runPass State.shadowWrite r.shadowWrites) with
    | (t, some e) => (t, some e)
    | (t, none) =>
      match r.trapAt with
      | some off => (t, some (.trap off))
      | none =>
        (if ended then { t with
            passes.sigShadow := foldEnd t.passes.sigShadow t.passes.shadowFolds t.rt.passTag, passes.shadowFolds := 0 }
          else t, none)

/-- Durations of the passes (R206). Their objects range up to T_cycle, and a longer one reads so: DESIGN CHOICE (log entry 51). -/
def State.passTimes (r : PassResult) (s : State) : State :=
  let cap (n : Nat) : Nat := min n s.rt.cycleUs
  let shadow := if s.passes.split then 0 else r.shadowUs
  { s with
    passes.plainTime := cap r.plainUs
    passes.shadowTime := cap shadow
    rt.passTimeMax := max s.rt.passTimeMax (cap (r.plainUs + shadow)) }

/-! ### The window (R191, R192) -/

/-- The window advances after the pass-end folds of a cycle. -/
def State.advanceWindow (s : State) : State := { s with passes.position := s.passes.position + 1 }

/-- The comparison at the end of a window: cause 0x0402 where the registers differ. -/
def State.compareWindow (s : State) : State :=
  if s.passes.position < s.passes.windowActive then s
  else
    let differ := s.passes.sigPlain != s.passes.sigShadow
    let s := { s with
      passes.plainLast := s.passes.sigPlain
      passes.shadowLast := s.passes.sigShadow
      passes.compareCount := sat32 (s.passes.compareCount + 1) }
    let s := if differ then s.passFault 0x0402 0xFFFFFFFF else s
    s.restartWindow

/-! ### The output images (R190, R195, R196, R199) -/

/-- The plain image, as the IOS reads it from the native output area. A native BOOL is 0 or 1; another word there commands on (DESIGN CHOICE,
log entry 115). -/
def State.plainImage (s : State) : BitVec 32 := BitVec.ofBoolListLE ((List.range 32).map (fun n => s.le.outputs.getD n 0 != 0))

/-- The first slot whose word in the coded output area fails the IOS's check, or the shadow image (R190). -/
def State.decodeSlots (s : State) : Nat ⊕ BitVec 32 :=
  (List.range 32).foldl (fun acc n => match acc with
    | .inl e => .inl e
    | .inr v => match codedBool s.images.codeConstant (s.le.outputsCoded.getD n 0) with
      | some b => .inr (if b then v ||| BitVec.twoPow 32 n else v)
      | none => .inl n) (.inr 0)

/-- Safety RAM offsets of the words of the ZOP-S producer slots (R491). -/
def State.producerWords (s : State) : List Nat :=
  s.zop.conns.flatMap (fun c => if c.role = 1 then (List.range c.words).map (fun i => 0x10000 + c.slot + 4 * i) else [])

/-- The first producer word whose twin fails the check. -/
def State.producerUndecoded (s : State) : Option Nat :=
  s.producerWords.find? (fun off => (codedQuotient s.images.codeConstant (s.codedWord off)).isNone)

/-- The first producer word that differs from its decoded twin. -/
def State.producerDiffers (s : State) : Option Nat :=
  s.producerWords.find? (fun off => (codedQuotient s.images.codeConstant (s.codedWord off)).map nativeOf != some (s.nativeWord off))

/-- The first safety output slot in which the images differ. -/
def State.slotDiffers (s : State) (plain shadow : BitVec 32) : Option Nat :=
  (List.range 32).find? (fun n => isSafetyMode (s.ch n).mode && plain.getLsbD n != shadow.getLsbD n)

/-- The images as the IOS takes them, or the cause and `FAULT_ADDRESS` of the check that fails: every word is decoded first, then the safety
slots are compared, so a word that fails makes no comparison (DESIGN CHOICE, log entry 144). Split debug hands over the plain image alone
(R202). -/
def State.outputImages (s : State) : (Nat × Nat) ⊕ (BitVec 32 × BitVec 32) :=
  let plain := s.plainImage
  if s.passes.split then .inr (plain, 0)
  else match s.decodeSlots, s.producerUndecoded with
    | .inl n, _ => .inl (0x0405, n)
    | .inr _, some off => .inl (0x0405, off)
    | .inr shadow, none =>
      match s.slotDiffers plain shadow, s.producerDiffers with
      | some n, _ => .inl (0x0404, n)
      | none, some off => .inl (0x0404, off)
      | none, none => .inr (plain, shadow)

/-! ### The hand-over -/

/-- The passes have ended for this cycle. -/
def State.endCycle (s : State) : State := { s with rt.passesRunning := false, service.resuming := false }

/-- The LE's pop after the hand-over; passes that end later than 5 µs before the next boundary leave the entries waiting (R250). -/
def State.popAfter (s : State) : State :=
  if s.now ≤ s.rt.passTag + us s.rt.cycleUs - us 5 ∨ s.rt.passTag < s.rt.boundary ∧ s.rt.popped = false then s.popInbound
  else { s with rt.popped := true }

/-- An overrun: the images are discarded, and the firmware writes the alive register; every other change stands (R36, R42, R519). -/
def State.overrun (s : State) : State :=
  let s := { s with rt.overrunCount := sat32 (s.rt.overrunCount + 1) }
  (s.aliveMark.captureSnapshot.endCycle).popAfter

/-- The hand-over of both images, and what follows it: the snapshot, the ZOP-S frames and the end of an exchange. -/
def State.handImages (plain shadow : BitVec 32) (s : State) : State :=
  let keep := s.field.images.filter (fun i => decide ((s.rt.boundary : Instant) ≤ i.tag + us s.rt.cycleUs))
  let s := State.aliveMark { s with field.images := keep ++ [{ tag := s.rt.passTag, plain := plain, shadow := shadow }] }
  let s := (s.captureSnapshot.completeExchange).produceFrames
  s.endCycle.popAfter

/-- The deadline of R36 has passed. A resumed cycle keeps the tag of the halted one and is no overrun (R567, log entry 50). -/
def State.pastDeadline (s : State) : Bool :=
  !s.service.resuming && decide (s.rt.passTag + us s.rt.cycleUs - us 10 < s.now)

/-- Both passes have run to their end. -/
def State.completeCycle (r : PassResult) (s : State) : State :=
  let s := s.passTimes r
  let s := if s.passes.split then s else s.advanceWindow.compareWindow
  if !s.rt.passesRunning then s
  else match s.outputImages with
    | .inl (cause, address) => s.passFault cause address
    | .inr (plain, shadow) => if s.pastDeadline then s.overrun else s.handImages plain shadow

/-- The passes of a freeze start 10 µs after it, once the IOS has written it to the input areas, and after the commit of a snapshot (R34,
R522); those of a resumed cycle go on. -/
def State.passesStarted (s : State) : Bool :=
  s.rt.passesRunning && (s.service.resuming || decide (s.rt.passTag + us 10 + s.commitTicks ≤ s.now))

/-- The folds of an abandoned cycle are counted no further. -/
def State.endFolds (s : State) : State := { s with passes.plainFolds := 0, passes.shadowFolds := 0 }

/-- HAND_OVER: the passes of the last freeze end, or reach the halt point (R203, R565). -/
def State.handOver (r : PassResult) (s : State) : State :=
  if !s.passesStarted then s
  else
    let s := if s.rt.libDone then s else s.evaluatePasses
    let ended := !(s.service.haltArmed && r.reachesHalt)
    match thenPass (s.plainPass r ended) (fun t => if t.passes.split then (t, none) else t.shadowPass r ended) with
    | (t, some e) => (State.endFolds t).stopPass e
    | (t, none) => if ended then ((t.alterOutputs r).alterCoded r).completeCycle r else State.endCycle t.reachHalt

def execHandOver (dt : Nat) (res : PassResult) (s : State) : Host.Outcome State Fault Refusal := done ((s.elapse dt).handOver res)

end Sys2Proof.Machine
end

