-- ==== Sys2Proof/Machine/Outputs.lean ====
section
/-!
DEFINITION. Machine/Outputs.lean: the placement instant, the output watchdog, the bank switch checks and the faults of the field side with
their clearing (R271 to R273, R276 to R285, R288, R569, R590).
-/

namespace Sys2Proof.Machine

/-! ### Placement -/

/-- The command that images give CHn: from the slot of its group's leader, by the source of Table 6-3. -/
def State.imageCommand (s : State) (i : OutImages) (n : Nat) : Bool :=
  let l := s.leader n
  let p := i.plain.getLsbD l
  let q := i.shadow.getLsbD l
  if (s.ch n).mode = 3 then p
  else match s.chSource l with
    | 1 => p
    | 2 => q
    | _ => p && q

/-- A mirrored output takes its command from images of the active unit alone, after a takeover only from those tagged with its boundary or
later (Table 18-1, R528). -/
def State.takesCommand (s : State) (i : OutImages) (n : Nat) : Bool :=
  !s.mirrored n || (s.mirror.role == 1 && decide (s.mirror.placeFrom ≤ i.tag))

/-- Place images on the outputs that `which` names; a sensor supply is on whatever they hold (Table 10-1), and a mirrored output that takes no
command from them is off. -/
def State.placeImages (i : OutImages) (which : Channel → Bool) (s : State) : State :=
  let s := { s with field.placed := true }
  (List.range 32).foldl (fun t n =>
    if which (t.ch n) && !s.sensorSupply n then t.command n (s.takesCommand i n && s.imageCommand i n) else t) s

/-- Simulated outputs: bit n on CHn in mode 0x03, a bit of 0 giving its safe state; safety outputs stay off (R569). -/
def State.placeSimulated (s : State) : State :=
  (List.range 32).foldl (fun t n =>
    let m := (t.ch n).mode
    if m == 3 then t.command n (t.service.simOutputs.getLsbD n || t.safeValue n)
    else if isSafetyMode m then t.command n false
    else t) s

/-- The fresh image of this placement instant: tagged with the boundary one cycle before the last (R272). -/
def State.freshImage (s : State) : Option OutImages := s.field.images.find? (fun i => i.tag + us s.rt.cycleUs == s.rt.boundary)

/-- The watchdog arms at the placement instant planned (R276, R283). -/
def State.armWatchdog (s : State) : State :=
  match s.field.wdArmAt with
  | some t => if t ≤ s.rt.boundary + us 100 then { s with field.wdArmed := true, field.wdArmAt := none } else s
  | none => s

/-- What a fresh image does to the pins: everything in Run, non-safety outputs under split debug, nothing in Service otherwise (Table 9-5,
R202), and nothing while the safe state is latched (R284). -/
def State.placeFresh (i : OutImages) (s : State) : State :=
  if s.field.safeState then s
  else if s.rt.state == .run then s.placeImages i (fun c => isOutputMode c.mode)
  else if s.rt.state == .service && s.passes.split && !s.service.simActive then s.placeImages i (fun c => c.mode == 3)
  else s

/-- SWITCH counts the placements that change a command from 0 to 1; a mirrored output held off by the token gate does not count (R590). -/
def State.countSwitches (old : List Bool) (s : State) : State :=
  let rose n := !(old.getD n false) && (s.ch n).command && s.gateConducts n
  { s with ledger.switches := s.ledger.switches.mapIdx (fun n v => if rose n then sat32 (v + 1) else v) }

/-- The placement instant, 100 µs after a boundary (R35, R272, R283, R285). -/
def State.placeOutputs (s : State) : State :=
  if !s.rt.cycling || !s.field.placementDue || decide (s.now < s.rt.boundary + us 100) then s
  else
    let old := (List.range 32).map (fun n => (s.ch n).command)
    let planned := s.plannedChannels
    let s := State.armWatchdog { s with field.placementDue := false, field.outputsLive := true }
    let s := if s.field.applyState then ({ s with field.applyState := false }.placeState).setBanks else s
    let s := if s.service.simActive then s.placeSimulated else s
    let fresh := s.freshImage
    let s := { s with
      field.images := s.field.images.filter (fun i => decide (s.rt.boundary ≤ i.tag))
      field.wdMissed := match fresh with
        | some _ => 0
        | none => satAt 255 (s.field.wdMissed + 1) }
    let s := match fresh with
      | some i => s.placeFresh i
      | none => s
    let s := s.countSwitches old
    (s.refreshDrivers planned).tryToken

def execOutputPlacement (dt : Nat) (s : State) : Host.Outcome State Fault Refusal := done (s.elapse dt).placeOutputs

/-- OUTPUT_WATCHDOG_EXPIRY. While the safe state is latched already, nothing is signalled (R283, R291). -/
def State.watchdogExpiry (s : State) : State :=
  if s.field.wdArmed && !s.field.safeState && decide (s.outputWdCycles ≤ s.field.wdMissed) then
    let s := s.iosSafeState
    State.recoverable 0x0703 [] { s with
      field.wdExpiries := sat32 (s.field.wdExpiries + 1)
      service.haltExpiry := s.service.haltExpiry || s.passes.halted }
  else s

def execOutputWatchdogExpiry (dt : Nat) (s : State) : Host.Outcome State Fault Refusal := done (s.elapse dt).watchdogExpiry

/-! ### Bank supply switches (R276) -/

/-- BANK_SWITCH_CLOSE_CHECK: a safety bank whose rail is below 18 V keeps its outputs off; cause 0x0706, which clears at the entry to
SafeStop it brings (R288). -/
def State.closeCheck (railHigh : BitVec 4) (s : State) : State :=
  if !(s.rt.state == .run && decide (s.rt.runSince + us 100 ≤ s.now)) then s
  else
    let bad := (List.range 4).filter (fun b => s.safetyBank b && (s.bank b).closed && !(s.bank b).closeFailed && !railHigh.getLsbD b)
    if bad.isEmpty then s
    else
      let s := bad.foldl (fun t b => t.modBank b (fun k => { k with closeFailed := true })) s
      (s.refreshDrivers []).detectOnce 0x0706 .recoverable

def execBankSwitchCloseCheck (dt : Nat) (railHigh : BitVec 4) (s : State) : Host.Outcome State Fault Refusal :=
  done ((s.elapse dt).closeCheck railHigh)

/-- BANK_SWITCH_OPEN_CHECK: 5 ms after opening the rail is above 5 V, or it read so at two consecutive cycles since: cause 0x0707. -/
def State.openCheck (b : Nat) (railLow : Bool) (s : State) : State :=
  let k := s.bank b
  let late := match k.openedAt with
    | some t => s.passed t (ms 5)
    | none => false
  if s.rt.cycling && !k.closed && late && (!railLow || k.openHighRun == 2) then s.detectOnce 0x0707 .nonRecoverable else s

def execBankSwitchOpenCheck (dt bank : Nat) (railLow : Bool) (s : State) : Host.Outcome State Fault Refusal :=
  done ((s.elapse dt).openCheck bank railLow)

/-! ### Field supplies, readback and bank faults (R270, R278, R279, R281) -/

/-- FIELD_SUPPLY_OUT_OF_RANGE: a supply found out of range at two consecutive cycles is cause 0x0701 or 0x0702. -/
def State.supplyOut (supply : Nat) (s : State) : State :=
  let f := if supply = 1 then s.field.fs1 else s.field.fs2
  if !s.rt.cycling || !(supply == 1 || supply == 2) || !f.low then s
  else s.recoverable (0x0700 + supply) []

def execFieldSupplyOutOfRange (dt supply : Nat) (s : State) : Host.Outcome State Fault Refusal := done ((s.elapse dt).supplyOut supply)

/-- READBACK_FAULT: a mismatch at two consecutive compared freezes. -/
def State.readbackFault (n : Nat) (s : State) : State :=
  let c := s.ch n
  if !s.rt.cycling || decide (c.mismatchRun < 2) || c.readbackFault then s
  else
    let s := s.modCh n (fun c => { c with readbackFault := true })
    if isSafetyMode c.mode then s.recoverable 0x0705 [] else s.event 0x070A []

def execReadbackFault (dt ch : Nat) (s : State) : Host.Outcome State Fault Refusal := done ((s.elapse dt).readbackFault ch)

/-- BANK_FAULT_CONDITION: the conditions now present at a driver; a thermal one shuts it down (R271, Table 9-4). -/
def State.driverConditions (n : Nat) (conditions : BitVec 4) (s : State) : State :=
  let s := s.modCh n (fun c => { c with conditions := conditions, thermalOff := c.thermalOff || (c.on && conditions.getLsbD 1) })
  s.refreshDrivers []

def execBankFaultCondition (dt ch : Nat) (conditions : BitVec 4) (s : State) : Host.Outcome State Fault Refusal :=
  done ((s.elapse dt).driverConditions ch conditions)

/-- DRIVER_THERMAL_RESTART: the junction is back at 130 °C; a channel still commanded on sources again. -/
def State.thermalRestart (n : Nat) (s : State) : State :=
  State.refreshDrivers [] (s.modCh n (fun c => { c with thermalOff := false, conditions := c.conditions &&& 0xD }))

def execDriverThermalRestart (dt ch : Nat) (s : State) : Host.Outcome State Fault Refusal := done ((s.elapse dt).thermalRestart ch)

/-! ### Clearing (R68, R107, R288, R503, Table 3-8) -/

/-- A field supply has stayed in its window for 100 ms. -/
def State.supplySteady (s : State) (f : FieldSupply) : Bool :=
  match f.windowSince with
  | some t => s.passed t (ms 100)
  | none => false

/-- The clearing condition of a recoverable cause holds. Causes 0x0B05 and 0x0B06 have no stated one: they clear with their condition, the
tokens no longer both asserted, and outside Run (log entry 49). -/
def State.clears (cause : Nat) (s : State) : Bool :=
  let since (t : Option Nat) (n : Nat) : Bool := match t with
    | some x => s.passed x n
    | none => false
  match cause with
  | 0x0104 => since s.power.calmSince (ms 1000)
  | 0x0204 => s.synced
  | 0x0205 => decide (s.clock.r < 190000) && decide (-190000 < s.clock.r)
  | 0x0701 => s.supplySteady s.field.fs1
  | 0x0702 => s.supplySteady s.field.fs2
  | 0x0703 => s.rt.state == .safeStop && decide (s.outputWdCycles ≤ s.field.safeStopCycles)
  | 0x0704 => (List.range 4).all (fun b => !s.safetyBank b || decide (16 ≤ (s.bank b).clearRun))
  | 0x0705 => (List.range 32).all (fun n =>
      let c := s.ch n
      !(isSafetyMode c.mode && c.readbackFault) || decide (16 ≤ c.matchRun))
  | 0x0804 => s.analog.pairs.all (fun q => !q.disagreeFault || s.agreed q)
  | 0x0A09 => since s.zop.conflictAt (ms 10000)
  | 0x0B05 => !(s.mirror.token && s.mirror.twinToken)
  | 0x0B06 => s.rt.state != .run
  | _ => false

/-- READBACK_FAULT of every channel of a class that has matched at 16 compared freezes clears (R288). -/
def State.clearReadback (safety : Bool) (s : State) : State :=
  { s with field.channels := s.field.channels.map (fun c =>
    if isSafetyMode c.mode == safety && decide (16 ≤ c.matchRun) then ({ c with readbackFault := false } : Channel) else c) }

/-- FAULT_CAUSE_CLEAR. -/
def State.causeClear (cause : Nat) (s : State) : State :=
  let s := if cause = 0x0705 then s.clearReadback true else if cause = 0x070A then s.clearReadback false else s
  let s := if cause = 0x0804 then s.clearDisagreements else s
  if s.clears cause then s.clearCause cause else s

def execFaultCauseClear (dt cause : Nat) (s : State) : Host.Outcome State Fault Refusal := done ((s.elapse dt).causeClear cause)

end Sys2Proof.Machine
end

