-- ==== Sys2Proof/Machine/Dispatch.lean ====
section
/-!
DEFINITION. Machine/Dispatch.lean: one arm per command, each a direct call of its meaning.
-/

namespace Sys2Proof.Machine

/-- A command's effect on everything but the queue. -/
def exec (i : Instr) (s : State) : Host.Outcome State Fault Refusal :=
  match i with
  | .entryQualified dt x holdupMv => Sys2Proof.Machine.execEntryQualified dt x holdupMv s
  | .entryDisqualified dt x => Sys2Proof.Machine.execEntryDisqualified dt x s
  | .powerFailWarning dt => Sys2Proof.Machine.execPowerFailWarning dt s
  | .rideThroughEnd dt holdupMv => Sys2Proof.Machine.execRideThroughEnd dt holdupMv s
  | .gateReopen dt holdupMv => Sys2Proof.Machine.execGateReopen dt holdupMv s
  | .logicSupplyStart dt holdupMv => Sys2Proof.Machine.execLogicSupplyStart dt holdupMv s
  | .holdupChargeTimed dt startMv chargeUs => Sys2Proof.Machine.execHoldupChargeTimed dt startMv chargeUs s
  | .holdupPauseStart dt holdupMv => Sys2Proof.Machine.execHoldupPauseStart dt holdupMv s
  | .holdupPauseEnd dt holdupMv logicMw => Sys2Proof.Machine.execHoldupPauseEnd dt holdupMv logicMw s
  | .railFault dt => Sys2Proof.Machine.execRailFault dt s
  | .logicOverdraw dt x => Sys2Proof.Machine.execLogicOverdraw dt x s
  | .domainPowerUp dt pd => Sys2Proof.Machine.execDomainPowerUp dt pd s
  | .domainMismatch dt => Sys2Proof.Machine.execDomainMismatch dt s
  | .clockMonitorWindow dt counts => Sys2Proof.Machine.execClockMonitorWindow dt counts s
  | .pllLockLoss dt => Sys2Proof.Machine.execPllLockLoss dt s
  | .pllLock dt lockUs counts => Sys2Proof.Machine.execPllLock dt lockUs counts s
  | .pllLockRetry dt => Sys2Proof.Machine.execPllLockRetry dt s
  | .syncRoundStart dt => Sys2Proof.Machine.execSyncRoundStart dt s
  | .followUpSend dt missedA missedB => Sys2Proof.Machine.execFollowUpSend dt missedA missedB s
  | .sync dt ch master priority round => Sys2Proof.Machine.execSync dt ch master priority round s
  | .followUp dt master validA validB round ma mb => Sys2Proof.Machine.execFollowUp dt master validA validB round ma mb s
  | .timeStepApply dt => Sys2Proof.Machine.execTimeStepApply dt s
  | .roundInstantNoRound dt => Sys2Proof.Machine.execRoundInstantNoRound dt s
  | .syncRoundTimeout dt => Sys2Proof.Machine.execSyncRoundTimeout dt s
  | .syncHoldoverExpiry dt => Sys2Proof.Machine.execSyncHoldoverExpiry dt s
  | .timeMasterTimeout dt => Sys2Proof.Machine.execTimeMasterTimeout dt s
  | .rateLimitHold dt => Sys2Proof.Machine.execRateLimitHold dt s
  | .warmReset dt source => Sys2Proof.Machine.execWarmReset dt source s
  | .resetRelease dt crcOk => Sys2Proof.Machine.execResetRelease dt crcOk s
  | .bootEntry dt => Sys2Proof.Machine.execBootEntry dt s
  | .bistGroupComplete dt group failures place element => Sys2Proof.Machine.execBistGroupComplete dt group failures place element s
  | .comparatorInjectionTest dt faulty => Sys2Proof.Machine.execComparatorInjectionTest dt faulty s
  | .mpuSeal dt readbackDiffers sealFails => Sys2Proof.Machine.execMpuSeal dt readbackDiffers sealFails s
  | .storeRecovery dt elapsedUs => Sys2Proof.Machine.execStoreRecovery dt elapsedUs s
  | .release dt => Sys2Proof.Machine.execRelease dt s
  | .bootWatchdogExpiry dt => Sys2Proof.Machine.execBootWatchdogExpiry dt s
  | .resetRequest dt r value => Sys2Proof.Machine.execResetRequest dt r value s
  | .leAliveWrite dt => Sys2Proof.Machine.execLeAliveWrite dt s
  | .leStall dt => Sys2Proof.Machine.execLeStall dt s
  | .cycleBoundary dt sense => Sys2Proof.Machine.execCycleBoundary dt sense s
  | .handOver dt res => Sys2Proof.Machine.execHandOver dt res s
  | .outputPlacement dt => Sys2Proof.Machine.execOutputPlacement dt s
  | .outputWatchdogExpiry dt => Sys2Proof.Machine.execOutputWatchdogExpiry dt s
  | .stateRequestRun dt r => Sys2Proof.Machine.execStateRequestRun dt r s
  | .stateRequestService dt r => Sys2Proof.Machine.execStateRequestService dt r s
  | .stateRequestHold dt r => Sys2Proof.Machine.execStateRequestHold dt r s
  | .stateRequestLockoutAck dt r => Sys2Proof.Machine.execStateRequestLockoutAck dt r s
  | .safestopAck dt r value => Sys2Proof.Machine.execSafestopAck dt r value s
  | .runEncodingComplete dt differs => Sys2Proof.Machine.execRunEncodingComplete dt differs s
  | .bankSwitchCloseCheck dt railHigh => Sys2Proof.Machine.execBankSwitchCloseCheck dt railHigh s
  | .bankSwitchOpenCheck dt bank railLow => Sys2Proof.Machine.execBankSwitchOpenCheck dt bank railLow s
  | .fieldSupplyOutOfRange dt supply => Sys2Proof.Machine.execFieldSupplyOutOfRange dt supply s
  | .readbackFault dt ch => Sys2Proof.Machine.execReadbackFault dt ch s
  | .bankFaultCondition dt ch conditions => Sys2Proof.Machine.execBankFaultCondition dt ch conditions s
  | .faultCauseClear dt cause => Sys2Proof.Machine.execFaultCauseClear dt cause s
  | .inputComparatorChange dt ch mv => Sys2Proof.Machine.execInputComparatorChange dt ch mv s
  | .filterElapsed dt ch => Sys2Proof.Machine.execFilterElapsed dt ch s
  | .initClear dt ch => Sys2Proof.Machine.execInitClear dt ch s
  | .countingInputChange dt n mv => Sys2Proof.Machine.execCountingInputChange dt n mv s
  | .cntTimeout dt n => Sys2Proof.Machine.execCntTimeout dt n s
  | .glintPreSample dt raw readback => Sys2Proof.Machine.execGlintPreSample dt raw readback s
  | .glintPulseStart dt => Sys2Proof.Machine.execGlintPulseStart dt s
  | .glintTestSample dt raw readback => Sys2Proof.Machine.execGlintTestSample dt raw readback s
  | .glintFault dt cause ch => Sys2Proof.Machine.execGlintFault dt cause ch s
  | .glintPulseEnd dt => Sys2Proof.Machine.execGlintPulseEnd dt s
  | .glintBlankingEnd dt raw readback => Sys2Proof.Machine.execGlintBlankingEnd dt raw readback s
  | .analogSampleComplete dt pair bitsA bitsB => Sys2Proof.Machine.execAnalogSampleComplete dt pair bitsA bitsB s
  | .pairDisagreement dt pair => Sys2Proof.Machine.execPairDisagreement dt pair s
  | .modulatorStuck dt pair emitted => Sys2Proof.Machine.execModulatorStuck dt pair emitted s
  | .anSyncRequest dt r value => Sys2Proof.Machine.execAnSyncRequest dt r value s
  | .synchronisingReset dt pair => Sys2Proof.Machine.execSynchronisingReset dt pair s
  | .claim dt port => Sys2Proof.Machine.execClaim dt port s
  | .post dt port buffer target kind len => Sys2Proof.Machine.execPost dt port buffer target kind len s
  | .releaseBuffer dt port buffer => Sys2Proof.Machine.execReleaseBuffer dt port buffer s
  | .revoke dt port buffer => Sys2Proof.Machine.execRevoke dt port buffer s
  | .zeroingComplete dt => Sys2Proof.Machine.execZeroingComplete dt s
  | .zeroingTimeout dt => Sys2Proof.Machine.execZeroingTimeout dt s
  | .pop dt port => Sys2Proof.Machine.execPop dt port s
  | .xchNonOwnerAccess dt port buffer => Sys2Proof.Machine.execXchNonOwnerAccess dt port buffer s
  | .xchUncorrectableRead dt word => Sys2Proof.Machine.execXchUncorrectableRead dt word s
  | .mpuAccessCheck dt kind addr width data => Sys2Proof.Machine.execMpuAccessCheck dt kind addr width data s
  | .enterLogic dt => Sys2Proof.Machine.execEnterLogic dt s
  | .leaveLogic dt => Sys2Proof.Machine.execLeaveLogic dt s
  | .tagWrite dt addr value => Sys2Proof.Machine.execTagWrite dt addr value s
  | .leExceptionEntry dt isReturn => Sys2Proof.Machine.execLeExceptionEntry dt isReturn s
  | .otpSelect dt r value => Sys2Proof.Machine.execOtpSelect dt r value s
  | .otpData dt r value => Sys2Proof.Machine.execOtpData dt r value s
  | .burn dt r => Sys2Proof.Machine.execBurn dt r s
  | .finalise dt r => Sys2Proof.Machine.execFinalise dt r s
  | .advance dt r => Sys2Proof.Machine.execAdvance dt r s
  | .trialApply dt r => Sys2Proof.Machine.execTrialApply dt r s
  | .trialClear dt r => Sys2Proof.Machine.execTrialClear dt r s
  | .debugDisable dt r => Sys2Proof.Machine.execDebugDisable dt r s
  | .otpCommandComplete dt unburned weak => Sys2Proof.Machine.execOtpCommandComplete dt unburned weak s
  | .storeRecordCommit dt readBackOk => Sys2Proof.Machine.execStoreRecordCommit dt readBackOk s
  | .sectorEraseComplete dt verifyOk => Sys2Proof.Machine.execSectorEraseComplete dt verifyOk s
  | .eraseCreditAccrual dt area => Sys2Proof.Machine.execEraseCreditAccrual dt area s
  | .read dt r index sub => Sys2Proof.Machine.execRead dt r index sub s
  | .write dt r reqSeq index sub type value => Sys2Proof.Machine.execWrite dt r reqSeq index sub type value s
  | .registerWrite dt r index sub value => Sys2Proof.Machine.execRegisterWrite dt r index sub value s
  | .segment dt ch node reqSeq offset data last => Sys2Proof.Machine.execSegment dt ch node reqSeq offset data last s
  | .segmentTimeout dt ch node => Sys2Proof.Machine.execSegmentTimeout dt ch node s
  | .prepare dt r index sub type value => Sys2Proof.Machine.execPrepare dt r index sub type value s
  | .confirm dt r token code => Sys2Proof.Machine.execConfirm dt r token code s
  | .confirmWindowExpiry dt node => Sys2Proof.Machine.execConfirmWindowExpiry dt node s
  | .dictRestore dt r value => Sys2Proof.Machine.execDictRestore dt r value s
  | .imageErase dt r => Sys2Proof.Machine.execImageErase dt r s
  | .imageEraseComplete dt => Sys2Proof.Machine.execImageEraseComplete dt s
  | .imageLoadAbandon dt r => Sys2Proof.Machine.execImageLoadAbandon dt r s
  | .imageData dt r data => Sys2Proof.Machine.execImageData dt r data s
  | .bankValidationComplete dt => Sys2Proof.Machine.execBankValidationComplete dt s
  | .imageBankSelect dt r value => Sys2Proof.Machine.execImageBankSelect dt r value s
  | .exchangeRequest dt r tx => Sys2Proof.Machine.execExchangeRequest dt r tx s
  | .exchangeCancel dt r => Sys2Proof.Machine.execExchangeCancel dt r s
  | .exchangeReady dt => Sys2Proof.Machine.execExchangeReady dt s
  | .exchangeSwitch dt trapAt => Sys2Proof.Machine.execExchangeSwitch dt trapAt s
  | .imageCrcScan dt crc => Sys2Proof.Machine.execImageCrcScan dt crc s
  | .imageUncorrectableRead dt => Sys2Proof.Machine.execImageUncorrectableRead dt s
  | .instAck dt r id value => Sys2Proof.Machine.execInstAck dt r id value s
  | .dirRequest dt r id value => Sys2Proof.Machine.execDirRequest dt r id value s
  | .canFrameReceive dt ch id data fd ide esi => Sys2Proof.Machine.execCanFrameReceive dt ch id data fd ide esi s
  | .heartbeatSend dt => Sys2Proof.Machine.execHeartbeatSend dt s
  | .heartbeat dt node runState period => Sys2Proof.Machine.execHeartbeat dt node runState period s
  | .nodePresenceTimeout dt node => Sys2Proof.Machine.execNodePresenceTimeout dt node s
  | .announceSend dt => Sys2Proof.Machine.execAnnounceSend dt s
  | .announce dt data => Sys2Proof.Machine.execAnnounce dt data s
  | .resyncRequest dt data => Sys2Proof.Machine.execResyncRequest dt data s
  | .resyncRequestRepeat dt conn => Sys2Proof.Machine.execResyncRequestRepeat dt conn s
  | .zopsDataFrame dt connId data => Sys2Proof.Machine.execZopsDataFrame dt connId data s
  | .connectionWatchdogExpiry dt conn => Sys2Proof.Machine.execConnectionWatchdogExpiry dt conn s
  | .busOff dt ch => Sys2Proof.Machine.execBusOff dt ch s
  | .busOffRecoveryStart dt ch => Sys2Proof.Machine.execBusOffRecoveryStart dt ch s
  | .busOffRecoveryComplete dt ch => Sys2Proof.Machine.execBusOffRecoveryComplete dt ch s
  | .status dt data => Sys2Proof.Machine.execStatus dt data s
  | .mirrorLinkLost dt => Sys2Proof.Machine.execMirrorLinkLost dt s
  | .snapshotReceived dt frame => Sys2Proof.Machine.execSnapshotReceived dt frame s
  | .snapshotStale dt => Sys2Proof.Machine.execSnapshotStale dt s
  | .twinTokenChange dt asserted => Sys2Proof.Machine.execTwinTokenChange dt asserted s
  | .tokenContention dt => Sys2Proof.Machine.execTokenContention dt s
  | .presenceLoopChange dt intact => Sys2Proof.Machine.execPresenceLoopChange dt intact s
  | .roleDecision dt => Sys2Proof.Machine.execRoleDecision dt s
  | .takeoverDecision dt => Sys2Proof.Machine.execTakeoverDecision dt s
  | .mirrorReplace dt r value => Sys2Proof.Machine.execMirrorReplace dt r value s
  | .replacementCopyEnd dt ok values image => Sys2Proof.Machine.execReplacementCopyEnd dt ok values image s
  | .modbusReadHoldingRegisters dt start quantity => Sys2Proof.Machine.execModbusReadHoldingRegisters dt start quantity s
  | .modbusReadInputRegisters dt start quantity => Sys2Proof.Machine.execModbusReadInputRegisters dt start quantity s
  | .readDeviceIdentification dt mei code objectId => Sys2Proof.Machine.execReadDeviceIdentification dt mei code objectId s
  | .modbusFrameDiscard dt why => Sys2Proof.Machine.execModbusFrameDiscard dt why s
  | .modbusLeTimeout dt => Sys2Proof.Machine.execModbusLeTimeout dt s
  | .toolDetect dt low => Sys2Proof.Machine.execToolDetect dt low s
  | .resetReq dt low => Sys2Proof.Machine.execResetReq dt low s
  | .serviceDictFrame dt service index sub type value => Sys2Proof.Machine.execServiceDictFrame dt service index sub type value s
  | .serviceConfirmedFrame dt seq service index sub type value token code => Sys2Proof.Machine.execServiceConfirmedFrame dt seq service index sub type value token code s
  | .debugMemoryRead dt addr count => Sys2Proof.Machine.execDebugMemoryRead dt addr count s
  | .debugMemoryWrite dt addr data => Sys2Proof.Machine.execDebugMemoryWrite dt addr data s
  | .loaderErase dt bank => Sys2Proof.Machine.execLoaderErase dt bank s
  | .loaderWrite dt bank offset data => Sys2Proof.Machine.execLoaderWrite dt bank offset data s
  | .loaderStatus dt => Sys2Proof.Machine.execLoaderStatus dt s
  | .splitDebug dt r => Sys2Proof.Machine.execSplitDebug dt r s
  | .jointHalt dt r => Sys2Proof.Machine.execJointHalt dt r s
  | .resume dt r => Sys2Proof.Machine.execResume dt r s
  | .step dt x => Sys2Proof.Machine.execStep dt x s
  | .simEnable dt r value => Sys2Proof.Machine.execSimEnable dt r value s
  | .simOutputs dt r value => Sys2Proof.Machine.execSimOutputs dt r value s
  | .serviceBistRequest dt r value => Sys2Proof.Machine.execServiceBistRequest dt r value s
  | .serviceBistComplete dt failures late place => Sys2Proof.Machine.execServiceBistComplete dt failures late place s
  | .eventReadSeq dt r value => Sys2Proof.Machine.execEventReadSeq dt r value s
  | .timeEpochUtc dt r value => Sys2Proof.Machine.execTimeEpochUtc dt r value s
  | .ledgerIntervalElapse dt => Sys2Proof.Machine.execLedgerIntervalElapse dt s
  | .tempSample dt tenths => Sys2Proof.Machine.execTempSample dt tenths s
  | .dieTempSample dt tenths => Sys2Proof.Machine.execDieTempSample dt tenths s
  | .illegalFunction dt code => Sys2Proof.Machine.execIllegalFunction dt code s
  | .pllLockTimeout dt => Sys2Proof.Machine.execPllLockTimeout dt s
  | .driverThermalRestart dt ch => Sys2Proof.Machine.execDriverThermalRestart dt ch s
  | .copyRequest dt => Sys2Proof.Machine.execCopyRequest dt s

end Sys2Proof.Machine
end

