-- ==== Sys2Proof/Safety.lean ====
section
/-!
DEFINITION. Safety.lean: the terms that the statements use: which parts of the state a command leaves alone, what a record in the event log
is, when memory and fuses are in order, which changes of `RUN_STATE` the spec knows, and when no output is driven.
-/

namespace Sys2Proof.Machine

/-! ### Frames -/

/-- The parts of the state: one a chapter, with the model's counter of free values and the queue. -/
inductive Part where
  | rt | power | clock | boot | otp | passes | le | xch | field | glint | counters | analog | lib | images | store | dict | zop | mirror
  | modbus | service | ledger | freeCount | pending
deriving DecidableEq, Repr

/-- Part `p` is the same in both states. -/
def State.agrees (p : Part) (s t : State) : Prop :=
  match p with
  | .rt => s.rt = t.rt
  | .power => s.power = t.power
  | .clock => s.clock = t.clock
  | .boot => s.boot = t.boot
  | .otp => s.otp = t.otp
  | .passes => s.passes = t.passes
  | .le => s.le = t.le
  | .xch => s.xch = t.xch
  | .field => s.field = t.field
  | .glint => s.glint = t.glint
  | .counters => s.counters = t.counters
  | .analog => s.analog = t.analog
  | .lib => s.lib = t.lib
  | .images => s.images = t.images
  | .store => s.store = t.store
  | .dict => s.dict = t.dict
  | .zop => s.zop = t.zop
  | .mirror => s.mirror = t.mirror
  | .modbus => s.modbus = t.modbus
  | .service => s.service = t.service
  | .ledger => s.ledger = t.ledger
  | .freeCount => s.freeCount = t.freeCount
  | .pending => s.pending = t.pending

/-- Every part but those named is unchanged. -/
def State.keeps (changed : List Part) (s t : State) : Prop := ∀ p, p ∉ changed → State.agrees p s t

/-! ### Records -/

/-- `t` is `s` but for what the entry of event records changes: the log with its numbers, its rate limits and the records that wait for their
posts, and the records requested of the store (R580 to R582). -/
def State.onlyLogs (s t : State) : Prop :=
  t = { s with
    ledger.ring := t.ledger.ring
    ledger.early := t.ledger.early
    ledger.nextSeq := t.ledger.nextSeq
    ledger.count := t.ledger.count
    ledger.lost := t.ledger.lost
    ledger.toPost := t.ledger.toPost
    ledger.suppressed := t.ledger.suppressed
    store.queue := t.store.queue
    store.heldBack := t.store.heldBack
    store.eventDropped := t.store.eventDropped }

/-- A record of `code` with DATA `data`, detected at network instant `time`, was made between `s` and `t`: from release onwards it has
entered the log under an EVENT_SEQ not given before and waits for its posts to the CE and the ME; before release it waits for its number
(R579, R581, R582). -/
def State.logsAt (code : Nat) (time : Instant) (data : List Byte) (s t : State) : Prop :=
  ∃ r : EventRecord, r.code = code ∧ r.time = ts64 time ∧ r.data = data ∧
    if s.rt.cycling then s.ledger.nextSeq ≤ r.seq ∧ r.seq < t.ledger.nextSeq ∧ r ∈ t.ledger.toPost
    else t.ledger.early = s.ledger.early ++ [r]

/-- The same for a record detected now. -/
def State.logs (code : Nat) (data : List Byte) (s t : State) : Prop := State.logsAt code s.now data s t

/-- A cause of the class waits for its evaluation at the next boundary (R49). -/
def State.waits (cause : Nat) (cls : FaultClass) (s : State) : Prop := ∃ d ∈ s.rt.detected, d.cause = cause ∧ d.cls = cls

/-! ### Posts of the LE -/

/-- An engine's CLAIM of a buffer for the post `x` is with the controller: it waits at the engine's port, or a buffer is being zeroed for it. -/
def State.claimedFor (p : Owner) (x : XchPost) (t : State) : Prop :=
  (∃ w ∈ t.xch.waiting, w.port = p ∧ w.code = 1 ∧ w.post = some x) ∨ ∃ n, (t.buffer n).busy = some (.claim p (some x))

/-- Between `s` and `t` the LE's firmware took up the post of the ZOP-S frame `data` of identifier `id`: where nothing stands before it at its
port, a post without a FREE LE-home buffer is skipped, counted and recorded, and every other claims its buffer; else it waits among the LE's
tasks, or has come to one of the two (R245, R247, R252, Table 17-6, log entry 75). The exchange RAM has its 128 buffers (R239). -/
def State.lePosted (id : Nat) (data : List Byte) (s t : State) : Prop :=
  let x : XchPost := { target := .ce, kind := 1, payload := framePayload id 3 data }
  s.xch.buffers.length = 128 →
  if s.xch.leTasks = [] ∧ s.xch.portBusy .le = false ∧ s.startingUp 48 = false then
    (if s.freeBuffer .le = none then t.xch.starvedCount = sat32 (s.xch.starvedCount + 1) ∧ State.logs 0x0608 [] s t
      else State.claimedFor .le x t)
  else XchTask.deliver x ∈ t.xch.leTasks ∨ State.claimedFor .le x t ∨ sat32 (s.xch.starvedCount + 1) ≤ t.xch.starvedCount

/-! ### Memory -/

/-- Colour tags rising by granule, none listed that reads 0x0. -/
def tagsWf : List (Nat × Nat) → Bool
  | [] => true
  | (k, v) :: r => (v != 0) && (match r with | [] => true | c :: _ => decide (k < c.1)) && tagsWf r

/-- Every memory of the block stands in its canonical form: addresses strictly rising, no entry equal to what an unlisted address reads. -/
def Memory.wf (s : State) : Bool :=
  cellsWf 0 s.le.ram && cellsWf erasedByte s.le.flash && tagsWf s.le.tags && cellsWf erasedByte s.store.array &&
    cellsWf erasedByte s.store.ledger

/-! ### Fuses -/

/-- Every fuse wholly burned in `s` is wholly burned in `t` (R147); one whose last pulse was cut short can still read 0 again (R176). -/
def State.fusesKept (s t : State) : Prop :=
  ∀ f, s.otp.fuse f = true → f ∉ s.otp.unstable → t.otp.fuse f = true ∧ f ∉ t.otp.unstable

/-! ### Runtime states -/

/-- A change of state that Table 1-6 lists, or the loss of supply. -/
def RunState.mayBecome : RunState → RunState → Bool
  | .off, .boot => true
  | _, .boot => true
  | .boot, .test => true
  | .test, .hold => true
  | .test, .lockout => true
  | .hold, .run => true
  | .hold, .service => true
  | .run, .service => true
  | .run, .hold => true
  | .service, .hold => true
  | .run, .safeStop => true
  | .hold, .lockout => true
  | .run, .lockout => true
  | .service, .lockout => true
  | .safeStop, .lockout => true
  | .safeStop, .hold => true
  | .lockout, .hold => true
  | _, .off => true
  | a, b => a == b

/-- Where the boot sequence stands agrees with the runtime state (Tables 1-5 and 4-3): the sequence runs in Boot up to the PLL lock and in
Test from the first BIST group, and is idle in every other state; the supply is on from Boot onwards, the cycle runs from release onwards,
and a state area is being encoded only in Hold, Run or Service (R209). -/
def State.startConsistent (s : State) : Bool :=
  (match s.rt.state, s.boot.step with
    | .off, .idle => true
    | .boot, .resetHeld | .boot, .waitLock | .boot, .lockRetry | .boot, .locked | .boot, .stopped => true
    | .test, .bist _ | .test, .comparator | .test, .mpuSeal | .test, .recovery | .test, .release | .test, .stopped => true
    | .hold, .idle | .run, .idle | .service, .idle | .safeStop, .idle | .lockout, .idle => true
    | _, _ => false) &&
  (s.power.logicOn == (s.rt.state != .off)) &&
  (s.rt.cycling == s.released) &&
  (s.rt.encoding.isNone || s.rt.state == .hold || s.rt.state == .run || s.rt.state == .service)

/-! ### Outputs -/

/-- No channel is commanded on and no driver sources, no glint pulse is in progress, and every bank switch is open (R51, R275). -/
def State.allOutputsOff (s : State) : Prop :=
  (∀ c ∈ s.field.channels, c.command = false ∧ c.driven = false) ∧ (∀ k ∈ s.field.banks, k.closed = false) ∧ s.glint.slot = none

/-- A warm reset by source `source` of Table 4-1 has just been asserted in `u`: `t` is held in Boot with that source, every output off and
every switch open, network time 0, only PD42, PD53 and, if it was on, PD49 powered; flash, `STATE_CAUSE`, the lockout latch, the event log's
ring, with the faults that were still to be evaluated, and the snapshot store survive (R40, R51, R52, R95, R115, R116, R119). -/
def State.heldInReset (source : Nat) (u t : State) : Prop :=
  t.rt.state = .boot ∧ t.boot.step = .resetHeld ∧ t.boot.cold = false ∧ t.boot.resetAt = u.localNow ∧ t.boot.resetCause = source ∧
    t.boot.resetSources = BitVec.twoPow 8 (source - 1) ∧ t.allOutputsOff ∧ t.mirror.token = false ∧ t.clock.net = 0 ∧
    t.power.domainCommand = (BitVec.twoPow 56 42 ||| BitVec.twoPow 56 53 ||| (u.power.domainCommand &&& BitVec.twoPow 56 49)) ∧
    t.power.domainStatus = t.power.domainCommand ∧ t.rt.stateCause = u.rt.stateCause ∧ t.rt.lockoutLatch = u.rt.lockoutLatch ∧
    t.le.flash = u.le.flash ∧ t.ledger.ring = u.recordDetected.ledger.ring ∧ t.mirror.store = u.mirror.store ∧ t.pending = u.pending

/-- What the IOS safe state does between `s` and `t` to the mirror pair: it stops the unit's token and discards the records that wait for a
tail; in force already it changes nothing (R282, R514, R519). -/
def State.tokenStopped (s t : State) : Prop :=
  t.mirror = if s.field.safeState then s.mirror else { s.mirror with token := false, tail := [] }

/-- The safety outputs are off and the safety bank switches open, as the IOS safe state leaves them (R282). -/
def State.safetyOutputsOff (s : State) : Prop :=
  (∀ n, n < 32 → isSafetyMode (s.ch n).mode = true → (s.ch n).command = false) ∧
    (∀ b, b < 4 → s.safetyBank b = true → (s.bank b).closed = false)

end Sys2Proof.Machine
end

