-- ==== Sys2Proof/Certificates/Slice0/Obligations.lean ====
section
/-!
DEFINITION. Obligations.lean: the statements about the model, family by family. Every statement about a command speaks of the state
`s.elapse dt`, in which the time the command carries has passed; a statement that gives a next state says what the command changes and, by
`State.keeps`, `State.onlyLogs` or an equation, that it changes nothing else.
-/

open Sys2Proof Sys2Proof.Machine

/-! ### Power entry, warning and holdup (ch. 2) -/

/-- An entry qualifies (R56): its bit is set, the charger follows (R57), and a warning in progress ends as a ride-through that is counted
(R63). -/
def Obligations.EntryQualifies : Prop :=
  ∀ (dt mv : Nat) (x : EntrySample) (s : State),
    let u := s.elapse dt
    let e := x.entry
    let met : Prop :=
      (e = .mains → if s.power.mainsOver then x.halfCycleEnd = true ∧ 115 < x.peak ∧ x.peak ≤ 470 else 115000 < x.mv) ∧
      (e = .aux → 17500 ≤ x.mv ∧ x.mv ≤ 32500 ∧ 100000 ≤ x.held)
    (met → (e = .mains → s.noMains = false) →
      let mains := s.power.mainsOk || e == .mains
      let aux := s.power.auxOk || e == .aux
      ∃ t, exec (.entryQualified dt x mv) s = .next t ∧
        t.power = { u.power with
          mainsOk := mains
          auxOk := aux
          mainsOver := s.power.mainsOver && e == .aux
          charger := if s.power.pause.isSome then .heldOff else if 40000 ≤ mv then .holding else .filling
          chargeFrom := some (if mains then .mains else .aux)
          auxLimitMa := if mains && aux then some 50 else none
          lostAt := none
          holdupMv := mv
          pfw := false
          rideCount := if s.power.pfw && s.store.ready then min (s.power.rideCount + 1) 0xFFFFFFFF else s.power.rideCount
          ridesEarly := if s.power.pfw && !s.store.ready then min (s.power.ridesEarly + 1) 0xFFFFFFFF else s.power.ridesEarly } ∧
        (s.power.pfw = false → t.boot = u.boot ∧ t.store = u.store) ∧
        (s.power.pfw = true →
          let b := match s.boot.step with
            | .bist g => if s.keepsRegion g = true ∧ s.boot.groupAt ≤ s.power.rideSince then u.boot
              else { u.boot with groupAt := max s.boot.groupAt u.localNow }
            | _ => u.boot
          t.boot = if s.boot.watchdogPaused && !s.boot.lockRetrying
            then { b with watchdogSince := some u.localNow, watchdogPaused := false } else b) ∧
        State.keeps [.power, .boot, .store] u t) ∧
    (¬met ∨ e = .mains ∧ s.noMains = true → exec (.entryQualified dt x mv) s = .next u)

/-- An entry is lost (R61), and the power-fail warning closes the gate in the same tick (R62, R175). -/
def Obligations.LostEntryRaisesWarning : Prop :=
  (∀ (dt : Nat) (x : EntrySample) (s : State),
    let u := s.elapse dt
    let e := x.entry
    let was : Bool := match e with | .mains => s.power.mainsOk | .aux => s.power.auxOk
    let left : Bool := match e with | .mains => s.power.auxOk | .aux => s.power.mainsOk
    let high := x.halfCycleEnd = true ∧ 470 < x.peak ∧ 470 < x.before
    let met : Prop :=
      (e = .mains → x.mv < 20000 ∧ 150000 ≤ x.held ∨ x.halfCycleEnd = true ∧ x.peak < 100 ∧ x.before < 100 ∨ high) ∧
      (e = .aux → (x.mv < 16500 ∨ 33000 < x.mv) ∧ 5000 ≤ x.held)
    let p : Power := { u.power with
      pause := none
      mainsOver := if e = .mains then (x.halfCycleEnd && decide (470 < x.peak) && decide (470 < x.before)) else s.power.mainsOver
      auxLimitMa := none }
    (was = true → met → left = true →
      let v : State := { u with power := { p with
        mainsOk := e == .aux
        auxOk := e == .mains
        charger := if 40000 ≤ s.power.holdupMv then .holding else .filling
        chargeFrom := some (if e = .mains then .aux else .mains) } }
      (s.power.logicOn = true → ∃ t, exec (.entryDisqualified dt x) s = .next t ∧ State.onlyLogs v t ∧
        State.logs 0x0106 [if e = .mains then 0 else 1] v t) ∧
      (s.power.logicOn = false → exec (.entryDisqualified dt x) s = .next v)) ∧
    (was = true → met → left = false →
      exec (.entryDisqualified dt x) s = .next
        { u with power := { p with mainsOk := false, auxOk := false, charger := .off, chargeFrom := none, lostAt := some u.localNow } }) ∧
    (was = false ∨ ¬met → exec (.entryDisqualified dt x) s = .next u)) ∧
  (∀ (dt t0 : Nat) (s : State), s.power.lostAt = some t0 → s.power.logicOn = true → s.power.pfw = false → s.power.mainsOk = false →
    s.power.auxOk = false →
    let u := s.elapse dt
    (t0 + 10000 ≤ u.localNow →
      ∃ t, exec (.powerFailWarning dt) s = .next t ∧
        t.power = { u.power with pfw := true, rideSince := u.localNow, gateClosed := true } ∧
        t.otp = (match s.otp.running with
          | some run => { u.otp with opStatus := 0x02, running := some (run.pause u.localNow) }
          | none => u.otp) ∧
        (u.savingGroup = true → t.boot = u.boot) ∧
        (u.savingGroup = false → t.boot = (match s.boot.watchdogSince with
          | some w => { u.boot with
              watchdogRun := s.boot.watchdogRun + (u.localNow - w), watchdogSince := none, watchdogPaused := true }
          | none => u.boot)) ∧
        State.keeps [.power, .store, .otp, .boot, .freeCount] u t) ∧
    (u.localNow < t0 + 10000 → exec (.powerFailWarning dt) s = .next u))

/-- The ride-through ends in the power-fail shutdown (R63, R65, R66), or the gate reopens (R64, R175). -/
def Obligations.RideThroughEndsOrGateReopens : Prop :=
  (∀ (dt mv : Nat) (s : State), s.power.pfw = true →
    let u := s.elapse dt
    (s.power.rideSince + 100 * s.pfRidethrough ≤ u.localNow ∨ mv < 22000 →
      ∃ t, exec (.rideThroughEnd dt mv) s = .next t ∧ t.rt.state = .off ∧ t.power.logicOn = false ∧ t.power.domainCommand = 0 ∧
        t.power.domainStatus = 0 ∧ t.power.pfw = false ∧ t.power.gateClosed = false ∧ t.power.holdupMv = mv ∧
        t.power.estimateMade = false ∧ t.power.pause = none ∧ t.allOutputsOff ∧
        t.store.queue = [] ∧ t.store.heldBack = [] ∧ t.boot.step = .idle ∧ t.boot.retained = {} ∧ t.mirror.token = false ∧
        t.ledger.ring = [] ∧ t.mirror.store = none ∧ t.le.flash = u.le.flash ∧
        (s.power.gateClosed = true → t.store.ledger = u.store.ledger)) ∧
    (u.localNow < s.power.rideSince + 100 * s.pfRidethrough → 22000 ≤ mv → exec (.rideThroughEnd dt mv) s = .next u)) ∧
  (∀ (dt mv : Nat) (s : State), s.power.pfw = false → exec (.rideThroughEnd dt mv) s = .next (s.elapse dt)) ∧
  (∀ (dt mv : Nat) (s : State),
    let u := s.elapse dt
    let p : Power := { u.power with
      holdupMv := mv
      chargeFrom := if s.power.mainsOk then some .mains else if s.power.auxOk then some .aux else none
      auxLimitMa := if s.power.mainsOk && s.power.auxOk then some 50 else none
      charger :=
        if !(s.power.mainsOk || s.power.auxOk) then .off
        else if s.power.pause.isSome then .heldOff
        else if 40000 ≤ mv then .holding
        else .filling }
    (s.power.gateClosed = true → s.power.pfw = false → 30000 ≤ mv →
      let latch (r : StoreRecord) : Bool := r.type == 2
      let rides (r : StoreRecord) : Bool := r.type == 1 && 256 * leAt r.payload 0 2 + leAt r.payload 2 1 == 0x200007
      let event (r : StoreRecord) : Bool := r.type == 0x10
      let ranked := s.store.heldBack.filter latch ++ s.store.heldBack.filter rides ++ s.store.heldBack.filter event ++
        s.store.heldBack.filter (fun r => !latch r && !rides r && !event r)
      let left := ranked.length + s.store.heldLeft
      ∃ t, exec (.gateReopen dt mv) s = .next t ∧
        t.power = { p with gateClosed := false } ∧
        t.otp = (match s.otp.running with
          | some run => { u.otp with opStatus := 0x01, running := some (run.resume u.localNow) }
          | none => u.otp) ∧
        t.store = { u.store with
          heldBack := [], queue := ranked ++ s.store.queue, heldLeft := left
          deferred := if left = 0 then [] else s.store.deferred } ∧
        (∀ r, r ∈ t.store.queue ↔ r ∈ s.store.queue ∨ r ∈ s.store.heldBack) ∧
        t.le = { u.le with
          flash := if left = 0 then s.store.deferred.foldl (fun m d => programCells d m) s.le.flash else s.le.flash } ∧
        State.keeps [.power, .store, .otp, .le] u t) ∧
    (s.power.gateClosed = false ∨ s.power.pfw = true ∨ mv < 30000 →
      exec (.gateReopen dt mv) s = .next { u with power := p }))

/-- The holdup estimate (R59, R60, R81). -/
def Obligations.HoldupEstimateIsMeasured : Prop :=
  let judged (est : Nat) (u t : State) : Prop :=
    (est < 20000 → 0x0103 ∈ t.rt.active) ∧
    (20000 ≤ est → est < 40000 → State.logs 0x0107 (leBytes 4 est) u t ∧ t.rt = u.rt) ∧
    (40000 ≤ est → t.rt = u.rt ∧ t.ledger = u.ledger ∧ t.store = u.store)
  (∀ (dt v0 us_ : Nat) (s : State), s.power.estimateMade = false → v0 ≤ 30000 →
    let u := s.elapse dt
    let est := min 500000 (us_ * 56000 / (3 * (36000 - max 20000 v0)))
    ∃ t, exec (.holdupChargeTimed dt v0 us_) s = .next t ∧
      t.power = { u.power with estimate := est, estimateMade := true } ∧
      judged est u t ∧ State.keeps [.power, .rt, .ledger, .store] u t) ∧
  (∀ (dt v0 us_ : Nat) (s : State), s.power.estimateMade = true ∨ 30000 < v0 →
    exec (.holdupChargeTimed dt v0 us_) s = .next (s.elapse dt)) ∧
  (∀ (dt v1 : Nat) (s : State),
    let u := s.elapse dt
    let starts : Prop := s.rt.cycling = true ∧ s.power.estimateMade = false ∧ s.power.pause = none ∧ s.power.pfw = false ∧
      (s.power.mainsOk || s.power.auxOk) = true ∧ 40000 ≤ v1 ∧ u.now = s.rt.boundary
    (starts → exec (.holdupPauseStart dt v1) s = .next { u with power := { u.power with
        pause := some { start := u.localNow, v1 := v1, sum := 0, count := 0 }
        holdupMv := v1
        charger := .heldOff
        chargeFrom := some (if s.power.mainsOk then .mains else .aux)
        auxLimitMa := if s.power.mainsOk && s.power.auxOk then some 50 else none } }) ∧
    (¬starts → exec (.holdupPauseStart dt v1) s = .next u)) ∧
  (∀ (dt v2 mw : Nat) (s : State), s.power.pause = none → exec (.holdupPauseEnd dt v2 mw) s = .next (s.elapse dt)) ∧
  (∀ (dt v2 mw : Nat) (p : HoldupPause) (s : State), s.power.pause = some p →
    let u := s.elapse dt
    let measured (t : State) (estimate : Nat) : Prop := t.power = { u.power with
      pause := none, holdupMv := v2, logicMw := mw, estimateMade := true, estimate := estimate
      chargeFrom := if s.power.mainsOk then some .mains else if s.power.auxOk then some .aux else none
      auxLimitMa := if s.power.mainsOk && s.power.auxOk then some 50 else none
      charger := if !(s.power.mainsOk || s.power.auxOk) then .off else if 40000 ≤ v2 then .holding else .filling }
    (u.localNow < p.start + 1000000 → exec (.holdupPauseEnd dt v2 mw) s = .next u) ∧
    (p.start + 1000000 ≤ u.localNow → v2 < p.v1 →
      let est := min 500000 ((p.sum + mw) * 20 * 1344 * 1000000 / (18 * (p.count + 1) * (p.v1 * p.v1 - v2 * v2)))
      ∃ t, exec (.holdupPauseEnd dt v2 mw) s = .next t ∧ measured t est ∧ judged est u t ∧
        State.keeps [.power, .rt, .ledger, .store] u t) ∧
    (p.start + 1000000 ≤ u.localNow → p.v1 ≤ v2 →
      ∃ t n, exec (.holdupPauseEnd dt v2 mw) s = .next t ∧ measured t n ∧ n ≤ 500000 ∧ judged n u t ∧
        t.freeCount = s.freeCount + 1 ∧ State.keeps [.power, .rt, .ledger, .store, .freeCount] u t))

/-- Off → Boot (R58, R38): a cold start begins (R95, R116, R118); and the end of a ride-through (R65) and of the gate (R64). -/
def Obligations.SupplyStartEntersBoot : Prop :=
  (∀ (dt mv : Nat) (s : State), s.power.logicOn = false → (s.power.mainsOk || s.power.auxOk) = true → 36000 ≤ mv →
    let u := s.elapse dt
    ∃ t, exec (.logicSupplyStart dt mv) s = .next t ∧ t.rt = { u.rt with state := .boot } ∧
      t.power = { u.power with
        logicOn := true, holdupMv := mv, domainCommand := BitVec.twoPow 56 53, domainStatus := BitVec.twoPow 56 53
        chargeFrom := some (if s.power.mainsOk then .mains else .aux)
        auxLimitMa := if s.power.mainsOk && s.power.auxOk then some 50 else none
        charger := if s.power.pause.isSome then .heldOff else if 40000 ≤ mv then .holding else .filling } ∧
      t.clock = { u.clock with net := 0 } ∧
      t.boot = { u.boot with
        step := .waitLock, cold := true, noBank := false, meKept := false, coldEarly := min (s.boot.coldEarly + 1) 0xFFFFFFFF
        lockRetrying := false, retained := {}, retainedStatus := 0, resetSources := 1, resetCause := 1, entryAt := u.localNow
        retryAt := u.localNow + 15000, watchdogRun := 0, watchdogPaused := false, watchdogSince := some (u.localNow + 15000) } ∧
      t.otp = { u.otp with coldClean := false } ∧ State.keeps [.rt, .power, .clock, .boot, .otp, .store] u t) ∧
  (∀ (dt mv : Nat) (s : State), s.power.logicOn = true ∨ (s.power.mainsOk || s.power.auxOk) = false ∨ mv < 36000 →
    let u := s.elapse dt
    ∃ t, exec (.logicSupplyStart dt mv) s = .next t ∧
      t = { u with power := { u.power with
        holdupMv := mv, charger := t.power.charger, chargeFrom := t.power.chargeFrom, auxLimitMa := t.power.auxLimitMa } }) ∧
  (∀ (dt mv : Nat) (s : State), s.power.pfw = true →
    s.power.rideSince + 100 * s.pfRidethrough ≤ s.localNow + dt ∨ mv < 22000 →
    ∃ t, exec (.rideThroughEnd dt mv) s = .next t ∧ t.rt.state = .off ∧ t.power.logicOn = false) ∧
  (∀ (dt mv : Nat) (s : State), s.power.gateClosed = true → s.power.pfw = false → 30000 ≤ mv →
    ∃ t, exec (.gateReopen dt mv) s = .next t ∧ t.power.gateClosed = false ∧ t.power.holdupMv = mv)

/-- Supervision of the draw (R68), the comparison of the domains (R75) and a domain's start (R74); the rows of the holdup estimate complete. -/
def Obligations.DrawAndDomainsAreSupervised : Prop :=
  (∀ (dt : Nat) (x : PowerSample) (s : State),
    let u := s.elapse dt
    ∃ t, exec (.logicOverdraw dt x) s = .next t ∧
      t.power = { u.power with
        holdupMv := x.holdupMv
        charger := t.power.charger
        chargeFrom := if s.power.mainsOk then some .mains else if s.power.auxOk then some .aux else none
        auxLimitMa := if s.power.mainsOk && s.power.auxOk then some 50 else none
        mainsPeak := if s.noMains then 0 else x.mainsPeak
        auxMv := x.auxMv
        fs1Mv := x.fs1Mv
        fs2Mv := x.fs2Mv
        logicMw := x.logicMw
        bistPeak := if s.rt.state = .test then max s.power.bistPeak x.logicMw else s.power.bistPeak
        pause := s.power.pause.map (fun p => { p with sum := p.sum + x.logicMw, count := p.count + 1 })
        overdrawSince := if 9000 < x.logicMw then some (s.power.overdrawSince.getD u.localNow) else none
        calmSince := if x.logicMw < 8500 then some (s.power.calmSince.getD u.localNow) else none } ∧
      (x.logicMw ≤ 9000 → t.rt = u.rt ∧ t.store = u.store) ∧
      (∀ n, n < 32 → n < s.field.channels.length → t.ch n = { u.ch n with driven := (t.ch n).driven, discharge := (t.ch n).discharge }) ∧
      (∀ t0, s.power.overdrawSince = some t0 → 9000 < x.logicMw → s.power.logicOn = true → t0 + 10000000 ≤ u.localNow →
        0x0104 ∈ t.rt.active) ∧
      State.keeps [.power, .rt, .field, .ledger, .store] u t) ∧
  (∀ (dt : Nat) (s : State),
    let u := s.elapse dt
    ∃ t, exec (.domainMismatch dt) s = .next t ∧
      (s.power.mismatchTwice = 0 → t = u) ∧
      (s.power.mismatchTwice ≠ 0 → (∀ d ∈ s.rt.detected, d.cause ≠ 0x0101) →
        t = { u with rt := { u.rt with
          detected := s.rt.detected ++ [{ cause := 0x0101, cls := .nonRecoverable, time := u.now, data := [] }] } }) ∧
      State.keeps [.rt] u t) ∧
  (∀ (dt pd : Nat) (s : State),
    let u := (s.elapse dt).bootPower.bistPower
    (∀ e ∈ s.power.switching, e.1 = pd → u.localNow < e.2) → exec (.domainPowerUp dt pd) s = .next u) ∧
  (∀ (dt pd due : Nat) (s : State), 40 ≤ pd →
    let u := (s.elapse dt).bootPower.bistPower
    s.power.switching.find? (fun e => e.1 == pd) = some (pd, due) → due ≤ u.localNow →
      exec (.domainPowerUp dt pd) s = .next { u with
        power := { u.power with
          switching := s.power.switching.filter (fun x => x.1 != pd)
          domainStatus := u.power.domainStatus ||| BitVec.twoPow 56 pd
          switchedLast := s.power.switchedLast ||| BitVec.twoPow 56 pd }
        mirror := if pd = 49 then { u.mirror with linkOk := true } else u.mirror }) ∧
  (∀ (dt pd due : Nat) (s : State), pd < 40 →
    let u := (s.elapse dt).bootPower.bistPower
    s.power.switching.find? (fun e => e.1 == pd) = some (pd, due) → due ≤ u.localNow →
      ∃ t, exec (.domainPowerUp dt pd) s = .next t ∧
        t.power = { u.power with
          switching := s.power.switching.filter (fun x => x.1 != pd)
          domainStatus := u.power.domainStatus ||| BitVec.twoPow 56 pd
          switchedLast := s.power.switchedLast ||| BitVec.twoPow 56 pd } ∧
        (pd < 32 → pd < s.field.channels.length →
          (t.ch pd).on = true ∧ (t.ch pd).mode = s.chMode pd ∧ (t.ch pd).filtered = false ∧ (t.ch pd).init = true ∧
            (t.ch pd).initDue = u.localNow + 10000 * 2 ^ s.chFilter pd) ∧
        (∀ n, n ≠ pd → t.ch n = s.ch n) ∧
        State.keeps [.power, .field, .counters, .analog] u t) ∧
  (∀ (s : State), s.boot.step = .idle → s.bootPower.bistPower = s) ∧
  (∀ (s : State), s.boot.step = .waitLock ∨ s.boot.step = .lockRetry ∨ s.boot.step = .locked → ∀ pd late,
    (pd, late) ∈ [(40, 100), (42, 100), (43, 100), (54, 200), (45, 300), (41, 400), (44, 500)] →
      s.boot.entryAt + 100 * late ≤ s.localNow → s.bootPower.power.domainCommand.getLsbD pd = true) ∧
  (∀ (dt v0 us_ : Nat) (s : State), s.power.estimateMade = false → v0 ≤ 30000 →
    ∃ t, exec (.holdupChargeTimed dt v0 us_) s = .next t ∧ t.power.estimateMade = true) ∧
  (∀ (dt v1 : Nat) (s : State), s.rt.cycling = true → s.power.estimateMade = false → s.power.pause = none → s.power.pfw = false →
    (s.power.mainsOk || s.power.auxOk) = true → 40000 ≤ v1 → (s.elapse dt).now = s.rt.boundary →
    ∃ t, exec (.holdupPauseStart dt v1) s = .next t ∧ t.power.charger = .heldOff) ∧
  (∀ (dt v2 mw : Nat) (p : HoldupPause) (s : State), s.power.pause = some p → p.start + 1000000 ≤ s.localNow + dt →
    ∃ t, exec (.holdupPauseEnd dt v2 mw) s = .next t ∧ t.power.estimateMade = true ∧ t.power.pause = none)

/-! ### Clock root and network time (ch. 3), reset sources (ch. 4) -/

/-- Reset sources (R116, R119, R121), clock faults (R91 to R93) and the rail fault (R67). -/
def Obligations.ResetSourcesHoldTheUnitInBoot : Prop :=
  (∀ (dt : Nat) (s : State), s.power.logicOn = true → s.boot.step ≠ .resetHeld →
    let u := s.elapse dt
    (∀ k, 2 ≤ k → k ≤ 7 → ∃ t, exec (.warmReset dt k) s = .next t ∧ State.heldInReset k u t) ∧
    (∃ t, exec (.railFault dt) s = .next t ∧ State.heldInReset 3 u t ∧
      t.boot.retained.cause = some (s.boot.retained.cause.getD 0x0102)) ∧
    (s.clock.pllLock = true → ∃ t, exec (.pllLockLoss dt) s = .next t ∧ State.heldInReset 2 u t ∧
      t.boot.retained.cause = some (s.boot.retained.cause.getD 0x0202)) ∧
    (∀ c, s.clock.pllLock = true → countsOk s.clock.trimValid s.power.domainStatus c = false →
      ∃ t, exec (.clockMonitorWindow dt c) s = .next t ∧ State.heldInReset 2 u t ∧
        t.boot.retained.cause = some (s.boot.retained.cause.getD 0x0201)) ∧
    (∀ w, s.boot.watchdogSince = some w → 200000000 ≤ s.boot.watchdogRun + (u.localNow - w) →
      ∃ t, exec (.bootWatchdogExpiry dt) s = .next t ∧ State.heldInReset 5 u t ∧ t.boot.retained.watchdogExpiry = true ∧
        t.boot.retained.bootFailures = s.boot.retained.bootFailures + 1)) ∧
  (∀ (dt k : Nat) (s : State), s.power.logicOn = true → s.boot.step = .resetHeld → 2 ≤ k → k ≤ 7 →
    let u := s.elapse dt
    exec (.warmReset dt k) s = .next { u with boot := { u.boot with
      retained := { s.boot.retained with
        cause := if k = 2 then some (s.boot.retained.cause.getD (if s.clock.pllLock then 0x0201 else 0x0202))
        else if k = 3 then some (s.boot.retained.cause.getD 0x0102)
        else if k = 4 then some (s.boot.retained.cause.getD 0x0D01)
        else s.boot.retained.cause }
      resetSources := s.boot.resetSources ||| BitVec.twoPow 8 (k - 1)
      resetCause := lowestSource (s.boot.resetSources ||| BitVec.twoPow 8 (k - 1)) } }) ∧
  (∀ (dt : Nat) (c : ClockCounts) (s : State), s.clock.pllLock = true → s.boot.step ≠ .resetHeld →
    countsOk s.clock.trimValid s.power.domainStatus c = true →
    let u := s.elapse dt
    exec (.clockMonitorWindow dt c) s = .next { u with clock := { u.clock with
      rootLast := min 65535 c.ts
      rootMin := min s.clock.rootMin (min 65535 c.ts)
      rootMax := max s.clock.rootMax (min 65535 c.ts)
      monitorOk := true } }) ∧
  (∀ n, (countOk true 20000 n = true ↔ 19400 ≤ n ∧ n ≤ 20600) ∧ (countOk false 20000 n = true ↔ 18000 ≤ n ∧ n ≤ 22000) ∧
    (countOk true 10000 n = true ↔ 9700 ≤ n ∧ n ≤ 10300) ∧ (countOk false 10000 n = true ↔ 9000 ≤ n ∧ n ≤ 11000))

/-- The PLL lock at boot (R90, R91, R109, R121). -/
def Obligations.PllLocksOrIsRetried : Prop :=
  (∀ (dt lockUs : Nat) (c : ClockCounts) (s : State), s.boot.step = .waitLock → s.power.pfw = false →
    let u := (s.elapse dt).bootPower
    let trim := !s.otp.fails s.otp.lifecycleState .trim
    (lockUs ≤ 1000 → countsOk trim u.power.domainStatus c = true →
      ∃ t, exec (.pllLock dt lockUs c) s = .next t ∧ t.clock.pllLock = true ∧ t.clock.trimValid = trim ∧ t.clock.monitorOk = true ∧
        t.clock.pllLockTime = lockUs ∧ t.boot.step = .locked ∧ t.boot.lockRetrying = false ∧
        t.boot.watchdogSince = (if s.boot.watchdogPaused then some u.localNow else s.boot.watchdogSince) ∧
        State.keeps [.clock, .boot] u t) ∧
    (1000 < lockUs ∨ countsOk trim u.power.domainStatus c = false →
      ∃ t, exec (.pllLock dt lockUs c) s = .next t ∧ t.clock.pllLock = false ∧ t.boot.step = .lockRetry ∧
        t.boot.retryAt = s.boot.retryAt ∧ t.boot.watchdogSince = none ∧
        t.boot.retained.cause = some (s.boot.retained.cause.getD (if 1000 < lockUs then 0x0202 else 0x0201)) ∧
        State.keeps [.clock, .boot] u t)) ∧
  (∀ (dt : Nat) (s : State), s.boot.step = .waitLock → s.power.pfw = false →
    let u := (s.elapse dt).bootPower
    (s.boot.retryAt + 100000 ≤ u.localNow →
      ∃ t, exec (.pllLockTimeout dt) s = .next t ∧ t.clock.pllLock = false ∧ t.boot.step = .lockRetry ∧ t.boot.watchdogSince = none ∧
        t.boot.retained.cause = some (s.boot.retained.cause.getD 0x0202) ∧ State.keeps [.clock, .boot] u t) ∧
    (u.localNow < s.boot.retryAt + 100000 → exec (.pllLockTimeout dt) s = .next u)) ∧
  (∀ (dt : Nat) (s : State), s.boot.step = .lockRetry →
    let u := (s.elapse dt).bootPower
    exec (.pllLockRetry dt) s = .next (if s.boot.retryAt + 1000000 ≤ u.localNow ∧ s.power.pfw = false
      then { u with boot := { u.boot with step := .waitLock, retryAt := u.localNow } } else u))

/-- The time master (R98, R99). -/
def Obligations.TimeMasterSendsRounds : Prop :=
  (∀ (dt : Nat) (s : State), s.rt.cycling = true → s.clock.sync = .free ∨ s.clock.sync = .locking ∨ s.clock.sync = .holdover →
    let u := s.elapse dt
    (s.timePriority ≠ 0 → s.clock.lastHeard + 100000 * (30 + s.timePriority) ≤ u.now →
      ∃ t, exec (.timeMasterTimeout dt) s = .next t ∧
        t.clock = { u.clock with
          sync := .master, sending := none, fourCount := 0, slewUntil := none, pendingStep := none, rho := 0, limitSince := none
          roundLast := 0 } ∧
        State.keeps [.clock] u t) ∧
    (s.timePriority = 0 ∨ u.now < s.clock.lastHeard + 100000 * (30 + s.timePriority) → exec (.timeMasterTimeout dt) s = .next u)) ∧
  (∀ (dt : Nat) (s : State), s.rt.cycling = true → s.clock.sync = .master →
    let u := s.elapse dt
    (u.now % 1000000 = 0 → s.clock.roundLast < u.now →
      ∃ t, exec (.syncRoundStart dt) s = .next t ∧
        t.clock = { u.clock with
          sending := some { round := u.now / 1000000 % 2 ^ 32, instant := u.now, ma := none, mb := none }, roundLast := u.now } ∧
        (s.zop.canA.accepts = true → ∃ f ∈ t.zop.canA.queue, f.id = 0x010 + s.zop.nodeId ∧ leAt f.data 4 4 = u.now / 1000000 % 2 ^ 32) ∧
        (s.zop.canB.accepts = true → ∃ f ∈ t.zop.canB.queue, f.id = 0x010 + s.zop.nodeId ∧ leAt f.data 4 4 = u.now / 1000000 % 2 ^ 32) ∧
        State.keeps [.clock, .zop] u t) ∧
    (u.now % 1000000 ≠ 0 ∨ u.now ≤ s.clock.roundLast → exec (.syncRoundStart dt) s = .next u)) ∧
  (∀ (dt : Nat) (missedA missedB : Bool) (m : MasterRound) (s : State), s.rt.cycling = true → s.clock.sync = .master → s.clock.sending = some m →
    let u := s.elapse dt
    let ma := if missedA then none else m.ma
    let mb := if missedB then none else m.mb
    let held := (ma.isSome || !s.channelInUse .a) && (mb.isSome || !s.channelInUse .b)
    let sent (q : List CanFrame) : Prop := ∃ f ∈ q, f.id = 0x030 + s.zop.nodeId ∧ leAt f.data 4 4 = m.round % 2 ^ 32 ∧
      (s.channelInUse .a = true → leAt f.data 8 8 = ma.getD 0 % 2 ^ 64) ∧
      (s.channelInUse .b = true → leAt f.data 16 8 = mb.getD 0 % 2 ^ 64)
    (m.instant + 200000 < u.now → exec (.followUpSend dt missedA missedB) s = .next { u with clock := { u.clock with sending := none } }) ∧
    (u.now ≤ m.instant + 200000 → held = true ∨ m.instant + 150000 ≤ u.now →
      ∃ t, exec (.followUpSend dt missedA missedB) s = .next t ∧ t.clock = { u.clock with sending := none } ∧
        (s.zop.canA.accepts = true → sent t.zop.canA.queue) ∧ (s.zop.canB.accepts = true → sent t.zop.canB.queue) ∧
        State.keeps [.clock, .zop] u t) ∧
    (held = false → u.now < m.instant + 150000 → exec (.followUpSend dt missedA missedB) s = .next u))

/-- A receiver's rounds (R98, R100, R102, R104). -/
def Obligations.ReceiverFollowsItsMaster : Prop :=
  (∀ (dt : Nat) (ch : CanChannel) (m p n : Nat) (s : State), s.rt.cycling = true → s.channelInUse ch = true → m ≠ s.zop.nodeId →
    (∀ c ∈ s.clock.captures, c.master = m → c.round ≠ n) →
    let u := s.elapse dt
    exec (.sync dt ch m p n) s = .next { u with clock := { u.clock with
      captures := s.clock.captures.filter (fun x => x.master != m) ++
        [{ master := m, priority := p, round := n, done := false
           la := if ch = .a then some u.now else none
           lb := if ch = .b then some u.now else none }] } }) ∧
  (∀ (dt : Nat) (ch : CanChannel) (m p n : Nat) (s : State), s.rt.cycling = true → s.channelInUse ch = true → m ≠ s.zop.nodeId →
    let u := s.elapse dt
    ∃ t, exec (.sync dt ch m p n) s = .next t ∧ t.clock = { u.clock with captures := t.clock.captures } ∧ State.keeps [.clock] u t ∧
      (∀ c, c.master ≠ m → (c ∈ t.clock.captures ↔ c ∈ s.clock.captures)) ∧
      (∀ c ∈ t.clock.captures, c.master = m → c.round = n ∧
        (c.done = false → (match ch with | .a => c.la | .b => c.lb).isSome = true))) ∧
  (∀ (dt m n ma mb : Nat) (va vb : Bool) (s : State), (∃ c ∈ s.clock.captures, c.master = m ∧ c.round = n ∧ c.done = false) →
    let u := s.elapse dt
    ∃ t, exec (.followUp dt m va vb n ma mb) s = .next t ∧
      (∀ c ∈ t.clock.captures, c.master = m → c.round = n → c.done = true) ∧
      (∃ h ∈ t.clock.masters, h.node = m) ∧ State.keeps [.clock] u t) ∧
  (∀ (dt m n ma mb : Nat) (va vb : Bool) (s : State), (∀ c ∈ s.clock.captures, c.master = m → c.round = n → c.done = true) →
    exec (.followUp dt m va vb n ma mb) s = .next (s.elapse dt)) ∧
  (∀ (dt m p n ma mb : Nat) (la lb : Instant) (s : State), s.clock.sync = .locked → s.clock.masters = [] →
    s.clock.captures = [{ master := m, priority := p, round := n, la := some la, lb := some lb, done := false }] →
    let u := s.elapse dt
    let e : Int := la - ma
    u.now ≤ ((ma - ma % 1000000 : Nat) : Int) + e + 3000000 →
    ∃ t, exec (.followUp dt m true true n ma mb) s = .next t ∧ State.keeps [.clock] u t ∧
      t.clock.captures = [{ master := m, priority := p, round := n, la := some la, lb := some lb, done := true }] ∧
      t.clock.masters = [{ node := m, priority := p, last := ((ma - ma % 1000000 : Nat) : Int) + e }] ∧
      (30 < (e - (lb - mb)).natAbs →
        t.clock.sync = .locked ∧ t.clock.rejectCount = min (s.clock.rejectCount + 1) 0xFFFFFFFF ∧ t.clock.r = s.clock.r ∧
          t.clock.departure = s.clock.departure) ∧
      ((e - (lb - mb)).natAbs ≤ 30 →
        (e.natAbs ≤ 35 → t.clock.sync = .locked ∧ t.clock.departure = false ∧ t.clock.rejectCount = s.clock.rejectCount) ∧
        (35 < e.natAbs → e.natAbs ≤ 1000 → s.clock.departure = false →
          t.clock.sync = .locked ∧ t.clock.departure = true ∧ t.clock.rejectCount = s.clock.rejectCount) ∧
        (1000 < e.natAbs → s.clock.departure = false →
          t.clock.sync = .locked ∧ t.clock.departure = true ∧ t.clock.rejectCount = min (s.clock.rejectCount + 1) 0xFFFFFFFF ∧
            t.clock.r = s.clock.r ∧ t.clock.pendingStep = s.clock.pendingStep) ∧
        (35 < e.natAbs → s.clock.departure = true →
          t.clock.sync = .locking ∧ t.clock.fourCount = 0 ∧ t.clock.departure = false) ∧
        (e.natAbs ≤ 1000 →
          t.clock.r = max (-200000) (min 200000 (s.clock.r - 500 * e)) ∧
            t.clock.slewUntil = some (u.nextRound (((ma - ma % 1000000 : Nat) : Int) + e))))) ∧
  (∀ (inst : Instant) (s : State), inst ≤ s.now → s.nextRound inst % 1000000 = inst % 1000000 ∧ (s.now : Int) < s.nextRound inst ∧
    s.nextRound inst ≤ s.now + 1000000)

/-- Sync time-outs (R104), the rate limit (R107) and the step (R102, R103, R111, R112). -/
def Obligations.SyncTimeoutsAndSteps : Prop :=
  (∀ (dt : Nat) (a : Instant) (s : State), s.clock.lastAccepted = some a →
    let u := s.elapse dt
    (u.now < a + 3000000 → exec (.syncRoundTimeout dt) s = .next u) ∧
    (a + 3000000 ≤ u.now → s.clock.sync = .locked →
      ∃ t, exec (.syncRoundTimeout dt) s = .next t ∧ t.clock.sync = .holdover ∧ t.clock.holdoverSince = u.now ∧
        t.clock.slewUntil = none ∧ State.keeps [.clock] u t) ∧
    (a + 3000000 ≤ u.now → s.clock.sync = .locking →
      ∃ t, exec (.syncRoundTimeout dt) s = .next t ∧ t.clock.sync = .free ∧ State.keeps [.clock, .rt] u t)) ∧
  (∀ (dt : Nat) (s : State), s.clock.sync = .holdover →
    let u := s.elapse dt
    (s.clock.holdoverSince + 100 * s.syncHoldover ≤ u.now →
      ∃ t, exec (.syncHoldoverExpiry dt) s = .next t ∧ t.clock.sync = .free ∧ t.clock.slewUntil = none ∧
        (s.rt.state = .run → s.syncRequired = true → 0x0204 ∈ t.rt.active) ∧
        (s.rt.state ≠ .run ∨ s.syncRequired = false → t.rt = u.rt) ∧ State.keeps [.clock, .rt] u t) ∧
    (u.now < s.clock.holdoverSince + 100 * s.syncHoldover → exec (.syncHoldoverExpiry dt) s = .next u)) ∧
  (∀ (dt t0 : Nat) (s : State), s.clock.limitSince = some t0 →
    let u := s.elapse dt
    ∃ t, exec (.rateLimitHold dt) s = .next t ∧ State.keeps [.rt] u t ∧
      (s.syncRequired = true → t0 + 100000000 ≤ u.localNow → 0x0205 ∈ t.rt.active) ∧
      (s.syncRequired = false ∨ u.localNow < t0 + 100000000 → t.rt = u.rt)) ∧
  (∀ (dt : Nat) (end_ : Instant) (s : State), s.clock.slewUntil = some end_ → s.clock.sync ≠ .master →
    let u := s.elapse dt
    (end_ ≤ u.now →
      ∃ t, exec (.roundInstantNoRound dt) s = .next t ∧ State.keeps [.clock] u t ∧ t.clock.slewUntil = none ∧
        t.clock.rho = max (-858993) (min 858993 ((2 * (s.clock.r * 2 ^ 32) + 1000000000).fdiv 2000000000)) ∧ t.clock.r = s.clock.r) ∧
    (u.now < end_ → exec (.roundInstantNoRound dt) s = .next u)) ∧
  (∀ (dt : Nat) (d : Int) (s : State), s.clock.pendingStep = some d →
    let u := s.elapse dt
    (u.boundaryDue = true ∨ (s.rt.cycling = true ∧ u.now = s.rt.boundary) →
      (s.rt.state ≠ .run →
        ∃ t, exec (.timeStepApply dt) s = .next t ∧ t.clock.net = ((u.clock.net : Int) + d * 2 ^ 32).toNat ∧
          t.clock.pendingStep = none ∧ t.clock.stepCount = min (s.clock.stepCount + 1) 0xFFFFFFFF ∧ t.clock.localTicks = u.clock.localTicks ∧
          t.clock.r = s.clock.r ∧ t.clock.steppedTo = (if u.boundaryDue then some ((u.dueBoundary : Int) + d).toNat else s.clock.steppedTo) ∧
          State.keeps [.rt, .clock, .le, .field, .glint, .counters, .analog, .lib, .xch, .zop, .mirror, .service] u t) ∧
      (s.rt.state = .run → exec (.timeStepApply dt) s = .next { u with clock := { u.clock with pendingStep := none } })) ∧
    (u.boundaryDue = false → ¬(s.rt.cycling = true ∧ u.now = s.rt.boundary) → exec (.timeStepApply dt) s = .next u))

/-! ### From power to release (ch. 4) -/

/-- Reset release (R119, R118, R122, R138) and Boot → Test (R120, R125, R139, R176). -/
def Obligations.ResetReleaseLeadsToTest : Prop :=
  (∀ (dt : Nat) (crcOk : Bool) (s : State), s.boot.step = .resetHeld →
    let u := s.elapse dt
    let me := s.power.domainCommand.getLsbD 49
    let lostE := s.boot.retained.saveEvent || !crcOk
    let lostS := s.boot.retained.saveSnapshot || !crcOk
    let checked (t : State) : Prop :=
      t.boot.cold = false ∧ t.boot.meKept = me ∧ t.boot.entryAt = u.localNow ∧ t.boot.watchdogRun = 0 ∧
        (∀ n, t.boot.retainedStatus.getLsbD n =
          ((n == 0 && !lostE) || (n == 1 && me && !lostS) || (n == 2 && lostE) || (n == 3 && lostS))) ∧
        t.boot.retained = (if crcOk then s.boot.retained else { ({} : Retained) with saveEvent := true, saveSnapshot := true }) ∧
        t.mirror.store = (if lostS || !me then none else s.mirror.store) ∧
        (lostE = true → t.ledger.ring = [] ∨ s.rt.cycling = true) ∧
        (s.rt.cycling = false → t.ledger.early.map (·.code) = s.ledger.early.map (·.code) ++
          (if crcOk then [] else [0x0308]) ++ (if lostE then [0x0307] else []) ++ (if lostS then [0x0307] else [])) ∧
        State.keeps [.boot, .ledger, .mirror, .store] u t
    (u.localNow < s.boot.resetAt + 100000 → exec (.resetRelease dt crcOk) s = .next u) ∧
    (s.boot.resetAt + 100000 ≤ u.localNow → s.boot.noBank = false → crcOk = false ∨ s.boot.retained.bootFailures < 3 →
      ∃ t, exec (.resetRelease dt crcOk) s = .next t ∧ checked t ∧ t.boot.step = .waitLock ∧ t.boot.noBank = false ∧
        t.boot.retryAt = u.localNow + 15000 ∧ t.boot.watchdogPaused = s.power.pfw ∧
        t.boot.watchdogSince = (if s.power.pfw then none else some (u.localNow + 15000))) ∧
    (s.boot.resetAt + 100000 ≤ u.localNow → s.boot.noBank = true ∨ (crcOk = true ∧ 3 ≤ s.boot.retained.bootFailures) →
      ∃ t, exec (.resetRelease dt crcOk) s = .next t ∧ checked t ∧ t.boot.step = .stopped ∧ t.boot.noBank = s.boot.noBank ∧
        t.boot.watchdogSince = none)) ∧
  (∀ (dt : Nat) (s : State), s.boot.step = .locked → s.power.pfw = false →
    let u := s.elapse dt
    let sensed (t : State) : Prop :=
      t.otp.unstable = s.otp.unstable ∧ (∀ f, f ∉ s.otp.unstable → t.otp.fuse f = s.otp.fuse f) ∧
        t.freeCount = s.freeCount + s.otp.unstable.length ∧ t.otp.lifecycle = t.otp.lifecycleState ∧
        t.clock.rcTrim = t.otp.rcTrim ∧ t.power.railTrim = t.otp.railTrim
    (∀ b, s.le.fwSelect = some b →
      ∃ t, exec (.bootEntry dt) s = .next t ∧ sensed t ∧ t.rt.state = .test ∧ t.boot.step = .bist 1 ∧ t.boot.bistAt = u.localNow + 5000 ∧
        t.boot.groupAt = u.localNow + 5000 ∧
        t.boot.fwBank = b ∧ t.boot.fwVersion = (s.le.fwHeader b).version ∧ t.boot.bistMode = (if s.boot.cold then 1 else 2) ∧
        t.boot.groupRun = 0 ∧ t.boot.groupFail = 0 ∧ t.boot.failCount = 0 ∧ t.boot.failRecords = [] ∧ t.boot.comparator = 0 ∧
        t.boot.lineLatched = 0 ∧ t.power.bistPeak = 0 ∧ t.power.switching = [(55, u.localNow + 5000)] ∧
        t.power.domainCommand = u.bootDomains true ∧ t.power.domainStatus = u.bootDomains false ∧
        State.keeps [.rt, .power, .clock, .boot, .otp, .lib, .ledger, .store, .mirror, .freeCount] u t) ∧
    (s.le.fwSelect = none →
      ∃ t, exec (.bootEntry dt) s = .next t ∧ sensed t ∧ t.rt.state = s.rt.state ∧ t.boot.step = .stopped ∧ t.boot.noBank = true ∧
        t.boot.watchdogSince = none ∧ t.power.domainCommand = u.bootDomains false ∧ t.power.domainStatus = u.bootDomains false ∧
        (s.rt.cycling = false → ∃ r ∈ t.ledger.early, r.code = 0x0305) ∧
        State.keeps [.rt, .power, .clock, .boot, .otp, .ledger, .store, .mirror, .freeCount] u t)) ∧
  (∀ (s : State) (test : Bool) (n : Nat), n < 56 → (s.bootDomains test).getLsbD n =
    (([40, 41, 42, 43, 44, 45, 53, 54] : List Nat).contains n || (test && n == 55) || (s.boot.meKept && n == 49)))

/-- BIST (R77, R86, R127 to R130, R142), the comparator injection test (R131, R132) and the seal (R133, R225, R227). -/
def Obligations.SelfTestsEnterTheirResults : Prop :=
  (∀ (dt g place element : Nat) (raw : List (BitVec 64)) (s : State), s.boot.step = .bist g → 1 ≤ g → g ≤ 8 →
    let u := s.elapse dt
    let ran := (if s.power.pfw && !s.keepsRegion g then s.power.rideSince else u.localNow) - s.boot.groupAt
    let late := 100 * groupLimit s.boot.cold g < ran
    let found := (raw.filter (s.otp.tested (s.otp.applied.map (fun e => e.toNat)))).map (failRecord g)
    let zero (a : Nat) : Bool :=
      match g with
      | 1 => (decide (0x20000000 ≤ a) && decide (a < 0x20060000)) ||
          (!s.keepsRegion 1 && decide (0x22000000 ≤ a) && decide (a < 0x22004000))
      | 2 => decide (0x21000000 ≤ a) && decide (a < 0x21060000)
      | 3 => decide (0x21060000 ≤ a) && decide (a < 0x210C0000)
      | 5 => (decide (0x24000000 ≤ a) && decide (a < 0x24010000)) ||
          (!s.keepsRegion 5 && decide (0x25000000 ≤ a) && decide (a < 0x25010000))
      | _ => false
    (s.boot.groupAt ≤ u.localNow → s.power.pfw = false ∨ s.boot.groupAt ≤ s.power.rideSince →
      ∃ t, exec (.bistGroupComplete dt g raw place element) s = .next t ∧
        t.boot.step = (if g = 8 then .comparator else .bist (g + 1)) ∧
        (g ≠ 8 → t.boot.groupAt = u.localNow + 20000) ∧
        (g = 8 → t.boot.bistDuration = min 220000 ((u.localNow - s.boot.bistAt) / 100)) ∧
        t.boot.groupRun = s.boot.groupRun ||| BitVec.twoPow 8 (g - 1) ∧
        t.boot.groupFail = (if found = [] ∧ ¬late then s.boot.groupFail else s.boot.groupFail ||| BitVec.twoPow 8 (g - 1)) ∧
        t.boot.failCount = min 65535 (s.boot.failCount + found.length + (if late then 1 else 0)) ∧
        t.boot.failRecords = (s.boot.failRecords ++ found ++ (if late then [timeoutRecord g place element] else [])).take 8 ∧
        (s.power.pfw = true → t.boot.watchdogSince = none) ∧
        (s.power.pfw = false → t.boot.watchdogSince = s.boot.watchdogSince) ∧
        (∀ a, cellRead 0 t.le.ram a = if zero a then 0 else cellRead 0 s.le.ram a) ∧
        t.le = { u.le with
          ram := t.le.ram
          tags := if g = 1 then [] else s.le.tags
          inputs := if g = 1 then List.replicate 180 0 else s.le.inputs
          outputs := if g = 1 then List.replicate 32 0 else s.le.outputs
          inputsCoded := if g = 2 then List.replicate 180 0 else s.le.inputsCoded
          outputsCoded := if g = 2 then List.replicate 32 0 else s.le.outputsCoded } ∧
        t.boot.retained = { s.boot.retained with
          saveEvent := s.boot.retained.saveEvent && (g != 1 || s.keepsRegion 1)
          saveSnapshot := s.boot.retained.saveSnapshot && (g != 5 || s.keepsRegion 5) } ∧
        t.mirror = (if g = 5 ∧ s.keepsRegion 5 = false then { u.mirror with store := none } else u.mirror) ∧
        t.power = { u.power with
          domainCommand := u.bootDomains true
          domainStatus := u.bistPower.power.domainStatus &&& u.bootDomains true &&&
            (if g = 7 then ~~~(BitVec.twoPow 56 53) else BitVec.allOnes 56)
          switching := s.power.switching ++ (if g = 7 then [(53, u.localNow + 5000)] else []) } ∧
        State.keeps [.boot, .power, .le, .mirror] u t) ∧
    (u.localNow < s.boot.groupAt ∨ (s.power.pfw = true ∧ s.power.rideSince < s.boot.groupAt) →
      exec (.bistGroupComplete dt g raw place element) s = .next u)) ∧
  (groupLimit true 1 = 28000 ∧ groupLimit false 1 = 30000 ∧ groupLimit true 4 = 40000 ∧ groupLimit true 8 = 20000) ∧
  (∀ g place element : Nat, 1 ≤ g → g ≤ 8 →
    bitsAt (timeoutRecord g place element).toNat 63 60 = g ∧ bitsAt (timeoutRecord g place element).toNat 17 16 = 3 ∧
      bitsAt (timeoutRecord g place element).toNat 31 24 = 0xFF ∧ bitsAt (timeoutRecord g place element).toNat 13 0 = 0 ∧
      ((timeoutPlace g place).1 ∈ [1, 2, 3, 4, 5, 6, 7, 8, 9]) ∧
      (6 ≤ g → bitsAt (timeoutRecord g place element).toNat 23 20 = 0xF ∧ (timeoutPlace g place).2 ∈ groupDomains g)) ∧
  (∀ (dt : Nat) (faulty : BitVec 7) (s : State), s.boot.step = .comparator → s.power.pfw = false →
    let u := s.elapse dt
    ∃ t, exec (.comparatorInjectionTest dt faulty) s = .next t ∧
      (∀ n, n < 6 → t.boot.comparator.getLsbD n = !faulty.getLsbD n) ∧
      (t.boot.comparator.getLsbD 6 = true ↔ faulty = 0) ∧ t.boot.comparator.getLsbD 7 = false ∧
      (t.boot.comparator = 0x7F ↔ faulty = 0) ∧ t.boot.injection = 0 ∧ t.boot.step = .mpuSeal ∧
      (faulty = 0 → t.boot.lineLatched = 4) ∧ State.keeps [.boot] u t) ∧
  codedQuotient 62141 62141001 = none ∧ codedQuotient 62141 62141000 = some 1000 ∧
  (∀ (dt : Nat) (s : State), s.boot.step = .mpuSeal → s.power.pfw = false →
    let u := s.elapse dt
    ∃ t, exec (.mpuSeal dt false false) s = .next t ∧ t.le.isSealed = true ∧ t.boot.step = .recovery ∧ t.le.setA.length = 16 ∧
      t.le.ram = s.le.ram ∧ t.le.flash = s.le.flash ∧ t.le.tags = s.le.tags ∧ t.le.inB = s.le.inB ∧
      State.keeps [.le, .boot, .rt, .ledger, .store, .mirror] u t) ∧
  (∀ (dt : Nat) (differs fails : Bool) (s : State), s.boot.step = .mpuSeal → s.power.pfw = false → s.power.logicOn = true →
    (differs || fails) = true →
    ∃ t, exec (.mpuSeal dt differs fails) s = .next t ∧ t.rt.state = .boot ∧ t.boot.step = .resetHeld ∧ t.boot.resetSources = 0 ∧
      t.boot.retained.bootFailures = s.boot.retained.bootFailures + 1 ∧ t.allOutputsOff ∧ t.le.isSealed = false)

/-- Store recovery (R416, R422) and release (R134 to R136, R232). -/
def Obligations.RecoveryAndReleaseEndTheStart : Prop :=
  (∀ (dt elapsedUs : Nat) (s : State), s.boot.step = .recovery → s.power.pfw = false → s.power.gateClosed = false →
    ∃ t, exec (.storeRecovery dt elapsedUs) s = .next t ∧ t.store.ready = true ∧ t.store.recoveryTime = min 250000 elapsedUs ∧
      t.boot.step = .release ∧ t.rt.state = s.rt.state ∧ t.otp.bank0 = s.otp.bank0 ∧ t.otp.bank1 = s.otp.bank1 ∧
      t.otp.bank2 = s.otp.bank2 ∧ t.le = { s.le with flash := t.le.flash } ∧ (s.store.deferred = [] → t.le = s.le) ∧
      t.pending = s.pending) ∧
  (∀ (dt elapsedUs : Nat) (s : State), s.boot.step ≠ .recovery ∨ s.power.pfw = true ∨ s.power.gateClosed = true →
    exec (.storeRecovery dt elapsedUs) s = .next (s.elapse dt)) ∧
  (∀ (dt : Nat) (s : State), s.boot.step ≠ .release ∨ s.power.pfw = true ∨
      (s.zop.session ≠ 2 ∧ (s.power.gateClosed = true ∨ s.epochWaits = true)) →
    exec (.release dt) s = .next (s.elapse dt)) ∧
  (∀ (dt : Nat) (s : State), s.boot.step = .release → s.power.pfw = false →
    s.zop.session = 2 ∨ (s.power.gateClosed = false ∧ s.epochWaits = false) →
    let u := s.elapse dt
    ∃ t, exec (.release dt) s = .next t ∧ t.boot.step = .idle ∧ t.rt.cycling = true ∧ t.rt.entryTime = u.now ∧ t.rt.boundary = u.now ∧
      t.rt.cycleUs = s.safeCycle ∧ t.boot.retained.bootFailures = 0 ∧ t.boot.retained.cause = none ∧ t.boot.watchdogSince = none ∧
      t.boot.retained.watchdogExpiry = false ∧ t.boot.bootDuration = min 2000000 ((u.localNow - s.boot.entryAt) / 100) ∧
      t.boot.coldStarts = min u32Max (s.boot.coldStarts + s.boot.coldEarly) ∧
      t.boot.warmResets = min u32Max (s.boot.warmResets + s.boot.warmEarly) ∧ t.boot.coldEarly = 0 ∧ t.boot.warmEarly = 0 ∧
      t.le.violation = false ∧ t.le.faultAddress = 0 ∧ t.le.faultInfo = 0 ∧ t.le.faultCycle = 0 ∧ t.le.laterViolations = 0 ∧
      (∀ ch, (t.zop.can ch).accepts = true → ∃ f ∈ (t.zop.can ch).queue, f.id = 0x050 + t.zop.nodeId) ∧
      t.xch.faultBuffer = 0xFF ∧ t.xch.refusedCount = 0 ∧
      t.clock.rootMin = 65535 ∧ t.clock.rootMax = 0 ∧ t.rt.cycleCount = s.rt.cycleCount ∧
      (s.boot.failCount = 0 → s.boot.comparator = 0x7F → s.boot.retained.cause = none → s.boot.retained.watchdogExpiry = false →
        s.boot.retained.latch = false → s.rt.lockoutLatch = false →
        t.rt.state = .hold ∧ t.rt.lockoutLatch = false ∧ t.rt.stateCause = s.rt.stateCause ∧ t.rt.autoStart = s.autoStartSet) ∧
      (0 < s.boot.failCount → t.rt.state = .lockout ∧ t.rt.lockoutLatch = true ∧ t.rt.stateCause = 0x0301) ∧
      (s.boot.failCount = 0 → s.boot.comparator ≠ 0x7F → t.rt.state = .lockout ∧ t.rt.lockoutLatch = true ∧
        (t.rt.stateCause = 0x0302 ∨ t.rt.stateCause = 0x0303)) ∧
      (∀ c, s.boot.failCount = 0 → s.boot.comparator = 0x7F → s.boot.retained.cause = some c →
        t.rt.state = .lockout ∧ t.rt.lockoutLatch = true ∧ t.rt.stateCause = c) ∧
      (s.boot.failCount = 0 → s.boot.comparator = 0x7F → s.boot.retained.cause = none → s.boot.retained.watchdogExpiry = true →
        t.rt.state = .lockout ∧ t.rt.lockoutLatch = true ∧ t.rt.stateCause = 0x0306) ∧
      (s.boot.failCount = 0 → s.boot.comparator = 0x7F → s.boot.retained.cause = none → s.boot.retained.watchdogExpiry = false →
        s.boot.retained.latch = true → t.rt.state = .lockout ∧ t.rt.lockoutLatch = true ∧ t.rt.stateCause = s.boot.retained.latchCause) ∧
      (s.boot.failCount = 0 → s.boot.comparator = 0x7F → s.boot.retained.cause = none → s.boot.retained.watchdogExpiry = false →
        s.boot.retained.latch = false → s.rt.lockoutLatch = true →
        t.rt.state = .lockout ∧ t.rt.lockoutLatch = true ∧ t.rt.stateCause = s.rt.stateCause) ∧
      t.otp.bank0 = s.otp.bank0 ∧ t.otp.bank1 = s.otp.bank1 ∧ t.otp.bank2 = s.otp.bank2 ∧ t.le.flash = s.le.flash)

/-! ### Cycle, states and hand-over (ch. 1, 6) -/

/-- Boundaries (R33, R34, R112), the counts of a cycle (R42, R44), and a boundary that overrunning passes pass over (R36, R183). -/
def Obligations.BoundaryCountsTheCycle : Prop :=
  (∀ (dt : Nat) (x : Sensors) (s : State), (s.elapse dt).boundaryDue = false → exec (.cycleBoundary dt x) s = .next (s.elapse dt)) ∧
  (∀ (dt : Nat) (s : State), (s.elapse dt).boundaryDue = true ↔ s.rt.cycling = true ∧
    (s.rt.boundary < (s.elapse dt).now / (100 * s.rt.cycleUs) * (100 * s.rt.cycleUs) ∨ s.clock.steppedTo ≠ none)) ∧
  (∀ (dt : Nat) (x : Sensors) (s : State),
    let u := s.elapse dt
    let v : State := if s.rt.libDone then u else u.evaluatePasses
    let due := s.clock.steppedTo.getD (u.now / (100 * s.rt.cycleUs) * (100 * s.rt.cycleUs))
    u.boundaryDue = true → s.rt.passesRunning = true →
      ∃ t, exec (.cycleBoundary dt x) s = .next t ∧
        (s.clock.pendingStep = none ∨ s.rt.state = .run → t.rt.boundary = due) ∧
        (∀ d, s.clock.pendingStep = some d → s.rt.state ≠ .run → t.rt.boundary = ((due : Int) + d).toNat) ∧
        t.clock.pendingStep = none ∧ t.clock.steppedTo = none ∧
        t.rt.cycleCount = (s.rt.cycleCount + 1) % 2 ^ 32 ∧ t.rt.stallCount = (if s.rt.leMark then 0 else s.rt.stallCount + 1) ∧
        t.rt.leMark = false ∧ t.rt.popped = true ∧ t.rt.libDone = true ∧ t.rt.passesRunning = true ∧ t.rt.state = s.rt.state ∧
        t.rt.stateCause = s.rt.stateCause ∧ t.field.placementDue = true ∧ t.power.fs1Mv = x.fs1Mv ∧ t.power.fs2Mv = x.fs2Mv ∧
        t.mirror.frameSeen = false ∧
        (s.clock.pendingStep = none → s.mirror.role ≠ 2 → s.mirror.role ≠ 3 →
          t.rt.passTag = s.rt.passTag ∧ t.clock = { u.clock with steppedTo := none } ∧ t.boot = u.boot ∧
          t.le = v.le ∧ t.lib = v.lib ∧ (s.rt.libDone = true → t.le.inputs = s.le.inputs ∧ t.le.inputsCoded = s.le.inputsCoded) ∧
          (s.zop.held = [] → t.xch = { u.xch with correctedCount := sat32 (s.xch.correctedCount + x.xchCorrected) }) ∧
          t.images = { u.images with eccCorrected := sat32 (s.images.eccCorrected + x.imageCorrected) } ∧
          State.keeps [.rt, .power, .clock, .passes, .le, .xch, .field, .glint, .counters, .analog, .lib, .images, .store, .zop, .mirror,
            .ledger, .freeCount] u t) ∧
        t.otp = u.otp ∧ t.dict = u.dict ∧ t.modbus = u.modbus ∧ t.pending = u.pending)

/-- Faults outrank requests, and non-recoverable ones the others (R49); the lowest cause becomes `STATE_CAUSE` (R38, R40, R45). -/
def Obligations.FaultsDecideTheState : Prop :=
  ∀ (dt : Nat) (x : Sensors) (s : State),
    let u := s.elapse dt
    let faults := s.rt.detected ++ s.glint.carried ++ s.analog.carried
    u.boundaryDue = true → s.rt.passesRunning = false → s.rt.popped = true → s.rt.resetAtBoundary = false → s.service.bistFrom = none →
    s.service.pending = [] → (∀ q ∈ s.dict.queued, q.isStateRequest = true) →
      ∃ t, exec (.cycleBoundary dt x) s = .next t ∧
        (∀ d ∈ faults, d.cls = .nonRecoverable →
          s.rt.state = .hold ∨ s.rt.state = .run ∨ s.rt.state = .service ∨ s.rt.state = .safeStop →
          t.rt.state = .lockout ∧ t.rt.lockoutLatch = true ∧ t.rt.entryTime = t.rt.boundary ∧
            (∃ m ∈ faults, m.cls = .nonRecoverable ∧ t.rt.stateCause = m.cause) ∧ t.rt.stateCause ≤ d.cause) ∧
        ((∀ d ∈ faults, d.cls ≠ .nonRecoverable) → s.rt.state = .run → ∀ d ∈ faults, d.cls = .recoverable →
          t.rt.state = .safeStop ∧ t.rt.lockoutLatch = s.rt.lockoutLatch ∧
            (∃ m ∈ faults, m.cls = .recoverable ∧ t.rt.stateCause = m.cause) ∧ t.rt.stateCause ≤ d.cause) ∧
        ((∀ d ∈ faults, d.cls ≠ .nonRecoverable) → s.rt.state = .hold ∨ s.rt.state = .service → s.dict.queued = [] →
          s.rt.encoding = none → s.rt.autoStart = false →
          t.rt.state = s.rt.state ∧ t.rt.stateCause = s.rt.stateCause ∧ t.rt.lockoutLatch = s.rt.lockoutLatch) ∧
        ((∀ d ∈ faults, d.cls ≠ .nonRecoverable) → s.rt.state = .hold → s.dict.queued = [] → s.rt.encoding = none →
          s.rt.autoStart = false → s.clock.pendingStep = none → s.mirror.selectDue = none → s.passes.halted = false →
          t.le.inputs = t.inputWords ∧ t.le.inputsCoded = encodeInputs s.images.codeConstant t.inputWords)

/-- R50: the acknowledge and the Run request that are rejected. -/
def Obligations.RejectedRequestsLeaveTheState : Prop :=
  ∀ (dt : Nat) (x : Sensors) (q : QueuedWrite) (s : State),
    let u := s.elapse dt
    u.boundaryDue = true → s.rt.passesRunning = false → s.rt.popped = true → s.rt.resetAtBoundary = false → s.service.bistFrom = none →
    s.mirror.pairStop = none → s.service.pending = [] → s.rt.detected = [] → s.glint.carried = [] → s.analog.carried = [] →
    s.dict.queued = [q] → q.index = 0x2200 →
      ∃ t, exec (.cycleBoundary dt x) s = .next t ∧
        (q.sub = 5 → s.rt.state = .safeStop → t.rt.active = [] → t.rt.state = .hold ∧ t.rt.entryTime = t.rt.boundary) ∧
        ((q.sub = 5 ∧ s.rt.state = .safeStop ∧ t.rt.active ≠ []) ∨
            (q.sub = 2 ∧ q.value = 1 ∧ (s.rt.state = .safeStop ∨ s.rt.state = .lockout)) →
          t.rt.state = s.rt.state ∧ t.rt.stateCause = s.rt.stateCause ∧ t.rt.entryTime = s.rt.entryTime ∧
            t.rt.lockoutLatch = s.rt.lockoutLatch ∧ t.dict.response.map (fun a => a.error) = some 0x800E)

/-- State requests at their boundary (R38, R40, R41, R48, R53, R54, R487). -/
def Obligations.RequestsTakeEffectAtTheBoundary : Prop :=
  ∀ (dt : Nat) (x : Sensors) (q : QueuedWrite) (s : State),
    let u := s.elapse dt
    u.boundaryDue = true → s.rt.passesRunning = false → s.rt.popped = true → s.rt.resetAtBoundary = false → s.service.bistFrom = none →
    s.rt.encoding = none → s.mirror.pairStop = none → s.service.pending = [] → s.rt.detected = [] → s.glint.carried = [] →
    s.analog.carried = [] → s.dict.queued = [q] → q.index = 0x2200 → q.sub = 2 →
      ∃ t, exec (.cycleBoundary dt x) s = .next t ∧ t.dict.queued = [] ∧
        (q.value = 3 → s.rt.state = .run ∨ s.rt.state = .service → t.rt.state = .hold ∧ t.rt.entryTime = t.rt.boundary) ∧
        (q.value = 5 → s.rt.state = .lockout →
          t.rt.state = (if s.rt.ackArmed then .hold else .lockout) ∧ t.rt.lockoutLatch = (!s.rt.ackArmed && s.rt.lockoutLatch)) ∧
        (q.value = 2 → s.rt.state = .hold ∨ s.rt.state = .run → s.rt.autoStart = false → s.otp.lifecycle ≠ 1 → s.otp.lifecycle ≠ 6 →
          t.rt.state = s.rt.state ∧ t.rt.encoding = some .service ∧ t.rt.encodingDone = false) ∧
        (q.value = 2 → s.otp.lifecycle = 1 ∨ s.otp.lifecycle = 6 → t.rt.encoding = none) ∧
        (q.value = 1 → s.rt.state = .hold → t.rt.state = .hold ∧ (t.rt.encoding = none ∨ t.rt.encoding = some .run) ∧
          (s.rt.splitSinceReset = true ∨ s.otp.lifecycle = 1 ∨ s.otp.lifecycle = 6 ∨ s.rt.active ≠ [] ∧ t.rt.active ≠ [] ∨
            s.images.image = none ∨ s.zop.session ≠ 1 → t.rt.encoding = none))

/-- The hand-over (R34, R36, R42, R183, R189 to R192, R195, R198, R222). -/
def Obligations.HandOverEndsThePasses : Prop :=
  (∀ (dt : Nat) (r : PassResult) (s : State), s.rt.passesRunning = false → exec (.handOver dt r) s = .next (s.elapse dt)) ∧
  (∀ (dt : Nat) (r : PassResult) (s : State), s.service.resuming = false → ((s.elapse dt).now : Int) < s.rt.passTag + 1000 →
    exec (.handOver dt r) s = .next (s.elapse dt)) ∧
  (∀ (dt : Nat) (r : PassResult) (s : State), s.rt.passesRunning = true → s.rt.cycling = true →
    s.service.resuming = true ∨ s.rt.passTag + 1000 + (s.elapse dt).commitTicks ≤ ((s.elapse dt).now : Int) →
    s.passes.split = false → s.service.haltArmed = false ∨ r.reachesHalt = false →
    let u := s.elapse dt
    let v : State := if s.rt.libDone then u else u.evaluatePasses
    let run := thenPass (v.plainPass r true) (fun t => t.shadowPass r true)
    let w := run.1
    let stop := run.2
    let z := (w.alterOutputs r).alterCoded r
    let isFolded (off : Nat) : Bool := decide (0x10000 ≤ off) && decide (off < 0x14000 + s.stateBytes)
    let native := r.plainWrites.filter (fun c => isFolded c.1)
    let coded := r.shadowWrites.filter (fun c => isFolded c.1)
    let decoded := coded.map (fun c => (c.1, nativeOf ((readCoded s.images.codeConstant c.2.1 c.2.2).getD 0)))
    let ends := s.passes.windowActive ≤ s.passes.position + 1
    ∃ t, exec (.handOver dt r) s = .next t ∧
      (r.instrs = [] → stop = none →
        w.passes.sigPlain = foldEnd (foldWrites v.passes.sigPlain native) (v.passes.plainFolds + native.length) s.rt.passTag ∧
        w.passes.sigShadow = foldEnd (foldWrites v.passes.sigShadow decoded) (v.passes.shadowFolds + coded.length) s.rt.passTag) ∧
      (r.instrs = [] → stop ≠ some .violation → (stop = none ↔ v.passes.readTrap = none ∧ r.trapAt = none ∧
        ∀ c ∈ r.shadowWrites, (readCoded s.images.codeConstant c.2.1 c.2.2).isSome = true)) ∧
      (∀ off, stop = some (.trap off) → t.waits 0x0403 .nonRecoverable ∧ t.passes.codedTrap = true ∧ t.field.faultLine = true ∧
        t.field.images = [] ∧ t.rt.passesRunning = false ∧ t.passes.sigPlain = w.passes.sigPlain ∧ t.passes.plainFolds = 0 ∧
        t.passes.shadowFolds = 0 ∧ ∀ b, b < 4 → (t.bank b).closed = false) ∧
      (stop = some .violation → t.le.violation = true ∧ t.field.faultLine = true ∧ t.field.images = [] ∧ t.rt.passesRunning = false ∧
        t.passes.plainFolds = 0 ∧ t.passes.shadowFolds = 0) ∧
      (stop = none → ends → w.passes.sigPlain ≠ w.passes.sigShadow → t.waits 0x0402 .nonRecoverable ∧ t.passes.mismatch = true ∧
        t.passes.compareCount = sat32 (s.passes.compareCount + 1) ∧ t.passes.plainLast = w.passes.sigPlain ∧
        t.passes.shadowLast = w.passes.sigShadow ∧ t.field.images = [] ∧ t.rt.passesRunning = false ∧
        ∀ b, b < 4 → (t.bank b).closed = false) ∧
      (stop = none → (ends → w.passes.sigPlain = w.passes.sigShadow) →
        t.passes.position = (if ends then 0 else s.passes.position + 1) ∧
        t.passes.sigPlain = (if ends then 0xFFFFFFFF else w.passes.sigPlain) ∧
        t.passes.sigShadow = (if ends then 0xFFFFFFFF else w.passes.sigShadow) ∧ t.passes.plainFolds = 0 ∧ t.passes.shadowFolds = 0 ∧
        t.rt.passesRunning = false ∧
        (∀ c a, z.outputImages = .inl (c, a) → t.waits c .nonRecoverable ∧ t.field.images = [] ∧ t.field.faultLine = true) ∧
        (∀ p q, z.outputImages = .inr (p, q) → t.rt.leMark = true ∧ t.rt.stallCount = 0 ∧ t.rt.state = s.rt.state ∧
          (u.pastDeadline = false →
            { tag := s.rt.passTag, plain := p, shadow := q } ∈ t.field.images ∧ t.rt.overrunCount = s.rt.overrunCount) ∧
          (u.pastDeadline = true → t.field.images = s.field.images ∧ t.rt.overrunCount = sat32 (s.rt.overrunCount + 1)))) ∧
      t.clock = u.clock ∧ t.power = u.power ∧ t.counters = u.counters ∧ t.analog = u.analog ∧ t.boot = u.boot ∧ t.pending = u.pending ∧
      State.keeps [.rt, .otp, .passes, .le, .xch, .field, .glint, .images, .store, .dict, .zop, .mirror, .modbus, .service, .ledger,
        .freeCount] v t)

/-- The placement instant (R35, R272, R195, R295) and the output watchdog (R282, R283). -/
def Obligations.PlacementAndWatchdog : Prop :=
  (∀ (dt : Nat) (s : State), s.rt.cycling = false ∨ s.field.placementDue = false ∨ (s.elapse dt).now < s.rt.boundary + 10000 →
    exec (.outputPlacement dt) s = .next (s.elapse dt)) ∧
  (∀ (dt : Nat) (s : State), s.rt.cycling = true → s.field.placementDue = true → s.rt.boundary + 10000 ≤ (s.elapse dt).now →
    s.field.safeState = false → s.field.applyState = false → s.service.simActive = false →
    let u := s.elapse dt
    ∃ t, exec (.outputPlacement dt) s = .next t ∧ t.field.placementDue = false ∧ t.field.outputsLive = true ∧
      (∀ i, u.freshImage = some i → t.field.wdMissed = 0 ∧
        (s.rt.state = .run → ∀ n, n < 32 → n < s.field.channels.length → isOutputMode (s.ch n).mode = true →
          (t.ch n).command = if s.sensorSupply n then (s.ch n).command
            else (!s.mirrored n || (s.mirror.role == 1 && decide (s.mirror.placeFrom ≤ i.tag))) && u.imageCommand i n)) ∧
      (u.freshImage = none → t.field.wdMissed = min 255 (s.field.wdMissed + 1) ∧ ∀ n, (t.ch n).command = (s.ch n).command) ∧
      State.keeps [.field, .mirror, .ledger] u t) ∧
  (∀ (s : State) (i : OutImages) (n : Nat), s.imageCommand i n =
    let p := i.plain.getLsbD (s.leader n)
    let q := i.shadow.getLsbD (s.leader n)
    if (s.ch n).mode = 3 ∨ s.chSource (s.leader n) = 1 then p else if s.chSource (s.leader n) = 2 then q else p && q) ∧
  (∀ (dt : Nat) (s : State),
    let u := s.elapse dt
    (s.field.wdArmed = true → s.field.safeState = false → s.outputWdCycles ≤ s.field.wdMissed →
      ∃ t, exec (.outputWatchdogExpiry dt) s = .next t ∧ t.field.safeState = true ∧ t.safetyOutputsOff ∧ t.field.images = [] ∧
        t.mirror.token = false ∧ 0x0703 ∈ t.rt.active ∧ (0x0703 ∉ s.rt.active → t.waits 0x0703 .recoverable) ∧
        t.field.wdExpiries = sat32 (s.field.wdExpiries + 1) ∧
        t.service = { u.service with haltExpiry := s.service.haltExpiry || s.passes.halted } ∧
        State.keeps [.rt, .field, .glint, .mirror, .service, .ledger] u t) ∧
    (s.field.wdArmed = false ∨ s.field.safeState = true ∨ s.field.wdMissed < s.outputWdCycles →
      exec (.outputWatchdogExpiry dt) s = .next u))

/-- The mark and the stall of the LE (R42, R116), the encoding's end (R209) and coded words with their operations (R186 to R189). -/
def Obligations.MarkStallAndEncoding : Prop :=
  (∀ (dt : Nat) (s : State),
    let u := s.elapse dt
    exec (.leAliveWrite dt) s = .next (if s.rt.cycling then { u with rt := { u.rt with leMark := true, stallCount := 0 } } else u)) ∧
  (∀ (dt : Nat) (s : State),
    let u := s.elapse dt
    (s.rt.cycling = true → 256 ≤ s.rt.stallCount → s.power.logicOn = true → s.boot.step ≠ .resetHeld →
      ∃ t, exec (.leStall dt) s = .next t ∧ State.heldInReset 4 u t ∧
        t.boot.retained.cause = some (s.boot.retained.cause.getD 0x0D01)) ∧
    (s.rt.cycling = false ∨ s.rt.stallCount < 256 → exec (.leStall dt) s = .next u)) ∧
  (∀ (dt : Nat) (differs : Option Nat) (s : State),
    let u := s.elapse dt
    (s.rt.encoding = none ∨ s.rt.encodingDone = true → exec (.runEncodingComplete dt differs) s = .next u) ∧
    (s.rt.encoding ≠ none → s.rt.encodingDone = false →
      exec (.runEncodingComplete dt none) s = .next { u with rt := { u.rt with encodingDone := true } } ∧
      (s.rt.cycling = true → ∀ off, ∃ t, exec (.runEncodingComplete dt (some off)) s = .next t ∧ t.rt.encoding = none ∧
        t.passes.codedTrap = true ∧ t.waits 0x0403 .nonRecoverable ∧ t.field.faultLine = true ∧
        State.keeps [.rt, .passes, .field, .glint, .mirror, .ledger] u t))) ∧
  (∀ (a : Nat) (x : Int), codeConstantValid a = true → -(2 ^ 31) ≤ x → x < 2 ^ 32 →
    codedQuotient a (codeWord a x) = some x ∧ ∀ k, k < 64 → codedQuotient a (codeWord a x ^^^ BitVec.twoPow 64 k) = none) ∧
  (∀ (a : Nat) (ty : WordType) (w : BitVec 32), codeConstantValid a = true → (ty = .bool → w.toNat ≤ 1) →
    readCoded a ty (encodeWord a ty w) = some (wordValue ty w)) ∧
  ∀ (a : Nat) (op : LogicOp) (ty : WordType) (const x y z : BitVec 32), codeConstantValid a = true →
    let tx := (operandTypes op ty).1.getD ty
    let ty2 := (operandTypes op ty).2.1.getD ty
    (tx = .bool → x.toNat ≤ 1) → (ty2 = .bool → y.toNat ≤ 1) →
      codedOp a op ty const (encodeWord a tx x) (encodeWord a ty2 y) (encodeWord a ty z) =
        encodeWord a (resultType op ty) (nativeOp op ty const x y z)

/-- Faults of the field side (R270, R271, R276, R278, R281) and their clearing (R288). -/
def Obligations.FieldFaultsAreDetectedAndCleared : Prop :=
  (∀ (dt b : Nat) (railHigh : BitVec 4) (s : State), s.rt.state = .run → b < 4 → b < s.field.banks.length →
    s.rt.runSince + 10000 ≤ (s.elapse dt).now → s.safetyBank b = true → (s.bank b).closed = true → (s.bank b).closeFailed = false →
    railHigh.getLsbD b = false →
    ∃ t, exec (.bankSwitchCloseCheck dt railHigh) s = .next t ∧ (∃ d ∈ t.rt.detected, d.cause = 0x0706) ∧
      (t.bank b).closeFailed = true ∧ (∀ n, n < 32 → n / 8 = b → (t.ch n).driven = false) ∧
      State.keeps [.rt, .field, .ledger] (s.elapse dt) t) ∧
  (∀ (dt : Nat) (railHigh : BitVec 4) (s : State), s.rt.state ≠ .run ∨ (s.elapse dt).now < s.rt.runSince + 10000 ∨ railHigh = 0xF →
    exec (.bankSwitchCloseCheck dt railHigh) s = .next (s.elapse dt)) ∧
  (∀ (dt b t0 : Nat) (railLow : Bool) (s : State), (s.bank b).openedAt = some t0 →
    let u := s.elapse dt
    (s.rt.cycling = true → (s.bank b).closed = false → t0 + 500000 ≤ u.localNow → railLow = false ∨ (s.bank b).openHighRun = 2 →
      ∃ t, exec (.bankSwitchOpenCheck dt b railLow) s = .next t ∧ (∃ d ∈ t.rt.detected, d.cause = 0x0707) ∧
        State.keeps [.rt] u t) ∧
    ((s.bank b).closed = true ∨ u.localNow < t0 + 500000 ∨ (railLow = true ∧ (s.bank b).openHighRun ≠ 2) → exec (.bankSwitchOpenCheck dt b railLow) s = .next u)) ∧
  (∀ (dt : Nat) (s : State), s.rt.cycling = true →
    let u := s.elapse dt
    (s.field.fs1.low = true → ∃ t, exec (.fieldSupplyOutOfRange dt 1) s = .next t ∧ 0x0701 ∈ t.rt.active ∧
      (0x0701 ∉ s.rt.active → t.waits 0x0701 .recoverable) ∧ State.keeps [.rt] u t) ∧
    (s.field.fs1.low = false → exec (.fieldSupplyOutOfRange dt 1) s = .next u) ∧
    (s.field.fs2.low = true → ∃ t, exec (.fieldSupplyOutOfRange dt 2) s = .next t ∧ 0x0702 ∈ t.rt.active ∧
      (0x0702 ∉ s.rt.active → t.waits 0x0702 .recoverable) ∧ State.keeps [.rt] u t) ∧
    (s.field.fs2.low = false → exec (.fieldSupplyOutOfRange dt 2) s = .next u)) ∧
  (∀ (mv now : Nat) (f : FieldSupply), f.outRun ≤ 2 →
    ((mv < 18000 ∨ 31000 < mv) → (f.compare true mv now).outRun = min 2 (f.outRun + 1) ∧ (f.compare true mv now).windowSince = none ∧
      (f.compare true mv now).low = (f.low || decide (1 ≤ f.outRun))) ∧
    (19200 ≤ mv → mv ≤ 30000 → (f.compare true mv now) = { low := false, outRun := 0, windowSince := some (f.windowSince.getD now) }) ∧
    (18000 ≤ mv → mv < 19200 → (f.compare true mv now) = { low := f.low, outRun := 0, windowSince := none }) ∧
    (30000 < mv → mv ≤ 31000 → (f.compare true mv now) = { low := f.low, outRun := 0, windowSince := none })) ∧
  (∀ (a b : Nat) (s : State),
    let t := s.compareSupplies a b
    (s.field.fs1.low = false → t.field.fs1.low = true → ∀ n, n < 16 → (s.ch n).mode = 1 → (t.ch n).filtered = false ∧ (t.ch n).run = none) ∧
    (a ≤ 5000 → ∀ n, n < 16 → (t.ch n).driven = false) ∧ (b ≤ 5000 → ∀ n, 16 ≤ n → n < 32 → (t.ch n).driven = false)) ∧
  (∀ (tk mv n : Nat) (s : State), n < 32 → n < s.field.channels.length →
    let t := s.freezeChannel tk mv n
    ((if n < 16 then s.power.fs1Mv else s.power.fs2Mv) ≤ 5000 → (t.ch n).frozen = false) ∧
    (isOutputMode (s.ch n).mode = true → (12000 ≤ mv → (t.ch n).raw = true) ∧ (mv ≤ 10000 → (t.ch n).raw = false) ∧
      (10000 < mv → mv < 12000 → (t.ch n).raw = (s.ch n).raw))) ∧
  (∀ (dt n : Nat) (s : State), s.rt.cycling = true → n < s.field.channels.length → (s.ch n).readbackFault = false →
    let u := s.elapse dt
    (2 ≤ (s.ch n).mismatchRun → ∃ t, exec (.readbackFault dt n) s = .next t ∧ (t.ch n).readbackFault = true ∧
      (isSafetyMode (s.ch n).mode = true → 0x0705 ∈ t.rt.active) ∧
      (isSafetyMode (s.ch n).mode = false → State.logs 0x070A [] u t) ∧ State.keeps [.rt, .field, .store, .mirror, .ledger] u t) ∧
    ((s.ch n).mismatchRun < 2 → exec (.readbackFault dt n) s = .next u)) ∧
  (∀ (dt n : Nat) (c : BitVec 4) (s : State), n < 32 → n < s.field.channels.length →
    let u := s.elapse dt
    (∃ t, exec (.bankFaultCondition dt n c) s = .next t ∧ (t.ch n).conditions = c ∧
      (t.ch n).thermalOff = ((s.ch n).thermalOff || ((s.ch n).on && c.getLsbD 1)) ∧
      ((t.ch n).thermalOff = true → (t.ch n).driven = false) ∧ State.keeps [.field, .ledger] u t) ∧
    (∃ t, exec (.driverThermalRestart dt n) s = .next t ∧ (t.ch n).thermalOff = false ∧ (t.ch n).conditions.getLsbD 1 = false ∧
      (t.ch n).driven = t.driverLevel n ∧ State.keeps [.field, .ledger] u t)) ∧
  (∀ (dt cause : Nat) (s : State), cause ≠ 0x0705 → cause ≠ 0x070A → cause ≠ 0x0804 →
    let u := s.elapse dt
    exec (.faultCauseClear dt cause) s = .next (if u.clears cause
      then { u with rt := { u.rt with active := s.rt.active.filter (fun c => c != cause) } } else u)) ∧
  (∀ (dt : Nat) (s : State),
    let u := s.elapse dt
    let agreed : Prop := ∀ q ∈ s.analog.pairs, q.disagreeFault = true → ∃ since, q.agreeSince = some since ∧ since + 10000000 ≤ u.now
    ∃ t, exec (.faultCauseClear dt 0x0804) s = .next t ∧ State.keeps [.rt, .analog] u t ∧
      (agreed → t.rt = { u.rt with active := s.rt.active.filter (fun c => c != 0x0804) } ∧
        ∀ q ∈ t.analog.pairs, q.disagreeFault = false) ∧
      (¬agreed → t.rt = u.rt)) ∧
  (∀ (dt : Nat) (s : State),
    let u := s.elapse dt
    ∃ t, exec (.faultCauseClear dt 0x0705) s = .next t ∧ State.keeps [.rt, .field] u t ∧
      t.field.channels.length = s.field.channels.length ∧
      ((∀ n, n < s.field.channels.length → isSafetyMode (s.ch n).mode = true → (s.ch n).readbackFault = true → 16 ≤ (s.ch n).matchRun) →
        0x0705 ∉ t.rt.active))

/-! ### The object dictionary and its frames (ch. 15, 17) -/

/-- Accepted writes wait for the boundary (R443, R48), also those of the rows that name one object's write (log entry 46); rejected ones are answered (R448, R450); before release nothing answers (R449). -/
def Obligations.WritesWaitForTheBoundary : Prop :=
  ∀ (dt value index sub seq id : Nat) (bytes : List Byte) (r : Req) (i : Option LogicInstr) (s : State),
    let u := s.elapse dt
    let waits (c : Instr) (a : Machine.Access) (i : Option LogicInstr) : Prop :=
      let code := if a.confirmed && u.confirmedAlready r a.index a.sub then 0x800D else u.judgeWrite a
      (s.released = false → exec c s = .next u) ∧
      (s.released = true → code = 0 → exec c s = .next { u with dict := { u.dict with
        response := none
        queued := s.dict.queued ++
          [{ requester := r.node, channel := r.chan, confirmed := a.confirmed, index := a.index, sub := a.sub, type := a.type
             value := a.value, len := a.len, instr := i }] } }) ∧
      (s.released = true → code ≠ 0 → ∃ t, exec c s = .next t ∧
        t.dict.response.map (fun x => (x.requester, x.index, x.sub, x.error)) = some (r.node, a.index, a.sub, code) ∧
        t.dict.lastError = accessError code a.index a.sub r.node 0 ∧
        t.dict.values = s.dict.values ∧ t.dict.queued = s.dict.queued ∧ t.dict.slots = s.dict.slots ∧ t.dict.token = s.dict.token ∧
        State.keeps [.dict, .store, .otp, .images, .ledger] u t)
    let takes (c : Instr) (a : Machine.Access) : Prop := waits c a none
    takes (.stateRequestRun dt r) (rowAccess r 0x2200 2 1) ∧
    takes (.stateRequestService dt r) (rowAccess r 0x2200 2 2) ∧
    takes (.stateRequestHold dt r) (rowAccess r 0x2200 2 3) ∧
    takes (.stateRequestLockoutAck dt r) (rowAccess r 0x2200 2 5) ∧
    takes (.safestopAck dt r value) (rowAccess r 0x2200 5 value) ∧
    takes (.resetRequest dt r value) (rowAccess r 0x2200 0x12 value) ∧
    takes (.eventReadSeq dt r value) (rowAccess r 0x5E00 0xA value) ∧
    takes (.timeEpochUtc dt r value) (rowAccess r 0x1800 0xC value) ∧
    takes (.dictRestore dt r value) (rowAccess r 0x1010 7 value) ∧
    takes (.exchangeRequest dt r value) (rowAccess r 0x5000 9 value) ∧ takes (.exchangeCancel dt r) (rowAccess r 0x5000 9 cancelTick) ∧
    takes (.anSyncRequest dt r value) (rowAccess r 0x3300 2 value) ∧
    takes (.otpSelect dt r value) (rowAccess r 0x2300 5 value) ∧ takes (.otpData dt r value) (rowAccess r 0x2300 7 value) ∧
    takes (.burn dt r) (rowAccess r 0x2300 8 1) ∧ takes (.finalise dt r) (rowAccess r 0x2300 8 2) ∧
    takes (.advance dt r) (rowAccess r 0x2300 8 3) ∧ takes (.trialApply dt r) (rowAccess r 0x2300 8 4) ∧
    takes (.trialClear dt r) (rowAccess r 0x2300 8 5) ∧ takes (.debugDisable dt r) (rowAccess r 0x2300 8 6) ∧
    takes (.imageErase dt r) (rowAccess r 0x5000 5 1) ∧ takes (.imageLoadAbandon dt r) (rowAccess r 0x5000 5 2) ∧
    takes (.imageData dt r bytes) { rowAccess r 0x5000 7 (ofLe bytes) with len := bytes.length } ∧
    takes (.imageBankSelect dt r value) (rowAccess r 0x5000 2 value) ∧
    takes (.instAck dt r id value) (rowAccess r (0x4000 + id) 5 value) ∧
    takes (.dirRequest dt r id value) (rowAccess r (0x4000 + id) 0xA value) ∧
    takes (.mirrorReplace dt r value) (rowAccess r 0x5800 0xE value) ∧
    takes (.splitDebug dt r) (rowAccess r 0x5C00 2 1) ∧ takes (.jointHalt dt r) (rowAccess r 0x5C00 2 2) ∧
    takes (.resume dt r) (rowAccess r 0x5C00 2 3) ∧ waits (.step dt { r := r, instr := i }) (rowAccess r 0x5C00 2 4) i ∧
    takes (.simEnable dt r value) (rowAccess r 0x5C00 4 value) ∧ takes (.simOutputs dt r value) (rowAccess r 0x5C00 5 value) ∧
    takes (.serviceBistRequest dt r value) (rowAccess r 0x5C00 6 value) ∧
    takes (.registerWrite dt r index sub value) (rowAccess r (index % 2 ^ 16) (sub % 2 ^ 8) value) ∧
    (r.chan ≠ .plain → ∀ type, takes (.write dt r seq index sub type bytes)
      { r := r, index := index % 2 ^ 16, sub := sub % 2 ^ 8, type := type, value := ofLe bytes, len := bytes.length, confirmed := false })

/-- The REQ_SEQ rule (R481). -/
def Obligations.RequestSequenceDecides : Prop :=
  ∀ (dt index sub type seq : Nat) (bytes : List Byte) (node : Nat) (s : State), s.released = true →
    let u := s.elapse dt
    let r : Req := { node := node, chan := .plain }
    let a : Machine.Access :=
      { r := r, index := index % 2 ^ 16, sub := sub % 2 ^ 8, type := type, value := ofLe bytes, len := bytes.length, confirmed := false }
    let c : Instr := .write dt r seq index sub type bytes
    let n := seq % 65536
    ((s.lastReqSeq node = none ∨ n = 0 ∨ ∃ l, s.lastReqSeq node = some l ∧ 1 ≤ (n + 65536 - l) % 65536 ∧ (n + 65536 - l) % 65536 ≤ 32767) →
      u.judgeWrite a = 0 → exec c s = .next { u with dict := { u.dict with
        response := none
        queued := s.dict.queued ++
          [{ requester := node, channel := .plain, confirmed := false, index := a.index, sub := a.sub, type := type
             value := a.value, len := a.len, reqSeq := some n }] } }) ∧
    (∀ l, s.lastReqSeq node = some l → n ≠ 0 → (n + 65536 - l) % 65536 = 0 →
      ∃ t, exec c s = .next t ∧ t = { u with dict := { u.dict with response := t.dict.response } } ∧
        t.dict.response.map (fun x => (x.requester, x.index, x.sub, x.error)) = some (node, a.index, a.sub, 0)) ∧
    (∀ l, s.lastReqSeq node = some l → n ≠ 0 → 32767 < (n + 65536 - l) % 65536 →
      ∃ t, exec c s = .next t ∧ t.dict.response.map (fun x => x.error) = some 0x800D ∧ State.logs 0x0A05 [] u t ∧
        t.dict.values = s.dict.values ∧ t.dict.queued = s.dict.queued ∧ t.dict.reqSeq = s.dict.reqSeq ∧
        State.keeps [.dict, .store, .ledger] u t)

/-- The confirmed write (R444, R446, R453). -/
def Obligations.ConfirmedWriteTakesTwoSteps : Prop :=
  (∀ (dt index sub type value : Nat) (r : Req) (s : State), s.released = true →
    let u := s.elapse dt
    let a : Machine.Access :=
      { r := r, index := index % 2 ^ 16, sub := sub % 2 ^ 8, type := type, value := value % 2 ^ 64, len := typeSize type, confirmed := true }
    let token := if s.dict.token = 0xFFFFFFFF then 1 else s.dict.token + 1
    let p : PendingSlot :=
      { requester := r.node, token := token, index := a.index, sub := a.sub, type := type, value := a.value, at_ := u.localNow
        channel := r.chan }
    u.judgeWrite a = 0 → u.ownerRefusal a = (0, 0) →
      ∃ t, exec (.prepare dt r index sub type value) s = .next t ∧ t.dict.token = token ∧
        t.dict.slots = s.dict.slots.filter (fun x => x.requester != r.node) ++ [p] ∧
        t.dict.response.map (fun x => (x.error, x.value, x.token, x.code)) =
          some (0, a.value, token, crc32c (confirmBlock s.boot.serial token a.index a.sub type r.node a.value)) ∧
        t.dict.values = s.dict.values ∧ t.dict.queued = s.dict.queued ∧ State.keeps [.dict] u t) ∧
  (∀ (dt token code : Nat) (r : Req) (p : PendingSlot) (s : State), s.released = true → r.chan = .zops ∨ r.chan = .service →
    (∀ x ∈ s.dict.superseded, x.requester ≠ r.node) → s.dict.slots.find? (fun x => x.requester == r.node) = some p →
    let u := s.elapse dt
    let a : Machine.Access :=
      { r := r, index := p.index, sub := p.sub, type := p.type, value := p.value, len := typeSize p.type, confirmed := true }
    p.token = token % 2 ^ 32 → u.localNow < p.at_ + 500000000 → code % 2 ^ 32 = s.confirmCode p →
    s.confirmedAlready r p.index p.sub = false → u.judgeWrite a = 0 → u.ownerRefusal a = (0, 0) →
      exec (.confirm dt r token code) s = .next { u with dict := { u.dict with
        response := none
        slots := s.dict.slots.filter (fun x => x.requester != r.node)
        queued := s.dict.queued ++
          [{ requester := r.node, channel := r.chan, confirmed := true, index := p.index, sub := p.sub, type := p.type
             value := p.value, len := typeSize p.type, token := p.token, code := code % 2 ^ 32 }] } }) ∧
  (∀ (dt node : Nat) (s : State),
    let u := s.elapse dt
    exec (.confirmWindowExpiry dt node) s = .next { u with dict := { u.dict with
      slots := s.dict.slots.filter (fun x => !(x.requester == node && decide (x.at_ + 500000000 ≤ u.localNow))) } })

/-- R447: the two rejections of a CONFIRM. -/
def Obligations.RejectedConfirmsAndTheSlot : Prop :=
  ∀ (dt token code : Nat) (r : Req) (s : State), s.released = true → r.chan = .zops ∨ r.chan = .service →
    (∀ x ∈ s.dict.superseded, x.requester ≠ r.node) →
    let u := s.elapse dt
    (s.dict.slots.find? (fun x => x.requester == r.node) = none ∨
        (∃ p, s.dict.slots.find? (fun x => x.requester == r.node) = some p ∧
          (p.token ≠ token % 2 ^ 32 ∨ p.at_ + 500000000 ≤ u.localNow)) →
      ∃ t, exec (.confirm dt r token code) s = .next t ∧ t.dict.response.map (fun x => x.error) = some 0x800C ∧
        t.dict.slots = s.dict.slots ∧ t.dict.confirmFails = sat32 (s.dict.confirmFails + 1) ∧ t.dict.queued = s.dict.queued ∧
        t.dict.values = s.dict.values ∧ State.keeps [.dict, .freeCount, .store, .otp, .images, .ledger] u t) ∧
    (∀ p, s.dict.slots.find? (fun x => x.requester == r.node) = some p → p.token = token % 2 ^ 32 →
      u.localNow < p.at_ + 500000000 → code % 2 ^ 32 ≠ s.confirmCode p →
      ∃ t, exec (.confirm dt r token code) s = .next t ∧ t.dict.response.map (fun x => x.error) = some 0x800B ∧
        t.dict.slots = s.dict.slots.filter (fun x => x.requester != r.node) ∧
        t.dict.confirmFails = sat32 (s.dict.confirmFails + 1) ∧ t.dict.queued = s.dict.queued ∧ t.dict.values = s.dict.values ∧
        State.keeps [.dict, .store, .otp, .images, .ledger] u t)

/-- Reads (R435, R448, R449). -/
def Obligations.ReadsAreAnsweredAtOnce : Prop :=
  ∀ (dt index sub : Nat) (r : Req) (s : State),
    let u := s.elapse dt
    let i := index % 2 ^ 16
    let j := sub % 2 ^ 8
    (s.released = false → exec (.read dt r index sub) s = .next u) ∧
    (s.released = true → ∃ t, exec (.read dt r index sub) s = .next t ∧
      t = { u with dict := { u.dict with response := t.dict.response, lastError := t.dict.lastError } } ∧ t.dict.response.isSome = true ∧
      (u.judgeRead i j ≠ 0 → t.dict.response.map (fun x => x.error) = some (u.judgeRead i j) ∧
        t.dict.lastError = accessError (u.judgeRead i j) i j r.node 0) ∧
      (∀ o b, u.judgeRead i j = 0 → findObj i j = some o → r.chan ≠ .modbus →
        State.objectBytes { u with dict := { u.dict with response := none } } r i j o = .inr b →
        t.dict.response.map (fun x => (x.error, x.type, x.value, x.size)) = some (0, o.type.code, ofLe b, b.length) ∧
        t.dict.lastError = s.dict.lastError)) ∧
    (u.indexExists i = false → u.judgeRead i j = 0x8001) ∧
    (u.indexExists i = true → findObj i j = none → u.judgeRead i j = 0x8002) ∧
    (∀ o, u.indexExists i = true → findObj i j = some o → o.access = .wo ∨ o.access = .woc → u.judgeRead i j = 0x8003)

/-- Segmented requests (R482, R483). -/
def Obligations.SegmentsAreReassembled : Prop :=
  (∀ (dt : Nat) (ch : CanChannel) (node seq offset : Nat) (data : List Byte) (last : Bool) (s : State), s.rt.cycling = true →
    (s.zop.can ch).up = true →
    let u := s.elapse dt
    let c : Instr := .segment dt ch node seq offset data last
    (u.transfer ch node = none → exec c s = .next u) ∧
    (∀ x, u.transfer ch node = some x →
      (u.continues x (seq % 2 ^ 16) (offset % 2 ^ 16) data = true → last = false →
        exec c s = .next { u with zop := { u.zop with
          transfers := s.zop.transfers.filter (fun y => !(y.requester == node && y.channel == ch)) ++
            [{ x with data := x.data ++ data, at_ := u.localNow }] } }) ∧
      (u.continues x (seq % 2 ^ 16) (offset % 2 ^ 16) data = true → last = true → x.data.length + data.length = x.length →
        let all := x.data ++ data
        let h : DictHead :=
          { node := node, channel := channelCode ch, service := x.service, reqSeq := x.reqSeq, index := x.index, sub := x.sub, type := x.type }
        let left := s.zop.transfers.filter (fun y => !(y.requester == node && y.channel == ch))
        let full : Prop := s.zop.held ≠ [] ∨ 3 ≤ s.zop.dictPosted
        let free : Prop := s.xch.ceTasks = [] ∧ s.xch.portBusy .ce = false ∧ u.startingUp 48 = false ∧ u.freeBuffer .ce ≠ none ∧
          s.xch.buffers.length = 128
        (full → exec c s = .next { u with zop := { u.zop with transfers := left, held := s.zop.held ++ dictParts h all } }) ∧
        (¬ full → all.length ≤ 492 → ∃ t, exec c s = .next t ∧
          t.zop = { s.zop with transfers := left, dictPosted := s.zop.dictPosted + 1 } ∧
          (free → State.claimedFor .ce { target := .le, kind := 3, payload := dictPart h all 0 } t) ∧
          State.keeps [.zop, .xch, .le, .store, .ledger] u t)) ∧
      (u.continues x (seq % 2 ^ 16) (offset % 2 ^ 16) data = false ∨ (last = true ∧ x.data.length + data.length < x.length) →
        ∃ t, exec c s = .next t ∧ t.zop.held = s.zop.held ∧ t.xch = u.xch ∧
          t.zop.transfers = s.zop.transfers.filter (fun y => !(y.requester == node && y.channel == ch)) ∧
          t.dict.response.map (fun a => (a.requester, a.error)) = some (node, 0x8005) ∧
          State.keeps [.zop, .dict] u t))) ∧
  (∀ (dt : Nat) (ch : CanChannel) (node : Nat) (s : State),
    let u := s.elapse dt
    (∀ x, u.transfer ch node = some x → u.localNow < x.at_ + 10000000 → exec (.segmentTimeout dt ch node) s = .next u) ∧
    (∀ x, u.transfer ch node = some x → x.at_ + 10000000 ≤ u.localNow →
      ∃ t, exec (.segmentTimeout dt ch node) s = .next t ∧
        t.zop.transfers = s.zop.transfers.filter (fun y => !(y.requester == node && y.channel == ch)) ∧
        t.dict.response.map (fun a => a.error) = some 0x8005 ∧
        State.keeps [.zop, .dict] u t) ∧
    (u.transfer ch node = none → exec (.segmentTimeout dt ch node) s = .next u))

/-! ### Field inputs, counting inputs, glint pulses and analog pairs (ch. 9 to 11) -/

/-- Input thresholds (R266, R277) and filters (R267 to R270), frozen as they stood at a boundary (R47). -/
def Obligations.InputFiltersHoldTheLevel : Prop :=
  (∀ (mv : Nat) (old : Bool),
    (comparatorLevel 1 1 mv old = if 15000 ≤ mv then true else if mv ≤ 5000 then false else old) ∧
    (∀ type, type = 2 ∨ type = 3 → comparatorLevel 1 type mv old = if 11000 ≤ mv then true else if mv ≤ 5000 then false else old) ∧
    (∀ mode type, isOutputMode mode = true →
      comparatorLevel mode type mv old = if 12000 ≤ mv then true else if mv ≤ 10000 then false else old)) ∧
  (∀ (tk : Nat) (c : Channel), c.held = none →
    (c.hold tk).held = some (match c.run with
      | some r => if r.due ≤ tk ∧ c.blanked = none then (c.raw, r.stamp) else (c.filtered, c.edgeLive)
      | none => (c.filtered, c.edgeLive)) ∧
    (c.hold tk).frozen = c.frozen ∧ (c.hold tk).raw = c.raw) ∧
  (∀ (dt n mv : Nat) (s : State), n < s.field.channels.length →
    let u := s.elapse dt
    let c : Channel := if u.boundaryDue then (s.ch n).hold u.dueLocal else s.ch n
    let level := comparatorLevel c.mode (s.chInputType n) mv c.raw
    let d := c.settle u.localNow
    ∃ t, exec (.inputComparatorChange dt n mv) s = .next t ∧
      t.ch n = (if level = c.raw then { c with pinMv := mv }
        else if c.on && c.mode == 1 && !s.supplyLow n && c.blanked.isNone
        then { d with
          pinMv := mv
          raw := level
          run := if level = d.filtered then none else some { stamp := u.now, due := u.localNow + 10000 * 2 ^ s.chFilter n } }
        else { c with pinMv := mv, raw := level }) ∧
      (∀ m, m ≠ n → t.ch m = s.ch m) ∧ t.field = { u.field with channels := t.field.channels } ∧ State.keeps [.field] u t) ∧
  (∀ (dt n : Nat) (s : State), n < s.field.channels.length →
    let u := s.elapse dt
    let held := if u.boundaryDue then ((s.ch n).hold u.dueLocal).held else (s.ch n).held
    ∃ t, exec (.filterElapsed dt n) s = .next t ∧
      (∀ r, (s.ch n).run = some r → r.due ≤ u.localNow → (s.ch n).blanked = none →
        t.ch n = { s.ch n with
          filtered := (s.ch n).raw, run := none, edgeLive := r.stamp, edgeCount := min ((s.ch n).edgeCount + 1) 0xFFFFFFFF
          held := held }) ∧
      (((s.ch n).run = none ∨ (s.ch n).blanked ≠ none ∨ ∃ r, (s.ch n).run = some r ∧ u.localNow < r.due) →
        t.ch n = { s.ch n with held := held }) ∧
      (∀ m, m ≠ n → t.ch m = s.ch m) ∧ t.field = { u.field with channels := t.field.channels } ∧ State.keeps [.field] u t) ∧
  (∀ (dt n : Nat) (s : State), n < s.field.channels.length →
    let u := s.elapse dt
    ∃ t, exec (.initClear dt n) s = .next t ∧
      t.ch n = { s.ch n with init := (s.ch n).init && decide (u.localNow < (s.ch n).initDue) } ∧ (∀ m, m ≠ n → t.ch m = s.ch m) ∧
      State.keeps [.field] u t)

/-- Counting inputs (R307 to R309), frozen as they stood at a boundary (R47). -/
def Obligations.CountingInputsCount : Prop :=
  (∀ (dt n mv : Nat) (s : State), n < 4 → n < s.counters.length → 28 + n < s.field.channels.length →
    let u := s.elapse dt
    let k := s.ch (28 + n)
    let level := comparatorLevel k.mode (s.chInputType (28 + n)) mv k.raw
    let c : Counter := if u.boundaryLate then (s.counter n).hold else s.counter n
    ∃ t, exec (.countingInputChange dt n mv) s = .next t ∧ t.ch (28 + n) = { k with pinMv := mv, raw := level } ∧
      (∀ m, m ≠ 28 + n → t.ch m = s.ch m) ∧ (∀ m, m ≠ n → t.counter m = s.counter m) ∧
      State.keeps [.field, .counters, .freeCount, .ledger, .store] u t ∧
      (level = k.raw ∨ k.on = false ∨ k.mode ≠ 5 ∨ s.supplyLow (28 + n) = true →
        t.counter n = s.counter n ∧ State.keeps [.field] u t) ∧
      (level ≠ k.raw → k.on = true → k.mode = 5 → s.supplyLow (28 + n) = false →
        (∀ x, c.lastChange = some x → u.now < x + 200 → t.counter n = { c with lastChange := some u.now, overrun := true }) ∧
        ((∀ x, c.lastChange = some x → x + 200 ≤ u.now) →
          (c.skip = true → t.counter n = { c with lastChange := some u.now, skip := false }) ∧
          (c.skip = false → edgeMatches (s.cntEdge n) level = false → t.counter n = { c with lastChange := some u.now }) ∧
          (c.skip = false → edgeMatches (s.cntEdge n) level = true →
            (t.counter n).value = (c.value + 1) % 2 ^ 32 ∧ (t.counter n).last = u.now ∧ (t.counter n).lastLocal = u.localNow ∧
            (t.counter n).lastChange = some u.now ∧ (t.counter n).overrun = c.overrun ∧ (t.counter n).held = c.held ∧
            (c.seen = 0 → (t.counter n).period = 0 ∧ (t.counter n).stopped = true) ∧
            (c.seen ≠ 0 → u.now - c.last ≤ 1000000000 →
              (t.counter n).period = (u.now - c.last).toNat ∧ (t.counter n).stopped = false ∧ t.freeCount = s.freeCount))))) ∧
  (∀ (dt n : Nat) (s : State), n < s.counters.length →
    let u := s.elapse dt
    let c : Counter := if u.boundaryLate then (s.counter n).hold else s.counter n
    ∃ t, exec (.cntTimeout dt n) s = .next t ∧ (∀ m, m ≠ n → t.counter m = s.counter m) ∧ State.keeps [.counters] u t ∧
      (c.seen ≠ 0 → c.lastLocal + 100 * s.cntTimeout n ≤ u.localNow → t.counter n = { c with period := 0, stopped := true }) ∧
      (c.seen = 0 ∨ u.localNow < c.lastLocal + 100 * s.cntTimeout n → t.counter n = c)) ∧
  (∀ c : Counter, c.held = none → c.hold = { c with held := some (c.value, c.last, c.period, c.stopped) })

/-- The glint slot (R295, R297 to R300, R302). -/
def Obligations.GlintSlotRuns : Prop :=
  (∀ (dt : Nat) (raw readback : BitVec 32) (s : State),
    let u := s.elapse dt
    (∀ c, u.slotCode = some c → u.glintActive = true → u.pulseSources c ≠ 0 → s.rt.boundary + 15000 - 1000 ≤ u.now →
      (∀ h, s.glint.slot = some h → h.start ≠ s.rt.boundary + 15000) →
      ∃ g, exec (.glintPreSample dt raw readback) s = .next { u with glint := { u.glint with slot := some g } } ∧
        g.code = c ∧ g.start = s.rt.boundary + 15000 ∧ g.stop = g.start + 100 * s.glintWidth c ∧
        g.blankEnd = g.stop + 100 * s.glintRecovery ∧ g.pre = some raw ∧ g.preSrc = readback ∧ g.pulsing = u.pulseSources c ∧
        g.started = false ∧ g.tested = false ∧ g.ended = false ∧ g.finished = false ∧ g.broken = false) ∧
    (u.slotCode = none ∨ u.glintActive = false ∨ u.now < s.rt.boundary + 14000 ∨
        (∃ h, s.glint.slot = some h ∧ h.start = s.rt.boundary + 15000) ∨ (∀ c, u.slotCode = some c → u.pulseSources c = 0) →
      exec (.glintPreSample dt raw readback) s = .next u)) ∧
  (∀ (dt : Nat) (g : GlintSlot) (s : State), s.glint.slot = some g →
    let u := s.elapse dt
    (g.started = false → g.broken = false → g.start ≤ u.now → ∃ t, exec (.glintPulseStart dt) s = .next t ∧
      t.glint = { u.glint with slot := some { g with started := true, onPulse := u.offSources g.pulsing } } ∧
      (∀ n, n < 32 → (t.ch n).driven = t.driverLevel n ∧ (n < s.field.channels.length → (t.ch n).discharge = t.discharges n) ∧
        (u.boundaryDue = false → (t.ch n).filtered = (s.ch n).filtered ∧ (t.ch n).edgeLive = (s.ch n).edgeLive) ∧
        ((s.ch n).on = true → (s.ch n).mode = 1 → s.glintRole n = 3 → s.supplyLow n = false → s.glintCode n = g.code →
          n < s.field.channels.length → (t.ch n).blanked.isSome = true ∧ (t.ch n).run = none)) ∧
      State.keeps [.field, .glint, .ledger] u t) ∧
    (g.started = true ∨ g.broken = true ∨ u.now < g.start → exec (.glintPulseStart dt) s = .next u) ∧
    (g.started = true → g.ended = false → g.stop ≤ u.now → ∃ t, exec (.glintPulseEnd dt) s = .next t ∧
      t.glint = { u.glint with slot := some { g with ended := true } } ∧
      (∀ n, n < 32 → (t.ch n).driven = t.driverLevel n ∧ (n < s.field.channels.length → (t.ch n).discharge = false)) ∧
      State.keeps [.field, .glint, .ledger] u t) ∧
    (g.started = false ∨ g.ended = true ∨ u.now < g.stop → exec (.glintPulseEnd dt) s = .next u) ∧
    (∀ raw readback, g.started = true → g.finished = false → g.blankEnd ≤ u.now →
      ∃ t, exec (.glintBlankingEnd dt raw readback) s = .next t ∧
        t.glint = { u.glint with slot := some { g with finished := true, ended := true } } ∧
        (∀ n b, n < 32 → n < s.field.channels.length → (s.ch n).blanked = some b →
          (t.ch n).blanked = none ∧ (t.ch n).raw = raw.getLsbD n ∧ (t.ch n).filtered = (s.ch n).filtered ∧
          (raw.getLsbD n = b.pre → (t.ch n).run = b.run.map (fun x => { stamp := x.1, due := u.localNow + x.2 })) ∧
          (raw.getLsbD n ≠ b.pre → raw.getLsbD n ≠ (s.ch n).filtered →
            (t.ch n).run = some { stamp := u.now, due := u.localNow + 10000 * 2 ^ s.chFilter n })) ∧
        State.keeps [.field, .glint, .ledger, .store] u t) ∧
    (∀ raw readback, g.started = false ∨ g.finished = true ∨ u.now < g.blankEnd →
      exec (.glintBlankingEnd dt raw readback) s = .next u)) ∧
  (∀ (dt : Nat) (raw readback : BitVec 32) (s : State), s.glint.slot = none →
    let u := s.elapse dt
    exec (.glintPulseStart dt) s = .next u ∧ exec (.glintPulseEnd dt) s = .next u ∧ exec (.glintTestSample dt raw readback) s = .next u ∧
      exec (.glintBlankingEnd dt raw readback) s = .next u) ∧
  (∀ (s : State) (n : Nat), n < 32 → n < s.field.channels.length → s.sensorSupply n = true → (s.beginRun.ch n).command = true)

/-- Glint verdicts (R299, R301) and causes (R310, R311, R313). -/
def Obligations.GlintVerdictsCount : Prop :=
  (∀ (dt : Nat) (raw readback : BitVec 32) (g : GlintSlot) (s : State), s.glint.slot = some g → s.glint.ownRun.length = 32 →
    s.glint.foreignRun.length = 256 → s.glint.missCount.length = 32 →
    let u := s.elapse dt
    (g.started = true → g.tested = false → g.broken = false → g.stop - 1000 ≤ u.now → g.code < 8 →
      ∃ t, exec (.glintTestSample dt raw readback) s = .next t ∧ t.glint.slot.map (fun x => x.tested) = some true ∧
        (∀ n, n ∈ u.testInputs →
          let pre := (g.pre.getD 0).getLsbD n
          let own := s.glintCode n == g.code
          t.glint.ownRun.getD n 0 = (if pre && own then (if raw.getLsbD n then min 2 (s.glint.ownRun.getD n 0 + 1) else 0)
            else s.glint.ownRun.getD n 0) ∧
          t.glint.foreignRun.getD (8 * n + g.code) 0 = (if pre && !own
            then (if raw.getLsbD n then 0 else min 2 (s.glint.foreignRun.getD (8 * n + g.code) 0 + 1))
            else s.glint.foreignRun.getD (8 * n + g.code) 0) ∧
          t.glint.missCount.getD n 0 = (if pre && (own == raw.getLsbD n) then min (s.glint.missCount.getD n 0 + 1) 0xFFFFFFFF
            else s.glint.missCount.getD n 0)) ∧
        (∀ n, n < 32 → n ∉ u.testInputs → t.glint.ownRun.getD n 0 = s.glint.ownRun.getD n 0 ∧
          t.glint.missCount.getD n 0 = s.glint.missCount.getD n 0) ∧
        (∀ n, n < 32 → g.pulsing.getLsbD n = true → s.supplyOutside n = false → (s.ch n).command = true → readback.getLsbD n = true →
          t.glint.slot.map (fun x => x.stuckOn.getLsbD n) = some true) ∧
        State.keeps [.glint, .ledger, .store] u t) ∧
    (g.started = false ∨ g.tested = true ∨ g.broken = true ∨ u.now < g.stop - 1000 →
      exec (.glintTestSample dt raw readback) s = .next u)) ∧
  (∀ (dt cause n : Nat) (s : State),
    let u := s.elapse dt
    exec (.glintFault dt cause n) s = .next (if s.rt.state == .run && s.glintCondition cause n
      then { u with glint := { u.glint with
        fault := true
        faultChannel := if s.glint.faultChannel = 0xFF then n else s.glint.faultChannel
        waiting := s.glint.waiting ++ [{ cause := cause, cls := .recoverable, time := u.now, data := [] }] } }
      else u) ∧
    (s.glintCondition 0x0711 n = true ↔ 2 ≤ s.glint.ownRun.getD n 0))

/-- Samples of analog pairs (R319, R321, R323, R325, R328). -/
def Obligations.AnalogSamplesAreScaledAndCompared : Prop :=
  (∀ (dt p n : Nat) (a b : List Bool) (s : State), p < s.analog.pairs.length → (s.pair p).on = true → (s.pair p).synced = true →
    0 < (s.pair p).ratio → a.length = (s.pair p).ratio → b.length = (s.pair p).ratio → (s.pair p).sinceSync < n →
    (equalRun (s.pair p).a.lastBit (s.pair p).a.equalBits a).1 = false → (equalRun (s.pair p).b.lastBit (s.pair p).b.equalBits b).1 = false →
    let u := s.elapse dt
    u.localNow = (s.pair p).syncEdge + n * (10 * (s.pair p).ratio) →
    let q : Pair := if u.boundaryLate then (s.pair p).hold else s.pair p
    let last (l : List Bool) : List Bool := l.drop (l.length - 3 * q.ratio)
    let ea := (u.convert p false (sincCode q.ratio (last (q.a.bits ++ a)))).1
    let eb := (u.convert p true (sincCode q.ratio (last (q.b.bits ++ b)))).1
    ∃ t, exec (.analogSampleComplete dt p (some a) (some b)) s = .next t ∧
      (t.pair p).sinceSync = n ∧ (t.pair p).a.time = u.now ∧ (t.pair p).b.time = u.now ∧
      (t.pair p).a.bits = last (q.a.bits ++ a) ∧ (t.pair p).b.bits = last (q.b.bits ++ b) ∧
      (t.pair p).a.count = q.a.count + 1 ∧ (t.pair p).b.count = q.b.count + 1 ∧
      (n < 3 → (t.pair p).a.valid = false ∧ (t.pair p).b.valid = false ∧ (t.pair p).a.last = q.a.last ∧
        (t.pair p).b.last = q.b.last ∧ (t.pair p).disagree = q.disagree ∧ (t.pair p).diffMax = q.diffMax) ∧
      (3 ≤ n → (t.pair p).a.valid = true ∧ (t.pair p).b.valid = true ∧ (t.pair p).a.last = ea ∧ (t.pair p).b.last = eb ∧
        ((t.pair p).disagree = true ↔ s.anTolerance p < (ea - eb).natAbs) ∧
        (t.pair p).diffMax = max q.diffMax (min (ea - eb).natAbs 0xFFFFFFFF)) ∧
      (∀ m, m ≠ p → t.pair m = s.pair m) ∧ State.keeps [.analog, .freeCount] u t) ∧
  (∀ (dt p : Nat) (a b : Option (List Bool)) (s : State),
    let u := s.elapse dt
    let q := s.pair p
    (q.on = false ∨ q.synced = false ∨ (u.localNow - q.syncEdge) % (10 * q.ratio) ≠ 0 ∨
        (u.localNow - q.syncEdge) / (10 * q.ratio) ≤ q.sinceSync) → exec (.analogSampleComplete dt p a b) s = .next u) ∧
  (∀ q : Pair, q.held = none → q.hold = { q with
    held := some { a := q.a, b := q.b, disagree := q.disagree, synced := q.synced, syncInInterval := q.syncInInterval }
    a := { q.a with last := 0, min := 0, max := 0, nvalid := 0, ovr := false, count := 0 }
    b := { q.b with last := 0, min := 0, max := 0, nvalid := 0, ovr := false, count := 0 }
    syncInInterval := false }) ∧
  (∀ (a : Int) (b : Nat), 0 < b → 2 * (roundAway a b * b - a).natAbs ≤ b ∧
    (2 * (roundAway a b * b - a).natAbs = b → a.natAbs < (roundAway a b * b).natAbs)) ∧
  (∀ r : Int, (r.natAbs < 7381975 → clampRaw r = (r, false)) ∧ (7381975 ≤ r → clampRaw r = (7381975, true)) ∧
    (r ≤ -7381975 → clampRaw r = (-7381975, true)))

/-- Faults (R328, R330) and synchronising resets (R325 to R327) of analog pairs. -/
def Obligations.AnalogFaultsAndResets : Prop :=
  (∀ (dt p : Nat) (t0 : Instant) (s : State), p < s.analog.pairs.length → (s.pair p).runFirst = some t0 → (s.pair p).on = true →
    (s.pair p).disagree = true → (s.pair p).disagreeFault = false →
    let u := s.elapse dt
    (t0 + 100 * (s.anDiscTime p : Int) ≤ (s.pair p).runLatest → ∃ t, exec (.pairDisagreement dt p) s = .next t ∧
      (t.pair p).disagreeFault = true ∧ 0x0804 ∈ t.rt.active ∧ t.rt.detected = s.rt.detected ∧
      t.analog.waiting = s.analog.waiting ++ [{ cause := 0x0804, cls := .recoverable, time := u.now, data := [] }] ∧
      t.analog.faultChannel = (if s.analog.faultChannel = 0xFF then 2 * p else s.analog.faultChannel) ∧
      State.keeps [.analog, .rt] u t) ∧
    ((s.pair p).runLatest < t0 + 100 * (s.anDiscTime p : Int) → exec (.pairDisagreement dt p) s = .next u)) ∧
  (∀ (dt p : Nat) (e : BitRun) (s : State), p < s.analog.pairs.length →
    let u := s.elapse dt
    let c := if e.chanB then (s.pair p).b else (s.pair p).a
    let stuck := (equalRun c.lastBit c.equalBits e.bits).1
    ((s.pair p).on = true → (s.pair p).modFault = false → stuck = true → ∃ t, exec (.modulatorStuck dt p e) s = .next t ∧
      (t.pair p).modFault = true ∧ t.field.safeState = true ∧ (s.field.safeState = false → t.safetyOutputsOff) ∧
      t.analog.waiting = s.analog.waiting ++ [{ cause := 0x0802, cls := .nonRecoverable, time := u.now, data := [] }] ∧
      State.tokenStopped u t ∧ State.keeps [.analog, .field, .glint, .ledger, .mirror] u t) ∧
    ((s.pair p).on = false ∨ (s.pair p).modFault = true ∨ stuck = false → exec (.modulatorStuck dt p e) s = .next u)) ∧
  (∀ (w : QueuedWrite) (s : State), 0 < s.anSyncGrid → w.index = 0x3300 → w.sub = 2 → w.isCopy = false → w.via = none →
    let t := s.applyWrite false w
    (∀ p, p < 4 → p < s.analog.pairs.length → bitOf w.value p = true → (s.pair p).on = true → (s.pair p).syncAt = none →
      ∃ k, (t.pair p).syncAt = some (k * s.anSyncGrid) ∧ s.now + 10000 ≤ k * s.anSyncGrid ∧
        k * s.anSyncGrid < s.now + 10000 + s.anSyncGrid) ∧
    (∀ p, bitOf w.value p = false ∨ (s.pair p).on = false ∨ (s.pair p).syncAt ≠ none → t.pair p = s.pair p) ∧
    t.dict.response.map (fun a => a.error) = some 0 ∧ State.keeps [.analog, .dict, .store] s t) ∧
  (∀ (dt p t0 : Nat) (s : State), p < s.analog.pairs.length → (s.pair p).syncAt = some t0 →
    let u := s.elapse dt
    (t0 ≤ u.now → s.rt.state ≠ .run → ∃ t, exec (.synchronisingReset dt p) s = .next t ∧ (t.pair p).syncAt = none ∧ (t.pair p).synced = true ∧
      (t.pair p).sinceSync = 0 ∧ (t.pair p).syncing = true ∧ (t.pair p).syncTime = t0 ∧ (t.pair p).a.bits = [] ∧ (t.pair p).b.bits = [] ∧
      (t.pair p).a.valid = false ∧ (t.pair p).b.valid = false ∧
      (t.pair p).syncEdge = (if u.now - t0 ≤ 10 then u.localNow else u.localNow - (u.now - t0)) ∧ (∀ m, m ≠ p → t.pair m = s.pair m) ∧
      State.keeps [.analog] u t) ∧
    (u.now < t0 ∨ s.rt.state = .run → exec (.synchronisingReset dt p) s = .next u)) ∧
  (∀ (dt p : Nat) (s : State), (s.pair p).syncAt = none → exec (.synchronisingReset dt p) s = .next (s.elapse dt))

/-- Demand blocks (R342, R344) and the direction interlock (R355, R356). -/
def Obligations.LibraryOpensAndInterlocks : Prop :=
  (∀ (s : State) (k : Block), k.type ≠ 4 → k.state = 1 →
    (s.frozenAt (param k 0) = false ∨ (s.frozenAt (param k 1) != (param k 2 == 1)) = false) →
    let e := s.evalTwoChannel k
    e.1.state = 2 ∧ e.1.changeTime = s.rt.boundary ∧ e.1.demandCount = sat32 (k.demandCount + 1) ∧ e.1.out.getLsbD 0 = false) ∧
  (∀ (s : State) (k : Block), (s.evalTwoChannel k).1.out.getLsbD 0 = ((s.evalTwoChannel k).1.state == 1)) ∧
  (∀ (s : State) (old fresh : List Block) (b : Block),
    let e := s.evalInterlock old fresh b
    comboAllowed (param b 0) (axisDirection (e.1.state / 16)) (axisDirection (e.1.state % 16)) = true ∧
    (e.1.out.getLsbD 0 && e.1.out.getLsbD 1) = false ∧ (e.1.out.getLsbD 2 && e.1.out.getLsbD 3) = false)

/-! ### Exchange RAM (ch. 8) and memory protection (ch. 7) -/

/-- Exchange commands (R244, R246, R247, R251, R259, R261, R74). -/
def Obligations.ExchangeCommandsAreJudged : Prop :=
  (∀ (dt buffer kind len : Nat) (port target : Owner) (s : State), s.rt.cycling = true → port ≠ .free →
    let u := s.elapse dt
    let commands : List (Instr × Nat × Nat × Owner × Nat × Nat) :=
      [(.claim dt port, 1, 128, .free, 0, 0), (.post dt port buffer target kind len, 2, buffer, target, kind, len),
        (.releaseBuffer dt port buffer, 3, buffer, .free, 0, 0), (.revoke dt port buffer, 4, buffer, .free, 0, 0)]
    let refused (c : Instr) (code : Nat) : Prop := ∃ t, exec c s = .next t ∧
      t.xch = { ({ u.xch with lastServed := port } : Exchange).setResult port code with coincident := t.xch.coincident } ∧
      State.keeps [.xch] u t
    let begins (n : Nat) (what : XchPending) (t : State) : Prop :=
      t.xch.active = some (n, port, u.localNow) ∧ t.xch.lastServed = port ∧ (t.buffer n).owner = .free ∧ (t.buffer n).busy = some what ∧
        t.xch = t.xch.setResult port 1 ∧ (∀ m, m ≠ n → t.buffer m = s.buffer m) ∧ State.keeps [.xch] u t
    (∀ c ∈ commands, u.startingUp 48 = true → exec c.1 s = .next u) ∧
    (∀ c ∈ commands, u.startingUp 48 = false → s.xch.portBusy port = true →
      exec c.1 s = .next { u with xch := u.xch.setResult port 0x85 }) ∧
    (u.startingUp 48 = false → (∀ x, s.xch.coincident = some x → x.at_ ≠ u.localNow) →
      (∀ c ∈ commands, s.xch.portBusy port = false → s.xch.active.isSome = true → exec c.1 s = .next { u with xch :=
        { u.xch.setResult port 1 with waiting := s.xch.waiting ++
            [{ port := port, code := c.2.1, buffer := c.2.2.1, target := c.2.2.2.1, kind := c.2.2.2.2.1, len := c.2.2.2.2.2
               at_ := u.now }] } }) ∧
      (s.xch.portBusy port = false → s.xch.active = none →
        (∀ n, s.freeBuffer port = some n → n < s.xch.buffers.length →
          ∃ t, exec (.claim dt port) s = .next t ∧ begins n (.claim port none) t ∧ t.xch = t.xch.setReturn port n ∧ homeOf n = port ∧
            (s.buffer n).owner = .free ∧ (s.buffer n).masked = false) ∧
        (s.freeBuffer port = none → refused (.claim dt port) 0x82) ∧
        ((s.buffer buffer).owner ≠ port → refused (.post dt port buffer target kind len) 0x81 ∧
          refused (.releaseBuffer dt port buffer) 0x81) ∧
        ((s.buffer buffer).owner = port → postPermitted port target kind len = false →
          refused (.post dt port buffer target kind len) 0x83) ∧
        ((s.buffer buffer).owner = port → buffer < s.xch.buffers.length →
          (postPermitted port target kind len = true →
            ∃ t, exec (.post dt port buffer target kind len) s = .next t ∧ begins buffer (.post target kind len) t ∧
              (port = .le → (t.buffer buffer).postedAt = u.now)) ∧
          ∃ t, exec (.releaseBuffer dt port buffer) s = .next t ∧ begins buffer .toFree t) ∧
        (port ≠ .le ∨ homeOf buffer ≠ .le ∨ (s.buffer buffer).owner = .free ∨ (s.buffer buffer).owner = .le →
          refused (.revoke dt port buffer) 0x84) ∧
        (port = .le → homeOf buffer = .le → (s.buffer buffer).masked = false → buffer < s.xch.buffers.length →
          (s.buffer buffer).owner = .ce ∨ (s.buffer buffer).owner = .me →
          ∃ t, exec (.revoke dt port buffer) s = .next t ∧ begins buffer .revoke t ∧ (t.buffer buffer).queued = false ∧
            ∀ o, buffer ∉ t.xch.queue o)))) ∧
  (∀ (dt buffer kind len : Nat) (port target : Owner) (s : State), s.rt.cycling = false →
    exec (.claim dt port) s = .next (s.elapse dt) ∧ exec (.post dt port buffer target kind len) s = .next (s.elapse dt) ∧
      exec (.releaseBuffer dt port buffer) s = .next (s.elapse dt) ∧ exec (.revoke dt port buffer) s = .next (s.elapse dt)) ∧
  (∀ (a b : XchWaiting) (s : State), s.rt.cycling = true → a.port ≠ .free → b.port ≠ .free → a.port ≠ b.port →
    s.xch.active = none → s.xch.waiting = [] → (∀ x, s.xch.coincident = some x → x.at_ ≠ s.localNow) →
    let x := (s.issue a).issue b
    let y := (s.issue b).issue a
    x.xch.active = y.xch.active ∧ x.xch.lastServed = y.xch.lastServed ∧ (∀ n, x.buffer n = y.buffer n) ∧
      x.xch.leResult = y.xch.leResult ∧ x.xch.ceResult = y.xch.ceResult ∧ x.xch.meResult = y.xch.meResult)

/-- R245: what the bytes of a buffer read at the end of a command. -/
def Obligations.PostKeepsTheDeclaredPayload : Prop :=
  (∀ (dt n at_ : Nat) (port : Owner) (what : XchPending) (s : State), s.xch.active = some (n, port, at_) → n < 128 →
    n < s.xch.buffers.length → (s.buffer n).busy = some what →
    let u := s.elapse dt
    let before (a : Nat) : Byte := cellRead 0 s.le.ram a
    ∃ t, exec (.zeroingComplete dt) s = .next t ∧
      let after (a : Nat) : Byte := cellRead 0 t.le.ram a
      (∀ a, a < bufferAddr n 0 ∨ bufferAddr n 512 ≤ a → after a = before a) ∧
      (∀ target kind len, what = .post target kind len → len ≤ 512 →
        (∀ i, i < len → after (bufferAddr n i) = before (bufferAddr n i)) ∧
        (∀ i, len ≤ i → i < 512 → after (bufferAddr n i) = 0) ∧ (t.buffer n).len = len ∧ (t.buffer n).kind = kind) ∧
      ((∃ o, what = .claim o none) ∨ what = .toFree ∨ what = .revoke → ∀ i, i < 512 → after (bufferAddr n i) = 0) ∧
      (∀ o x, what = .claim o (some x) → ∀ i, i < 512 → after (bufferAddr n i) = x.payload.getD i 0) ∧
      t.le = { u.le with ram := t.le.ram } ∧ State.keeps [.xch, .le, .zop, .ledger, .store] u t ∧
      t.zop = { u.zop with session := t.zop.session } ∧ (what ≠ .revoke → s.xch.leTasks = [] → State.keeps [.xch, .le, .zop] u t)) ∧
  ∀ (dt : Nat) (s : State), s.xch.active = none → exec (.zeroingComplete dt) s = .next (s.elapse dt)

/-- Ownership at the end of a command (R244, R248, R249, R251) and POP (R30, R248, R250, R253, R483, R519, R586). -/
def Obligations.OwnershipPassesAtTheEnd : Prop :=
  (∀ (dt n at_ : Nat) (port : Owner) (what : XchPending) (s : State), s.xch.active = some (n, port, at_) → s.xch.waiting = [] →
    s.xch.leTasks = [] → s.xch.ceTasks = [] → s.xch.meTasks = [] → n < s.xch.buffers.length → (s.buffer n).busy = some what →
    port ≠ .free →
    let u := s.elapse dt
    ∃ t, exec (.zeroingComplete dt) s = .next t ∧ (∀ m, m ≠ n → t.buffer m = s.buffer m) ∧
      State.keeps [.xch, .le, .zop, .ledger, .store] u t ∧
      ((∀ o x, what ≠ .claim o (some x)) →
        t.xch.active = none ∧ (t.buffer n).busy = none ∧ t.xch = t.xch.setResult port 0 ∧
        (∀ o, what = .claim o none → (t.buffer n).owner = o) ∧ (what = .toFree → (t.buffer n).owner = .free) ∧
        (what = .revoke → (t.buffer n).owner = .free ∧ t.xch.revokeCount = min (s.xch.revokeCount + 1) u32Max) ∧
        (∀ target kind len, what = .post target kind len → target ≠ .free →
          (t.buffer n).owner = target ∧ (t.buffer n).queued = true ∧ (t.buffer n).seq = (s.xch.takeSeq target).1 ∧
            t.xch.queue target = s.xch.queue target ++ [n] ∧
            (t.xch.takeSeq target).1 = ((s.xch.takeSeq target).1 + 1) % 65536)) ∧
      (∀ x, what = .claim port (some x) → s.rt.cycling = true → u.startingUp 48 = false →
        postPermitted port x.target x.kind x.payload.length = true →
        t.xch.active = some (n, port, u.localNow) ∧ (t.buffer n).busy = some (.post x.target x.kind x.payload.length) ∧
          t.xch = t.xch.setResult port 1)) ∧
  (∀ (dt : Nat) (port : Owner) (s : State), s.rt.cycling = true → port ≠ .free → port ≠ .le ∨ s.xch.lePops < 16 →
    let u := s.elapse dt
    (s.xch.queue port = [] → ∃ t, exec (.pop dt port) s = .next t ∧
      t.xch = { u.xch.setReturn port 0xFF with coincident := t.xch.coincident } ∧ State.keeps [.xch] u t) ∧
    (∀ n q, s.xch.queue port = n :: q → (s.buffer n).owner = port → n < s.xch.buffers.length →
      (∀ x, s.xch.coincident = some x → x.at_ ≠ u.localNow) →
      let b := s.buffer n
      let d := u.payload n
      let unread := b.ue = true ∨ (port = .le ∧ b.kind ≠ 2 ∧ b.kind ≠ 3 ∧ b.kind ≠ 7) ∨
        (port = .ce ∧ b.kind ≠ 1 ∧ b.kind ≠ 4 ∧ b.kind ≠ 5) ∨ (port = .me ∧ (b.kind ≠ 6 ∨ s.mirror.role ≠ 1))
      ∃ t, exec (.pop dt port) s = .next t ∧
        (unread → State.keeps [.xch] u t) ∧
        (unread ∨ port ≠ .le →
          t.xch.queue port = q ∧ t.xch = t.xch.setReturn port n ∧ (∀ m, m ≠ n → t.buffer m = s.buffer m) ∧
          (port = .le → t.xch.lePops = s.xch.lePops + 1) ∧
          (s.xch.portBusy port = true → XchTask.release n ∈ t.xch.tasks port ∧ (t.buffer n).owner = port) ∧
          (s.xch.active = none → s.xch.waiting = [] → u.startingUp 48 = false →
            t.xch.active = some (n, port, u.localNow) ∧ (t.buffer n).busy = some .toFree)) ∧
        (port = .ce → b.ue = false → b.kind = 1 →
          let f := u.frame (leAt d 0 2) ((d.drop 4).take (leAt d 3 1))
          (bitOf (leAt d 2 1) 0 = true → s.zop.canA.accepts = true → f ∈ t.zop.canA.queue) ∧
          (bitOf (leAt d 2 1) 1 = true → s.zop.canB.accepts = true → f ∈ t.zop.canB.queue) ∧
          (bitOf (leAt d 2 1) 0 = false → t.zop.canA = s.zop.canA) ∧ (bitOf (leAt d 2 1) 1 = false → t.zop.canB = s.zop.canB) ∧
          State.keeps [.xch, .zop] u t) ∧
        (port = .ce → b.ue = false → b.kind = 5 →
          let all := s.ledger.spool ++ tailRecords 20 d
          t.ledger = { u.ledger with spool := all.drop (all.length - 1024) } ∧ State.keeps [.xch, .ledger] u t) ∧
        (port = .me → b.ue = false → b.kind = 6 → s.mirror.role = 1 →
          t.mirror = { u.mirror with tail := s.mirror.tail ++ (tailRecords 20 d).map EventRecord.bytes } ∧
          State.keeps [.xch, .mirror] u t))) ∧
  ∀ (dt : Nat) (s : State), 16 ≤ s.xch.lePops → exec (.pop dt .le) s = .next (s.elapse dt)

/-- Exchange faults (R253, R256 to R258, R198). -/
def Obligations.ExchangeFaultsAreDetected : Prop :=
  (∀ (dt n : Nat) (port : Owner) (s : State), s.rt.cycling = true → s.leRuns = true → n < 128 →
    let u := s.elapse dt
    (s.owns port n = true → exec (.xchNonOwnerAccess dt port n) s = .next u) ∧
    (port = .le ∨ port = .me → s.owns port n = false → ∃ t, exec (.xchNonOwnerAccess dt port n) s = .next t ∧
      t.waits (if port = .le then 0x0601 else 0x0602) .nonRecoverable ∧ (∃ d ∈ t.rt.detected, d.data = s.passes.eventData) ∧
      t.field.faultLine = true ∧ t.field.images = [] ∧
      t.xch = { u.xch with faultBuffer := if s.xch.faultBuffer = 0xFF then n else s.xch.faultBuffer } ∧
      State.tokenStopped u t ∧ State.keeps [.rt, .xch, .field, .glint, .ledger, .mirror] u t) ∧
    (s.owns .ce n = false → ∃ t, exec (.xchNonOwnerAccess dt .ce n) s = .next t ∧
      t.xch = { u.xch with refusedCount := sat32 (s.xch.refusedCount + 1) } ∧
      (∀ k, u.ledger.due 0x0605 0 100000000 u.localNow = some k → State.logs 0x0605 (leBytes 4 k) u t) ∧
      State.keeps [.xch, .ledger, .store] u t) ∧
    (n < s.xch.buffers.length → ∀ word, word < 64 → ∃ t, exec (.xchUncorrectableRead dt (64 * n + word)) s = .next t ∧ (t.buffer n).ue = true ∧
      (∀ a, cellRead 0 t.le.ram a =
        if bufferAddr n (8 * word) ≤ a ∧ a < bufferAddr n (8 * word + 8) then 0 else cellRead 0 s.le.ram a) ∧
      t.le = { u.le with ram := t.le.ram } ∧
      t.xch.uncorrectedCount = sat32 (s.xch.uncorrectedCount + 1) ∧ State.logs 0x0604 [] u t ∧
      (∀ m, m ≠ n → t.buffer m = s.buffer m) ∧ State.keeps [.xch, .le, .ledger, .store] u t)) ∧
  (∀ (dt n at_ : Nat) (port : Owner) (s : State), s.rt.cycling = true → s.xch.active = some (n, port, at_) →
    let u := s.elapse dt
    (at_ + 128 ≤ u.localNow → ∃ t, exec (.zeroingTimeout dt) s = .next t ∧ t.waits 0x0603 .nonRecoverable ∧
      t.field.faultLine = true ∧ t.xch = { u.xch with faultBuffer := if s.xch.faultBuffer = 0xFF then n else s.xch.faultBuffer } ∧
      State.tokenStopped u t ∧ State.keeps [.rt, .xch, .field, .glint, .ledger, .mirror] u t) ∧
    (u.localNow < at_ + 128 → exec (.zeroingTimeout dt) s = .next u)) ∧
  ∀ (dt : Nat) (s : State), s.xch.active = none → exec (.zeroingTimeout dt) s = .next (s.elapse dt)

/-- MPU checks (R222), the seal (R230), violations (R231) and stores (R214, R242). -/
def Obligations.MpuChecksEveryAccess : Prop :=
  (∀ (dt addr width data : Nat) (kind : AccessKind) (s : State), s.leRuns = true → width = 1 ∨ width = 2 ∨ width = 4 ∨ width = 8 →
    addr < 2 ^ 32 →
    let u := s.elapse dt
    (u.mpuVerdict kind addr width data = none → kind = .load ∨ kind = .fetch → inExchangeRam addr = false →
      exec (.mpuAccessCheck dt kind addr width data) s = .next u) ∧
    (u.mpuVerdict .store addr width data = none →
      inPlainRam addr = true ∨ (inExchangeRam addr = true ∧ s.owns .le ((addr - 0x24000000) / 512) = true) →
      ∃ t, exec (.mpuAccessCheck dt .store addr width data) s = .next t ∧
        (heldElsewhere addr = false →
          (∀ i, i < width → cellRead 0 t.le.ram (addr + i) = BitVec.ofNat 8 (data / 256 ^ i)) ∧
          (∀ a, a < addr ∨ addr + width ≤ a → cellRead 0 t.le.ram a = cellRead 0 s.le.ram a) ∧
          t = { u with le := { u.le with ram := t.le.ram } }) ∧
        ((areaByte addr).isSome = true → s.le.inputs.length = 180 → s.le.inputsCoded.length = 180 → s.le.outputs.length = 32 →
          s.le.outputsCoded.length = 32 →
          (∀ i, i < width → t.ramByte (addr + i) = BitVec.ofNat 8 (data / 256 ^ i)) ∧
          (∀ a, a < addr ∨ addr + width ≤ a → t.ramByte a = s.ramByte a) ∧
          t = { u with le := { u.le with
            ram := t.le.ram, inputs := t.le.inputs, inputsCoded := t.le.inputsCoded, outputs := t.le.outputs
            outputsCoded := t.le.outputsCoded } }) ∧
        (inEventLog addr = true →
          (∀ a, inEventLog a = false → t.ramByte a = s.ramByte a) ∧
          t = { u with le := { u.le with ram := t.le.ram }, ledger := { u.ledger with ring := t.ledger.ring } })) ∧
    (inExchangeRam addr = true → s.owns .le ((addr - 0x24000000) / 512) = false → s.rt.cycling = true →
      u.mpuVerdict kind addr width data = none → ∃ t, exec (.mpuAccessCheck dt kind addr width data) s = .next t ∧
        t.waits 0x0601 .nonRecoverable ∧ t.field.faultLine = true ∧ t.le = u.le) ∧
    (∀ cause region, s.rt.cycling = true → u.mpuVerdict kind addr width data = some (cause, region) →
      ∃ t, exec (.mpuAccessCheck dt kind addr width data) s = .next t ∧ t.waits cause .nonRecoverable ∧ t.field.faultLine = true ∧
        t.field.images = [] ∧ t.rt.passesRunning = false ∧
        t.le = (if s.le.violation then { u.le with laterViolations := sat32 (s.le.laterViolations + 1) }
          else { u.le with
            violation := true
            faultAddress := addr
            faultInfo := BitVec.ofNat 32 (u.mpuInfo kind addr width cause region)
            faultCycle := s.rt.cycleCount }) ∧
        State.tokenStopped u t ∧ State.keeps [.rt, .le, .field, .glint, .ledger, .mirror] u t)) ∧
  (∀ (addr width value : Nat) (s : State), s.le.isSealed = true → inMpuRegisters addr = true →
    s.mpuVerdict .store addr width value = some (0x0505, none)) ∧
  ∀ (dt addr width data : Nat) (kind : AccessKind) (s : State), s.le.isSealed = true →
    ∃ t, exec (.mpuAccessCheck dt kind addr width data) s = .next t ∧ t.le.setA = s.le.setA ∧ t.le.setB = s.le.setB ∧
      t.le.isSealed = true

/-- Tag writes (R217, R219) and the switch of the sets (R228, R229). -/
def Obligations.TagsAndSetsSwitch : Prop :=
  (∀ (dt addr value : Nat) (s : State), s.leRuns = true → addr < 2 ^ 32 →
    let u := s.elapse dt
    u.mpuVerdict .tagWrite addr 1 value = none →
      s.le.inB = false ∧ value ≤ 7 ∧ 0x20000000 ≤ addr ∧ addr < 0x20060000 ∧
      (∃ n, s.le.matched addr = some n ∧ regionTagw (s.le.regions.getD n 0).toNat = true ∧
        regionPerm (s.le.regions.getD n 0).toNat = 3) ∧
      ∃ t, exec (.tagWrite dt addr value) s = .next t ∧
        (s.otp.maskedPairs.contains ((addr - 0x20000000) / 64) = false → t.tagOf ((addr - 0x20000000) / 64) = value) ∧
        (∀ g, g ≠ (addr - 0x20000000) / 64 → t.tagOf g = s.tagOf g) ∧ t = { u with le := { u.le with tags := t.le.tags } }) ∧
  (∀ (dt addr value cause : Nat) (region : Option Nat) (s : State), s.leRuns = true → addr < 2 ^ 32 → s.rt.cycling = true →
    (s.elapse dt).mpuVerdict .tagWrite addr 1 value = some (cause, region) →
    ∃ t, exec (.tagWrite dt addr value) s = .next t ∧ t.waits cause .nonRecoverable ∧ t.le.tags = s.le.tags ∧ t.le.ram = s.le.ram ∧
      State.tokenStopped (s.elapse dt) t ∧ State.keeps [.rt, .le, .field, .glint, .ledger, .mirror] (s.elapse dt) t) ∧
  (∀ (dt : Nat) (s : State), s.leRuns = true →
    let u := s.elapse dt
    (s.le.inB = false → exec (.enterLogic dt) s = .next { u with le := { u.le with inB := true } }) ∧
    (s.le.inB = true → exec (.leaveLogic dt) s = .next { u with le := { u.le with inB := false } }) ∧
    (s.le.inB = true → s.rt.cycling = true → ∃ t, exec (.enterLogic dt) s = .next t ∧ t.waits 0x0502 .nonRecoverable ∧
      t.le.inB = true ∧ t.le.violation = true ∧ (s.le.violation = false → t.le.faultInfo.toNat % 256 = 2 ∧ t.le.faultInfo.getLsbD 31 = true) ∧
      State.tokenStopped u t ∧ State.keeps [.rt, .le, .field, .glint, .ledger, .freeCount, .mirror] u t) ∧
    (s.le.inB = false → s.rt.cycling = true → ∃ t, exec (.leaveLogic dt) s = .next t ∧ t.waits 0x0501 .nonRecoverable ∧
      t.le.inB = false ∧ t.le.violation = true ∧ (s.le.violation = false → t.le.faultInfo.toNat % 256 = 1 ∧ t.le.faultInfo.getLsbD 31 = false) ∧
      State.tokenStopped u t ∧ State.keeps [.rt, .le, .field, .glint, .ledger, .freeCount, .mirror] u t) ∧
    exec (.leExceptionEntry dt false) s = .next { u with le := { u.le with inB := false, saved := s.le.inB :: s.le.saved } } ∧
    (∀ b r, s.le.saved = b :: r → exec (.leExceptionEntry dt true) s = .next { u with le := { u.le with inB := b, saved := r } }) ∧
    (s.le.saved = [] → exec (.leExceptionEntry dt true) s = .next u))

/-! ### Fuses (ch. 5), the store (ch. 14) and logic images (ch. 13) -/

/-- Waiting writes at their boundary (R443, R448, R450, R452 to R454, R481, R354). -/
def Obligations.WaitingWritesTakeEffect : Prop :=
  (∀ (w : QueuedWrite) (s : State), w.isCopy = false → w.via = none →
    (s.judgeWrite w.access ≠ 0 →
      let t := s.applyWrite true w
      t.dict.response.map (fun x => (x.requester, x.index, x.sub, x.error)) = some (w.requester, w.index, w.sub, s.judgeWrite w.access) ∧
      t.dict.lastError = accessError (s.judgeWrite w.access) w.index w.sub w.requester 0 ∧ t.dict.values = s.dict.values ∧
      t.dict.slots = s.dict.slots ∧ t.dict.reqSeq = s.dict.reqSeq ∧ t.otp = { s.otp with opStatus := t.otp.opStatus } ∧
      t.images = { s.images with loadStatus := t.images.loadStatus } ∧ State.keeps [.dict, .store, .otp, .images, .ledger] s t) ∧
    (s.judgeWrite w.access = 0 → s.applyWrite true w = s.applyWrite false w) ∧
    (let t := s.applyWrite false w
      let ok := t.dict.response.map (fun x => (x.requester, x.index, x.sub, x.error)) = some (w.requester, w.index, w.sub, 0)
      (∀ o, findObj w.index w.sub = some o → w.index < 0x1800 ∨ (0x2400 ≤ w.index ∧ w.index < 0x3300) → (w.index, w.sub) ≠ (0x1010, 7) →
        ok ∧ t.dict.values = setValue (objKey w.index w.sub) w.value o.dflt s.dict.values ∧
        (∀ n, w.reqSeq = some n → t.lastReqSeq w.requester = some n) ∧
        (o.access = .rw ∨ o.access = .rws → ∀ x ∈ t.dict.slots, (x.index, x.sub) ≠ (w.index, w.sub)) ∧
        State.keeps [.dict, .store] s t) ∧
      (w.index = 0x2200 → w.sub = 0x12 → ok ∧ t.rt = { s.rt with resetAtBoundary := true } ∧ State.keeps [.rt, .dict, .store] s t) ∧
      (w.index = 0x5E00 → w.sub = 0xA → ok ∧
        t.ledger = { s.ledger with readSeq := s.ledger.readSeq.filter (fun e => e.1 != w.requester) ++ [(w.requester, w.value)] } ∧
        State.keeps [.ledger, .dict, .store] s t) ∧
      (w.index = 0x1800 → w.sub = 0xC → ok ∧ t.clock = { s.clock with epochUtc := w.value } ∧ State.logs 0x0910 (leBytes 8 w.value) s t ∧
        State.keeps [.clock, .ledger, .dict, .store] s t) ∧
      (w.index = 0x1010 → w.sub = 7 → ok ∧
        t.dict.values = s.dict.values.filter (fun e => !(configObjects.filter (fun o => o.1 != objKey 0x5000 2)).any (fun o => o.1 == e.1)) ∧
        State.keeps [.dict, .store] s t))) ∧
  (∀ (changed : Bool) (q r : QueuedWrite) (s : State), q.isDirRequest = true → r.isDirRequest = true → q.via = none →
    let u := s.discardRequest q
    s.applyInOrder changed [q, r] = u.applyWrite changed r ∧ u.dict.response.map (fun x => x.error) = some 0x800D ∧ u.lib = s.lib ∧
      (∃ code, State.logs code [] s u) ∧
      State.keeps [.dict, .store, .otp, .images, .ledger, .freeCount] s u) ∧
  (∀ (changed : Bool) (s : State), s.applyInOrder changed [] = s)

/-- OTP staging (R161, R162) and commands (R162, R163, R167, R175); the reading of a fuse cut short is that of log entry 110. -/
def Obligations.OtpCommandsStart : Prop :=
  (∀ s : State, (∀ f, f ∉ s.otp.unstable → s.senseFuses.otp.fuse f = s.otp.fuse f) ∧
    s.senseFuses.otp = { s.otp with
      bank0 := s.senseFuses.otp.bank0
      bank1 := s.senseFuses.otp.bank1
      bank2 := s.senseFuses.otp.bank2 } ∧
    (s.otp.unstable = [] → s.senseFuses = s) ∧ State.keeps [.otp, .freeCount] s s.senseFuses) ∧
  (∀ (w : QueuedWrite) (s : State), w.isCopy = false → w.via = none → w.index = 0x2300 →
    let t := s.applyWrite false w
    let v := s.senseFuses
    (w.sub = 5 ∨ w.sub = 7 → s.otp.running ≠ none → t.otp = { s.otp with opStatus := 0x88 } ∧
      t.dict.response.map (fun a => (a.error, a.detail)) = some (0x800E, 0x88) ∧ State.keeps [.otp, .dict] s t) ∧
    (w.sub = 5 → s.otp.running = none →
      t.otp = { v.otp with select := w.value, offset := 0, staging := v.otp.stagedContent w.value } ∧
      t.dict.response.map (fun a => a.error) = some 0 ∧ State.keeps [.otp, .dict, .store, .freeCount] s t) ∧
    (w.sub = 7 → s.otp.running = none → t.otp = { s.otp with staging := t.otp.staging } ∧
      (∀ i, i < 512 → t.otp.staging.getLsbD i =
        (if s.otp.offset ≤ i ∧ i < s.otp.offset + 32 then w.value.testBit (i - s.otp.offset) else s.otp.staging.getLsbD i)) ∧
      t.dict.response.map (fun a => a.error) = some 0 ∧ State.keeps [.otp, .dict, .store] s t) ∧
    (∀ code status, w.sub = 8 → s.otpRefusal w.value = (code, status) → code ≠ 0 →
      t.otp = { s.otp with opStatus := status } ∧ t.dict.response.map (fun a => a.error) = some code ∧ State.keeps [.otp, .dict] s t) ∧
    (w.sub = 8 → s.otpRefusal w.value = (0, 0) →
      let running (run : OtpRun) : Prop :=
        t.otp = { v.otp with running := some run, opStatus := if s.power.gateClosed then 2 else 1, progress := 0 } ∧
          t.power.domainCommand.getLsbD 54 = true
      t.otp.bank0 = v.otp.bank0 ∧ t.otp.bank1 = v.otp.bank1 ∧ t.otp.bank2 = v.otp.bank2 ∧
      t.dict.response.map (fun a => a.error) = some 0 ∧
      (∀ sec, sectionOfSelect s.otp.select = some sec → w.value = 1 ∨ w.value = 2 →
        (v.startStatus w.value sec ≠ 0 → t.otp = { v.otp with opStatus := v.startStatus w.value sec }) ∧
        (v.startStatus w.value sec = 0 → running { code := w.value, sel := sec, item := 0, since := s.localNow })) ∧
      (w.value = 3 → running { code := 3, sel := .lifecycle, item := s.otp.stagingWord % 256 - 2, since := s.localNow }) ∧
      (w.value = 4 → t.otp = { v.otp with shadow := some (s.otp.select, s.otp.staging), opStatus := 3 }) ∧
      (w.value = 5 → t.otp = { v.otp with shadow := none, opStatus := 3 }) ∧
      (w.value = 6 → running { code := 6, sel := .lifecycle, item := 5, since := s.localNow }) ∧
      State.keeps [.otp, .dict, .store, .power, .field, .analog, .rt, .ledger, .le, .mirror, .modbus, .freeCount] s t))

/-- The end of an OTP command (R164 to R166, R175) with its strict verify (R148, R165). The count of OTP_OP_PROGRESS (log entry 111) and the
end of a command other than FINALISE that fails its verify (log entry 112) are the model's choices. -/
def Obligations.OtpCommandsBurnWhatIsPlanned : Prop :=
  (∀ (dt : Nat) (unburned weak : List Nat) (s : State), s.otp.running = none ∨ s.power.gateClosed = true →
    exec (.otpCommandComplete dt unburned weak) s = .next (s.elapse dt)) ∧
  (∀ (dt : Nat) (unburned weak : List Nat) (run : OtpRun) (s : State), s.otp.running = some run → s.power.gateClosed = false →
    let u := s.elapse dt
    let fuses (n : Nat) : List Nat := [3 * n, 3 * n + 1, 3 * n + 2]
    ∃ t, exec (.otpCommandComplete dt unburned weak) s = .next t ∧ t.otp.running = none ∧ u.fusesKept t ∧
      (t.otp.opStatus = 3 ∨ t.otp.opStatus = 0x84 ∨ t.otp.opStatus = 0x87) ∧
      (unburned = [] → t.otp.opStatus ≠ 0x87 ∧
        (∀ n ∈ s.otp.planned run, n < 4096 → t.otp.fuse (3 * n) = true ∧ t.otp.fuse (3 * n + 1) = true ∧
          t.otp.fuse (3 * n + 2) = true) ∧
        (t.otp.opStatus = 3 → t.otp.progress = (s.otp.toBurn (s.otp.planned run)).length % 2 ^ 16)) ∧
      (t.otp.opStatus ≠ 0x84 ∨ run.code ≠ 2 → ∀ n, n ∉ s.otp.planned run → ∀ f ∈ fuses n, t.otp.fuse f = s.otp.fuse f) ∧
      (unburned = [] → weak = [] → s.otp.unstable = [] →
        (run.code = 2 → conflicts (s.otp.content run.sel) (s.otp.staging.toNat % 2 ^ (sectionMap run.sel).size) = false) →
        t.otp.opStatus = 3) ∧
      (unburned = [] →
        (∃ n ∈ verifiedBits run, 2 ≤ ((fuses n).filter (fun f => s.otp.verifies run f && weak.contains f)).length) →
        t.otp.opStatus = 0x84 ∧
          (run.code = 2 → State.logs 0x0C08 [] u t ∧ ∀ n ∈ markerBits run.sel, t.otp.logical.getLsbD n = true) ∧
          (run.code ≠ 2 → t.store = u.store ∧ t.ledger.ring = u.ledger.ring ∧ t.ledger.early = u.ledger.early)) ∧
      (∀ n ∈ s.otp.planned run, n < 4096 → 2 ≤ ((s.otp.toBurn [n]).filter (fun f => unburned.contains f)).length →
        t.otp.opStatus = 0x87) ∧
      State.keeps [.otp, .power, .field, .analog, .rt, .store, .ledger, .mirror, .le, .modbus] u t)

/-- Programming (R396, R403 to R405, R64), erasing (R407, R408, R415) and the erase credit (R412, R413). -/
def Obligations.StoreProgramsAndErases : Prop :=
  (∀ (dt : Nat) (ok : Bool) (s : State), s.power.gateClosed = true ∨ s.store.queue = [] ∨
      (∃ r rest, s.store.queue = r :: rest ∧ s.store.place r.area (recordUnits r.payload.length) = none) →
    exec (.storeRecordCommit dt ok) s = .next (s.elapse dt)) ∧
  (∀ (a : Area) (units : Nat) (st p : Store), st.place a units = some p →
    (p.areaState a).sector = (st.areaState a).sector → (p.areaState a).pos ≠ 32 →
      (p.areaState a).pos + 32 * units ≤ 4096 ∧ p.array = st.array ∧
      ∀ i, i < 32 * units → cellRead erasedByte st.array (4096 * (p.areaState a).sector + (p.areaState a).pos + i) = 0xFF) ∧
  (∀ (dt : Nat) (r : StoreRecord) (rest : List StoreRecord) (p : Store) (s : State), s.power.gateClosed = false →
    s.store.queue = r :: rest → s.store.place r.area (recordUnits r.payload.length) = some p →
    let u := s.elapse dt
    let x := p.areaState r.area
    let addr := 4096 * x.sector + x.pos
    let bytes := recordBytes r.type x.seq (if r.origin = 0 then x.seq else r.origin) r.payload
    let read (m : State) (a : Nat) : Byte := cellRead erasedByte m.store.array a
    (∃ t, exec (.storeRecordCommit dt true) s = .next t ∧
      (∀ i, i < bytes.length → read t (addr + i) = read s (addr + i) &&& bytes.getD i 0) ∧
      (∀ a, a < addr ∨ addr + bytes.length ≤ a → read t a = read s a) ∧
      (t.store.areaState r.area).seq = (s.store.areaState r.area).seq + 1 ∧ (∃ more, t.store.queue = rest ++ more) ∧
      t.store.heldLeft = s.store.heldLeft - 1 ∧
      (1 < s.store.heldLeft → t.le = u.le ∧ t.store.deferred = s.store.deferred) ∧
      (s.store.heldLeft ≤ 1 → t.store.deferred = [] ∧
        t.le = { u.le with flash := s.store.deferred.foldl (fun m d => programCells d m) s.le.flash }) ∧
      State.keeps [.store, .ledger, .boot, .rt, .le] u t) ∧
    (∃ t, exec (.storeRecordCommit dt false) s = .next t ∧
      (∀ a, a < addr ∨ addr + bytes.length ≤ a → read t a = read s a) ∧
      (∀ i, i < bytes.length → read t (addr + i) ||| read s (addr + i) = read s (addr + i) ∧
        read t (addr + i) &&& (read s (addr + i) &&& bytes.getD i 0) = read s (addr + i) &&& bytes.getD i 0) ∧
      (t.store.areaState r.area).seq = (s.store.areaState r.area).seq ∧
      (r.retried = false → t.store.queue = { r with retried := true } :: rest ∧ (t.store.areaState r.area).sector = x.sector ∧
        (t.store.areaState r.area).pos = min 4096 (nextPage x.pos (recordUnits r.payload.length)) ∧ State.keeps [.store, .freeCount] u t) ∧
      (r.retried = true → (x.sector ∈ t.store.retired ∨ x.sector ∈ (t.store.areaState r.area).retiring) ∧
        (t.store.areaState r.area).pos = 4096 ∧ State.logs 0x0905 [] u t ∧
        ∃ more, t.store.queue = { r with retried := false } :: (rest ++ more)) ∧
      State.keeps [.store, .ledger, .rt, .freeCount] u t)) ∧
  (∀ (dt : Nat) (ok : Bool) (s : State), s.store.erase = none ∨ s.eraseSuspended = true →
    exec (.sectorEraseComplete dt ok) s = .next (s.elapse dt)) ∧
  (∀ (dt : Nat) (e : Erase) (s : State), s.store.erase = some e → s.eraseSuspended = false →
    let u := s.elapse dt
    let a := areaOfSector e.sector
    let head := headerBytes a e.count (s.store.areaState a).sectorSeq
    let counted (t : State) : Prop := (t.store.areaState a).credit = (s.store.areaState a).credit - 1 ∧
      t.store.eraseTotal = sat32 (s.store.eraseTotal + 1) ∧ State.keeps [.store, .ledger, .rt] u t
    (e.sector < 128 →
      (∃ t, exec (.sectorEraseComplete dt true) s = .next t ∧
        (∀ i, i < 4096 → cellRead erasedByte t.store.array (4096 * e.sector + i) = head.getD i erasedByte) ∧
        (∀ x, x < 4096 * e.sector ∨ 4096 * e.sector + 4096 ≤ x →
          cellRead erasedByte t.store.array x = cellRead erasedByte s.store.array x) ∧
        (t.store.areaState a).sectorSeq = (s.store.areaState a).sectorSeq + 1 ∧ counted t) ∧
      (∃ t, exec (.sectorEraseComplete dt false) s = .next t ∧ e.sector ∈ t.store.retired ∧ t.store.array = s.store.array ∧ counted t)) ∧
    (∀ ok, 128 ≤ e.sector → e.row ≤ 1 → ∃ t, exec (.sectorEraseComplete dt ok) s = .next t ∧ t.store.row = 1 - e.row ∧
      (∀ i, 32 ≤ i → i < 4096 → cellRead erasedByte t.store.ledger (4096 * (1 - e.row) + i) = 0xFF) ∧ t.store.array = s.store.array ∧
      State.keeps [.store, .ledger, .rt] u t)) ∧
  (∀ (dt : Nat) (a : Area) (s : State),
    let u := s.elapse dt
    let x := s.store.areaState a
    (s.power.logicOn = true → x.accruedAt + areaPeriod a ≤ u.localNow → ∃ t, exec (.eraseCreditAccrual dt a) s = .next t ∧
      (t.store.areaState a).credit = min (areaCap a) (x.credit + 1) ∧ (t.store.areaState a).accruedAt = x.accruedAt + areaPeriod a ∧
      t.store.array = s.store.array ∧ t.store.queue = s.store.queue ∧ (∀ b, b ≠ a → t.store.areaState b = s.store.areaState b) ∧
      State.keeps [.store] u t) ∧
    (s.power.logicOn = false ∨ u.localNow < x.accruedAt + areaPeriod a → exec (.eraseCreditAccrual dt a) s = .next u))

/-- Loading (R366, R373, R374, R376, R377), behind the gate and what it held back (R62, R64). -/
def Obligations.LoadingTouchesTheLoadTarget : Prop :=
  (∀ (w : QueuedWrite) (s : State), w.isCopy = false → w.via = none → w.index = 0x5000 →
    let t := s.applyWrite false w
    let data := leBytes w.len w.value
    let at_ := bankBase s.loadTarget + s.images.loadOffset
    let refused (code : Nat) : Prop := t.images = { s.images with loadStatus := code } ∧ t.le = s.le ∧
      t.dict.response.map (fun a => (a.error, a.detail)) = some (0x800E, code)
    (w.sub = 5 ∨ w.sub = 7 → t.images.active = s.images.active ∧ t.images.image = s.images.image ∧
      State.keeps [.images, .dict, .store, .le] s t) ∧
    (w.sub = 5 → w.value = 1 → t.le = s.le ∧
      (s.loadCommandRefusal = 0 → t.images.loadStatus = 1 ∧ (t.images.bank s.loadTarget).state = .erasing ∧
        (∀ why, t.images.validating ≠ some (s.loadTarget, why)) ∧ t.dict.response.map (fun a => a.error) = some 0) ∧
      (s.loadCommandRefusal ≠ 0 → refused s.loadCommandRefusal)) ∧
    (w.sub = 5 → w.value = 2 → t.le = s.le ∧ t.images = { s.images with loadStatus := if s.exchangeBars then 0x84 else 0 }) ∧
    (w.sub = 7 → s.dataRefusal data.length ≠ 0 → refused (s.dataRefusal data.length)) ∧
    (w.sub = 7 → s.dataRefusal data.length = 0 →
      (s.store.heldLeft = 0 → t.store.deferred = s.store.deferred ∧
        (∀ i, i < data.length → cellRead erasedByte t.le.flash (at_ + i) = data.getD i 0) ∧
        (∀ x, x < at_ ∨ at_ + data.length ≤ x → cellRead erasedByte t.le.flash x = cellRead erasedByte s.le.flash x)) ∧
      (s.store.heldLeft ≠ 0 → t.le = s.le ∧ t.store.deferred = s.store.deferred ++ [(at_, data)]) ∧
      t.images.loadOffset = s.images.loadOffset + data.length ∧
      (t.images.bank s.loadTarget).state = (if s.images.loadOffset = 0 then .validating else .loading) ∧
      (s.images.loadOffset = 0 → t.images.validating = some (s.loadTarget, .load)) ∧
      t.dict.response.map (fun a => a.error) = some 0)) ∧
  (∀ (dt : Nat) (s : State),
    let u := s.elapse dt
    (s.erasingBank = none ∨ s.power.gateClosed = true ∨ s.store.heldLeft ≠ 0 → exec (.imageEraseComplete dt) s = .next u) ∧
    (∀ b, s.erasingBank = some b → s.power.gateClosed = false → s.store.heldLeft = 0 → ∃ t, exec (.imageEraseComplete dt) s = .next t ∧
      (∀ x, cellRead erasedByte t.le.flash x =
        (if bankBase b ≤ x ∧ x < bankBase b + 0x40000 then 0xFF else cellRead erasedByte s.le.flash x)) ∧
      (t.images.bank b).state = .blank ∧ (t.images.bank b).erases = min ((s.images.bank b).erases + 1) 0xFFFFFFFF ∧
      t.images.active = s.images.active ∧ t.images.image = s.images.image ∧ State.keeps [.images, .le, .store] u t) ∧
    (s.images.validating = none ∨ s.store.deferred ≠ [] → exec (.bankValidationComplete dt) s = .next u) ∧
    (∀ b why, s.images.validating = some (b, why) → s.store.deferred = [] → ∃ t, exec (.bankValidationComplete dt) s = .next t ∧ t.images.validating = none ∧
      (t.images.bank b).reason = u.bankReason b ∧ ((t.images.bank b).state = .valid ↔ u.bankReason b = 0) ∧
      (why = .load → t.images.loadStatus = if u.bankReason b = 0 then 4 else 5) ∧ t.images.active = s.images.active ∧
      t.images.image = s.images.image ∧ State.keeps [.images, .ledger, .store] u t))

/-- Selection (R378) and online exchange (R379 to R381, R194, R204). -/
def Obligations.ImagesAreSelectedAndExchanged : Prop :=
  (∀ (w : QueuedWrite) (s : State), w.isCopy = false → w.via = none → w.index = 0x5000 → w.sub = 2 →
    let t := s.applyWrite false w
    let bank := w.value
    (s.bankReason bank = 0 → (s.images.bank bank).state ≠ .erasing →
      t.images.active = bank ∧ t.images.image = some (s.loadImage bank) ∧
      t.images.codeConstant = (s.imageHeader bank).codeConstant ∧ t.lib = { s.lib with blocks := s.loadBlocks bank } ∧
      t.zop = (State.syncHeld (State.selectImage bank s)).zop ∧
      (s.zop.peers = [] → t.zop = { s.zop with conns := s.loadConnections bank }) ∧ t.imageBankSelect = bank ∧
      t.dict.response.map (fun a => a.error) = some 0) ∧
    (s.bankReason bank ≠ 0 ∨ (s.images.bank bank).state = .erasing →
      t.images.active = s.images.active ∧ t.images.image = s.images.image ∧ t.lib = s.lib ∧ t.zop = s.zop ∧
      t.dict.values = s.dict.values ∧ t.dict.response.map (fun a => (a.error, a.detail)) = some (0x800E, s.bankReason bank)) ∧
    State.keeps [.images, .lib, .zop, .dict, .store, .ledger, .xch, .le] s t) ∧
  (∀ (a : Machine.Access) (u : State),
    let t := u.exchangeWrite a
    (u.roleRefusal ≠ 0 → t.images = u.images ∧
      t.dict.response.map (fun x => (x.error, x.detail)) = some (0x800E, u.mirror.role) ∧ State.keeps [.dict] u t) ∧
    (u.roleRefusal = 0 → a.value = cancelTick → t.images = { u.images with
        pending := none
        exchangeStatus := if u.images.pending.isSome then 0x8C else u.images.exchangeStatus } ∧
      t.dict.response.map (fun x => x.error) = some 0 ∧ State.keeps [.images, .dict, .store] u t) ∧
    (u.roleRefusal = 0 → a.value ≠ cancelTick → u.exchangeRefusal a.value = 0 → t.images = { u.images with
        exchangeStatus := 1
        pending := some { at_ := a.value, ready := false } } ∧
      t.dict.response.map (fun x => x.error) = some 0 ∧ State.keeps [.images, .dict, .store] u t) ∧
    (u.roleRefusal = 0 → a.value ≠ cancelTick → u.exchangeRefusal a.value ≠ 0 →
      t.images = { u.images with exchangeStatus := u.exchangeRefusal a.value } ∧
      t.dict.response.map (fun x => (x.error, x.detail)) = some (0x800E, u.exchangeRefusal a.value) ∧ State.keeps [.images, .dict] u t)) ∧
  (∀ (dt : Nat) (e : Exchanging) (s : State), s.images.pending = some e →
    let u := s.elapse dt
    let first : Prop := s.rt.passesRunning = true ∧ s.rt.libDone = false ∧ s.rt.passTag = s.rt.boundary
    exec (.exchangeReady dt) s = .next (if e.ready then u
      else { u with images := { u.images with pending := some { e with ready := true }, exchangeStatus := 2 } }) ∧
    (e.at_ ≠ s.rt.boundary → exec (.exchangeSwitch dt none) s = .next u) ∧
    (e.at_ = s.rt.boundary → s.rt.state ≠ .run →
      exec (.exchangeSwitch dt none) s = .next { u with images := { u.images with pending := none, exchangeStatus := 0x8C } }) ∧
    (s.rt.state = .run → s.rt.passesRunning = false ∨ s.rt.libDone = true ∨ s.rt.passTag ≠ s.rt.boundary →
      exec (.exchangeSwitch dt none) s = .next u) ∧
    (e.at_ = s.rt.boundary → s.rt.state = .run → first → s.power.gateClosed = true →
      exec (.exchangeSwitch dt none) s = .next { u with images := { u.images with pending := none, exchangeStatus := 0x8B } }) ∧
    (e.at_ = s.rt.boundary → s.rt.state = .run → first → s.power.gateClosed = false → e.ready = false →
      exec (.exchangeSwitch dt none) s = .next { u with images := { u.images with pending := none, exchangeStatus := 0x8A } }) ∧
    (e.at_ = s.rt.boundary → s.rt.state = .run → first → s.power.gateClosed = false → e.ready = true →
      (s.imageHeader s.loadTarget).codeConstant = s.images.codeConstant →
      ∃ t, exec (.exchangeSwitch dt none) s = .next t ∧ t.images.active = s.loadTarget ∧ t.images.pending = none ∧
        t.images.image = some (s.loadImage s.loadTarget) ∧ t.images.switched = some (s.rt.boundary, s.images.active) ∧
        t.lib.blocks = s.exchangedBlocks (s.loadBlocks s.loadTarget) ∧
        t.zop.conns.map (fun c => c.connId) = (s.loadConnections s.loadTarget).map (fun c => c.connId) ∧
        t.passes.sigPlain = 0xFFFFFFFF ∧ t.passes.sigShadow = 0xFFFFFFFF ∧ t.passes.position = 0 ∧ t.le.flash = s.le.flash ∧
        State.keeps [.le, .lib, .images, .zop, .passes, .xch, .ledger, .store, .freeCount] u t) ∧
    (∀ trapAt off, e.at_ = s.rt.boundary → s.rt.state = .run → first → s.power.gateClosed = false →
      e.ready = true → (s.imageHeader s.loadTarget).codeConstant ≠ s.images.codeConstant →
      trapAt = some off ∨ (trapAt = none ∧ u.recodeRegions (u.imageHeader u.loadTarget).codeConstant
        (u.carriedRegions (u.loadBlocks u.loadTarget)) = .inl off) →
      exec (.exchangeSwitch dt trapAt) s = .next (u.passFault 0x0403 off))) ∧
  ∀ (dt : Nat) (w : Option Nat) (s : State), s.images.pending = none →
    exec (.exchangeReady dt) s = .next (s.elapse dt) ∧ exec (.exchangeSwitch dt w) s = .next (s.elapse dt)

/-- Image integrity (R375, R389) and the library's commands (R345, R354, R523). -/
def Obligations.ImageIntegrityAndLibraryCommands : Prop :=
  (∀ (dt crc : Nat) (s : State), s.images.image = none →
    exec (.imageCrcScan dt crc) s = .next (s.elapse dt) ∧ exec (.imageUncorrectableRead dt) s = .next (s.elapse dt)) ∧
  (∀ (dt crc : Nat) (i : ActiveImage) (s : State), s.images.image = some i →
    let u := s.elapse dt
    (i.crc = crc → exec (.imageCrcScan dt crc) s = .next { u with rt := { u.rt with
      active := s.rt.active.filter (fun c => c != 0x0407) } }) ∧
    (i.crc ≠ crc → ∃ t, exec (.imageCrcScan dt crc) s = .next t ∧ (s.rt.state = .hold → 0x0407 ∈ t.rt.active) ∧
      (s.rt.state ≠ .hold → (∀ d ∈ s.rt.detected, d.cause ≠ 0x0407) → t.waits 0x0407 .nonRecoverable) ∧ State.keeps [.rt] u t) ∧
    (∃ t, exec (.imageUncorrectableRead dt) s = .next t ∧ (s.rt.state = .hold → 0x0408 ∈ t.rt.active ∧ t.field.faultLine = true) ∧
      (s.rt.state ≠ .hold → s.rt.cycling = true → t.waits 0x0408 .nonRecoverable ∧ t.field.faultLine = true ∧ t.field.images = []) ∧
      (s.rt.state = .hold ∨ s.rt.cycling = true → State.tokenStopped u t) ∧
      (s.rt.state ≠ .hold → s.rt.cycling = false → t.mirror = s.mirror) ∧
      State.keeps [.rt, .boot, .field, .glint, .ledger, .mirror] u t)) ∧
  (∀ (w : QueuedWrite) (s : State), w.isCopy = false → w.via = none → 0x4001 ≤ w.index → w.index < 0x5000 →
    let t := s.applyWrite false w
    let answered : Prop := t.dict.response.map (fun a => a.error) = some (if s.roleRefusal = 0 then 0 else 0x800E) ∧
      State.keeps [.lib, .dict, .store] s t
    (w.sub = 5 → answered ∧
      t.lib = (if s.roleRefusal = 0 then { s.lib with ackPending := s.lib.ackPending ++ [w.index - 0x4000] } else s.lib)) ∧
    (w.sub = 0xA → answered ∧ t.lib = (if s.roleRefusal = 0 then { s.lib with dirPending := some w.value } else s.lib)))

/-! ### The ZOP network (ch. 17) -/

/-- Reception (R474, R477, R479, R480, R483, R503, R74), presence (R485) and bus-off (R498). -/
def Obligations.FramesPresenceAndBusOff : Prop :=
  (∀ (dt id : Nat) (ch : CanChannel) (d : List Byte) (fd ide esi : Bool) (s : State),
    let u := s.elapse dt
    let taken : Prop := s.rt.cycling = true ∧ (s.zop.can ch).up = true ∧ fd = true ∧ ide = false ∧ d.length ∈ fdLengths ∧ id < 0x800 ∧
      u.startingUp 46 = false ∧ u.startingUp (match ch with | .a => 50 | .b => 51) = false
    (∃ t, exec (.canFrameReceive dt ch id d fd ide esi) s = .next t ∧
      State.keeps [.rt, .clock, .xch, .store, .dict, .zop, .mirror, .ledger, .le] u t) ∧
    (¬ taken → exec (.canFrameReceive dt ch id d fd ide esi) s = .next u) ∧
    (taken → versionOk d = false → exec (.canFrameReceive dt ch id d fd ide esi) s = .next
      (if esi then u.modCan ch (fun c => { c with esiAt := some u.localNow }) else u)) ∧
    (taken → versionOk d = true → s.ownIdentifier id d = true → ∃ t, exec (.canFrameReceive dt ch id d fd ide esi) s = .next t ∧
      0x0A09 ∈ t.rt.active ∧ t.zop.conflictAt = some u.localNow ∧ State.keeps [.rt, .zop] u t) ∧
    (taken → versionOk d = true → s.ownIdentifier id d = false → esi = false →
      (0x300 ≤ id ∧ id < 0x400 ∧ (id - 0x300) % 16 + 1 = s.zop.nodeId) ∨
        (0x100 ≤ id ∧ id < 0x200 ∧ ∃ c ∈ s.zop.conns, c.role = 2 ∧ c.connId = id - 0x100) →
      let recent := s.zop.posted.filter (fun p => decide (u.localNow < p.2.2 + us s.rt.cycleUs))
      let x : XchPost := { target := .le, kind := 2, payload := receivedPayload id ch u.now d }
      let again := recent.any (fun p => p.1 == id && p.2.1 == d)
      (again = true → exec (.canFrameReceive dt ch id d fd ide esi) s = .next { u with zop := { u.zop with posted := recent } }) ∧
      (again = false → ∃ t, exec (.canFrameReceive dt ch id d fd ide esi) s = .next t ∧
        t.zop = { u.zop with posted := recent ++ [(id, d, u.localNow)] } ∧
        (s.xch.buffers.length = 128 → XchTask.deliver x ∈ t.xch.ceTasks ∨ State.claimedFor .ce x t) ∧
        (s.xch.buffers.length = 128 → s.xch.ceTasks = [] → s.xch.portBusy .ce = false → u.startingUp 48 = false → u.freeBuffer .ce ≠ none →
          State.claimedFor .ce x t) ∧
        State.keeps [.zop, .xch] u t))) ∧
  (∀ (dt node runState period : Nat) (s : State),
    let u := s.elapse dt
    (s.rt.cycling = true → s.zop.heartbeatAt + us s.zop.heartbeatUs ≤ u.localNow → ∃ t, exec (.heartbeatSend dt) s = .next t ∧
      t.zop.heartbeatAt = u.localNow ∧
      (∀ ch, (s.zop.can ch).accepts = true → (t.zop.can ch).queue = enqueue
        { id := 0x200 + s.zop.nodeId, brs := s.zop.dataRate != 0
          data := s.zopHeader false ++ leBytes 1 s.rt.state.code ++ leBytes 1 s.clock.sync.code ++ leBytes 1 s.mirror.role ++
            leBytes 1 s.otp.lifecycle ++ leBytes 2 (s.zop.heartbeatUs / 10000) } (s.zop.can ch).queue) ∧
      (∀ ch, (s.zop.can ch).accepts = false → t.zop.can ch = s.zop.can ch) ∧ State.keeps [.zop] u t) ∧
    (s.rt.cycling = false ∨ u.localNow < s.zop.heartbeatAt + us s.zop.heartbeatUs → exec (.heartbeatSend dt) s = .next u) ∧
    (∃ t, exec (.heartbeat dt node runState period) s = .next t ∧
      (s.rt.cycling = true → 1 ≤ node → node ≤ 16 →
        ({ node := node, at_ := u.localNow, period := period } : HeardNode) ∈ t.zop.nodes ∧
        (∀ n ∈ t.zop.nodes, n.node = node → n = { node := node, at_ := u.localNow, period := period })) ∧
      (s.rt.cycling = false ∨ node = 0 ∨ 16 < node → t = u) ∧
      (∀ n, n.node ≠ node → (n ∈ t.zop.nodes ↔ n ∈ s.zop.nodes)) ∧ t.zop = { u.zop with nodes := t.zop.nodes } ∧
      State.keeps [.zop] u t) ∧
    ∃ t, exec (.nodePresenceTimeout dt node) s = .next t ∧
      (∀ n, n ∈ t.zop.nodes ↔ n ∈ s.zop.nodes ∧ (n.node = node → u.localNow ≤ n.at_ + 3 * ms (10 * n.period))) ∧
      t.zop = { u.zop with nodes := t.zop.nodes } ∧ State.keeps [.zop] u t) ∧
  ∀ (dt : Nat) (ch : CanChannel) (s : State),
    let u := s.elapse dt
    let c := s.zop.can ch
    let recent := c.busOffs.filter (fun t => decide (u.localNow < t + ms 60000)) ++ [u.localNow]
    (s.rt.cycling = false ∨ c.up = false → exec (.busOff dt ch) s = .next u) ∧
    (s.rt.cycling = true → c.up = true → ∃ t, exec (.busOff dt ch) s = .next t ∧ (t.zop.can ch).queue = [] ∧
      (t.zop.can ch).busOff = true ∧ (t.zop.can ch).busOffCount = sat32 (c.busOffCount + 1) ∧
      t.zop.txDiscard = sat32 (s.zop.txDiscard + c.queue.length) ∧ (∀ x ∈ t.zop.transfers, x.channel ≠ ch) ∧
      (∀ o, o ≠ ch → t.zop.can o = s.zop.can o) ∧ State.logs 0x0A06 [] u t ∧
      (t.zop.can ch).disabled = decide (8 ≤ recent.length) ∧ (8 ≤ recent.length → State.logs 0x0A07 [] u t) ∧
      State.keeps [.zop, .ledger, .store] u t) ∧
    (c.busOff = true → c.recovering = true → (∀ x ∈ c.busOffs, x + ms 10 ≤ u.localNow) → c.busOffs ≠ [] →
      exec (.busOffRecoveryStart dt ch) s = .next (u.modCan ch (fun x => { x with sequence := true }))) ∧
    (c.busOff = false ∨ c.recovering = false → exec (.busOffRecoveryStart dt ch) s = .next u) ∧
    (c.busOff = false ∨ c.sequence = false → exec (.busOffRecoveryComplete dt ch) s = .next u) ∧
    (c.busOff = true → c.sequence = true → ∃ t, exec (.busOffRecoveryComplete dt ch) s = .next t ∧
      (t.zop.can ch).busOff = false ∧ (t.zop.can ch).disabled = c.disabled ∧ (∀ o, o ≠ ch → t.zop.can o = s.zop.can o) ∧
      t.zop.conns = (if s.zop.allDown then
        s.zop.conns.map (fun k => if k.role == 1 then ({ k with seqNext := 0, resync := true } : Connection) else k) else s.zop.conns) ∧
      State.keeps [.zop] u t)

/-- Sessions (R487 to R489, R497) and data connections (R490 to R494); the order of the LE's tasks at its port is the model's (log entry 75). -/
def Obligations.SessionsAndConnections : Prop :=
  (∀ (dt : Nat) (s : State),
    let u := s.elapse dt
    let due : Prop := s.rt.cycling = true ∧ (s.zop.announceDue = true ∨ (s.zop.announcedAt = none ∧ s.rt.state = .hold) ∨
      ∃ t, s.zop.announcedAt = some t ∧ t + ms 1000 ≤ u.localNow)
    (¬ due ∨ s.zop.session = 2 → exec (.announceSend dt) s = .next u) ∧
    (due → s.zop.session ≠ 2 → ∃ t, exec (.announceSend dt) s = .next t ∧
      t.zop = { u.zop with announceDue := false, announcedAt := some u.localNow } ∧ State.lePosted (0x070 + s.zop.nodeId) u.announceFrame u t ∧
      u.announceFrame.length = 32 ∧ leAt u.announceFrame 2 1 = 1 ∧ leAt u.announceFrame 4 4 = s.zop.epoch % 2 ^ 32 ∧
      State.keeps [.zop, .xch, .ledger, .store] u t)) ∧
  (∀ (dt : Nat) (d : List Byte) (s : State),
    let u := s.elapse dt
    let node := sourceOf d
    let heard : Prop := s.rt.cycling = true ∧ versionOk d = true ∧ s.zop.session ≠ 2
    let valid : Prop := heard ∧ s.checkOk d = true ∧ 1 ≤ node ∧ node ≤ 16
    let said : Announced := { node := node, uid := leAt d 8 16, epoch := leAt d 4 4 }
    (¬ heard → exec (.announce dt d) s = .next u ∧ exec (.resyncRequest dt d) s = .next u) ∧
    (heard → s.checkOk d = false → (∃ t, exec (.announce dt d) s = .next t ∧ State.onlyLogs u t) ∧
      ∃ t, exec (.resyncRequest dt d) s = .next t ∧ State.onlyLogs u t) ∧
    (heard → s.checkOk d = true → node = 0 ∨ 16 < node → exec (.announce dt d) s = .next u ∧ exec (.resyncRequest dt d) s = .next u) ∧
    (valid → leAt d 2 1 = 1 → node ≠ s.zop.nodeId → s.peer node = some said →
      exec (.announce dt d) s = .next u) ∧
    (valid → leAt d 2 1 = 1 → node ≠ s.zop.nodeId → s.peer node ≠ some said →
      ∃ t, exec (.announce dt d) s = .next t ∧ t.peer node = some said ∧ (∀ n, n ≠ node → t.peer n = s.peer n) ∧
        (∀ (i : Nat) (c : Connection), s.zop.conns[i]? = some c → ∃ k, t.zop.conns[i]? = some k ∧
          ((c.role = 2 ∧ if c.source = 0 then node = c.peer ∨ node = twinOf c.peer else node = c.source) →
            k = { c with state := 1, payload := [], requestedAt := some u.localNow }) ∧
          (¬ (c.role = 2 ∧ if c.source = 0 then node = c.peer ∨ node = twinOf c.peer else node = c.source) → k = c)) ∧
        (∀ q ∈ t.zop.dictSeqs, q.node = node → q.last = none ∧ q.answer = []) ∧
        State.keeps [.zop, .xch, .ledger, .store] u t) ∧
    (valid → leAt d 2 1 = 1 → node = s.zop.nodeId → leAt d 8 16 ≠ s.boot.uid →
      ∃ t, exec (.announce dt d) s = .next t ∧ 0x0A09 ∈ t.rt.active ∧ t.zop.peers = s.zop.peers ∧ State.keeps [.zop, .rt] u t) ∧
    (valid → leAt d 2 1 = 2 → exec (.resyncRequest dt d) s = .next
      (if leAt d 8 4 = s.zop.epoch then { u with zop := { u.zop with conns := s.zop.conns.map (fun c =>
        if c.role == 1 && c.connId == leAt d 4 2 then ({ c with resync := true } : Connection) else c) } }
      else { u with zop := { u.zop with announceDue := true } }))) ∧
  (∀ (dt i : Nat) (c : Connection) (s : State), s.zop.conns[i]? = some c →
    let u := s.elapse dt
    let due : Prop := s.rt.cycling = true ∧ c.role = 2 ∧ c.state = 1 ∧ ∀ t, c.requestedAt = some t → t + us c.wdTime ≤ u.localNow
    (¬ due → exec (.resyncRequestRepeat dt i) s = .next u) ∧
    (due → ∃ t, exec (.resyncRequestRepeat dt i) s = .next t ∧
      t.zop.conns = s.zop.conns.modify i (fun x => { x with requestedAt := some u.localNow }) ∧
      State.lePosted (0x070 + s.zop.nodeId) (u.resyncFrame c) u t ∧ (u.resyncFrame c).length = 16 ∧
      leAt (u.resyncFrame c) 2 1 = 2 ∧ leAt (u.resyncFrame c) 4 2 = c.connId % 2 ^ 16 ∧
      leAt (u.resyncFrame c) 8 4 = ((s.peer (consumedFrom c)).map (fun p => p.epoch)).getD 0 % 2 ^ 32 ∧
      State.keeps [.zop, .xch, .ledger, .store] u t) ∧
    let expired : Prop := s.rt.cycling = true ∧ c.role = 2 ∧ c.state = 2 ∧ c.wdFrom + us c.wdTime ≤ (s.rt.boundary : Instant)
    (¬ expired → exec (.connectionWatchdogExpiry dt i) s = .next u) ∧
    (expired → ∃ t, exec (.connectionWatchdogExpiry dt i) s = .next t ∧
      t.zop.conns = s.zop.conns.modify i (fun x => { x with
        state := 3, payload := [], wdExpiries := sat32 (x.wdExpiries + 1), requestedAt := some u.localNow }) ∧
      t.zop.connFault = (if s.zop.connFault = 0xFF then i else s.zop.connFault) ∧ State.logs 0x0A01 [] u t ∧
      State.keeps [.zop, .xch, .ledger, .store] u t)) ∧
  ∀ (dt id i : Nat) (d : List Byte) (c : Connection) (s : State),
    s.zop.conns.findIdx? (fun x => x.role == 2 && x.connId == id) = some i → s.zop.conns[i]? = some c → s.rt.cycling = true →
      versionOk d = true → sourceOf d = c.peer ∨ sourceOf d = twinOf c.peer →
    let u := s.elapse dt
    let node := sourceOf d
    let n := 12 + 4 * c.words
    let seq := leAt d 2 2
    let stamp := leAt d 4 8
    let aged := u.synced && bitOf (leAt d 0 1) 3
    let ref := if aged then stamp else u.now
    let gap := (seq + 65536 - c.seqNext) % 65536
    let conns (f : Connection → Connection) (t : State) : Prop :=
      exec (.zopsDataFrame dt id d) s = .next t ∧ t.zop = { u.zop with conns := s.zop.conns.modify i f } ∧
        State.keeps [.zop, .ledger, .store] u t
    let error (x : Connection) : Connection := { x with seqErrors := sat32 (x.seqErrors + 1) }
    let deliver (x : Connection) : Connection := { x with
      seqNext := seq, seqLast := seq, timeLast := stamp, wdFrom := ref
      payload := (List.range c.words).map (fun w => BitVec.ofNat 32 (leAt d (12 + 4 * w) 4)) }
    (s.peer node = none → exec (.zopsDataFrame dt id d) s = .next u) ∧
    ∀ p, s.peer node = some p →
      let good : Prop := d.length = dataLength c.words ∧ (∀ b ∈ d.drop (n + 4), b = 0) ∧
        leAt d n 4 = seededCrc (s.sessionSeed p.uid c.connId node s.receiverId p.epoch) (d.take n)
      let young : Prop := aged = true → stamp ≤ u.now + 200 ∧ u.now ≤ stamp + us c.wdTime
      (¬ good → ∃ t, conns (fun x => { x with crcErrors := sat32 (x.crcErrors + 1) }) t) ∧
      (good → ¬ young → ∃ t, conns error t ∧ t.ledger = u.ledger) ∧
      (good → young → bitOf (leAt d 0 1) 2 = true → c.state = 1 ∨ c.state = 3 →
        ∃ t, conns (fun x => { x with state := 2, seqNext := seq, source := node, wdFrom := ref, payload := [] }) t) ∧
      (good → young → bitOf (leAt d 0 1) 2 = true → c.state = 2 →
        ∃ t, conns (fun x => { x with seqNext := seq, source := node }) t ∧ State.logs 0x0A0A [] u t) ∧
      (good → young → bitOf (leAt d 0 1) 2 = false → c.state = 1 ∨ c.state = 3 → ∃ t, conns error t) ∧
      (good → young → bitOf (leAt d 0 1) 2 = false → c.state = 2 → node = consumedFrom c →
        (gap = 0 → exec (.zopsDataFrame dt id d) s = .next u) ∧ (gap = 1 → ∃ t, conns deliver t) ∧
        (1 < gap → gap < 32768 → ∃ t, conns (fun x => deliver (error x)) t) ∧
        (32768 ≤ gap → ∃ t, conns error t ∧ State.logs 0x0A03 [] u t))

/-! ### Mirror pairs (ch. 18) -/

/-- Link, token and loop (R511, R514 to R517, R538, R74). -/
def Obligations.LinkTokenAndLoop : Prop :=
  (∀ (dt : Nat) (d : List Byte) (s : State),
    let u := s.elapse dt
    let known (x : TwinStatus) : TwinStatus := { x with codeConstant := match s.mirror.twin with
      | some y => if y.imageSequence = x.imageSequence ∧ y.imageCrc = x.imageCrc then y.codeConstant else 0
      | none => 0 }
    let late (x : TwinStatus) : Prop := x.flags.getLsbD 0 = true ∧ s.mirror.twinToken = false ∧ s.mirror.twinTokenAt + us 10 ≤ u.now
    (u.linked = false → exec (.status dt d) s = .next u) ∧
    (u.linked = true → parseStatus 0 d = none →
      exec (.status dt d) s = .next { u with mirror := { u.mirror with linkErrors := sat32 (s.mirror.linkErrors + 1) } }) ∧
    (∀ x, u.linked = true → parseStatus 0 d = some x → ∃ t, exec (.status dt d) s = .next t ∧ t.mirror.twin = some (known x) ∧
      t.mirror.linkOk = true ∧ t.mirror.missed = (if s.mirror.linkOk then s.mirror.missed else 0) ∧ t.mirror.role = s.mirror.role ∧
      t.mirror.token = s.mirror.token ∧ t.mirror.pairStop = (if x.flags.getLsbD 1 then some x.stopTarget else s.mirror.pairStop) ∧
      (late x → t.mirror.tokenFault = true ∧ (s.mirror.tokenFault = false → State.logs 0x0B04 [] u t)) ∧
      (¬ late x → t.ledger = u.ledger ∧ (x.flags.getLsbD 0 = s.mirror.twinToken → t.mirror.tokenFault = false)) ∧
      State.keeps [.mirror, .ledger, .store] u t)) ∧
  ∀ (dt : Nat) (on intact : Bool) (s : State),
    let u := s.elapse dt
    (u.linked = true → s.mirror.linkOk = true → 3 ≤ s.mirror.missed → ∃ t, exec (.mirrorLinkLost dt) s = .next t ∧
      t.mirror.linkOk = false ∧ t.mirror.role = (if s.mirror.role = 2 then 3 else s.mirror.role) ∧ State.logs 0x0B02 [] u t ∧
      State.keeps [.mirror, .ledger, .store] u t) ∧
    (u.linked = false ∨ s.mirror.linkOk = false ∨ s.mirror.missed < 3 → exec (.mirrorLinkLost dt) s = .next u) ∧
    (s.mirror.twinToken = on → exec (.twinTokenChange dt on) s = .next u) ∧
    (s.mirror.twinToken ≠ on → ∃ t, exec (.twinTokenChange dt on) s = .next t ∧ t.mirror.twinToken = on ∧
      t.mirror.twinTokenAt = u.now ∧ t.mirror.contentionSince = (if on && s.mirror.token then some u.now else none) ∧
      t.mirror.token = s.mirror.token ∧ t.mirror.role = s.mirror.role ∧
      (∀ n, n < s.field.channels.length → n < 32 →
        t.ch n = { s.ch n with driven := t.driverLevel n, discharge := t.discharges n }) ∧
      t.field = { u.field with channels := t.field.channels } ∧ t.ledger = { u.ledger with breaks := t.ledger.breaks } ∧
      State.keeps [.mirror, .field, .ledger] u t) ∧
    (∀ t0, s.mirror.contentionSince = some t0 → s.rt.cycling = true → s.mirror.token = true → s.mirror.twinToken = true →
      t0 + us 10 ≤ u.now → ∃ t, exec (.tokenContention dt) s = .next t ∧ 0x0B05 ∈ t.rt.active ∧
        (0x0B05 ∉ s.rt.active → t.waits 0x0B05 .recoverable) ∧ State.keeps [.rt] u t) ∧
    (s.mirror.contentionSince = none ∨ s.rt.cycling = false ∨ s.mirror.token = false ∨ s.mirror.twinToken = false →
      exec (.tokenContention dt) s = .next u) ∧
    ∃ t, exec (.presenceLoopChange dt intact) s = .next t ∧ t.mirror.loopOk = intact ∧
      (s.mirror.loopOk = true → intact = false → s.rt.cycling = true → s.pairMember = true → State.logs 0x0B03 [] u t) ∧
      (s.mirror.loopOk = false ∨ intact = true ∨ s.rt.cycling = false ∨ s.pairMember = false → t = { u with mirror := { u.mirror with loopOk := intact } }) ∧
      State.keeps [.mirror, .ledger, .store] u t

/-- Snapshots (R518, R521, R522), roles (R524), takeover (R527, R528) and replacement (R533). -/
def Obligations.SnapshotsRolesAndTakeover : Prop :=
  (∀ (claim : Bool) (seq tag a : Nat) (i : ActiveImage) (native coded tail : List Byte) (blocks : List Block),
    coded.length = 2 * native.length → tail.length ≤ 512 → 580 + 3 * native.length < 2 ^ 32 →
    let f : SnapshotFrame := { bytes := snapshotBytes claim seq tag i a native coded tail, blocks := blocks }
    f.bytes.length = 580 + 3 * native.length ∧ snapLength f = f.bytes.length ∧ snapN f = native.length ∧ snapSeq f = seq % 2 ^ 32 ∧
      snapClaim f = claim ∧ snapReserved f = true ∧ snapCrcOk f = true ∧ snapTail f = tail) ∧
  (∀ (dt : Nat) (f : SnapshotFrame) (s : State), snapCut f = true → exec (.snapshotReceived dt f) s = .next (s.elapse dt)) ∧
  (∀ (dt : Nat) (f : SnapshotFrame) (s : State), snapCut f = false →
    let u := s.elapse dt
    let takes : Prop := u.linked = true ∧ s.rt.state = .run ∧ (s.mirror.role = 2 ∨ s.mirror.role = 3)
    (u.linked = false → exec (.snapshotReceived dt f) s = .next u) ∧
    (takes → u.snapshotOk f = true → ∃ t, exec (.snapshotReceived dt f) s = .next t ∧ t.mirror.store = some f ∧
      t.mirror.storeNew = true ∧ t.mirror.rejectCount = s.mirror.rejectCount ∧ t.mirror.linkOk = true ∧
      State.keeps [.mirror, .ledger, .store] u t) ∧
    (takes → u.snapshotOk f = false → ∃ t, exec (.snapshotReceived dt f) s = .next t ∧ t.mirror.store = s.mirror.store ∧
      t.mirror.storeNew = s.mirror.storeNew ∧ t.mirror.rejectCount = sat32 (s.mirror.rejectCount + 1) ∧
      State.keeps [.mirror, .ledger, .store] u t) ∧
    (u.linked = true → ¬ takes → ∃ t, exec (.snapshotReceived dt f) s = .next t ∧ t.mirror.store = s.mirror.store ∧
      t.mirror.rejectCount = s.mirror.rejectCount ∧
      t.mirror.linkErrors = (if snapCrcOk f then s.mirror.linkErrors else sat32 (s.mirror.linkErrors + 1)) ∧
      State.keeps [.mirror, .ledger, .store] u t)) ∧
  (∀ (dt : Nat) (s : State),
    let u := s.elapse dt
    (u.linked = true → s.mirror.stale = 3 → ∃ t, exec (.snapshotStale dt) s = .next t ∧ State.logs 0x0B0A [] u t ∧
      t.mirror.role = (if s.mirror.role = 2 then 3 else s.mirror.role) ∧ State.keeps [.mirror, .ledger, .store] u t) ∧
    (u.linked = false ∨ s.mirror.stale ≠ 3 → exec (.snapshotStale dt) s = .next u) ∧
    (s.rt.state = .run → s.mirror.roleDue = true → s.rt.runSince + us 10 ≤ u.now → ∃ t, exec (.roleDecision dt) s = .next t ∧
      t.mirror.roleDue = false ∧ t.mirror.role = s.entryRole ∧ (t.mirror.role = 1 ∨ t.mirror.role = 3) ∧
      (s.mirror.twinToken = true → t.mirror.role = 3) ∧ (t.mirror.role = 3 → t.mirror.token = s.mirror.token) ∧
      (t.mirror.role = 1 → s.field.safeState = false → s.mirror.twinTokenAt + us 20 ≤ u.now → t.mirror.token = true) ∧
      State.keeps [.mirror, .field, .ledger] u t) ∧
    (s.rt.state ≠ .run ∨ s.mirror.roleDue = false ∨ u.now < s.rt.runSince + us 10 → exec (.roleDecision dt) s = .next u) ∧
    let lost : Prop := s.mirror.twinToken = false ∧ s.mirror.twinTokenAt + us 10 ≤ s.rt.boundary ∧ s.rt.boundary + us 10 ≤ u.now
    (s.standbyFit = true → lost → s.eligible = true → ∃ t, exec (.takeoverDecision dt) s = .next t ∧ t.mirror.role = 1 ∧
      t.mirror.takeoverTime = s.rt.boundary ∧ t.mirror.takeovers = sat32 (s.mirror.takeovers + 1) ∧ t.mirror.placeFrom = s.rt.boundary ∧
      (s.mirror.twinTokenAt + us 20 ≤ u.now → t.mirror.token = true) ∧
      (s.rt.cycling = true → State.logs 0x0B08 [] u t) ∧ t.passes.sigPlain = 0xFFFFFFFF ∧ t.passes.sigShadow = 0xFFFFFFFF ∧
      t.passes.position = 0 ∧
      t.zop.conns = s.zop.conns.map (fun c => if c.role == 1 then ({ c with seqNext := 0, resync := true } : Connection) else c) ∧
      t.le = u.le ∧ State.keeps [.mirror, .field, .ledger, .store, .passes, .zop] u t) ∧
    (s.standbyFit = true → lost → s.mirror.claimSince = false → s.snapshotFresh = false → ∃ t, exec (.takeoverDecision dt) s = .next t ∧
      0x0B06 ∈ t.rt.active ∧ t.mirror = u.mirror ∧ State.keeps [.rt] u t) ∧
    (s.standbyFit = false ∨ ¬ lost → exec (.takeoverDecision dt) s = .next u) ∧
    exec (.copyRequest dt) s = .next (if s.released && s.pairMember then { u with mirror := { u.mirror with serving := true } } else u)) ∧
  (∀ (w : QueuedWrite) (s : State), w.isCopy = false → w.via = none → w.index = 0x5800 → w.sub = 0xE →
    let t := s.applyWrite false w
    t.mirror = { s.mirror with replace := 1 } ∧ t.dict.response.map (fun a => a.error) = some 0 ∧ State.keeps [.mirror, .dict, .store] s t) ∧
  ∀ (dt : Nat) (ok : Bool) (values : List (Nat × Nat)) (image : List Byte) (s : State),
    let u := s.elapse dt
    let b := s.loadTarget
    let flashOpen : Prop := s.power.gateClosed = false ∧ s.store.heldLeft = 0
    (s.mirror.replace ≠ 1 ∨ (ok = true ∧ ¬ flashOpen) → exec (.replacementCopyEnd dt ok values image) s = .next u) ∧
    (s.mirror.replace = 1 → ∃ t, exec (.replacementCopyEnd dt false values image) s = .next t ∧ t.mirror.replace = 3 ∧
      State.logs 0x0B09 [] u t ∧ t.dict = u.dict ∧ t.images = u.images ∧ t.le = u.le ∧ State.keeps [.mirror, .ledger, .store] u t) ∧
    (s.mirror.replace = 1 → flashOpen → ∃ t, exec (.replacementCopyEnd dt true values image) s = .next t ∧ t.mirror.replace = 2 ∧
      (∀ x, cellRead erasedByte t.le.flash x = (if bankBase b ≤ x ∧ x < bankBase b + 0x40000 then
        (image.take 0x40000).getD (x - bankBase b) erasedByte else cellRead erasedByte s.le.flash x)) ∧
      (∃ more, t.dict.queued = s.dict.queued ++ more ∧
        ∀ q ∈ more, q.isCopy = true ∧ pairKey (objKey q.index q.sub) = true ∧ (objKey q.index q.sub, q.value) ∈ values) ∧
      t.dict.values = s.dict.values ∧ t.images.active = s.images.active ∧ t.images.image = s.images.image ∧
      ((t.images.bank b).state = .valid ↔ (t.images.bank b).reason = 0) ∧
      ((t.images.bank b).state = .valid → t.mirror.selectDue = some b) ∧ State.keeps [.mirror, .dict, .le, .images, .ledger, .store] u t)

/-! ### The Modbus window (ch. 19), debug and service (ch. 20) -/

/-- The Modbus window (R544, R549 to R553); the CRC-16 is the model's choice (log entry 45). -/
def Obligations.ModbusRequestsAreAnswered : Prop :=
  ∀ (dt a b c : Nat) (why : ModbusDiscard) (s : State),
    let u := s.elapse dt
    let free : Prop := s.modbusServes = true ∧ s.modbus.outstanding = none
    let framed (pdu : List Byte) : List Byte :=
      let f := BitVec.ofNat 8 s.modbusAddress :: pdu
      f ++ leBytes 2 (crc16 f)
    let answered (pdu : List Byte) (more : Nat) : State := { u with modbus := { u.modbus with
      outstanding := none
      response := framed pdu
      requests := sat32 (s.modbus.requests + 1)
      exceptions := if more = 0 then s.modbus.exceptions else sat32 (s.modbus.exceptions + more) } }
    let excepted (fc code : Nat) : State := answered [BitVec.ofNat 8 (fc + 128), BitVec.ofNat 8 code] 1
    (¬ free → exec (.modbusReadHoldingRegisters dt a b) s = .next u ∧ exec (.modbusReadInputRegisters dt a b) s = .next u ∧
      exec (.readDeviceIdentification dt a b c) s = .next u ∧ exec (.illegalFunction dt a) s = .next u) ∧
    (free → a < 65536 → b < 65536 →
      let tag := (s.modbus.tag + 1) % 65536
      let d := modbusRequest tag a b
      let x : XchPost := { target := .le, kind := 3, payload := d }
      ∀ fc row, (fc, row) ∈ [(3, Instr.modbusReadHoldingRegisters dt a b), (4, .modbusReadInputRegisters dt a b)] →
        (b = 0 ∨ 125 < b → exec row s = .next (excepted fc 3)) ∧
        (1 ≤ b → b ≤ 125 → 65536 < a + b → exec row s = .next (excepted fc 2)) ∧
        (1 ≤ b → b ≤ 125 → a + b ≤ 65536 → ∃ t, exec row s = .next t ∧
          t.modbus = { u.modbus with tag := tag, outstanding := some (BitVec.ofNat 8 fc :: (beWord a ++ beWord b), u.localNow) } ∧
          (s.zop.held ≠ [] ∨ 3 ≤ s.zop.dictPosted → t.zop = { u.zop with held := s.zop.held ++ [d] } ∧ t.xch = u.xch) ∧
          (s.zop.held = [] → s.zop.dictPosted < 3 → t.zop = { u.zop with dictPosted := s.zop.dictPosted + 1 } ∧
            (s.rt.cycling = true → s.xch.buffers.length = 128 → XchTask.deliver x ∈ t.xch.ceTasks ∨ State.claimedFor .ce x t)) ∧
          State.keeps [.modbus, .zop, .xch] u t)) ∧
    (∀ (tag t0 : Nat) (v : Option (List Byte)) (fc : Byte) (rest : List Byte), s.modbus.outstanding = some (fc :: rest, t0) →
      let t := u.modbusDeliver tag v
      (tag ≠ s.modbus.tag → t = u) ∧
      (∀ x, tag = s.modbus.tag → v = some x → t = answered (fc :: BitVec.ofNat 8 x.length :: x) 0) ∧
      (tag = s.modbus.tag → v = none → t = excepted (fc.toNat % 128) 2)) ∧
    (free → a < 256 → b < 256 → c < 256 →
      let stream := s.deviceObjects.filter (fun o => decide (o.2.2 ≤ b))
      let reply (os : List (Nat × List Byte × Nat)) : State :=
        answered ([0x2B, 0x0E, BitVec.ofNat 8 b, 0x83, 0, 0, BitVec.ofNat 8 os.length] ++ os.flatMap deviceBytes) 0
      (a ≠ 0x0E → exec (.readDeviceIdentification dt a b c) s = .next (excepted 0x2B 1)) ∧
      (a = 0x0E → b = 0 ∨ 4 < b → exec (.readDeviceIdentification dt a b c) s = .next (excepted 0x2B 3)) ∧
      (a = 0x0E → b = 4 → (∀ o ∈ s.deviceObjects, o.1 ≠ c) → exec (.readDeviceIdentification dt a b c) s = .next (excepted 0x2B 2)) ∧
      (a = 0x0E → b = 4 → ∀ o ∈ s.deviceObjects, o.1 = c → exec (.readDeviceIdentification dt a b c) s = .next (reply [o])) ∧
      (a = 0x0E → 1 ≤ b → b ≤ 3 → (∀ o ∈ stream, o.1 ≠ c) → exec (.readDeviceIdentification dt a b c) s = .next (reply stream)) ∧
      (a = 0x0E → 1 ≤ b → b ≤ 3 → (∃ o ∈ stream, o.1 = c) →
        exec (.readDeviceIdentification dt a b c) s = .next (reply (stream.filter (fun o => decide (c ≤ o.1)))))) ∧
    (free → a < 128 → a ≠ 3 → a ≠ 4 → a ≠ 0x2B → exec (.illegalFunction dt a) s = .next (excepted a 1)) ∧
    exec (.modbusFrameDiscard dt why) s = .next (if s.modbusServes = true ∧ why = .badCrc then
      { u with modbus := { u.modbus with crcErrors := sat32 (s.modbus.crcErrors + 1) } } else u) ∧
    (∀ (fc : Byte) (rest : List Byte) (t : Nat), s.modbus.outstanding = some (fc :: rest, t) → exec (.modbusLeTimeout dt) s = .next
      (if t + ms 100 ≤ u.localNow then excepted (fc.toNat % 128) 4 else u)) ∧
    (s.modbus.outstanding = none → exec (.modbusLeTimeout dt) s = .next u)

/-- The service port (R560 to R562), debug memory (R239, R258, R568) and the recovery loader (R573); the order of the bytes of the MPU
registers beyond the region registers, and that a debug access answers to the owner of a buffer, are the model's (log entry 62). -/
def Obligations.ServicePortAnswers : Prop :=
  (∀ (dt : Nat) (low : Bool) (s : State),
    let u := s.elapse dt
    (s.service.session = low → exec (.toolDetect dt low) s = .next u) ∧
    (s.service.session = true → exec (.toolDetect dt false) s = .next { u with service := { u.service with session := false } }) ∧
    (s.service.session = false → ∃ t, exec (.toolDetect dt true) s = .next t ∧ t.service.session = true ∧ t.service.seqLast = none ∧
      (s.power.logicOn = true → s.released = true → t.service.sessions = sat32 (s.service.sessions + 1)) ∧
      (s.power.logicOn = false ∨ s.released = false → t.service.sessions = s.service.sessions ∧ t.store = u.store) ∧
      State.keeps [.service, .store] u t) ∧
    (∀ t0, s.service.resetLowAt = some t0 → t0 + ms 10 ≤ u.localNow → s.service.session = true → s.power.logicOn = true →
      s.boot.step ≠ .resetHeld → ∃ t, exec (.resetReq dt low) s = .next t ∧ State.heldInReset 6 u t ∧ t.service.resetEventDue = true ∧
        t.service.resetLowAt = none) ∧
    (s.service.session = false ∨ s.power.logicOn = false ∨ s.service.resetLowAt = none → exec (.resetReq dt low) s = .next
      { u with service := { u.service with
        resetLowAt := if low then some (s.service.resetLowAt.getD u.localNow) else none } })) ∧
  (∀ (dt seq service index sub type code : Nat) (value : List Byte) (v token : Nat) (s : State),
    let u := s.elapse dt
    (s.service.session = false → exec (.serviceDictFrame dt service index sub type value) s = .next u) ∧
    (s.service.session = true →
      exec (.serviceDictFrame dt 1 index sub type value) s = exec (.read dt servicePort index sub) s ∧
      exec (.serviceDictFrame dt 2 index sub type value) s = exec (.write dt servicePort seq index sub type value) s ∧
      (s.released = true → service = 3 ∨ service = 4 → index < 65536 → sub < 256 →
        ∃ t, exec (.serviceDictFrame dt service index sub type value) s = .next t ∧
          t.dict.response.map (fun a => (a.index, a.sub, a.error)) = some (index, sub, 0x8009) ∧ t.dict.values = s.dict.values ∧
          t.dict.queued = s.dict.queued ∧ State.keeps [.dict, .otp] u t)) ∧
    (s.portAnswers = false → exec (.serviceConfirmedFrame dt seq service index sub type v token code) s = .next u) ∧
    (s.portAnswers = true → seq < 65536 →
      let d (last : Nat) : Nat := (seq + 65536 - last) % 65536
      ((∀ last, s.service.seqLast = some last → 1 ≤ d last ∧ d last ≤ 32767) →
        let s' : State := { s with service := { s.service with seqLast := some seq } }
        exec (.serviceConfirmedFrame dt seq 3 index sub type v token code) s = exec (.prepare dt servicePort index sub type v) s' ∧
        ((∀ x ∈ s.dict.superseded, x.requester ≠ 0) → ∀ p, s.dict.slots.find? (fun x => x.requester == 0) = some p →
          p.token = token % 2 ^ 32 → u.localNow < p.at_ + 500000000 → code % 2 ^ 32 = s.confirmCode p →
          s.confirmedAlready servicePort p.index p.sub = false →
          exec (.serviceConfirmedFrame dt seq 4 index sub type v token code) s = exec (.confirm dt servicePort token code) s') ∧
        ((∀ x ∈ s.dict.superseded, x.requester ≠ 0) → s.dict.slots.find? (fun x => x.requester == 0) = none →
          ∃ t, exec (.serviceConfirmedFrame dt seq 4 index sub type v token code) s = .next t ∧
            t.dict.response.map (fun a => (a.index, a.sub, a.error)) = some (index % 2 ^ 16, sub % 2 ^ 8, 0x800C) ∧
            t.dict.confirmFails = sat32 (s.dict.confirmFails + 1) ∧ State.keeps [.service, .dict, .store, .otp, .images, .ledger] u t)) ∧
      (∀ last, s.service.seqLast = some last → d last = 0 →
        exec (.serviceConfirmedFrame dt seq service index sub type v token code) s = .next u) ∧
      (∀ last, s.service.seqLast = some last → 32767 < d last →
        ∃ t, exec (.serviceConfirmedFrame dt seq service index sub type v token code) s = .next t ∧ State.logs 0x0A03 [] u t ∧
          State.onlyLogs u t))) ∧
  (∀ (dt addr n : Nat) (data : List Byte) (s : State), addr < 2 ^ 32 → Memory.wf s = true →
    let u := s.elapse dt
    (s.portAnswers = false ∨ countOf n = false → exec (.debugMemoryRead dt addr n) s = .next u) ∧
    (s.portAnswers = false ∨ countOf data.length = false → exec (.debugMemoryWrite dt addr data) s = .next u) ∧
    (s.portAnswers = true → countOf n = true → ∃ t, exec (.debugMemoryRead dt addr n) s = .next t ∧
      t.service = { u.service with status := s.debugStatusOf .load addr n, data := t.service.data } ∧ t.le = u.le ∧
      (s.debugStatusOf .load addr n ≠ 0 → t.service.data = []) ∧
      (s.debugStatusOf .load addr n = 0x82 →
        ∀ k, u.ledger.due 0x0D07 0 100000000 u.localNow = some k → State.logs 0x0D07 (leBytes 4 k) u t) ∧
      (s.debugStatusOf .load addr n = 0 → s.foreignBuffer addr n = none → t.service.data.length = n ∧
        (inPlainRam addr = true ∨ inExchangeRam addr = true →
          ∀ i, i < n → s.unstatedRam (addr + i) = false → t.service.data[i]? = some (s.ramByte (addr + i))) ∧
        (inFlash addr = true → ∀ i, i < n → t.service.data[i]? = some (cellRead erasedByte s.le.flash (addr + i))) ∧
        (inMpuRegisters addr = true → ∀ i b, i < n → s.mpuRegisterBytes[addr - 0x48000000 + i]? = some b → t.service.data[i]? = some b)) ∧
      (s.debugStatusOf .load addr n ≠ 0 ∨ s.foreignBuffer addr n = none →
        State.keeps [.service, .ledger, .store, .freeCount] u t) ∧
      (∀ b, s.debugStatusOf .load addr n = 0 → s.foreignBuffer addr n = some b → s.rt.cycling = true →
        t.waits 0x0601 .nonRecoverable ∧ t.field.faultLine = true ∧ State.tokenStopped u t) ∧
      State.keeps [.service, .ledger, .store, .freeCount, .rt, .boot, .xch, .field, .glint, .mirror] u t) ∧
    (s.portAnswers = true → countOf data.length = true → ∃ t, exec (.debugMemoryWrite dt addr data) s = .next t ∧
      t.service = { u.service with status := s.debugStatusOf .store addr data.length, data := [] } ∧
      (s.debugStatusOf .store addr data.length ≠ 0 → t.le = u.le ∧ t.mirror = s.mirror) ∧
      (s.debugStatusOf .store addr data.length = 0x82 →
        ∀ k, u.ledger.due 0x0D07 0 100000000 u.localNow = some k → State.logs 0x0D07 (leBytes 4 k) u t) ∧
      (s.debugStatusOf .store addr data.length ≠ 0 → s.debugStatusOf .store addr data.length ≠ 0x82 → t.ledger = u.ledger) ∧
      (s.debugStatusOf .store addr data.length = 0 → s.foreignBuffer addr data.length = none →
        (inPlainRam addr = true ∨ inExchangeRam addr = true →
          heldElsewhere addr = false → heldElsewhere (addr + data.length - 1) = false → t.le = { u.le with ram := t.le.ram } ∧
          (∀ x, x < addr ∨ addr + data.length ≤ x → cellRead 0 t.le.ram x = cellRead 0 s.le.ram x) ∧
          (∀ i, i < data.length → cellRead 0 t.le.ram (addr + i) = data.getD i 0)) ∧
        (inPlainRam addr = true → (∀ i, i < data.length → (areaByte (addr + i)).isSome = true) → s.le.inputs.length = 180 →
          s.le.inputsCoded.length = 180 → s.le.outputs.length = 32 → s.le.outputsCoded.length = 32 →
          (∀ i, i < data.length → t.ramByte (addr + i) = data.getD i 0) ∧
          (∀ x, x < addr ∨ addr + data.length ≤ x → t.ramByte x = s.ramByte x) ∧
          t.le = { u.le with
            ram := t.le.ram, inputs := t.le.inputs, inputsCoded := t.le.inputsCoded, outputs := t.le.outputs
            outputsCoded := t.le.outputsCoded }) ∧
        ((∀ i, i < data.length → inEventLog (addr + i) = true) → inPlainRam addr = true →
          (∀ x, inEventLog x = false → t.ramByte x = s.ramByte x) ∧ t.le = { u.le with ram := t.le.ram }) ∧
        (inPlainRam addr = false → inExchangeRam addr = false → t.le = u.le) ∧
        State.keeps [.service, .le, .ledger] u t) ∧
      (∀ b, s.debugStatusOf .store addr data.length = 0 → s.foreignBuffer addr data.length = some b → s.rt.cycling = true →
        t.waits 0x0601 .nonRecoverable ∧ t.field.faultLine = true ∧ t.le = u.le ∧ State.tokenStopped u t) ∧
      State.keeps [.service, .le, .ledger, .store, .rt, .boot, .xch, .field, .glint, .mirror] u t)) ∧
  ∀ (dt bank off : Nat) (data : List Byte) (s : State),
    let u := s.elapse dt
    let offered : Prop := s.service.session = true ∧ s.rt.state = .boot ∧ s.boot.step = .stopped ∧
      (3 ≤ s.boot.retained.bootFailures ∨ s.boot.noBank = true)
    let said (status : Nat) (data : List Byte) : State := { u with service := { u.service with status := status, data := data } }
    (¬ offered → exec (.loaderErase dt bank) s = .next u ∧ exec (.loaderWrite dt bank off data) s = .next u ∧
      exec (.loaderStatus dt) s = .next u) ∧
    (offered → s.loaderPermitted = false → exec (.loaderErase dt bank) s = .next (said 0x83 []) ∧
      exec (.loaderWrite dt bank off data) s = .next (said 0x83 []) ∧ exec (.loaderStatus dt) s = .next (said 0x83 [])) ∧
    let flashOpen : Prop := s.power.gateClosed = false ∧ s.store.heldLeft = 0
    let program (c : Instr) (addr : Nat) (bytes : List Byte) (t : State) : Prop :=
      exec c s = .next t ∧ t.service = (said 0 []).service ∧ State.keeps [.service, .le, .power, .store, .freeCount] u t ∧
        t.le = { u.le with flash := t.le.flash } ∧
        (flashOpen → t.store = u.store) ∧
        (¬ flashOpen → t.le = u.le ∧ t.store = { u.store with deferred := s.store.deferred ++ [(addr, bytes)] })
    (offered → s.loaderPermitted = true →
      exec (.loaderStatus dt) s = .next { u.bootPower with service := (said 0
        [BitVec.ofNat 8 (bit (s.le.fwValid 0)), BitVec.ofNat 8 (bit (s.le.fwValid 1))]).service } ∧
      (bank ≤ 1 → ∃ t, program (.loaderErase dt bank) (fwBase bank) [] t ∧
        (flashOpen → ∀ x, cellRead erasedByte t.le.flash x =
          (if fwBase bank ≤ x ∧ x < fwBase bank + 0x80000 then erasedByte else cellRead erasedByte s.le.flash x)) ∧
        t.freeCount = s.freeCount) ∧
      (bank ≤ 1 → off % 32 = 0 → 32 ≤ data.length → data.length ≤ 4096 → data.length % 32 = 0 → off + data.length ≤ 0x80000 →
        ∃ t bytes, program (.loaderWrite dt bank off data) (fwBase bank + off) bytes t ∧ bytes.length = data.length ∧
          (flashOpen → (∀ i, i < data.length → cellRead erasedByte t.le.flash (fwBase bank + off + i) = bytes.getD i 0) ∧
            ∀ x, x < fwBase bank + off ∨ fwBase bank + off + data.length ≤ x →
              cellRead erasedByte t.le.flash x = cellRead erasedByte s.le.flash x) ∧
          ((cellBytes erasedByte s.le.flash (fwBase bank + off) data.length).all (fun x => x == erasedByte) = true → bytes = data)))

/-- Debug requests (R564, R565), simulation (R569) and the service BIST (R570, R571, R77, R167). -/
def Obligations.DebugRequestsWaitForTheBoundary : Prop :=
  (∀ (w : QueuedWrite) (s : State), w.isCopy = false → w.via = none → w.index = 0x5C00 →
    let t := s.applyWrite false w
    let waits (p : DebugPending) : Prop := t.service = { s.service with pending := s.service.pending ++ [p] } ∧
      t.dict.response.map (fun a => a.error) = some 0 ∧ State.keeps [.service, .dict, .store] s t
    (∀ v p, (v, p) ∈ [(1, DebugPending.split), (2, .halt), (3, .resume), (4, .step w.instr)] → w.sub = 2 → w.value = v →
      let barred : Bool := if v = 1 then !s.splitPermitted
        else if v = 2 then s.haltSoon || s.service.pending.contains .bist
        else if v = 3 then !s.haltSoon else !s.passes.halted
      (barred = false → waits p) ∧
      (barred = true → t.service = s.service ∧
        t.dict.response.map (fun a => (a.error, a.detail)) = some (if v = 1 then (0x800F, 0) else (0x800E, 1)) ∧ State.keeps [.dict] s t)) ∧
    (w.sub = 4 → waits (.sim (w.value == 1))) ∧ (w.sub = 5 → waits (.simOutputs (BitVec.ofNat 32 w.value))) ∧ (w.sub = 6 → waits .bist) ∧
    (w.sub = 3 → t.service = { s.service with haltPoint := w.value } ∧ State.keeps [.service, .dict, .store] s t)) ∧
  ∀ (dt late place : Nat) (failures : List (BitVec 64)) (s : State),
    let u := s.elapse dt
    let met (r : BitVec 64) : Bool := [1, 2, 3, 5, 8].contains (r.toNat / 2 ^ 60) && s.otp.tested s.bistEntries r
    let timedOut : Prop := late ∈ [1, 2, 3, 5, 8] ∧ 100 * serviceLimit late < u.localNow - s.boot.bistAt
    (s.service.bistFrom = none ∨ s.power.pfw = true → exec (.serviceBistComplete dt failures late place) s = .next u) ∧
    (s.service.bistFrom ≠ none → s.power.pfw = false → ∃ t, exec (.serviceBistComplete dt failures late place) s = .next t ∧
      t.service.bistFrom = none ∧ t.boot.bistMode = 3 ∧ t.boot.bistDuration = min 220000 ((u.localNow - s.boot.bistAt) / 100) ∧
      (∀ x, cellRead 0 t.le.ram x = if 0x21000000 ≤ x ∧ x < 0x210C0000 then 0 else cellRead 0 s.le.ram x) ∧
      (∀ w ∈ t.le.inputsCoded ++ t.le.outputsCoded, w = 0) ∧
      State.logs 0x0D05 [] u t ∧ t.service.bistStatus = (if t.boot.failCount = 0 then 2 else 3) ∧
      t.boot.failCount = min 65535 ((failures.filter met).length + (if timedOut then 1 else 0)) ∧ t.power.bistPeak = s.power.bistPeak ∧
      (t.boot.failCount = 0 → s.rt.state = .service → t.rt.encoding = some .service) ∧
      (t.boot.failCount ≠ 0 → t.waits 0x0301 .nonRecoverable) ∧
      State.keeps [.boot, .power, .le, .service, .field, .analog, .rt, .store, .ledger, .mirror, .modbus] u t)

/-! ### Lifetime ledger, event log and temperature (ch. 21, 22) -/

/-- Event numbers (R581, R582, R586), ledger records (R592), board and die temperature (R588, R609, R610). -/
def Obligations.RecordsLedgerAndTemperature : Prop :=
  (∀ (code : Nat) (data : List Byte) (s : State), s.rt.cycling = true →
    let t := s.event code data
    s.ledger.nextSeq < t.ledger.nextSeq ∧
    (∃ r ∈ t.ledger.toPost,
      r.seq = s.ledger.nextSeq ∧ r.origin = s.ledger.nextSeq ∧ r.code = code ∧ r.node = s.zop.nodeId ∧ r.epoch = s.zop.epoch ∧
        r.time = ts64 s.now ∧ r.runState = s.rt.state.code ∧ r.data = data.take 38) ∧
    (∀ r ∈ s.ledger.toPost, r ∈ t.ledger.toPost) ∧
    State.onlyLogs s t) ∧
  (∀ (dt : Nat) (s : State),
    let u := s.elapse dt
    let due : Prop := s.rt.cycling = true ∧ s.ledger.intervalFrom + us s.ledgerInterval ≤ u.localNow
    (¬ due → exec (.ledgerIntervalElapse dt) s = .next u) ∧
    (due → ∃ t, exec (.ledgerIntervalElapse dt) s = .next t ∧ t.ledger.intervalFrom = s.ledger.intervalFrom + us s.ledgerInterval ∧
      t.ledger.switchesKept = s.ledger.switches ∧ t.ledger.breaksKept = s.ledger.breaks ∧
      (s.power.gateClosed = false → ∃ r more, t.store.queue = s.store.queue ++ r :: more ∧ r.area = .ledger ∧ r.type = 0x20 ∧
        leAt r.payload 0 1 = 0 ∧ leAt r.payload 4 4 = seconds t.ledger.powered ∧
        more.length = (if s.ledger.switches = s.ledger.switchesKept then 0 else 1) +
          (if s.ledger.breaks = s.ledger.breaksKept then 0 else 1)) ∧
      State.keeps [.ledger, .store] u t)) ∧
  ∀ (dt : Nat) (x : Int) (s : State),
    let u := s.elapse dt
    let v := max (-400) (min 1250 x)
    (s.rt.cycling = false → exec (.tempSample dt x) s = .next u) ∧
    (s.rt.cycling = true → ∃ t, exec (.tempSample dt x) s = .next t ∧ t.ledger.tempNow = v ∧ t.ledger.tempMax = max s.ledger.tempMax v ∧
      t.ledger.tempMin = min s.ledger.tempMin v ∧ (1020 ≤ v → s.ledger.warnArmed = true → State.logs 0x0110 [] u t) ∧
      (1020 ≤ v → t.ledger.warnArmed = false) ∧ (v ≤ 1000 → t.ledger.warnArmed = true) ∧
      (1080 ≤ v → 9 ≤ s.ledger.hotRun → 0x0111 ∈ t.rt.active) ∧ (v ≤ 1000 → 59 ≤ s.ledger.coolRun → 0x0111 ∉ t.rt.active) ∧
      (v < 1080 → 1000 < v → t.rt.active = s.rt.active ∧ t.rt.detected = s.rt.detected) ∧
      State.keeps [.ledger, .store, .rt] u t) ∧
    (s.power.logicOn = false ∨ s.boot.step = .resetHeld → exec (.dieTempSample dt x) s = .next u) ∧
    (s.power.logicOn = true → s.boot.step ≠ .resetHeld → x < 1400 →
      exec (.dieTempSample dt x) s = .next { u with ledger := { u.ledger with dieRun := 0 } }) ∧
    (s.power.logicOn = true → s.boot.step ≠ .resetHeld → 1400 ≤ x → s.ledger.dieRun = 0 →
      exec (.dieTempSample dt x) s = .next { u with ledger := { u.ledger with dieRun := 1 } }) ∧
    (s.power.logicOn = true → s.boot.step ≠ .resetHeld → 1400 ≤ x → s.ledger.dieRun = 1 → ∃ t, exec (.dieTempSample dt x) s = .next t ∧
      t.ledger.dieRun = 2 ∧ (s.rt.cycling = true → t.waits 0x0112 .nonRecoverable ∧ t.field.faultLine = true ∧ t.field.images = [] ∧
        t.rt.passesRunning = false) ∧
      (s.rt.cycling = true → State.tokenStopped u t) ∧
      (s.rt.cycling = false → t.boot.retained.cause = some (s.boot.retained.cause.getD 0x0112) ∧ t.field = u.field ∧ t.mirror = s.mirror) ∧
      State.keeps [.ledger, .rt, .boot, .field, .glint, .mirror] u t)

/-! ### The machine as a whole -/

/-- A step (log entries 8 and 9 are the model's choice). -/
def Obligations.StepTakesTheFront : Prop :=
  (∀ (c : Instr) (rest : List Instr) (s : State), s.pending = c :: rest → Machine.step s = exec c { s with pending := rest }) ∧
  (∀ s : State, s.pending = [] → ∃ t, Machine.step s = .next t ∧
    (∀ ch,
      let c := s.zop.can ch
      (∀ f rest, c.accepts = true → c.queue = f :: rest → t.zop.can ch = { c with
        queue := rest, sent := some { f with esi := decide (128 ≤ c.tec) || decide (128 ≤ c.rec_) } }) ∧
      (c.accepts = false ∨ c.queue = [] → t.zop.can ch = c)) ∧
    t.zop = { s.zop with canA := t.zop.canA, canB := t.zop.canB } ∧
    t.clock = { s.clock with sending := t.clock.sending } ∧ (s.clock.sending = none → t.clock = s.clock) ∧
    State.keeps [.zop, .clock] s t) ∧
  ∀ (s : State) (nbits w : Nat), Sys2Proof.decodeTableWord nbits w = none ∧ s.withFetchWord nbits w = s

/-- The reset state (R37, R45, R275, R510, R581). -/
def Obligations.ResetMeetsTheInvariants : Prop :=
  let s := State.reset
  s.rt.state = .off ∧ s.power.mainsOk = false ∧ s.power.auxOk = false ∧ s.power.logicOn = false ∧ s.power.domainCommand = 0 ∧
    s.rt.active = [] ∧ s.rt.detected = [] ∧ s.rt.lockoutLatch = false ∧ s.rt.stateCause = 0 ∧ s.allOutputsOff ∧ s.mirror.role = 0 ∧
    s.mirror.token = false ∧ s.pending = [] ∧ s.store.queue = [] ∧ s.dict.queued = [] ∧ s.zop.held = [] ∧ s.zop.transfers = [] ∧
    s.zop.canA.queue = [] ∧ s.zop.canB.queue = [] ∧ s.modbus.outstanding = none ∧ s.service.pending = [] ∧ s.ledger.nextSeq = 1 ∧
    s.ledger.toPost = [] ∧ s.xch.leTasks = [] ∧ s.xch.ceTasks = [] ∧ s.xch.meTasks = [] ∧ s.xch.waiting = [] ∧
    Memory.wf s = true ∧ s.startConsistent = true

/-- What no step undoes: the canonical memories, the burned fuses (R147) and the order of the queue. -/
def Obligations.EveryStepKeepsMemoryAndFuses : Prop :=
  ∀ s : State, Memory.wf s = true →
    ∃ t, Machine.step s = .next t ∧ Memory.wf t = true ∧ s.fusesKept t ∧ t.pending = s.pending.drop 1

/-- Runtime transitions (R38). -/
def Obligations.StateChangesByTheTable : Prop :=
  ∀ s t : State, s.startConsistent = true → Machine.step s = .next t →
    t.startConsistent = true ∧ RunState.mayBecome s.rt.state t.rt.state = true ∧
      ((∀ (dt : Nat) (x : Sensors) (rest : List Instr), s.pending ≠ .cycleBoundary dt x :: rest) →
        t.rt.state = s.rt.state ∨ t.rt.state = .boot ∨ t.rt.state = .off ∨ (s.rt.state = .boot ∧ t.rt.state = .test) ∨
          (s.rt.state = .test ∧ (t.rt.state = .hold ∨ t.rt.state = .lockout)))
end

