-- ==== Sys2Proof/Laws/Log.lean ====
section
/-!
SUPPORT. Laws/Log.lean: what the entry of an event record can do: it changes nothing but the log and the records requested of the store, and
the record stands among those that wait for their posts afterwards.
-/

namespace Sys2Proof.Machine

theorem Ledger.place_eq (slots : Nat) (r : EventRecord) (l : Ledger) :
    ∃ ring lost, (l.place slots r).1 = { l with ring := ring, lost := lost } := by
  unfold Ledger.place; split
  · exact ⟨_, _, rfl⟩
  · split <;> exact ⟨_, _, rfl⟩

theorem State.onlyLogs_refl (s : State) : State.onlyLogs s s := rfl

theorem State.onlyLogs_trans {s t u : State} (h : State.onlyLogs s t) (k : State.onlyLogs t u) : State.onlyLogs s u := by
  unfold State.onlyLogs at *
  rw [k, h]

theorem State.onlyLogs_ite {s t u : State} {c : Prop} [Decidable c] (h : State.onlyLogs s t) (k : State.onlyLogs s u) :
    State.onlyLogs s (if c then t else u) := by split <;> assumption

theorem State.requestRecord_onlyLogs (r : StoreRecord) (s : State) : State.onlyLogs s (s.requestRecord r) :=
  State.onlyLogs_ite rfl rfl

theorem State.dropEvent_onlyLogs (s : State) : State.onlyLogs s s.dropEvent := by
  refine State.onlyLogs_trans ?_ (State.requestRecord_onlyLogs _ _); rfl

theorem State.storeEvent_onlyLogs (r : EventRecord) (s : State) : State.onlyLogs s (s.storeEvent r) :=
  State.onlyLogs_ite (State.requestRecord_onlyLogs _ _) (State.dropEvent_onlyLogs _)

theorem Ledger.enter_onlyLogs (slots : Nat) (r : EventRecord) (s : State) :
    State.onlyLogs s { s with ledger := (s.ledger.enter slots r).1 } := by
  obtain ⟨ring, lost, h⟩ := Ledger.place_eq slots r s.ledger
  simp only [State.onlyLogs, Ledger.enter, h]

theorem State.enterRecord_onlyLogs (r : EventRecord) (s : State) : State.onlyLogs s (s.enterRecord r).1 :=
  State.onlyLogs_trans (Ledger.enter_onlyLogs _ _ _) (State.storeEvent_onlyLogs _ _)

theorem State.selfRecord_onlyLogs (code interval : Nat) (s : State) : State.onlyLogs s (s.selfRecord code interval) := by
  unfold State.selfRecord; split
  · rfl
  · refine State.onlyLogs_trans ?_ (State.enterRecord_onlyLogs _ _); rfl

theorem State.afterEntry_onlyLogs (e : EntryResult) (s : State) : State.onlyLogs s (s.afterEntry e) :=
  State.onlyLogs_trans (State.onlyLogs_ite (State.selfRecord_onlyLogs _ _ _) (State.onlyLogs_refl _))
    (State.onlyLogs_ite (State.selfRecord_onlyLogs _ _ _) (State.onlyLogs_refl _))

theorem State.logRecord_onlyLogs (r : EventRecord) (s : State) : State.onlyLogs s (s.logRecord r) :=
  State.onlyLogs_ite (State.onlyLogs_trans (State.enterRecord_onlyLogs _ _) (State.afterEntry_onlyLogs _ _)) rfl

theorem State.eventAt_onlyLogs (code : Nat) (time : Instant) (data : List Byte) (s : State) : State.onlyLogs s (s.eventAt code time data) :=
  State.logRecord_onlyLogs _ _

theorem State.event_onlyLogs (code : Nat) (data : List Byte) (s : State) : State.onlyLogs s (s.event code data) :=
  State.logRecord_onlyLogs _ _

theorem State.eventLimited_onlyLogs (code key interval : Nat) (data : List Byte) (s : State) :
    State.onlyLogs s (s.eventLimited code key interval data) := by
  unfold State.eventLimited; split
  · rfl
  · refine State.onlyLogs_trans ?_ (State.event_onlyLogs _ _ _); rfl

/-! ### What the entry of a record leaves -/

theorem State.onlyLogs_rt {s t : State} (h : State.onlyLogs s t) : t.rt = s.rt := by
  rw [State.onlyLogs] at h; rw [h]
theorem State.onlyLogs_power {s t : State} (h : State.onlyLogs s t) : t.power = s.power := by
  rw [State.onlyLogs] at h; rw [h]
theorem State.onlyLogs_clock {s t : State} (h : State.onlyLogs s t) : t.clock = s.clock := by
  rw [State.onlyLogs] at h; rw [h]
theorem State.onlyLogs_boot {s t : State} (h : State.onlyLogs s t) : t.boot = s.boot := by
  rw [State.onlyLogs] at h; rw [h]
theorem State.onlyLogs_otp {s t : State} (h : State.onlyLogs s t) : t.otp = s.otp := by
  rw [State.onlyLogs] at h; rw [h]
theorem State.onlyLogs_passes {s t : State} (h : State.onlyLogs s t) : t.passes = s.passes := by
  rw [State.onlyLogs] at h; rw [h]
theorem State.onlyLogs_le {s t : State} (h : State.onlyLogs s t) : t.le = s.le := by
  rw [State.onlyLogs] at h; rw [h]
theorem State.onlyLogs_xch {s t : State} (h : State.onlyLogs s t) : t.xch = s.xch := by
  rw [State.onlyLogs] at h; rw [h]
theorem State.onlyLogs_field {s t : State} (h : State.onlyLogs s t) : t.field = s.field := by
  rw [State.onlyLogs] at h; rw [h]
theorem State.onlyLogs_glint {s t : State} (h : State.onlyLogs s t) : t.glint = s.glint := by
  rw [State.onlyLogs] at h; rw [h]
theorem State.onlyLogs_counters {s t : State} (h : State.onlyLogs s t) : t.counters = s.counters := by
  rw [State.onlyLogs] at h; rw [h]
theorem State.onlyLogs_analog {s t : State} (h : State.onlyLogs s t) : t.analog = s.analog := by
  rw [State.onlyLogs] at h; rw [h]
theorem State.onlyLogs_lib {s t : State} (h : State.onlyLogs s t) : t.lib = s.lib := by
  rw [State.onlyLogs] at h; rw [h]
theorem State.onlyLogs_images {s t : State} (h : State.onlyLogs s t) : t.images = s.images := by
  rw [State.onlyLogs] at h; rw [h]
theorem State.onlyLogs_dict {s t : State} (h : State.onlyLogs s t) : t.dict = s.dict := by
  rw [State.onlyLogs] at h; rw [h]
theorem State.onlyLogs_zop {s t : State} (h : State.onlyLogs s t) : t.zop = s.zop := by
  rw [State.onlyLogs] at h; rw [h]
theorem State.onlyLogs_modbus {s t : State} (h : State.onlyLogs s t) : t.modbus = s.modbus := by
  rw [State.onlyLogs] at h; rw [h]
theorem State.onlyLogs_service {s t : State} (h : State.onlyLogs s t) : t.service = s.service := by
  rw [State.onlyLogs] at h; rw [h]
theorem State.onlyLogs_freeCount {s t : State} (h : State.onlyLogs s t) : t.freeCount = s.freeCount := by
  rw [State.onlyLogs] at h; rw [h]
theorem State.onlyLogs_pending {s t : State} (h : State.onlyLogs s t) : t.pending = s.pending := by
  rw [State.onlyLogs] at h; rw [h]
theorem State.onlyLogs_store_array {s t : State} (h : State.onlyLogs s t) : t.store.array = s.store.array := by
  rw [State.onlyLogs] at h; rw [h]
theorem State.onlyLogs_store_ledger {s t : State} (h : State.onlyLogs s t) : t.store.ledger = s.store.ledger := by
  rw [State.onlyLogs] at h; rw [h]
theorem State.onlyLogs_ledger_readSeq {s t : State} (h : State.onlyLogs s t) : t.ledger.readSeq = s.ledger.readSeq := by
  rw [State.onlyLogs] at h; rw [h]
theorem State.onlyLogs_ledger_stored {s t : State} (h : State.onlyLogs s t) : t.ledger.stored = s.ledger.stored := by
  rw [State.onlyLogs] at h; rw [h]
theorem State.onlyLogs_ledger_spool {s t : State} (h : State.onlyLogs s t) : t.ledger.spool = s.ledger.spool := by
  rw [State.onlyLogs] at h; rw [h]
theorem State.onlyLogs_mirror {s t : State} (h : State.onlyLogs s t) : t.mirror = s.mirror := by
  rw [State.onlyLogs] at h; rw [h]

/-! ### The record is in the log -/

theorem State.onlyLogs_freeBuffer {s t : State} (h : State.onlyLogs s t) (o : Owner) : t.freeBuffer o = s.freeBuffer o := by
  unfold State.freeBuffer State.buffer; rw [State.onlyLogs_xch h]

@[simp] theorem Ledger.enter_nextSeq (slots : Nat) (r : EventRecord) (l : Ledger) : (l.enter slots r).1.nextSeq = r.seq + 1 := rfl

@[simp] theorem State.numbered_seq (r : EventRecord) (s : State) : (s.numbered r).seq = s.ledger.nextSeq := rfl

theorem Ledger.enter_toPost (slots : Nat) (r : EventRecord) (l : Ledger) : (l.enter slots r).1.toPost = l.toPost ++ [r] := rfl

theorem State.storeEvent_ledger (r : EventRecord) (s : State) : (s.storeEvent r).ledger = s.ledger := by
  have request (q : StoreRecord) (s : State) : (s.requestRecord q).ledger = s.ledger := by
    unfold State.requestRecord; split <;> rfl
  unfold State.storeEvent; split <;> exact request _ _

/-- The log after an entry. -/
theorem State.enterRecord_ledger (r : EventRecord) (s : State) :
    (s.enterRecord r).1.ledger = (s.ledger.enter s.logSlots (s.numbered r)).1 := State.storeEvent_ledger _ _

/-- A step of the log: it changes nothing else, numbers rise, and records that wait for their posts stay. -/
structure State.LogStep (s t : State) : Prop where
  only : State.onlyLogs s t
  seq : s.ledger.nextSeq ≤ t.ledger.nextSeq
  posts : ∀ r ∈ s.ledger.toPost, r ∈ t.ledger.toPost

theorem State.LogStep.refl (s : State) : State.LogStep s s := ⟨rfl, Nat.le_refl _, fun _ h => h⟩

theorem State.LogStep.trans {s t u : State} (h : State.LogStep s t) (k : State.LogStep t u) : State.LogStep s u :=
  ⟨State.onlyLogs_trans h.only k.only, Nat.le_trans h.seq k.seq, fun r hr => k.posts r (h.posts r hr)⟩

theorem State.LogStep.ite {s t : State} {c : Prop} [Decidable c] (h : State.LogStep s t) : State.LogStep s (if c then t else s) := by
  split
  · exact h
  · exact State.LogStep.refl s

theorem State.enterRecord_step (r : EventRecord) (s : State) : State.LogStep s (s.enterRecord r).1 := by
  refine ⟨State.enterRecord_onlyLogs r s, ?_, fun q hq => ?_⟩
  · rw [State.enterRecord_ledger, Ledger.enter_nextSeq, State.numbered_seq]; exact Nat.le_succ _
  · rw [State.enterRecord_ledger, Ledger.enter_toPost]; exact List.mem_append_left _ hq

theorem State.selfRecord_step (code interval : Nat) (s : State) : State.LogStep s (s.selfRecord code interval) := by
  unfold State.selfRecord; split
  · exact ⟨rfl, Nat.le_refl _, fun _ h => h⟩
  · refine State.LogStep.trans ?_ (State.enterRecord_step _ _)
    exact ⟨rfl, Nat.le_refl _, fun _ h => h⟩

theorem State.afterEntry_step (e : EntryResult) (s : State) : State.LogStep s (s.afterEntry e) :=
  State.LogStep.trans (State.selfRecord_step 0x0911 (ms 1000) s).ite (State.selfRecord_step 0x0908 (ms 3600000) _).ite

/-- What a record's entry says of the log: the record waits for its posts under the next EVENT_SEQ. -/
theorem State.logRecord_entered (r : EventRecord) (s : State) (h : s.rt.cycling = true) :
    s.ledger.nextSeq < (s.logRecord r).ledger.nextSeq ∧ s.numbered r ∈ (s.logRecord r).ledger.toPost := by
  unfold State.logRecord; rw [if_pos h]
  have after := State.afterEntry_step (s.enterRecord r).2 (s.enterRecord r).1
  refine ⟨Nat.lt_of_lt_of_le ?_ after.seq, after.posts _ ?_⟩
  · rw [State.enterRecord_ledger, Ledger.enter_nextSeq, State.numbered_seq]; exact Nat.lt_succ_self _
  · rw [State.enterRecord_ledger, Ledger.enter_toPost]; exact List.mem_append_right _ (List.mem_singleton_self _)

theorem State.eventAt_logsAt (code : Nat) (time : Instant) (data : List Byte) (s : State) (hd : data.length ≤ 38) :
    State.logsAt code time data s (s.eventAt code time data) := by
  by_cases h : s.rt.cycling = true
  · obtain ⟨hs, hm⟩ := State.logRecord_entered (s.newRecord code time false data) s h
    refine ⟨s.numbered (s.newRecord code time false data), rfl, rfl, List.take_of_length_le hd, ?_⟩
    rw [if_pos h]
    exact ⟨Nat.le_refl _, hs, hm⟩
  · refine ⟨s.newRecord code time false data, rfl, rfl, List.take_of_length_le hd, ?_⟩
    rw [if_neg h]
    unfold State.eventAt State.logRecord; rw [if_neg h]

theorem State.event_logs (code : Nat) (data : List Byte) (s : State) (hd : data.length ≤ 38) :
    State.logs code data s (s.event code data) := State.eventAt_logsAt code s.now data s hd

end Sys2Proof.Machine
end

