-- ==== Sys2Proof/Laws/Memory.lean ====
section
/-!
SUPPORT. Laws/Memory.lean: the cell memories: every operation keeps their canonical form, a byte written reads back, and no other byte
changes.
-/

namespace Sys2Proof.Machine

/-- The canonical form as a proposition: addresses strictly rising and no cell equal to the default. -/
def CellsWf (d : Byte) (m : List Host.Cell) : Prop := m.Pairwise (fun x y => x.1 < y.1) ∧ ∀ c ∈ m, c.2 ≠ d

theorem cellsWf_iff (d : Byte) (m : List Host.Cell) : cellsWf d m = true ↔ CellsWf d m := by
  induction m with
  | nil => simp [cellsWf, CellsWf]
  | cons c r ih =>
    obtain ⟨k, v⟩ := c
    cases r with
    | nil => simp [cellsWf, CellsWf]
    | cons e r =>
      simp only [cellsWf, Bool.and_eq_true, bne_iff_ne, decide_eq_true_eq] at ih ⊢
      constructor
      · rintro ⟨⟨hv, hk⟩, h⟩
        obtain ⟨hp, hd⟩ := ih.mp h
        refine ⟨List.pairwise_cons.mpr ⟨?_, hp⟩, ?_⟩
        · intro c hc
          rcases List.mem_cons.mp hc with rfl | hc
          · exact hk
          · exact Nat.lt_trans hk ((List.pairwise_cons.mp hp).1 c hc)
        · intro c hc
          rcases List.mem_cons.mp hc with rfl | hc
          · exact hv
          · exact hd c hc
      · rintro ⟨hp, hd⟩
        obtain ⟨hk, hp⟩ := List.pairwise_cons.mp hp
        exact ⟨⟨hd _ (List.mem_cons_self ..), hk _ (List.mem_cons_self ..)⟩,
          ih.mpr ⟨hp, fun c hc => hd c (List.mem_cons_of_mem _ hc)⟩⟩

theorem CellsWf.filter {d : Byte} {m : List Host.Cell} (h : CellsWf d m) (p : Host.Cell → Bool) : CellsWf d (m.filter p) :=
  ⟨h.1.filter p, fun c hc => h.2 c (List.mem_filter.mp hc).1⟩

/-- Two parts with every address of the first below a bound and none of the second below it. -/
theorem CellsWf.append {d : Byte} {m n : List Host.Cell} (hm : CellsWf d m) (hn : CellsWf d n) (a : Nat) (ha : ∀ c ∈ m, c.1 < a)
    (hb : ∀ c ∈ n, a ≤ c.1) : CellsWf d (m ++ n) := by
  refine ⟨List.pairwise_append.mpr ⟨hm.1, hn.1, fun x hx y hy => Nat.lt_of_lt_of_le (ha x hx) (hb y hy)⟩, ?_⟩
  intro c hc
  rcases List.mem_append.mp hc with h | h
  · exact hm.2 c h
  · exact hn.2 c h

theorem cellFresh_bounds (d : Byte) (a : Nat) (bs : List Byte) : ∀ c ∈ cellFresh d a bs, a ≤ c.1 ∧ c.1 < a + bs.length := by
  induction bs generalizing a with
  | nil => simp [cellFresh]
  | cons b bs ih =>
    intro c hc
    simp only [cellFresh] at hc
    split at hc
    · have := ih (a + 1) c hc; simp; omega
    · rcases List.mem_cons.mp hc with rfl | hc
      · simp
      · have := ih (a + 1) c hc; simp; omega

theorem cellFresh_wf (d : Byte) (a : Nat) (bs : List Byte) : CellsWf d (cellFresh d a bs) := by
  induction bs generalizing a with
  | nil => simp [cellFresh, CellsWf]
  | cons b bs ih =>
    simp only [cellFresh]
    split
    · exact ih (a + 1)
    · rename_i hb
      refine ⟨List.pairwise_cons.mpr ⟨fun c hc => ?_, (ih (a + 1)).1⟩, ?_⟩
      · have := cellFresh_bounds d (a + 1) bs c hc; simp; omega
      · intro c hc
        rcases List.mem_cons.mp hc with rfl | hc
        · exact hb
        · exact (ih (a + 1)).2 c hc

theorem cellWrite_wf (d : Byte) (a : Nat) (bs : List Byte) (m : List Host.Cell) (h : cellsWf d m = true) :
    cellsWf d (cellWrite d a bs m) = true := by
  rw [cellsWf_iff] at h ⊢
  unfold cellWrite
  refine CellsWf.append (CellsWf.append (h.filter _) (cellFresh_wf d a bs) a ?_ ?_) (h.filter _) (a + bs.length) ?_ ?_
  · intro c hc; simpa using (List.mem_filter.mp hc).2
  · intro c hc; exact (cellFresh_bounds d a bs c hc).1
  · intro c hc
    rcases List.mem_append.mp hc with hc | hc
    · have : c.1 < a := by simpa using (List.mem_filter.mp hc).2
      omega
    · exact (cellFresh_bounds d a bs c hc).2
  · intro c hc; simpa using (List.mem_filter.mp hc).2

theorem cellClear_wf (d : Byte) (a n : Nat) (m : List Host.Cell) (h : cellsWf d m = true) : cellsWf d (cellClear a n m) = true := by
  rw [cellsWf_iff] at h ⊢
  unfold cellClear
  refine CellsWf.append (h.filter _) (h.filter _) a ?_ ?_
  · intro c hc; simpa using (List.mem_filter.mp hc).2
  · intro c hc
    have : a + n ≤ c.1 := by simpa using (List.mem_filter.mp hc).2
    omega

/-! ### What a byte reads -/

theorem cellRead_append_left (d : Byte) (m n : List Host.Cell) (a : Nat) (h : ∀ c ∈ m, c.1 ≠ a) :
    cellRead d (m ++ n) a = cellRead d n a := by
  induction m with
  | nil => rfl
  | cons c r ih =>
    obtain ⟨k, v⟩ := c
    have hk : k ≠ a := h (k, v) (List.mem_cons_self ..)
    simp only [List.cons_append, cellRead, if_neg hk]
    exact ih (fun c hc => h c (List.mem_cons_of_mem _ hc))

theorem cellRead_append_right (d : Byte) (m n : List Host.Cell) (a : Nat) (h : ∀ c ∈ n, c.1 ≠ a) :
    cellRead d (m ++ n) a = cellRead d m a := by
  induction m with
  | nil =>
    rw [List.nil_append]
    simpa [cellRead] using cellRead_append_left d n [] a h
  | cons c r ih =>
    obtain ⟨k, v⟩ := c
    simp only [List.cons_append, cellRead, ih]

theorem cellRead_filter (d : Byte) (m : List Host.Cell) (p : Host.Cell → Bool) (a : Nat) (h : ∀ v, p (a, v) = true) :
    cellRead d (m.filter p) a = cellRead d m a := by
  induction m with
  | nil => rfl
  | cons c r ih =>
    obtain ⟨k, v⟩ := c
    by_cases hk : k = a
    · subst hk; simp [h v, cellRead]
    · simp only [List.filter_cons]
      split
      · simp only [cellRead, if_neg hk, ih]
      · simp only [cellRead, if_neg hk, ih]

theorem cellRead_fresh (d : Byte) (a : Nat) (bs : List Byte) (i : Nat) (h : i < bs.length) :
    cellRead d (cellFresh d a bs) (a + i) = bs[i] := by
  induction bs generalizing a i with
  | nil => simp at h
  | cons b bs ih =>
    cases i with
    | zero =>
      simp only [cellFresh]
      split
      · rename_i hb
        have : cellRead d (cellFresh d (a + 1) bs) a = d := by
          have := cellRead_append_left d (cellFresh d (a + 1) bs) [] a
            (fun c hc => by have := cellFresh_bounds d (a + 1) bs c hc; omega)
          simpa [cellRead] using this
        simpa [hb] using this
      · simp [cellRead]
    | succ i =>
      have hi : i < bs.length := by simpa using h
      have := ih (a + 1) i hi
      have e : a + 1 + i = a + (i + 1) := by omega
      rw [e] at this
      simp only [cellFresh, List.getElem_cons_succ]
      split
      · exact this
      · have hk : a ≠ a + (i + 1) := by omega
        simp only [cellRead, if_neg hk]; exact this

/-- A byte written reads back. -/
theorem cellRead_write (d : Byte) (a : Nat) (bs : List Byte) (m : List Host.Cell) (i : Nat) (h : i < bs.length) :
    cellRead d (cellWrite d a bs m) (a + i) = bs[i] := by
  unfold cellWrite
  rw [cellRead_append_right, cellRead_append_left]
  · exact cellRead_fresh d a bs i h
  · intro c hc
    have : c.1 < a := by simpa using (List.mem_filter.mp hc).2
    omega
  · intro c hc
    have : a + bs.length ≤ c.1 := by simpa using (List.mem_filter.mp hc).2
    omega

/-- A write leaves every byte outside the written ones. -/
theorem cellRead_write_other (d : Byte) (a : Nat) (bs : List Byte) (m : List Host.Cell) (x : Nat) (h : x < a ∨ a + bs.length ≤ x) :
    cellRead d (cellWrite d a bs m) x = cellRead d m x := by
  have fresh : ∀ c ∈ cellFresh d a bs, c.1 ≠ x := by
    intro c hc; have := cellFresh_bounds d a bs c hc; omega
  unfold cellWrite
  rcases h with h | h
  · rw [cellRead_append_right, cellRead_append_right _ _ _ _ fresh, cellRead_filter]
    · intro v; simpa using h
    · intro c hc
      have : a + bs.length ≤ c.1 := by simpa using (List.mem_filter.mp hc).2
      omega
  · rw [List.append_assoc, cellRead_append_left, cellRead_append_left _ _ _ _ fresh, cellRead_filter]
    · intro v; simpa using h
    · intro c hc
      have : c.1 < a := by simpa using (List.mem_filter.mp hc).2
      omega

/-- A cleared byte reads the default, and every other byte is unchanged. -/
theorem cellRead_clear (d : Byte) (a n : Nat) (m : List Host.Cell) (x : Nat) :
    cellRead d (cellClear a n m) x = if a ≤ x ∧ x < a + n then d else cellRead d m x := by
  unfold cellClear
  split
  · rename_i h
    rw [cellRead_append_left]
    · have := cellRead_append_left d (m.filter (fun c => decide (a + n ≤ c.1))) [] x ?_
      · simpa [cellRead] using this
      · intro c hc
        have : a + n ≤ c.1 := by simpa using (List.mem_filter.mp hc).2
        omega
    · intro c hc
      have : c.1 < a := by simpa using (List.mem_filter.mp hc).2
      omega
  · rename_i h
    by_cases hx : x < a
    · rw [cellRead_append_right, cellRead_filter]
      · intro v; simpa using hx
      · intro c hc
        have : a + n ≤ c.1 := by simpa using (List.mem_filter.mp hc).2
        omega
    · rw [cellRead_append_left, cellRead_filter]
      · intro v; simp; omega
      · intro c hc
        have : c.1 < a := by simpa using (List.mem_filter.mp hc).2
        omega

/-! ### Tags -/

/-- The canonical form of the tags as a proposition. -/
def TagsWf (m : List (Nat × Nat)) : Prop := m.Pairwise (fun x y => x.1 < y.1) ∧ ∀ c ∈ m, c.2 ≠ 0

theorem tagsWf_iff (m : List (Nat × Nat)) : tagsWf m = true ↔ TagsWf m := by
  induction m with
  | nil => simp [tagsWf, TagsWf]
  | cons c r ih =>
    obtain ⟨k, v⟩ := c
    cases r with
    | nil => simp [tagsWf, TagsWf]
    | cons e r =>
      simp only [tagsWf, Bool.and_eq_true, bne_iff_ne, decide_eq_true_eq] at ih ⊢
      constructor
      · rintro ⟨⟨hv, hk⟩, h⟩
        obtain ⟨hp, hd⟩ := ih.mp h
        refine ⟨List.pairwise_cons.mpr ⟨fun c hc => ?_, hp⟩, fun c hc => ?_⟩
        · rcases List.mem_cons.mp hc with rfl | hc
          · exact hk
          · exact Nat.lt_trans hk ((List.pairwise_cons.mp hp).1 c hc)
        · rcases List.mem_cons.mp hc with rfl | hc
          · exact hv
          · exact hd c hc
      · rintro ⟨hp, hd⟩
        obtain ⟨hk, hp⟩ := List.pairwise_cons.mp hp
        exact ⟨⟨hd _ (List.mem_cons_self ..), hk _ (List.mem_cons_self ..)⟩,
          ih.mpr ⟨hp, fun c hc => hd c (List.mem_cons_of_mem _ hc)⟩⟩

theorem State.setTag_wf (g v : Nat) (s : State) (h : tagsWf s.le.tags = true) : tagsWf (s.setTag g v).le.tags = true := by
  unfold State.setTag
  split
  · exact h
  · rw [tagsWf_iff] at h ⊢
    have low : ∀ c ∈ s.le.tags.filter (fun t => decide (t.1 < g)), c.1 < g ∧ c.2 ≠ 0 := fun c hc =>
      ⟨by simpa using (List.mem_filter.mp hc).2, h.2 c (List.mem_filter.mp hc).1⟩
    have high : ∀ c ∈ s.le.tags.filter (fun t => decide (g < t.1)), g < c.1 ∧ c.2 ≠ 0 := fun c hc =>
      ⟨by simpa using (List.mem_filter.mp hc).2, h.2 c (List.mem_filter.mp hc).1⟩
    refine ⟨List.pairwise_append.mpr ⟨List.pairwise_append.mpr ⟨h.1.filter _, ?_, ?_⟩, h.1.filter _, ?_⟩, ?_⟩
    · split <;> simp
    · intro x hx y hy
      split at hy
      · simp at hy
      · rw [List.mem_singleton.mp hy]; exact (low x hx).1
    · intro x hx y hy
      rcases List.mem_append.mp hx with hx | hx
      · exact Nat.lt_trans (low x hx).1 (high y hy).1
      · split at hx
        · simp at hx
        · rw [List.mem_singleton.mp hx]; exact (high y hy).1
    · intro c hc
      rcases List.mem_append.mp hc with hc | hc
      · rcases List.mem_append.mp hc with hc | hc
        · exact (low c hc).2
        · split at hc
          · simp at hc
          · rename_i hv
            rw [List.mem_singleton.mp hc]; exact hv
      · exact (high c hc).2

/-! ### RAM as the passes and the LE reach it -/

theorem State.storeNative_ram (w : Nat × BitVec 32) (s : State) (h : cellsWf 0 s.le.ram = true) :
    cellsWf 0 (s.storeNative w).le.ram = true := by
  unfold State.storeNative
  split
  · exact h
  · exact h
  · split
    · exact cellWrite_wf _ _ _ _ h
    · exact h

theorem State.storeCoded_ram (w : Nat × BitVec 64) (s : State) (h : cellsWf 0 s.le.ram = true) :
    cellsWf 0 (s.storeCoded w).le.ram = true := by
  unfold State.storeCoded
  split
  · exact h
  · exact h
  · split
    · exact cellWrite_wf _ _ _ _ h
    · exact h

theorem foldl_keeps {α β : Type} (P : β → Prop) (f : β → α → β) (hf : ∀ b a, P b → P (f b a)) (l : List α) (b : β) (h : P b) :
    P (l.foldl f b) := by
  induction l generalizing b with
  | nil => exact h
  | cons a l ih => exact ih _ (hf _ _ h)

/-- A store by the LE or the debug unit keeps the canonical form. -/
theorem State.putRam_ram (addr : Nat) (bytes : List Byte) (s : State) (h : cellsWf 0 s.le.ram = true) :
    cellsWf 0 (s.putRam addr bytes).le.ram = true := by
  unfold State.putRam
  split
  · exact cellWrite_wf _ _ _ _ h
  · refine foldl_keeps (fun t : State => cellsWf 0 t.le.ram = true) _ (fun t b ht => ?_) _ s h
    dsimp only
    split
    · unfold State.putAreaByte
      split
      · exact State.storeCoded_ram _ _ ht
      · exact State.storeNative_ram _ _ ht
    · split
      · exact cellWrite_wf _ _ _ _ ht
      · exact cellWrite_wf _ _ _ _ ht

/-! ### The store -/

theorem Store.modArea_array (a : Area) (f : AreaState → AreaState) (st : Store) : (st.modArea a f).array = st.array := by
  cases a <;> rfl

theorem Store.modArea_ledger (a : Area) (f : AreaState → AreaState) (st : Store) : (st.modArea a f).ledger = st.ledger := by
  cases a <;> rfl

@[simp] theorem cellDense_length (d : Byte) (n a : Nat) (m : List Host.Cell) : (cellDense d n a m).length = n := by
  induction n generalizing a m with
  | zero => cases m <;> rfl
  | succ n ih =>
    cases m with
    | nil => simp [cellDense, ih]
    | cons c r =>
      obtain ⟨k, v⟩ := c
      simp only [cellDense]
      split <;> simp [ih]

@[simp] theorem cellBytes_length (d : Byte) (m : List Host.Cell) (a n : Nat) : (cellBytes d m a n).length = n := cellDense_length ..

/-- A program changes bits from 1 to 0 only (R396). -/
theorem Store.program_read (addr : Nat) (bytes : List Byte) (st : Store) (i : Nat) (h : i < bytes.length) :
    cellRead erasedByte (st.program addr bytes).array (addr + i) =
      (cellBytes erasedByte st.array addr bytes.length)[i]'(by simpa using h) &&& bytes[i] := by
  unfold Store.program
  rw [cellRead_write _ _ _ _ _ (by simpa using h), List.getElem_zipWith]

theorem Store.program_wf (addr : Nat) (bytes : List Byte) (st : Store) (h : cellsWf erasedByte st.array = true) :
    cellsWf erasedByte (st.program addr bytes).array = true := cellWrite_wf _ _ _ _ h

theorem Store.clearSector_wf (sec : Nat) (st : Store) (h : cellsWf erasedByte st.array = true) :
    cellsWf erasedByte (st.clearSector sec).array = true := cellClear_wf _ _ _ _ h

/-- Bytes cut short are read into memories that keep their form (R398). -/
theorem Store.putByte_wf (st : Store) (addr : Nat) (b : Byte) (h : cellsWf erasedByte st.array = true ∧ cellsWf erasedByte st.ledger = true) :
    cellsWf erasedByte (st.putByte addr b).array = true ∧ cellsWf erasedByte (st.putByte addr b).ledger = true := by
  unfold Store.putByte
  split
  · exact ⟨cellWrite_wf _ _ _ _ h.1, h.2⟩
  · exact ⟨h.1, cellWrite_wf _ _ _ _ h.2⟩

theorem State.readTorn_wf (s : State) (h : cellsWf erasedByte s.store.array = true ∧ cellsWf erasedByte s.store.ledger = true) :
    cellsWf erasedByte s.readTorn.store.array = true ∧ cellsWf erasedByte s.readTorn.store.ledger = true :=
  foldl_keeps (fun st : Store => cellsWf erasedByte st.array = true ∧ cellsWf erasedByte st.ledger = true) _
    (fun st _ hs => Store.putByte_wf st _ _ hs) _ _ h

/-- The memories stand in their canonical form at reset. -/
theorem Memory.reset_wf : Memory.wf State.reset = true := by decide

end Sys2Proof.Machine
end

