-- ==== Sys2Proof/Laws/State.lean ====
section
/-!
SUPPORT. Laws/State.lean: for each shared operation, the parts of the state it leaves alone, and the fields it sets.
-/

namespace Sys2Proof.Machine

/-! ### elapse -/

@[simp] theorem State.elapse_rt (dt : Nat) (s : State) : (s.elapse dt).rt = s.rt := rfl
@[simp] theorem State.elapse_power (dt : Nat) (s : State) : (s.elapse dt).power = s.power := rfl
@[simp] theorem State.elapse_boot (dt : Nat) (s : State) : (s.elapse dt).boot = s.boot := rfl
@[simp] theorem State.elapse_otp (dt : Nat) (s : State) : (s.elapse dt).otp = s.otp := rfl
@[simp] theorem State.elapse_passes (dt : Nat) (s : State) : (s.elapse dt).passes = s.passes := rfl
@[simp] theorem State.elapse_le (dt : Nat) (s : State) : (s.elapse dt).le = s.le := rfl
@[simp] theorem State.elapse_xch (dt : Nat) (s : State) : (s.elapse dt).xch = s.xch := rfl
@[simp] theorem State.elapse_field (dt : Nat) (s : State) : (s.elapse dt).field = s.field := rfl
@[simp] theorem State.elapse_glint (dt : Nat) (s : State) : (s.elapse dt).glint = s.glint := rfl
@[simp] theorem State.elapse_counters (dt : Nat) (s : State) : (s.elapse dt).counters = s.counters := rfl
@[simp] theorem State.elapse_analog (dt : Nat) (s : State) : (s.elapse dt).analog = s.analog := rfl
@[simp] theorem State.elapse_lib (dt : Nat) (s : State) : (s.elapse dt).lib = s.lib := rfl
@[simp] theorem State.elapse_images (dt : Nat) (s : State) : (s.elapse dt).images = s.images := rfl
@[simp] theorem State.elapse_store (dt : Nat) (s : State) : (s.elapse dt).store = s.store := rfl
@[simp] theorem State.elapse_dict (dt : Nat) (s : State) : (s.elapse dt).dict = s.dict := rfl
@[simp] theorem State.elapse_zop (dt : Nat) (s : State) : (s.elapse dt).zop = s.zop := rfl
@[simp] theorem State.elapse_mirror (dt : Nat) (s : State) : (s.elapse dt).mirror = s.mirror := rfl
@[simp] theorem State.elapse_modbus (dt : Nat) (s : State) : (s.elapse dt).modbus = s.modbus := rfl
@[simp] theorem State.elapse_service (dt : Nat) (s : State) : (s.elapse dt).service = s.service := rfl
@[simp] theorem State.elapse_ledger (dt : Nat) (s : State) : (s.elapse dt).ledger = s.ledger := rfl
@[simp] theorem State.elapse_freeCount (dt : Nat) (s : State) : (s.elapse dt).freeCount = s.freeCount := rfl
@[simp] theorem State.elapse_pending (dt : Nat) (s : State) : (s.elapse dt).pending = s.pending := rfl

/-! ### requestRecord -/

@[simp] theorem State.requestRecord_rt (r : StoreRecord) (s : State) : (s.requestRecord r).rt = s.rt := by unfold State.requestRecord; split <;> rfl
@[simp] theorem State.requestRecord_power (r : StoreRecord) (s : State) : (s.requestRecord r).power = s.power := by unfold State.requestRecord; split <;> rfl
@[simp] theorem State.requestRecord_clock (r : StoreRecord) (s : State) : (s.requestRecord r).clock = s.clock := by unfold State.requestRecord; split <;> rfl
@[simp] theorem State.requestRecord_boot (r : StoreRecord) (s : State) : (s.requestRecord r).boot = s.boot := by unfold State.requestRecord; split <;> rfl
@[simp] theorem State.requestRecord_otp (r : StoreRecord) (s : State) : (s.requestRecord r).otp = s.otp := by unfold State.requestRecord; split <;> rfl
@[simp] theorem State.requestRecord_passes (r : StoreRecord) (s : State) : (s.requestRecord r).passes = s.passes := by unfold State.requestRecord; split <;> rfl
@[simp] theorem State.requestRecord_le (r : StoreRecord) (s : State) : (s.requestRecord r).le = s.le := by unfold State.requestRecord; split <;> rfl
@[simp] theorem State.requestRecord_xch (r : StoreRecord) (s : State) : (s.requestRecord r).xch = s.xch := by unfold State.requestRecord; split <;> rfl
@[simp] theorem State.requestRecord_field (r : StoreRecord) (s : State) : (s.requestRecord r).field = s.field := by unfold State.requestRecord; split <;> rfl
@[simp] theorem State.requestRecord_glint (r : StoreRecord) (s : State) : (s.requestRecord r).glint = s.glint := by unfold State.requestRecord; split <;> rfl
@[simp] theorem State.requestRecord_counters (r : StoreRecord) (s : State) : (s.requestRecord r).counters = s.counters := by unfold State.requestRecord; split <;> rfl
@[simp] theorem State.requestRecord_analog (r : StoreRecord) (s : State) : (s.requestRecord r).analog = s.analog := by unfold State.requestRecord; split <;> rfl
@[simp] theorem State.requestRecord_lib (r : StoreRecord) (s : State) : (s.requestRecord r).lib = s.lib := by unfold State.requestRecord; split <;> rfl
@[simp] theorem State.requestRecord_images (r : StoreRecord) (s : State) : (s.requestRecord r).images = s.images := by unfold State.requestRecord; split <;> rfl
@[simp] theorem State.requestRecord_dict (r : StoreRecord) (s : State) : (s.requestRecord r).dict = s.dict := by unfold State.requestRecord; split <;> rfl
@[simp] theorem State.requestRecord_zop (r : StoreRecord) (s : State) : (s.requestRecord r).zop = s.zop := by unfold State.requestRecord; split <;> rfl
@[simp] theorem State.requestRecord_mirror (r : StoreRecord) (s : State) : (s.requestRecord r).mirror = s.mirror := by unfold State.requestRecord; split <;> rfl
@[simp] theorem State.requestRecord_modbus (r : StoreRecord) (s : State) : (s.requestRecord r).modbus = s.modbus := by unfold State.requestRecord; split <;> rfl
@[simp] theorem State.requestRecord_service (r : StoreRecord) (s : State) : (s.requestRecord r).service = s.service := by unfold State.requestRecord; split <;> rfl
@[simp] theorem State.requestRecord_ledger (r : StoreRecord) (s : State) : (s.requestRecord r).ledger = s.ledger := by unfold State.requestRecord; split <;> rfl
@[simp] theorem State.requestRecord_freeCount (r : StoreRecord) (s : State) : (s.requestRecord r).freeCount = s.freeCount := by unfold State.requestRecord; split <;> rfl
@[simp] theorem State.requestRecord_pending (r : StoreRecord) (s : State) : (s.requestRecord r).pending = s.pending := by unfold State.requestRecord; split <;> rfl
@[simp] theorem State.requestRecord_localNow (r : StoreRecord) (s : State) : (s.requestRecord r).localNow = s.localNow := by
  simp only [State.localNow, State.requestRecord_clock]
@[simp] theorem State.requestRecord_now (r : StoreRecord) (s : State) : (s.requestRecord r).now = s.now := by
  simp only [State.now, State.requestRecord_clock]
@[simp] theorem State.requestRecord_released (r : StoreRecord) (s : State) : (s.requestRecord r).released = s.released := by
  simp only [State.released, State.requestRecord_rt]
@[simp] theorem State.requestRecord_logicState (r : StoreRecord) (s : State) : (s.requestRecord r).logicState = s.logicState := by
  simp only [State.logicState, State.requestRecord_rt]
@[simp] theorem State.requestRecord_entryOk (r : StoreRecord) (s : State) : (s.requestRecord r).entryOk = s.entryOk := by
  simp only [State.entryOk, State.requestRecord_power]
@[simp] theorem State.requestRecord_setting (r : StoreRecord) (s : State) (i j d : Nat) : (s.requestRecord r).setting i j d = s.setting i j d := by
  simp only [State.setting, State.requestRecord_dict]

/-! ### persist -/

@[simp] theorem State.persist_rt (key size value : Nat) (s : State) : (s.persist key size value).rt = s.rt := by simp [State.persist]
@[simp] theorem State.persist_power (key size value : Nat) (s : State) : (s.persist key size value).power = s.power := by simp [State.persist]
@[simp] theorem State.persist_clock (key size value : Nat) (s : State) : (s.persist key size value).clock = s.clock := by simp [State.persist]
@[simp] theorem State.persist_boot (key size value : Nat) (s : State) : (s.persist key size value).boot = s.boot := by simp [State.persist]
@[simp] theorem State.persist_otp (key size value : Nat) (s : State) : (s.persist key size value).otp = s.otp := by simp [State.persist]
@[simp] theorem State.persist_passes (key size value : Nat) (s : State) : (s.persist key size value).passes = s.passes := by simp [State.persist]
@[simp] theorem State.persist_le (key size value : Nat) (s : State) : (s.persist key size value).le = s.le := by simp [State.persist]
@[simp] theorem State.persist_xch (key size value : Nat) (s : State) : (s.persist key size value).xch = s.xch := by simp [State.persist]
@[simp] theorem State.persist_field (key size value : Nat) (s : State) : (s.persist key size value).field = s.field := by simp [State.persist]
@[simp] theorem State.persist_glint (key size value : Nat) (s : State) : (s.persist key size value).glint = s.glint := by simp [State.persist]
@[simp] theorem State.persist_counters (key size value : Nat) (s : State) : (s.persist key size value).counters = s.counters := by simp [State.persist]
@[simp] theorem State.persist_analog (key size value : Nat) (s : State) : (s.persist key size value).analog = s.analog := by simp [State.persist]
@[simp] theorem State.persist_lib (key size value : Nat) (s : State) : (s.persist key size value).lib = s.lib := by simp [State.persist]
@[simp] theorem State.persist_images (key size value : Nat) (s : State) : (s.persist key size value).images = s.images := by simp [State.persist]
@[simp] theorem State.persist_dict (key size value : Nat) (s : State) : (s.persist key size value).dict = s.dict := by simp [State.persist]
@[simp] theorem State.persist_zop (key size value : Nat) (s : State) : (s.persist key size value).zop = s.zop := by simp [State.persist]
@[simp] theorem State.persist_mirror (key size value : Nat) (s : State) : (s.persist key size value).mirror = s.mirror := by simp [State.persist]
@[simp] theorem State.persist_modbus (key size value : Nat) (s : State) : (s.persist key size value).modbus = s.modbus := by simp [State.persist]
@[simp] theorem State.persist_service (key size value : Nat) (s : State) : (s.persist key size value).service = s.service := by simp [State.persist]
@[simp] theorem State.persist_ledger (key size value : Nat) (s : State) : (s.persist key size value).ledger = s.ledger := by simp [State.persist]
@[simp] theorem State.persist_freeCount (key size value : Nat) (s : State) : (s.persist key size value).freeCount = s.freeCount := by simp [State.persist]
@[simp] theorem State.persist_pending (key size value : Nat) (s : State) : (s.persist key size value).pending = s.pending := by simp [State.persist]
@[simp] theorem State.persist_localNow (key size value : Nat) (s : State) : (s.persist key size value).localNow = s.localNow := by
  simp only [State.localNow, State.persist_clock]
@[simp] theorem State.persist_now (key size value : Nat) (s : State) : (s.persist key size value).now = s.now := by
  simp only [State.now, State.persist_clock]
@[simp] theorem State.persist_released (key size value : Nat) (s : State) : (s.persist key size value).released = s.released := by
  simp only [State.released, State.persist_rt]
@[simp] theorem State.persist_logicState (key size value : Nat) (s : State) : (s.persist key size value).logicState = s.logicState := by
  simp only [State.logicState, State.persist_rt]
@[simp] theorem State.persist_entryOk (key size value : Nat) (s : State) : (s.persist key size value).entryOk = s.entryOk := by
  simp only [State.entryOk, State.persist_power]
@[simp] theorem State.persist_setting (key size value : Nat) (s : State) (i j d : Nat) : (s.persist key size value).setting i j d = s.setting i j d := by
  simp only [State.setting, State.persist_dict]

/-! ### persistLatch -/

@[simp] theorem State.persistLatch_rt (s : State) : (s.persistLatch).rt = s.rt := by simp [State.persistLatch]
@[simp] theorem State.persistLatch_power (s : State) : (s.persistLatch).power = s.power := by simp [State.persistLatch]
@[simp] theorem State.persistLatch_clock (s : State) : (s.persistLatch).clock = s.clock := by simp [State.persistLatch]
@[simp] theorem State.persistLatch_boot (s : State) : (s.persistLatch).boot = s.boot := by simp [State.persistLatch]
@[simp] theorem State.persistLatch_otp (s : State) : (s.persistLatch).otp = s.otp := by simp [State.persistLatch]
@[simp] theorem State.persistLatch_passes (s : State) : (s.persistLatch).passes = s.passes := by simp [State.persistLatch]
@[simp] theorem State.persistLatch_le (s : State) : (s.persistLatch).le = s.le := by simp [State.persistLatch]
@[simp] theorem State.persistLatch_xch (s : State) : (s.persistLatch).xch = s.xch := by simp [State.persistLatch]
@[simp] theorem State.persistLatch_field (s : State) : (s.persistLatch).field = s.field := by simp [State.persistLatch]
@[simp] theorem State.persistLatch_glint (s : State) : (s.persistLatch).glint = s.glint := by simp [State.persistLatch]
@[simp] theorem State.persistLatch_counters (s : State) : (s.persistLatch).counters = s.counters := by simp [State.persistLatch]
@[simp] theorem State.persistLatch_analog (s : State) : (s.persistLatch).analog = s.analog := by simp [State.persistLatch]
@[simp] theorem State.persistLatch_lib (s : State) : (s.persistLatch).lib = s.lib := by simp [State.persistLatch]
@[simp] theorem State.persistLatch_images (s : State) : (s.persistLatch).images = s.images := by simp [State.persistLatch]
@[simp] theorem State.persistLatch_dict (s : State) : (s.persistLatch).dict = s.dict := by simp [State.persistLatch]
@[simp] theorem State.persistLatch_zop (s : State) : (s.persistLatch).zop = s.zop := by simp [State.persistLatch]
@[simp] theorem State.persistLatch_mirror (s : State) : (s.persistLatch).mirror = s.mirror := by simp [State.persistLatch]
@[simp] theorem State.persistLatch_modbus (s : State) : (s.persistLatch).modbus = s.modbus := by simp [State.persistLatch]
@[simp] theorem State.persistLatch_service (s : State) : (s.persistLatch).service = s.service := by simp [State.persistLatch]
@[simp] theorem State.persistLatch_ledger (s : State) : (s.persistLatch).ledger = s.ledger := by simp [State.persistLatch]
@[simp] theorem State.persistLatch_freeCount (s : State) : (s.persistLatch).freeCount = s.freeCount := by simp [State.persistLatch]
@[simp] theorem State.persistLatch_pending (s : State) : (s.persistLatch).pending = s.pending := by simp [State.persistLatch]
@[simp] theorem State.persistLatch_localNow (s : State) : (s.persistLatch).localNow = s.localNow := by
  simp only [State.localNow, State.persistLatch_clock]
@[simp] theorem State.persistLatch_now (s : State) : (s.persistLatch).now = s.now := by
  simp only [State.now, State.persistLatch_clock]
@[simp] theorem State.persistLatch_released (s : State) : (s.persistLatch).released = s.released := by
  simp only [State.released, State.persistLatch_rt]
@[simp] theorem State.persistLatch_logicState (s : State) : (s.persistLatch).logicState = s.logicState := by
  simp only [State.logicState, State.persistLatch_rt]
@[simp] theorem State.persistLatch_entryOk (s : State) : (s.persistLatch).entryOk = s.entryOk := by
  simp only [State.entryOk, State.persistLatch_power]
@[simp] theorem State.persistLatch_setting (s : State) (i j d : Nat) : (s.persistLatch).setting i j d = s.setting i j d := by
  simp only [State.setting, State.persistLatch_dict]

/-! ### logRecord -/

@[simp] theorem State.logRecord_rt (r : EventRecord) (s : State) : (s.logRecord r).rt = s.rt := State.onlyLogs_rt (State.logRecord_onlyLogs _ _)
@[simp] theorem State.logRecord_power (r : EventRecord) (s : State) : (s.logRecord r).power = s.power := State.onlyLogs_power (State.logRecord_onlyLogs _ _)
@[simp] theorem State.logRecord_clock (r : EventRecord) (s : State) : (s.logRecord r).clock = s.clock := State.onlyLogs_clock (State.logRecord_onlyLogs _ _)
@[simp] theorem State.logRecord_boot (r : EventRecord) (s : State) : (s.logRecord r).boot = s.boot := State.onlyLogs_boot (State.logRecord_onlyLogs _ _)
@[simp] theorem State.logRecord_otp (r : EventRecord) (s : State) : (s.logRecord r).otp = s.otp := State.onlyLogs_otp (State.logRecord_onlyLogs _ _)
@[simp] theorem State.logRecord_passes (r : EventRecord) (s : State) : (s.logRecord r).passes = s.passes := State.onlyLogs_passes (State.logRecord_onlyLogs _ _)
@[simp] theorem State.logRecord_le (r : EventRecord) (s : State) : (s.logRecord r).le = s.le := State.onlyLogs_le (State.logRecord_onlyLogs _ _)
@[simp] theorem State.logRecord_xch (r : EventRecord) (s : State) : (s.logRecord r).xch = s.xch := State.onlyLogs_xch (State.logRecord_onlyLogs _ _)
@[simp] theorem State.logRecord_field (r : EventRecord) (s : State) : (s.logRecord r).field = s.field := State.onlyLogs_field (State.logRecord_onlyLogs _ _)
@[simp] theorem State.logRecord_glint (r : EventRecord) (s : State) : (s.logRecord r).glint = s.glint := State.onlyLogs_glint (State.logRecord_onlyLogs _ _)
@[simp] theorem State.logRecord_counters (r : EventRecord) (s : State) : (s.logRecord r).counters = s.counters := State.onlyLogs_counters (State.logRecord_onlyLogs _ _)
@[simp] theorem State.logRecord_analog (r : EventRecord) (s : State) : (s.logRecord r).analog = s.analog := State.onlyLogs_analog (State.logRecord_onlyLogs _ _)
@[simp] theorem State.logRecord_lib (r : EventRecord) (s : State) : (s.logRecord r).lib = s.lib := State.onlyLogs_lib (State.logRecord_onlyLogs _ _)
@[simp] theorem State.logRecord_images (r : EventRecord) (s : State) : (s.logRecord r).images = s.images := State.onlyLogs_images (State.logRecord_onlyLogs _ _)
@[simp] theorem State.logRecord_dict (r : EventRecord) (s : State) : (s.logRecord r).dict = s.dict := State.onlyLogs_dict (State.logRecord_onlyLogs _ _)
@[simp] theorem State.logRecord_zop (r : EventRecord) (s : State) : (s.logRecord r).zop = s.zop := State.onlyLogs_zop (State.logRecord_onlyLogs _ _)
@[simp] theorem State.logRecord_mirror (r : EventRecord) (s : State) : (s.logRecord r).mirror = s.mirror := State.onlyLogs_mirror (State.logRecord_onlyLogs _ _)
@[simp] theorem State.logRecord_modbus (r : EventRecord) (s : State) : (s.logRecord r).modbus = s.modbus := State.onlyLogs_modbus (State.logRecord_onlyLogs _ _)
@[simp] theorem State.logRecord_service (r : EventRecord) (s : State) : (s.logRecord r).service = s.service := State.onlyLogs_service (State.logRecord_onlyLogs _ _)
@[simp] theorem State.logRecord_freeCount (r : EventRecord) (s : State) : (s.logRecord r).freeCount = s.freeCount := State.onlyLogs_freeCount (State.logRecord_onlyLogs _ _)
@[simp] theorem State.logRecord_pending (r : EventRecord) (s : State) : (s.logRecord r).pending = s.pending := State.onlyLogs_pending (State.logRecord_onlyLogs _ _)
@[simp] theorem State.logRecord_localNow (r : EventRecord) (s : State) : (s.logRecord r).localNow = s.localNow := by
  simp only [State.localNow, State.logRecord_clock]
@[simp] theorem State.logRecord_now (r : EventRecord) (s : State) : (s.logRecord r).now = s.now := by
  simp only [State.now, State.logRecord_clock]
@[simp] theorem State.logRecord_released (r : EventRecord) (s : State) : (s.logRecord r).released = s.released := by
  simp only [State.released, State.logRecord_rt]
@[simp] theorem State.logRecord_logicState (r : EventRecord) (s : State) : (s.logRecord r).logicState = s.logicState := by
  simp only [State.logicState, State.logRecord_rt]
@[simp] theorem State.logRecord_entryOk (r : EventRecord) (s : State) : (s.logRecord r).entryOk = s.entryOk := by
  simp only [State.entryOk, State.logRecord_power]
@[simp] theorem State.logRecord_setting (r : EventRecord) (s : State) (i j d : Nat) : (s.logRecord r).setting i j d = s.setting i j d := by
  simp only [State.setting, State.logRecord_dict]

/-! ### eventAt -/

@[simp] theorem State.eventAt_rt (code : Nat) (time : Instant) (data : List Byte) (s : State) : (s.eventAt code time data).rt = s.rt := State.onlyLogs_rt (State.eventAt_onlyLogs _ _ _ _)
@[simp] theorem State.eventAt_power (code : Nat) (time : Instant) (data : List Byte) (s : State) : (s.eventAt code time data).power = s.power := State.onlyLogs_power (State.eventAt_onlyLogs _ _ _ _)
@[simp] theorem State.eventAt_clock (code : Nat) (time : Instant) (data : List Byte) (s : State) : (s.eventAt code time data).clock = s.clock := State.onlyLogs_clock (State.eventAt_onlyLogs _ _ _ _)
@[simp] theorem State.eventAt_boot (code : Nat) (time : Instant) (data : List Byte) (s : State) : (s.eventAt code time data).boot = s.boot := State.onlyLogs_boot (State.eventAt_onlyLogs _ _ _ _)
@[simp] theorem State.eventAt_otp (code : Nat) (time : Instant) (data : List Byte) (s : State) : (s.eventAt code time data).otp = s.otp := State.onlyLogs_otp (State.eventAt_onlyLogs _ _ _ _)
@[simp] theorem State.eventAt_passes (code : Nat) (time : Instant) (data : List Byte) (s : State) : (s.eventAt code time data).passes = s.passes := State.onlyLogs_passes (State.eventAt_onlyLogs _ _ _ _)
@[simp] theorem State.eventAt_le (code : Nat) (time : Instant) (data : List Byte) (s : State) : (s.eventAt code time data).le = s.le := State.onlyLogs_le (State.eventAt_onlyLogs _ _ _ _)
@[simp] theorem State.eventAt_xch (code : Nat) (time : Instant) (data : List Byte) (s : State) : (s.eventAt code time data).xch = s.xch := State.onlyLogs_xch (State.eventAt_onlyLogs _ _ _ _)
@[simp] theorem State.eventAt_field (code : Nat) (time : Instant) (data : List Byte) (s : State) : (s.eventAt code time data).field = s.field := State.onlyLogs_field (State.eventAt_onlyLogs _ _ _ _)
@[simp] theorem State.eventAt_glint (code : Nat) (time : Instant) (data : List Byte) (s : State) : (s.eventAt code time data).glint = s.glint := State.onlyLogs_glint (State.eventAt_onlyLogs _ _ _ _)
@[simp] theorem State.eventAt_counters (code : Nat) (time : Instant) (data : List Byte) (s : State) : (s.eventAt code time data).counters = s.counters := State.onlyLogs_counters (State.eventAt_onlyLogs _ _ _ _)
@[simp] theorem State.eventAt_analog (code : Nat) (time : Instant) (data : List Byte) (s : State) : (s.eventAt code time data).analog = s.analog := State.onlyLogs_analog (State.eventAt_onlyLogs _ _ _ _)
@[simp] theorem State.eventAt_lib (code : Nat) (time : Instant) (data : List Byte) (s : State) : (s.eventAt code time data).lib = s.lib := State.onlyLogs_lib (State.eventAt_onlyLogs _ _ _ _)
@[simp] theorem State.eventAt_images (code : Nat) (time : Instant) (data : List Byte) (s : State) : (s.eventAt code time data).images = s.images := State.onlyLogs_images (State.eventAt_onlyLogs _ _ _ _)
@[simp] theorem State.eventAt_dict (code : Nat) (time : Instant) (data : List Byte) (s : State) : (s.eventAt code time data).dict = s.dict := State.onlyLogs_dict (State.eventAt_onlyLogs _ _ _ _)
@[simp] theorem State.eventAt_zop (code : Nat) (time : Instant) (data : List Byte) (s : State) : (s.eventAt code time data).zop = s.zop := State.onlyLogs_zop (State.eventAt_onlyLogs _ _ _ _)
@[simp] theorem State.eventAt_mirror (code : Nat) (time : Instant) (data : List Byte) (s : State) : (s.eventAt code time data).mirror = s.mirror := State.onlyLogs_mirror (State.eventAt_onlyLogs _ _ _ _)
@[simp] theorem State.eventAt_modbus (code : Nat) (time : Instant) (data : List Byte) (s : State) : (s.eventAt code time data).modbus = s.modbus := State.onlyLogs_modbus (State.eventAt_onlyLogs _ _ _ _)
@[simp] theorem State.eventAt_service (code : Nat) (time : Instant) (data : List Byte) (s : State) : (s.eventAt code time data).service = s.service := State.onlyLogs_service (State.eventAt_onlyLogs _ _ _ _)
@[simp] theorem State.eventAt_freeCount (code : Nat) (time : Instant) (data : List Byte) (s : State) : (s.eventAt code time data).freeCount = s.freeCount := State.onlyLogs_freeCount (State.eventAt_onlyLogs _ _ _ _)
@[simp] theorem State.eventAt_pending (code : Nat) (time : Instant) (data : List Byte) (s : State) : (s.eventAt code time data).pending = s.pending := State.onlyLogs_pending (State.eventAt_onlyLogs _ _ _ _)
@[simp] theorem State.eventAt_localNow (code : Nat) (time : Instant) (data : List Byte) (s : State) : (s.eventAt code time data).localNow = s.localNow := by
  simp only [State.localNow, State.eventAt_clock]
@[simp] theorem State.eventAt_now (code : Nat) (time : Instant) (data : List Byte) (s : State) : (s.eventAt code time data).now = s.now := by
  simp only [State.now, State.eventAt_clock]
@[simp] theorem State.eventAt_released (code : Nat) (time : Instant) (data : List Byte) (s : State) : (s.eventAt code time data).released = s.released := by
  simp only [State.released, State.eventAt_rt]
@[simp] theorem State.eventAt_logicState (code : Nat) (time : Instant) (data : List Byte) (s : State) : (s.eventAt code time data).logicState = s.logicState := by
  simp only [State.logicState, State.eventAt_rt]
@[simp] theorem State.eventAt_entryOk (code : Nat) (time : Instant) (data : List Byte) (s : State) : (s.eventAt code time data).entryOk = s.entryOk := by
  simp only [State.entryOk, State.eventAt_power]
@[simp] theorem State.eventAt_setting (code : Nat) (time : Instant) (data : List Byte) (s : State) (i j d : Nat) : (s.eventAt code time data).setting i j d = s.setting i j d := by
  simp only [State.setting, State.eventAt_dict]

/-! ### event -/

@[simp] theorem State.event_rt (code : Nat) (data : List Byte) (s : State) : (s.event code data).rt = s.rt := State.onlyLogs_rt (State.event_onlyLogs _ _ _)
@[simp] theorem State.event_power (code : Nat) (data : List Byte) (s : State) : (s.event code data).power = s.power := State.onlyLogs_power (State.event_onlyLogs _ _ _)
@[simp] theorem State.event_clock (code : Nat) (data : List Byte) (s : State) : (s.event code data).clock = s.clock := State.onlyLogs_clock (State.event_onlyLogs _ _ _)
@[simp] theorem State.event_boot (code : Nat) (data : List Byte) (s : State) : (s.event code data).boot = s.boot := State.onlyLogs_boot (State.event_onlyLogs _ _ _)
@[simp] theorem State.event_otp (code : Nat) (data : List Byte) (s : State) : (s.event code data).otp = s.otp := State.onlyLogs_otp (State.event_onlyLogs _ _ _)
@[simp] theorem State.event_passes (code : Nat) (data : List Byte) (s : State) : (s.event code data).passes = s.passes := State.onlyLogs_passes (State.event_onlyLogs _ _ _)
@[simp] theorem State.event_le (code : Nat) (data : List Byte) (s : State) : (s.event code data).le = s.le := State.onlyLogs_le (State.event_onlyLogs _ _ _)
@[simp] theorem State.event_xch (code : Nat) (data : List Byte) (s : State) : (s.event code data).xch = s.xch := State.onlyLogs_xch (State.event_onlyLogs _ _ _)
@[simp] theorem State.event_field (code : Nat) (data : List Byte) (s : State) : (s.event code data).field = s.field := State.onlyLogs_field (State.event_onlyLogs _ _ _)
@[simp] theorem State.event_glint (code : Nat) (data : List Byte) (s : State) : (s.event code data).glint = s.glint := State.onlyLogs_glint (State.event_onlyLogs _ _ _)
@[simp] theorem State.event_counters (code : Nat) (data : List Byte) (s : State) : (s.event code data).counters = s.counters := State.onlyLogs_counters (State.event_onlyLogs _ _ _)
@[simp] theorem State.event_analog (code : Nat) (data : List Byte) (s : State) : (s.event code data).analog = s.analog := State.onlyLogs_analog (State.event_onlyLogs _ _ _)
@[simp] theorem State.event_lib (code : Nat) (data : List Byte) (s : State) : (s.event code data).lib = s.lib := State.onlyLogs_lib (State.event_onlyLogs _ _ _)
@[simp] theorem State.event_images (code : Nat) (data : List Byte) (s : State) : (s.event code data).images = s.images := State.onlyLogs_images (State.event_onlyLogs _ _ _)
@[simp] theorem State.event_dict (code : Nat) (data : List Byte) (s : State) : (s.event code data).dict = s.dict := State.onlyLogs_dict (State.event_onlyLogs _ _ _)
@[simp] theorem State.event_zop (code : Nat) (data : List Byte) (s : State) : (s.event code data).zop = s.zop := State.onlyLogs_zop (State.event_onlyLogs _ _ _)
@[simp] theorem State.event_mirror (code : Nat) (data : List Byte) (s : State) : (s.event code data).mirror = s.mirror := State.onlyLogs_mirror (State.event_onlyLogs _ _ _)
@[simp] theorem State.event_modbus (code : Nat) (data : List Byte) (s : State) : (s.event code data).modbus = s.modbus := State.onlyLogs_modbus (State.event_onlyLogs _ _ _)
@[simp] theorem State.event_service (code : Nat) (data : List Byte) (s : State) : (s.event code data).service = s.service := State.onlyLogs_service (State.event_onlyLogs _ _ _)
@[simp] theorem State.event_freeCount (code : Nat) (data : List Byte) (s : State) : (s.event code data).freeCount = s.freeCount := State.onlyLogs_freeCount (State.event_onlyLogs _ _ _)
@[simp] theorem State.event_pending (code : Nat) (data : List Byte) (s : State) : (s.event code data).pending = s.pending := State.onlyLogs_pending (State.event_onlyLogs _ _ _)
@[simp] theorem State.event_localNow (code : Nat) (data : List Byte) (s : State) : (s.event code data).localNow = s.localNow := by
  simp only [State.localNow, State.event_clock]
@[simp] theorem State.event_now (code : Nat) (data : List Byte) (s : State) : (s.event code data).now = s.now := by
  simp only [State.now, State.event_clock]
@[simp] theorem State.event_released (code : Nat) (data : List Byte) (s : State) : (s.event code data).released = s.released := by
  simp only [State.released, State.event_rt]
@[simp] theorem State.event_logicState (code : Nat) (data : List Byte) (s : State) : (s.event code data).logicState = s.logicState := by
  simp only [State.logicState, State.event_rt]
@[simp] theorem State.event_entryOk (code : Nat) (data : List Byte) (s : State) : (s.event code data).entryOk = s.entryOk := by
  simp only [State.entryOk, State.event_power]
@[simp] theorem State.event_setting (code : Nat) (data : List Byte) (s : State) (i j d : Nat) : (s.event code data).setting i j d = s.setting i j d := by
  simp only [State.setting, State.event_dict]

/-! ### eventLimited -/

@[simp] theorem State.eventLimited_rt (code key interval : Nat) (data : List Byte) (s : State) : (s.eventLimited code key interval data).rt = s.rt := State.onlyLogs_rt (State.eventLimited_onlyLogs _ _ _ _ _)
@[simp] theorem State.eventLimited_power (code key interval : Nat) (data : List Byte) (s : State) : (s.eventLimited code key interval data).power = s.power := State.onlyLogs_power (State.eventLimited_onlyLogs _ _ _ _ _)
@[simp] theorem State.eventLimited_clock (code key interval : Nat) (data : List Byte) (s : State) : (s.eventLimited code key interval data).clock = s.clock := State.onlyLogs_clock (State.eventLimited_onlyLogs _ _ _ _ _)
@[simp] theorem State.eventLimited_boot (code key interval : Nat) (data : List Byte) (s : State) : (s.eventLimited code key interval data).boot = s.boot := State.onlyLogs_boot (State.eventLimited_onlyLogs _ _ _ _ _)
@[simp] theorem State.eventLimited_otp (code key interval : Nat) (data : List Byte) (s : State) : (s.eventLimited code key interval data).otp = s.otp := State.onlyLogs_otp (State.eventLimited_onlyLogs _ _ _ _ _)
@[simp] theorem State.eventLimited_passes (code key interval : Nat) (data : List Byte) (s : State) : (s.eventLimited code key interval data).passes = s.passes := State.onlyLogs_passes (State.eventLimited_onlyLogs _ _ _ _ _)
@[simp] theorem State.eventLimited_le (code key interval : Nat) (data : List Byte) (s : State) : (s.eventLimited code key interval data).le = s.le := State.onlyLogs_le (State.eventLimited_onlyLogs _ _ _ _ _)
@[simp] theorem State.eventLimited_xch (code key interval : Nat) (data : List Byte) (s : State) : (s.eventLimited code key interval data).xch = s.xch := State.onlyLogs_xch (State.eventLimited_onlyLogs _ _ _ _ _)
@[simp] theorem State.eventLimited_field (code key interval : Nat) (data : List Byte) (s : State) : (s.eventLimited code key interval data).field = s.field := State.onlyLogs_field (State.eventLimited_onlyLogs _ _ _ _ _)
@[simp] theorem State.eventLimited_glint (code key interval : Nat) (data : List Byte) (s : State) : (s.eventLimited code key interval data).glint = s.glint := State.onlyLogs_glint (State.eventLimited_onlyLogs _ _ _ _ _)
@[simp] theorem State.eventLimited_counters (code key interval : Nat) (data : List Byte) (s : State) : (s.eventLimited code key interval data).counters = s.counters := State.onlyLogs_counters (State.eventLimited_onlyLogs _ _ _ _ _)
@[simp] theorem State.eventLimited_analog (code key interval : Nat) (data : List Byte) (s : State) : (s.eventLimited code key interval data).analog = s.analog := State.onlyLogs_analog (State.eventLimited_onlyLogs _ _ _ _ _)
@[simp] theorem State.eventLimited_lib (code key interval : Nat) (data : List Byte) (s : State) : (s.eventLimited code key interval data).lib = s.lib := State.onlyLogs_lib (State.eventLimited_onlyLogs _ _ _ _ _)
@[simp] theorem State.eventLimited_images (code key interval : Nat) (data : List Byte) (s : State) : (s.eventLimited code key interval data).images = s.images := State.onlyLogs_images (State.eventLimited_onlyLogs _ _ _ _ _)
@[simp] theorem State.eventLimited_dict (code key interval : Nat) (data : List Byte) (s : State) : (s.eventLimited code key interval data).dict = s.dict := State.onlyLogs_dict (State.eventLimited_onlyLogs _ _ _ _ _)
@[simp] theorem State.eventLimited_zop (code key interval : Nat) (data : List Byte) (s : State) : (s.eventLimited code key interval data).zop = s.zop := State.onlyLogs_zop (State.eventLimited_onlyLogs _ _ _ _ _)
@[simp] theorem State.eventLimited_mirror (code key interval : Nat) (data : List Byte) (s : State) : (s.eventLimited code key interval data).mirror = s.mirror := State.onlyLogs_mirror (State.eventLimited_onlyLogs _ _ _ _ _)
@[simp] theorem State.eventLimited_modbus (code key interval : Nat) (data : List Byte) (s : State) : (s.eventLimited code key interval data).modbus = s.modbus := State.onlyLogs_modbus (State.eventLimited_onlyLogs _ _ _ _ _)
@[simp] theorem State.eventLimited_service (code key interval : Nat) (data : List Byte) (s : State) : (s.eventLimited code key interval data).service = s.service := State.onlyLogs_service (State.eventLimited_onlyLogs _ _ _ _ _)
@[simp] theorem State.eventLimited_freeCount (code key interval : Nat) (data : List Byte) (s : State) : (s.eventLimited code key interval data).freeCount = s.freeCount := State.onlyLogs_freeCount (State.eventLimited_onlyLogs _ _ _ _ _)
@[simp] theorem State.eventLimited_pending (code key interval : Nat) (data : List Byte) (s : State) : (s.eventLimited code key interval data).pending = s.pending := State.onlyLogs_pending (State.eventLimited_onlyLogs _ _ _ _ _)
@[simp] theorem State.eventLimited_localNow (code key interval : Nat) (data : List Byte) (s : State) : (s.eventLimited code key interval data).localNow = s.localNow := by
  simp only [State.localNow, State.eventLimited_clock]
@[simp] theorem State.eventLimited_now (code key interval : Nat) (data : List Byte) (s : State) : (s.eventLimited code key interval data).now = s.now := by
  simp only [State.now, State.eventLimited_clock]
@[simp] theorem State.eventLimited_released (code key interval : Nat) (data : List Byte) (s : State) : (s.eventLimited code key interval data).released = s.released := by
  simp only [State.released, State.eventLimited_rt]
@[simp] theorem State.eventLimited_logicState (code key interval : Nat) (data : List Byte) (s : State) : (s.eventLimited code key interval data).logicState = s.logicState := by
  simp only [State.logicState, State.eventLimited_rt]
@[simp] theorem State.eventLimited_entryOk (code key interval : Nat) (data : List Byte) (s : State) : (s.eventLimited code key interval data).entryOk = s.entryOk := by
  simp only [State.entryOk, State.eventLimited_power]
@[simp] theorem State.eventLimited_setting (code key interval : Nat) (data : List Byte) (s : State) (i j d : Nat) : (s.eventLimited code key interval data).setting i j d = s.setting i j d := by
  simp only [State.setting, State.eventLimited_dict]

/-! ### detectAt -/

@[simp] theorem State.detectAt_power (cause : Nat) (cls : FaultClass) (time : Instant) (data : List Byte) (s : State) : (s.detectAt cause cls time data).power = s.power := rfl
@[simp] theorem State.detectAt_clock (cause : Nat) (cls : FaultClass) (time : Instant) (data : List Byte) (s : State) : (s.detectAt cause cls time data).clock = s.clock := rfl
@[simp] theorem State.detectAt_boot (cause : Nat) (cls : FaultClass) (time : Instant) (data : List Byte) (s : State) : (s.detectAt cause cls time data).boot = s.boot := rfl
@[simp] theorem State.detectAt_otp (cause : Nat) (cls : FaultClass) (time : Instant) (data : List Byte) (s : State) : (s.detectAt cause cls time data).otp = s.otp := rfl
@[simp] theorem State.detectAt_passes (cause : Nat) (cls : FaultClass) (time : Instant) (data : List Byte) (s : State) : (s.detectAt cause cls time data).passes = s.passes := rfl
@[simp] theorem State.detectAt_le (cause : Nat) (cls : FaultClass) (time : Instant) (data : List Byte) (s : State) : (s.detectAt cause cls time data).le = s.le := rfl
@[simp] theorem State.detectAt_xch (cause : Nat) (cls : FaultClass) (time : Instant) (data : List Byte) (s : State) : (s.detectAt cause cls time data).xch = s.xch := rfl
@[simp] theorem State.detectAt_field (cause : Nat) (cls : FaultClass) (time : Instant) (data : List Byte) (s : State) : (s.detectAt cause cls time data).field = s.field := rfl
@[simp] theorem State.detectAt_glint (cause : Nat) (cls : FaultClass) (time : Instant) (data : List Byte) (s : State) : (s.detectAt cause cls time data).glint = s.glint := rfl
@[simp] theorem State.detectAt_counters (cause : Nat) (cls : FaultClass) (time : Instant) (data : List Byte) (s : State) : (s.detectAt cause cls time data).counters = s.counters := rfl
@[simp] theorem State.detectAt_analog (cause : Nat) (cls : FaultClass) (time : Instant) (data : List Byte) (s : State) : (s.detectAt cause cls time data).analog = s.analog := rfl
@[simp] theorem State.detectAt_lib (cause : Nat) (cls : FaultClass) (time : Instant) (data : List Byte) (s : State) : (s.detectAt cause cls time data).lib = s.lib := rfl
@[simp] theorem State.detectAt_images (cause : Nat) (cls : FaultClass) (time : Instant) (data : List Byte) (s : State) : (s.detectAt cause cls time data).images = s.images := rfl
@[simp] theorem State.detectAt_store (cause : Nat) (cls : FaultClass) (time : Instant) (data : List Byte) (s : State) : (s.detectAt cause cls time data).store = s.store := rfl
@[simp] theorem State.detectAt_dict (cause : Nat) (cls : FaultClass) (time : Instant) (data : List Byte) (s : State) : (s.detectAt cause cls time data).dict = s.dict := rfl
@[simp] theorem State.detectAt_zop (cause : Nat) (cls : FaultClass) (time : Instant) (data : List Byte) (s : State) : (s.detectAt cause cls time data).zop = s.zop := rfl
@[simp] theorem State.detectAt_mirror (cause : Nat) (cls : FaultClass) (time : Instant) (data : List Byte) (s : State) : (s.detectAt cause cls time data).mirror = s.mirror := rfl
@[simp] theorem State.detectAt_modbus (cause : Nat) (cls : FaultClass) (time : Instant) (data : List Byte) (s : State) : (s.detectAt cause cls time data).modbus = s.modbus := rfl
@[simp] theorem State.detectAt_service (cause : Nat) (cls : FaultClass) (time : Instant) (data : List Byte) (s : State) : (s.detectAt cause cls time data).service = s.service := rfl
@[simp] theorem State.detectAt_ledger (cause : Nat) (cls : FaultClass) (time : Instant) (data : List Byte) (s : State) : (s.detectAt cause cls time data).ledger = s.ledger := rfl
@[simp] theorem State.detectAt_freeCount (cause : Nat) (cls : FaultClass) (time : Instant) (data : List Byte) (s : State) : (s.detectAt cause cls time data).freeCount = s.freeCount := rfl
@[simp] theorem State.detectAt_pending (cause : Nat) (cls : FaultClass) (time : Instant) (data : List Byte) (s : State) : (s.detectAt cause cls time data).pending = s.pending := rfl
@[simp] theorem State.detectAt_localNow (cause : Nat) (cls : FaultClass) (time : Instant) (data : List Byte) (s : State) : (s.detectAt cause cls time data).localNow = s.localNow := rfl
@[simp] theorem State.detectAt_now (cause : Nat) (cls : FaultClass) (time : Instant) (data : List Byte) (s : State) : (s.detectAt cause cls time data).now = s.now := rfl
@[simp] theorem State.detectAt_entryOk (cause : Nat) (cls : FaultClass) (time : Instant) (data : List Byte) (s : State) : (s.detectAt cause cls time data).entryOk = s.entryOk := rfl
@[simp] theorem State.detectAt_setting (cause : Nat) (cls : FaultClass) (time : Instant) (data : List Byte) (s : State) (i j d : Nat) : (s.detectAt cause cls time data).setting i j d = s.setting i j d := rfl

/-! ### detect -/

@[simp] theorem State.detect_power (cause : Nat) (cls : FaultClass) (s : State) : (s.detect cause cls).power = s.power := rfl
@[simp] theorem State.detect_clock (cause : Nat) (cls : FaultClass) (s : State) : (s.detect cause cls).clock = s.clock := rfl
@[simp] theorem State.detect_boot (cause : Nat) (cls : FaultClass) (s : State) : (s.detect cause cls).boot = s.boot := rfl
@[simp] theorem State.detect_otp (cause : Nat) (cls : FaultClass) (s : State) : (s.detect cause cls).otp = s.otp := rfl
@[simp] theorem State.detect_passes (cause : Nat) (cls : FaultClass) (s : State) : (s.detect cause cls).passes = s.passes := rfl
@[simp] theorem State.detect_le (cause : Nat) (cls : FaultClass) (s : State) : (s.detect cause cls).le = s.le := rfl
@[simp] theorem State.detect_xch (cause : Nat) (cls : FaultClass) (s : State) : (s.detect cause cls).xch = s.xch := rfl
@[simp] theorem State.detect_field (cause : Nat) (cls : FaultClass) (s : State) : (s.detect cause cls).field = s.field := rfl
@[simp] theorem State.detect_glint (cause : Nat) (cls : FaultClass) (s : State) : (s.detect cause cls).glint = s.glint := rfl
@[simp] theorem State.detect_counters (cause : Nat) (cls : FaultClass) (s : State) : (s.detect cause cls).counters = s.counters := rfl
@[simp] theorem State.detect_analog (cause : Nat) (cls : FaultClass) (s : State) : (s.detect cause cls).analog = s.analog := rfl
@[simp] theorem State.detect_lib (cause : Nat) (cls : FaultClass) (s : State) : (s.detect cause cls).lib = s.lib := rfl
@[simp] theorem State.detect_images (cause : Nat) (cls : FaultClass) (s : State) : (s.detect cause cls).images = s.images := rfl
@[simp] theorem State.detect_store (cause : Nat) (cls : FaultClass) (s : State) : (s.detect cause cls).store = s.store := rfl
@[simp] theorem State.detect_dict (cause : Nat) (cls : FaultClass) (s : State) : (s.detect cause cls).dict = s.dict := rfl
@[simp] theorem State.detect_zop (cause : Nat) (cls : FaultClass) (s : State) : (s.detect cause cls).zop = s.zop := rfl
@[simp] theorem State.detect_mirror (cause : Nat) (cls : FaultClass) (s : State) : (s.detect cause cls).mirror = s.mirror := rfl
@[simp] theorem State.detect_modbus (cause : Nat) (cls : FaultClass) (s : State) : (s.detect cause cls).modbus = s.modbus := rfl
@[simp] theorem State.detect_service (cause : Nat) (cls : FaultClass) (s : State) : (s.detect cause cls).service = s.service := rfl
@[simp] theorem State.detect_ledger (cause : Nat) (cls : FaultClass) (s : State) : (s.detect cause cls).ledger = s.ledger := rfl
@[simp] theorem State.detect_freeCount (cause : Nat) (cls : FaultClass) (s : State) : (s.detect cause cls).freeCount = s.freeCount := rfl
@[simp] theorem State.detect_pending (cause : Nat) (cls : FaultClass) (s : State) : (s.detect cause cls).pending = s.pending := rfl
@[simp] theorem State.detect_localNow (cause : Nat) (cls : FaultClass) (s : State) : (s.detect cause cls).localNow = s.localNow := rfl
@[simp] theorem State.detect_now (cause : Nat) (cls : FaultClass) (s : State) : (s.detect cause cls).now = s.now := rfl
@[simp] theorem State.detect_entryOk (cause : Nat) (cls : FaultClass) (s : State) : (s.detect cause cls).entryOk = s.entryOk := rfl
@[simp] theorem State.detect_setting (cause : Nat) (cls : FaultClass) (s : State) (i j d : Nat) : (s.detect cause cls).setting i j d = s.setting i j d := rfl

/-! ### detectOnce -/

@[simp] theorem State.detectOnce_power (cause : Nat) (cls : FaultClass) (s : State) : (s.detectOnce cause cls).power = s.power := by unfold State.detectOnce; split <;> rfl
@[simp] theorem State.detectOnce_clock (cause : Nat) (cls : FaultClass) (s : State) : (s.detectOnce cause cls).clock = s.clock := by unfold State.detectOnce; split <;> rfl
@[simp] theorem State.detectOnce_boot (cause : Nat) (cls : FaultClass) (s : State) : (s.detectOnce cause cls).boot = s.boot := by unfold State.detectOnce; split <;> rfl
@[simp] theorem State.detectOnce_otp (cause : Nat) (cls : FaultClass) (s : State) : (s.detectOnce cause cls).otp = s.otp := by unfold State.detectOnce; split <;> rfl
@[simp] theorem State.detectOnce_passes (cause : Nat) (cls : FaultClass) (s : State) : (s.detectOnce cause cls).passes = s.passes := by unfold State.detectOnce; split <;> rfl
@[simp] theorem State.detectOnce_le (cause : Nat) (cls : FaultClass) (s : State) : (s.detectOnce cause cls).le = s.le := by unfold State.detectOnce; split <;> rfl
@[simp] theorem State.detectOnce_xch (cause : Nat) (cls : FaultClass) (s : State) : (s.detectOnce cause cls).xch = s.xch := by unfold State.detectOnce; split <;> rfl
@[simp] theorem State.detectOnce_field (cause : Nat) (cls : FaultClass) (s : State) : (s.detectOnce cause cls).field = s.field := by unfold State.detectOnce; split <;> rfl
@[simp] theorem State.detectOnce_glint (cause : Nat) (cls : FaultClass) (s : State) : (s.detectOnce cause cls).glint = s.glint := by unfold State.detectOnce; split <;> rfl
@[simp] theorem State.detectOnce_counters (cause : Nat) (cls : FaultClass) (s : State) : (s.detectOnce cause cls).counters = s.counters := by unfold State.detectOnce; split <;> rfl
@[simp] theorem State.detectOnce_analog (cause : Nat) (cls : FaultClass) (s : State) : (s.detectOnce cause cls).analog = s.analog := by unfold State.detectOnce; split <;> rfl
@[simp] theorem State.detectOnce_lib (cause : Nat) (cls : FaultClass) (s : State) : (s.detectOnce cause cls).lib = s.lib := by unfold State.detectOnce; split <;> rfl
@[simp] theorem State.detectOnce_images (cause : Nat) (cls : FaultClass) (s : State) : (s.detectOnce cause cls).images = s.images := by unfold State.detectOnce; split <;> rfl
@[simp] theorem State.detectOnce_store (cause : Nat) (cls : FaultClass) (s : State) : (s.detectOnce cause cls).store = s.store := by unfold State.detectOnce; split <;> rfl
@[simp] theorem State.detectOnce_dict (cause : Nat) (cls : FaultClass) (s : State) : (s.detectOnce cause cls).dict = s.dict := by unfold State.detectOnce; split <;> rfl
@[simp] theorem State.detectOnce_zop (cause : Nat) (cls : FaultClass) (s : State) : (s.detectOnce cause cls).zop = s.zop := by unfold State.detectOnce; split <;> rfl
@[simp] theorem State.detectOnce_mirror (cause : Nat) (cls : FaultClass) (s : State) : (s.detectOnce cause cls).mirror = s.mirror := by unfold State.detectOnce; split <;> rfl
@[simp] theorem State.detectOnce_modbus (cause : Nat) (cls : FaultClass) (s : State) : (s.detectOnce cause cls).modbus = s.modbus := by unfold State.detectOnce; split <;> rfl
@[simp] theorem State.detectOnce_service (cause : Nat) (cls : FaultClass) (s : State) : (s.detectOnce cause cls).service = s.service := by unfold State.detectOnce; split <;> rfl
@[simp] theorem State.detectOnce_ledger (cause : Nat) (cls : FaultClass) (s : State) : (s.detectOnce cause cls).ledger = s.ledger := by unfold State.detectOnce; split <;> rfl
@[simp] theorem State.detectOnce_freeCount (cause : Nat) (cls : FaultClass) (s : State) : (s.detectOnce cause cls).freeCount = s.freeCount := by unfold State.detectOnce; split <;> rfl
@[simp] theorem State.detectOnce_pending (cause : Nat) (cls : FaultClass) (s : State) : (s.detectOnce cause cls).pending = s.pending := by unfold State.detectOnce; split <;> rfl
@[simp] theorem State.detectOnce_localNow (cause : Nat) (cls : FaultClass) (s : State) : (s.detectOnce cause cls).localNow = s.localNow := by
  simp only [State.localNow, State.detectOnce_clock]
@[simp] theorem State.detectOnce_now (cause : Nat) (cls : FaultClass) (s : State) : (s.detectOnce cause cls).now = s.now := by
  simp only [State.now, State.detectOnce_clock]
@[simp] theorem State.detectOnce_entryOk (cause : Nat) (cls : FaultClass) (s : State) : (s.detectOnce cause cls).entryOk = s.entryOk := by
  simp only [State.entryOk, State.detectOnce_power]
@[simp] theorem State.detectOnce_setting (cause : Nat) (cls : FaultClass) (s : State) (i j d : Nat) : (s.detectOnce cause cls).setting i j d = s.setting i j d := by
  simp only [State.setting, State.detectOnce_dict]

/-! ### raise -/

@[simp] theorem State.raise_power (cause : Nat) (s : State) : (s.raise cause).power = s.power := by unfold State.raise; split <;> rfl
@[simp] theorem State.raise_clock (cause : Nat) (s : State) : (s.raise cause).clock = s.clock := by unfold State.raise; split <;> rfl
@[simp] theorem State.raise_boot (cause : Nat) (s : State) : (s.raise cause).boot = s.boot := by unfold State.raise; split <;> rfl
@[simp] theorem State.raise_otp (cause : Nat) (s : State) : (s.raise cause).otp = s.otp := by unfold State.raise; split <;> rfl
@[simp] theorem State.raise_passes (cause : Nat) (s : State) : (s.raise cause).passes = s.passes := by unfold State.raise; split <;> rfl
@[simp] theorem State.raise_le (cause : Nat) (s : State) : (s.raise cause).le = s.le := by unfold State.raise; split <;> rfl
@[simp] theorem State.raise_xch (cause : Nat) (s : State) : (s.raise cause).xch = s.xch := by unfold State.raise; split <;> rfl
@[simp] theorem State.raise_field (cause : Nat) (s : State) : (s.raise cause).field = s.field := by unfold State.raise; split <;> rfl
@[simp] theorem State.raise_glint (cause : Nat) (s : State) : (s.raise cause).glint = s.glint := by unfold State.raise; split <;> rfl
@[simp] theorem State.raise_counters (cause : Nat) (s : State) : (s.raise cause).counters = s.counters := by unfold State.raise; split <;> rfl
@[simp] theorem State.raise_analog (cause : Nat) (s : State) : (s.raise cause).analog = s.analog := by unfold State.raise; split <;> rfl
@[simp] theorem State.raise_lib (cause : Nat) (s : State) : (s.raise cause).lib = s.lib := by unfold State.raise; split <;> rfl
@[simp] theorem State.raise_images (cause : Nat) (s : State) : (s.raise cause).images = s.images := by unfold State.raise; split <;> rfl
@[simp] theorem State.raise_store (cause : Nat) (s : State) : (s.raise cause).store = s.store := by unfold State.raise; split <;> rfl
@[simp] theorem State.raise_dict (cause : Nat) (s : State) : (s.raise cause).dict = s.dict := by unfold State.raise; split <;> rfl
@[simp] theorem State.raise_zop (cause : Nat) (s : State) : (s.raise cause).zop = s.zop := by unfold State.raise; split <;> rfl
@[simp] theorem State.raise_mirror (cause : Nat) (s : State) : (s.raise cause).mirror = s.mirror := by unfold State.raise; split <;> rfl
@[simp] theorem State.raise_modbus (cause : Nat) (s : State) : (s.raise cause).modbus = s.modbus := by unfold State.raise; split <;> rfl
@[simp] theorem State.raise_service (cause : Nat) (s : State) : (s.raise cause).service = s.service := by unfold State.raise; split <;> rfl
@[simp] theorem State.raise_ledger (cause : Nat) (s : State) : (s.raise cause).ledger = s.ledger := by unfold State.raise; split <;> rfl
@[simp] theorem State.raise_freeCount (cause : Nat) (s : State) : (s.raise cause).freeCount = s.freeCount := by unfold State.raise; split <;> rfl
@[simp] theorem State.raise_pending (cause : Nat) (s : State) : (s.raise cause).pending = s.pending := by unfold State.raise; split <;> rfl
@[simp] theorem State.raise_localNow (cause : Nat) (s : State) : (s.raise cause).localNow = s.localNow := by
  simp only [State.localNow, State.raise_clock]
@[simp] theorem State.raise_now (cause : Nat) (s : State) : (s.raise cause).now = s.now := by
  simp only [State.now, State.raise_clock]
@[simp] theorem State.raise_entryOk (cause : Nat) (s : State) : (s.raise cause).entryOk = s.entryOk := by
  simp only [State.entryOk, State.raise_power]
@[simp] theorem State.raise_setting (cause : Nat) (s : State) (i j d : Nat) : (s.raise cause).setting i j d = s.setting i j d := by
  simp only [State.setting, State.raise_dict]

/-! ### clearCause -/

@[simp] theorem State.clearCause_power (cause : Nat) (s : State) : (s.clearCause cause).power = s.power := rfl
@[simp] theorem State.clearCause_clock (cause : Nat) (s : State) : (s.clearCause cause).clock = s.clock := rfl
@[simp] theorem State.clearCause_boot (cause : Nat) (s : State) : (s.clearCause cause).boot = s.boot := rfl
@[simp] theorem State.clearCause_otp (cause : Nat) (s : State) : (s.clearCause cause).otp = s.otp := rfl
@[simp] theorem State.clearCause_passes (cause : Nat) (s : State) : (s.clearCause cause).passes = s.passes := rfl
@[simp] theorem State.clearCause_le (cause : Nat) (s : State) : (s.clearCause cause).le = s.le := rfl
@[simp] theorem State.clearCause_xch (cause : Nat) (s : State) : (s.clearCause cause).xch = s.xch := rfl
@[simp] theorem State.clearCause_field (cause : Nat) (s : State) : (s.clearCause cause).field = s.field := rfl
@[simp] theorem State.clearCause_glint (cause : Nat) (s : State) : (s.clearCause cause).glint = s.glint := rfl
@[simp] theorem State.clearCause_counters (cause : Nat) (s : State) : (s.clearCause cause).counters = s.counters := rfl
@[simp] theorem State.clearCause_analog (cause : Nat) (s : State) : (s.clearCause cause).analog = s.analog := rfl
@[simp] theorem State.clearCause_lib (cause : Nat) (s : State) : (s.clearCause cause).lib = s.lib := rfl
@[simp] theorem State.clearCause_images (cause : Nat) (s : State) : (s.clearCause cause).images = s.images := rfl
@[simp] theorem State.clearCause_store (cause : Nat) (s : State) : (s.clearCause cause).store = s.store := rfl
@[simp] theorem State.clearCause_dict (cause : Nat) (s : State) : (s.clearCause cause).dict = s.dict := rfl
@[simp] theorem State.clearCause_zop (cause : Nat) (s : State) : (s.clearCause cause).zop = s.zop := rfl
@[simp] theorem State.clearCause_mirror (cause : Nat) (s : State) : (s.clearCause cause).mirror = s.mirror := rfl
@[simp] theorem State.clearCause_modbus (cause : Nat) (s : State) : (s.clearCause cause).modbus = s.modbus := rfl
@[simp] theorem State.clearCause_service (cause : Nat) (s : State) : (s.clearCause cause).service = s.service := rfl
@[simp] theorem State.clearCause_ledger (cause : Nat) (s : State) : (s.clearCause cause).ledger = s.ledger := rfl
@[simp] theorem State.clearCause_freeCount (cause : Nat) (s : State) : (s.clearCause cause).freeCount = s.freeCount := rfl
@[simp] theorem State.clearCause_pending (cause : Nat) (s : State) : (s.clearCause cause).pending = s.pending := rfl
@[simp] theorem State.clearCause_localNow (cause : Nat) (s : State) : (s.clearCause cause).localNow = s.localNow := rfl
@[simp] theorem State.clearCause_now (cause : Nat) (s : State) : (s.clearCause cause).now = s.now := rfl
@[simp] theorem State.clearCause_entryOk (cause : Nat) (s : State) : (s.clearCause cause).entryOk = s.entryOk := rfl
@[simp] theorem State.clearCause_setting (cause : Nat) (s : State) (i j d : Nat) : (s.clearCause cause).setting i j d = s.setting i j d := rfl

/-! ### recoverable -/

@[simp] theorem State.recoverable_power (cause : Nat) (data : List Byte) (s : State) : (s.recoverable cause data).power = s.power := by unfold State.recoverable; split <;> simp
@[simp] theorem State.recoverable_clock (cause : Nat) (data : List Byte) (s : State) : (s.recoverable cause data).clock = s.clock := by unfold State.recoverable; split <;> simp
@[simp] theorem State.recoverable_boot (cause : Nat) (data : List Byte) (s : State) : (s.recoverable cause data).boot = s.boot := by unfold State.recoverable; split <;> simp
@[simp] theorem State.recoverable_otp (cause : Nat) (data : List Byte) (s : State) : (s.recoverable cause data).otp = s.otp := by unfold State.recoverable; split <;> simp
@[simp] theorem State.recoverable_passes (cause : Nat) (data : List Byte) (s : State) : (s.recoverable cause data).passes = s.passes := by unfold State.recoverable; split <;> simp
@[simp] theorem State.recoverable_le (cause : Nat) (data : List Byte) (s : State) : (s.recoverable cause data).le = s.le := by unfold State.recoverable; split <;> simp
@[simp] theorem State.recoverable_xch (cause : Nat) (data : List Byte) (s : State) : (s.recoverable cause data).xch = s.xch := by unfold State.recoverable; split <;> simp
@[simp] theorem State.recoverable_field (cause : Nat) (data : List Byte) (s : State) : (s.recoverable cause data).field = s.field := by unfold State.recoverable; split <;> simp
@[simp] theorem State.recoverable_glint (cause : Nat) (data : List Byte) (s : State) : (s.recoverable cause data).glint = s.glint := by unfold State.recoverable; split <;> simp
@[simp] theorem State.recoverable_counters (cause : Nat) (data : List Byte) (s : State) : (s.recoverable cause data).counters = s.counters := by unfold State.recoverable; split <;> simp
@[simp] theorem State.recoverable_analog (cause : Nat) (data : List Byte) (s : State) : (s.recoverable cause data).analog = s.analog := by unfold State.recoverable; split <;> simp
@[simp] theorem State.recoverable_lib (cause : Nat) (data : List Byte) (s : State) : (s.recoverable cause data).lib = s.lib := by unfold State.recoverable; split <;> simp
@[simp] theorem State.recoverable_images (cause : Nat) (data : List Byte) (s : State) : (s.recoverable cause data).images = s.images := by unfold State.recoverable; split <;> simp
@[simp] theorem State.recoverable_store (cause : Nat) (data : List Byte) (s : State) : (s.recoverable cause data).store = s.store := by unfold State.recoverable; split <;> simp
@[simp] theorem State.recoverable_dict (cause : Nat) (data : List Byte) (s : State) : (s.recoverable cause data).dict = s.dict := by unfold State.recoverable; split <;> simp
@[simp] theorem State.recoverable_zop (cause : Nat) (data : List Byte) (s : State) : (s.recoverable cause data).zop = s.zop := by unfold State.recoverable; split <;> simp
@[simp] theorem State.recoverable_mirror (cause : Nat) (data : List Byte) (s : State) : (s.recoverable cause data).mirror = s.mirror := by unfold State.recoverable; split <;> simp
@[simp] theorem State.recoverable_modbus (cause : Nat) (data : List Byte) (s : State) : (s.recoverable cause data).modbus = s.modbus := by unfold State.recoverable; split <;> simp
@[simp] theorem State.recoverable_service (cause : Nat) (data : List Byte) (s : State) : (s.recoverable cause data).service = s.service := by unfold State.recoverable; split <;> simp
@[simp] theorem State.recoverable_ledger (cause : Nat) (data : List Byte) (s : State) : (s.recoverable cause data).ledger = s.ledger := by unfold State.recoverable; split <;> simp
@[simp] theorem State.recoverable_freeCount (cause : Nat) (data : List Byte) (s : State) : (s.recoverable cause data).freeCount = s.freeCount := by unfold State.recoverable; split <;> simp
@[simp] theorem State.recoverable_pending (cause : Nat) (data : List Byte) (s : State) : (s.recoverable cause data).pending = s.pending := by unfold State.recoverable; split <;> simp
@[simp] theorem State.recoverable_localNow (cause : Nat) (data : List Byte) (s : State) : (s.recoverable cause data).localNow = s.localNow := by
  simp only [State.localNow, State.recoverable_clock]
@[simp] theorem State.recoverable_now (cause : Nat) (data : List Byte) (s : State) : (s.recoverable cause data).now = s.now := by
  simp only [State.now, State.recoverable_clock]
@[simp] theorem State.recoverable_entryOk (cause : Nat) (data : List Byte) (s : State) : (s.recoverable cause data).entryOk = s.entryOk := by
  simp only [State.entryOk, State.recoverable_power]
@[simp] theorem State.recoverable_setting (cause : Nat) (data : List Byte) (s : State) (i j d : Nat) : (s.recoverable cause data).setting i j d = s.setting i j d := by
  simp only [State.setting, State.recoverable_dict]

/-! ### drawFree_snd -/

@[simp] theorem State.drawFree_snd_rt (s : State) : (s.drawFree.2).rt = s.rt := rfl
@[simp] theorem State.drawFree_snd_power (s : State) : (s.drawFree.2).power = s.power := rfl
@[simp] theorem State.drawFree_snd_clock (s : State) : (s.drawFree.2).clock = s.clock := rfl
@[simp] theorem State.drawFree_snd_boot (s : State) : (s.drawFree.2).boot = s.boot := rfl
@[simp] theorem State.drawFree_snd_otp (s : State) : (s.drawFree.2).otp = s.otp := rfl
@[simp] theorem State.drawFree_snd_passes (s : State) : (s.drawFree.2).passes = s.passes := rfl
@[simp] theorem State.drawFree_snd_le (s : State) : (s.drawFree.2).le = s.le := rfl
@[simp] theorem State.drawFree_snd_xch (s : State) : (s.drawFree.2).xch = s.xch := rfl
@[simp] theorem State.drawFree_snd_field (s : State) : (s.drawFree.2).field = s.field := rfl
@[simp] theorem State.drawFree_snd_glint (s : State) : (s.drawFree.2).glint = s.glint := rfl
@[simp] theorem State.drawFree_snd_counters (s : State) : (s.drawFree.2).counters = s.counters := rfl
@[simp] theorem State.drawFree_snd_analog (s : State) : (s.drawFree.2).analog = s.analog := rfl
@[simp] theorem State.drawFree_snd_lib (s : State) : (s.drawFree.2).lib = s.lib := rfl
@[simp] theorem State.drawFree_snd_images (s : State) : (s.drawFree.2).images = s.images := rfl
@[simp] theorem State.drawFree_snd_store (s : State) : (s.drawFree.2).store = s.store := rfl
@[simp] theorem State.drawFree_snd_dict (s : State) : (s.drawFree.2).dict = s.dict := rfl
@[simp] theorem State.drawFree_snd_zop (s : State) : (s.drawFree.2).zop = s.zop := rfl
@[simp] theorem State.drawFree_snd_mirror (s : State) : (s.drawFree.2).mirror = s.mirror := rfl
@[simp] theorem State.drawFree_snd_modbus (s : State) : (s.drawFree.2).modbus = s.modbus := rfl
@[simp] theorem State.drawFree_snd_service (s : State) : (s.drawFree.2).service = s.service := rfl
@[simp] theorem State.drawFree_snd_ledger (s : State) : (s.drawFree.2).ledger = s.ledger := rfl
@[simp] theorem State.drawFree_snd_pending (s : State) : (s.drawFree.2).pending = s.pending := rfl
@[simp] theorem State.drawFree_snd_localNow (s : State) : (s.drawFree.2).localNow = s.localNow := rfl
@[simp] theorem State.drawFree_snd_now (s : State) : (s.drawFree.2).now = s.now := rfl
@[simp] theorem State.drawFree_snd_released (s : State) : (s.drawFree.2).released = s.released := rfl
@[simp] theorem State.drawFree_snd_logicState (s : State) : (s.drawFree.2).logicState = s.logicState := rfl
@[simp] theorem State.drawFree_snd_entryOk (s : State) : (s.drawFree.2).entryOk = s.entryOk := rfl
@[simp] theorem State.drawFree_snd_setting (s : State) (i j d : Nat) : (s.drawFree.2).setting i j d = s.setting i j d := rfl

/-! ### modCh -/

@[simp] theorem State.modCh_rt (n : Nat) (f : Channel → Channel) (s : State) : (s.modCh n f).rt = s.rt := rfl
@[simp] theorem State.modCh_power (n : Nat) (f : Channel → Channel) (s : State) : (s.modCh n f).power = s.power := rfl
@[simp] theorem State.modCh_clock (n : Nat) (f : Channel → Channel) (s : State) : (s.modCh n f).clock = s.clock := rfl
@[simp] theorem State.modCh_boot (n : Nat) (f : Channel → Channel) (s : State) : (s.modCh n f).boot = s.boot := rfl
@[simp] theorem State.modCh_otp (n : Nat) (f : Channel → Channel) (s : State) : (s.modCh n f).otp = s.otp := rfl
@[simp] theorem State.modCh_passes (n : Nat) (f : Channel → Channel) (s : State) : (s.modCh n f).passes = s.passes := rfl
@[simp] theorem State.modCh_le (n : Nat) (f : Channel → Channel) (s : State) : (s.modCh n f).le = s.le := rfl
@[simp] theorem State.modCh_xch (n : Nat) (f : Channel → Channel) (s : State) : (s.modCh n f).xch = s.xch := rfl
@[simp] theorem State.modCh_glint (n : Nat) (f : Channel → Channel) (s : State) : (s.modCh n f).glint = s.glint := rfl
@[simp] theorem State.modCh_counters (n : Nat) (f : Channel → Channel) (s : State) : (s.modCh n f).counters = s.counters := rfl
@[simp] theorem State.modCh_analog (n : Nat) (f : Channel → Channel) (s : State) : (s.modCh n f).analog = s.analog := rfl
@[simp] theorem State.modCh_lib (n : Nat) (f : Channel → Channel) (s : State) : (s.modCh n f).lib = s.lib := rfl
@[simp] theorem State.modCh_images (n : Nat) (f : Channel → Channel) (s : State) : (s.modCh n f).images = s.images := rfl
@[simp] theorem State.modCh_store (n : Nat) (f : Channel → Channel) (s : State) : (s.modCh n f).store = s.store := rfl
@[simp] theorem State.modCh_dict (n : Nat) (f : Channel → Channel) (s : State) : (s.modCh n f).dict = s.dict := rfl
@[simp] theorem State.modCh_zop (n : Nat) (f : Channel → Channel) (s : State) : (s.modCh n f).zop = s.zop := rfl
@[simp] theorem State.modCh_mirror (n : Nat) (f : Channel → Channel) (s : State) : (s.modCh n f).mirror = s.mirror := rfl
@[simp] theorem State.modCh_modbus (n : Nat) (f : Channel → Channel) (s : State) : (s.modCh n f).modbus = s.modbus := rfl
@[simp] theorem State.modCh_service (n : Nat) (f : Channel → Channel) (s : State) : (s.modCh n f).service = s.service := rfl
@[simp] theorem State.modCh_ledger (n : Nat) (f : Channel → Channel) (s : State) : (s.modCh n f).ledger = s.ledger := rfl
@[simp] theorem State.modCh_freeCount (n : Nat) (f : Channel → Channel) (s : State) : (s.modCh n f).freeCount = s.freeCount := rfl
@[simp] theorem State.modCh_pending (n : Nat) (f : Channel → Channel) (s : State) : (s.modCh n f).pending = s.pending := rfl
@[simp] theorem State.modCh_localNow (n : Nat) (f : Channel → Channel) (s : State) : (s.modCh n f).localNow = s.localNow := rfl
@[simp] theorem State.modCh_now (n : Nat) (f : Channel → Channel) (s : State) : (s.modCh n f).now = s.now := rfl
@[simp] theorem State.modCh_released (n : Nat) (f : Channel → Channel) (s : State) : (s.modCh n f).released = s.released := rfl
@[simp] theorem State.modCh_logicState (n : Nat) (f : Channel → Channel) (s : State) : (s.modCh n f).logicState = s.logicState := rfl
@[simp] theorem State.modCh_entryOk (n : Nat) (f : Channel → Channel) (s : State) : (s.modCh n f).entryOk = s.entryOk := rfl
@[simp] theorem State.modCh_setting (n : Nat) (f : Channel → Channel) (s : State) (i j d : Nat) : (s.modCh n f).setting i j d = s.setting i j d := rfl

/-! ### modBank -/

@[simp] theorem State.modBank_rt (b : Nat) (f : Bank → Bank) (s : State) : (s.modBank b f).rt = s.rt := rfl
@[simp] theorem State.modBank_power (b : Nat) (f : Bank → Bank) (s : State) : (s.modBank b f).power = s.power := rfl
@[simp] theorem State.modBank_clock (b : Nat) (f : Bank → Bank) (s : State) : (s.modBank b f).clock = s.clock := rfl
@[simp] theorem State.modBank_boot (b : Nat) (f : Bank → Bank) (s : State) : (s.modBank b f).boot = s.boot := rfl
@[simp] theorem State.modBank_otp (b : Nat) (f : Bank → Bank) (s : State) : (s.modBank b f).otp = s.otp := rfl
@[simp] theorem State.modBank_passes (b : Nat) (f : Bank → Bank) (s : State) : (s.modBank b f).passes = s.passes := rfl
@[simp] theorem State.modBank_le (b : Nat) (f : Bank → Bank) (s : State) : (s.modBank b f).le = s.le := rfl
@[simp] theorem State.modBank_xch (b : Nat) (f : Bank → Bank) (s : State) : (s.modBank b f).xch = s.xch := rfl
@[simp] theorem State.modBank_glint (b : Nat) (f : Bank → Bank) (s : State) : (s.modBank b f).glint = s.glint := rfl
@[simp] theorem State.modBank_counters (b : Nat) (f : Bank → Bank) (s : State) : (s.modBank b f).counters = s.counters := rfl
@[simp] theorem State.modBank_analog (b : Nat) (f : Bank → Bank) (s : State) : (s.modBank b f).analog = s.analog := rfl
@[simp] theorem State.modBank_lib (b : Nat) (f : Bank → Bank) (s : State) : (s.modBank b f).lib = s.lib := rfl
@[simp] theorem State.modBank_images (b : Nat) (f : Bank → Bank) (s : State) : (s.modBank b f).images = s.images := rfl
@[simp] theorem State.modBank_store (b : Nat) (f : Bank → Bank) (s : State) : (s.modBank b f).store = s.store := rfl
@[simp] theorem State.modBank_dict (b : Nat) (f : Bank → Bank) (s : State) : (s.modBank b f).dict = s.dict := rfl
@[simp] theorem State.modBank_zop (b : Nat) (f : Bank → Bank) (s : State) : (s.modBank b f).zop = s.zop := rfl
@[simp] theorem State.modBank_mirror (b : Nat) (f : Bank → Bank) (s : State) : (s.modBank b f).mirror = s.mirror := rfl
@[simp] theorem State.modBank_modbus (b : Nat) (f : Bank → Bank) (s : State) : (s.modBank b f).modbus = s.modbus := rfl
@[simp] theorem State.modBank_service (b : Nat) (f : Bank → Bank) (s : State) : (s.modBank b f).service = s.service := rfl
@[simp] theorem State.modBank_ledger (b : Nat) (f : Bank → Bank) (s : State) : (s.modBank b f).ledger = s.ledger := rfl
@[simp] theorem State.modBank_freeCount (b : Nat) (f : Bank → Bank) (s : State) : (s.modBank b f).freeCount = s.freeCount := rfl
@[simp] theorem State.modBank_pending (b : Nat) (f : Bank → Bank) (s : State) : (s.modBank b f).pending = s.pending := rfl
@[simp] theorem State.modBank_localNow (b : Nat) (f : Bank → Bank) (s : State) : (s.modBank b f).localNow = s.localNow := rfl
@[simp] theorem State.modBank_now (b : Nat) (f : Bank → Bank) (s : State) : (s.modBank b f).now = s.now := rfl
@[simp] theorem State.modBank_released (b : Nat) (f : Bank → Bank) (s : State) : (s.modBank b f).released = s.released := rfl
@[simp] theorem State.modBank_logicState (b : Nat) (f : Bank → Bank) (s : State) : (s.modBank b f).logicState = s.logicState := rfl
@[simp] theorem State.modBank_entryOk (b : Nat) (f : Bank → Bank) (s : State) : (s.modBank b f).entryOk = s.entryOk := rfl
@[simp] theorem State.modBank_setting (b : Nat) (f : Bank → Bank) (s : State) (i j d : Nat) : (s.modBank b f).setting i j d = s.setting i j d := rfl

/-! ### What the operations set -/

@[simp] theorem State.elapse_localTicks (dt : Nat) (s : State) : (s.elapse dt).clock.localTicks = s.clock.localTicks + dt := rfl
@[simp] theorem State.elapse_localNow (dt : Nat) (s : State) : (s.elapse dt).localNow = s.localNow + dt := rfl
@[simp] theorem State.elapse_rho (dt : Nat) (s : State) : (s.elapse dt).clock.rho = s.clock.rho := rfl
@[simp] theorem State.elapse_r (dt : Nat) (s : State) : (s.elapse dt).clock.r = s.clock.r := rfl
@[simp] theorem State.elapse_sync (dt : Nat) (s : State) : (s.elapse dt).clock.sync = s.clock.sync := rfl
@[simp] theorem State.elapse_released (dt : Nat) (s : State) : (s.elapse dt).released = s.released := rfl
@[simp] theorem State.elapse_setting (dt : Nat) (s : State) (i j d : Nat) : (s.elapse dt).setting i j d = s.setting i j d := rfl
@[simp] theorem State.detectAt_detected (cause : Nat) (cls : FaultClass) (time : Nat) (data : List Byte) (s : State) :
    (s.detectAt cause cls time data).rt.detected = s.rt.detected ++ [{ cause := cause, cls := cls, time := time, data := data }] := rfl
@[simp] theorem State.detectAt_state (cause : Nat) (cls : FaultClass) (time : Nat) (data : List Byte) (s : State) :
    (s.detectAt cause cls time data).rt.state = s.rt.state := rfl
@[simp] theorem State.drawFree_snd_freeCount (s : State) : s.drawFree.2.freeCount = s.freeCount + 1 := rfl
@[simp] theorem State.clearCause_active (cause : Nat) (s : State) : (s.clearCause cause).rt.active = s.rt.active.filter (· != cause) := rfl

/-! ### The frame relation -/

theorem State.keeps_refl (l : List Part) (s : State) : State.keeps l s s := by
  intro p _; cases p <;> rfl

theorem State.agrees_trans {p : Part} {s t u : State} (h : State.agrees p s t) (k : State.agrees p t u) : State.agrees p s u := by
  cases p <;> exact Eq.trans h k

theorem State.keeps_trans {l : List Part} {s t u : State} (h : State.keeps l s t) (k : State.keeps l t u) : State.keeps l s u :=
  fun p hp => State.agrees_trans (h p hp) (k p hp)

theorem State.keeps_mono {l m : List Part} {s t : State} (h : State.keeps l s t) (sub : ∀ p ∈ l, p ∈ m) : State.keeps m s t :=
  fun p hp => h p (fun hl => hp (sub p hl))


end Sys2Proof.Machine
end

