-- ==== Sys2Proof/WellFormed.lean ====
section
/-!
DEFINITION. WellFormed.lean: commands whose operands name something that exists: nodes, channels, banks, buffers, and values that fit the
field that carries them. `exec` is total on every command; these checks say which ones a sender can spell.
-/

namespace Sys2Proof

/-! ### Ranges of the operands -/

/-- A field of 8, 16, 32 or 64 bits. -/
def sub8 (n : Nat) : Bool := decide (n < 2 ^ 8)
def word16 (n : Nat) : Bool := decide (n < 2 ^ 16)
def word32 (n : Nat) : Bool := decide (n < 2 ^ 32)
def word64 (n : Nat) : Bool := decide (n < 2 ^ 64)

/-- Node IDs are 1 to 16 (R476). -/
def nodeOk (n : Nat) : Bool := decide (1 ≤ n) && decide (n ≤ 16)

/-- A requester: the service port (0x00) or a node (R433). -/
def requesterOk (n : Nat) : Bool := decide (n ≤ 16)

/-- A requester with its channel: a node on ZOP, 0x00 on the service port; the Modbus master has no number of its own. -/
def reqOk (r : Req) : Bool :=
  match r.chan with
  | .plain | .zops => nodeOk r.node
  | .service => r.node == 0
  | .modbus => true

/-- Field channels CH00 to CH31 (R264). -/
def channelOk (n : Nat) : Bool := decide (n < 32)

/-- Banks B0 to B3 (R264). -/
def bankOk (n : Nat) : Bool := decide (n < 4)

/-- Analog pairs AN0 to AN3 (R319). -/
def pairOk (n : Nat) : Bool := decide (n < 4)

/-- Counting inputs, by their distance from CH28 (Table 9-1). -/
def counterOk (n : Nat) : Bool := decide (n < 4)

/-- Field supplies 1 and 2 (R69). -/
def supplyOk (n : Nat) : Bool := n == 1 || n == 2

/-- Domains PD00 to PD55 (Table 2-4). -/
def domainOk (n : Nat) : Bool := decide (n < 56)

/-- BIST groups 1 to 8 (Table 2-6). -/
def groupOk (n : Nat) : Bool := decide (1 ≤ n) && decide (n ≤ 8)

/-- Reset sources 1 to 7 (Table 4-1). -/
def sourceOk (n : Nat) : Bool := decide (1 ≤ n) && decide (n ≤ 7)

/-- Exchange buffers 0 to 127 (Table 8-1). -/
def bufferOk (n : Nat) : Bool := decide (n < 128)

/-- Firmware banks 0 and 1 (R125). -/
def firmwareBankOk (n : Nat) : Bool := decide (n < 2)

/-- Access widths of the LE: 1, 2, 4 or 8 bytes (R222). -/
def widthOk (n : Nat) : Bool := n == 1 || n == 2 || n == 4 || n == 8

/-- A tag is a colour of four bits (R215). -/
def tagOk (n : Nat) : Bool := decide (n < 16)

/-- `TIME_PRIORITY` 0 to 255 (Table 3-5). -/
def priorityOk (n : Nat) : Bool := sub8 n

/-- CAN identifiers have 11 bits, or 29 with IDE = 1; the unit ignores the latter (R474). -/
def identifierOk (n : Nat) : Bool := decide (n < 2 ^ 29)

/-- Instance IDs 1 to 4095 (Table 13-3). -/
def instanceOk (n : Nat) : Bool := decide (1 ≤ n) && decide (n < 4096)

/-- A CAN FD data field is at most 64 bytes (R474). -/
def frameBytesOk (d : List Byte) : Bool := decide (d.length ≤ 64)

/-- A DOMAIN value or a service-port body is at most 4,096 bytes (Table 20-1). -/
def bytesOk (d : List Byte) : Bool := decide (d.length ≤ 4096)

/-- An image fits its bank of 256 KiB (R366). -/
def imageOk (d : List Byte) : Bool := decide (d.length ≤ 0x40000)

/-- Counts of one monitor window, in 16 bits. -/
def clockCountsOk (c : ClockCounts) : Bool :=
  word16 c.le && word16 c.ce && word16 c.ios && word16 c.ts && word16 c.me && word16 c.can && word16 c.sd

/-- Measured values in their 16-bit objects (Table 2-7). -/
def sensorsOk (x : Sensors) : Bool := word16 x.fs1Mv && word16 x.fs2Mv

/-- The 1 ms measurement in its 16-bit objects (Table 2-7). -/
def powerSampleOk (x : PowerSample) : Bool := word16 x.mainsPeak && word16 x.auxMv && word16 x.holdupMv && word16 x.logicMw &&
  word16 x.fs1Mv && word16 x.fs2Mv

/-- The modulator bits of one sample: as many as a decimation ratio (Table 11-2). -/
def bitsOk (bits : Option (List Bool)) : Bool :=
  match bits with
  | some l => [64, 128, 256, 512, 1024].contains l.length
  | none => true

/-- A modulator emits at most the bits of one sample before its decimator takes them. -/
def bitRunOk (r : BitRun) : Bool := decide (r.bits.length ≤ 1024)

/-- Offsets of an instruction of the logic code are those of words of safety RAM (Table 7-1). -/
def logicInstrOk (i : LogicInstr) : Bool :=
  [i.x, i.y, i.z, i.dst].all (fun a => decide (a < 0x60000) && a % 4 == 0)

/-- Passes write words of safety RAM and name slots of the output area. -/
def resultOk (r : PassResult) : Bool :=
  r.instrs.all logicInstrOk && r.plainWrites.all (fun w => decide (w.1 < 0x60000)) && r.shadowWrites.all (fun w => decide (w.1 < 0x60000)) &&
    r.codedOut.all (fun c => decide (c.1 < 32))

/-- A snapshot frame is at most 32,768 bytes long (R518). -/
def frameOk (f : SnapshotFrame) : Bool := decide (f.bytes.length ≤ 32768)

/-! ### Commands -/

/-- A command whose operands all lie in their ranges. -/
def Instr.wf : Instr → Bool
  | .entryQualified _ _ holdupMv => word32 holdupMv
  | .entryDisqualified _ _ => true
  | .powerFailWarning _ => true
  | .rideThroughEnd _ holdupMv => word32 holdupMv
  | .gateReopen _ holdupMv => word32 holdupMv
  | .logicSupplyStart _ holdupMv => word32 holdupMv
  | .holdupChargeTimed _ _ _ => true
  | .holdupPauseStart _ holdupMv => word32 holdupMv
  | .holdupPauseEnd _ holdupMv logicMw => word32 holdupMv && word16 logicMw
  | .railFault _ => true
  | .logicOverdraw _ x => powerSampleOk x
  | .domainPowerUp _ pd => domainOk pd
  | .domainMismatch _ => true
  | .clockMonitorWindow _ counts => clockCountsOk counts
  | .pllLockLoss _ => true
  | .pllLock _ _ counts => clockCountsOk counts
  | .pllLockRetry _ => true
  | .syncRoundStart _ => true
  | .followUpSend _ _ _ => true
  | .sync _ _ master priority round => nodeOk master && priorityOk priority && word32 round
  | .followUp _ master _ _ round _ _ => nodeOk master && word32 round
  | .timeStepApply _ => true
  | .roundInstantNoRound _ => true
  | .syncRoundTimeout _ => true
  | .syncHoldoverExpiry _ => true
  | .timeMasterTimeout _ => true
  | .rateLimitHold _ => true
  | .warmReset _ source => sourceOk source
  | .resetRelease _ _ => true
  | .bootEntry _ => true
  | .bistGroupComplete _ group _ _ _ => groupOk group
  | .comparatorInjectionTest _ _ => true
  | .mpuSeal _ _ _ => true
  | .storeRecovery _ _ => true
  | .release _ => true
  | .bootWatchdogExpiry _ => true
  | .resetRequest _ r value => reqOk r && word64 value
  | .leAliveWrite _ => true
  | .leStall _ => true
  | .cycleBoundary _ sense => sensorsOk sense
  | .handOver _ res => resultOk res
  | .outputPlacement _ => true
  | .outputWatchdogExpiry _ => true
  | .stateRequestRun _ r => reqOk r
  | .stateRequestService _ r => reqOk r
  | .stateRequestHold _ r => reqOk r
  | .stateRequestLockoutAck _ r => reqOk r
  | .safestopAck _ r value => reqOk r && word64 value
  | .runEncodingComplete _ _ => true
  | .bankSwitchCloseCheck _ _ => true
  | .bankSwitchOpenCheck _ bank _ => bankOk bank
  | .fieldSupplyOutOfRange _ supply => supplyOk supply
  | .readbackFault _ ch => channelOk ch
  | .bankFaultCondition _ ch _ => channelOk ch
  | .faultCauseClear _ cause => word16 cause
  | .inputComparatorChange _ ch mv => channelOk ch && word32 mv
  | .filterElapsed _ ch => channelOk ch
  | .initClear _ ch => channelOk ch
  | .countingInputChange _ n mv => counterOk n && word32 mv
  | .cntTimeout _ n => counterOk n
  | .glintPreSample _ _ _ => true
  | .glintPulseStart _ => true
  | .glintTestSample _ _ _ => true
  | .glintFault _ cause ch => word16 cause && channelOk ch
  | .glintPulseEnd _ => true
  | .glintBlankingEnd _ _ _ => true
  | .analogSampleComplete _ pair bitsA bitsB => pairOk pair && bitsOk bitsA && bitsOk bitsB
  | .pairDisagreement _ pair => pairOk pair
  | .modulatorStuck _ pair emitted => pairOk pair && bitRunOk emitted
  | .anSyncRequest _ r value => reqOk r && word64 value
  | .synchronisingReset _ pair => pairOk pair
  | .claim _ _ => true
  | .post _ _ buffer _ kind len => bufferOk buffer && sub8 kind && word16 len
  | .releaseBuffer _ _ buffer => bufferOk buffer
  | .revoke _ _ buffer => bufferOk buffer
  | .zeroingComplete _ => true
  | .zeroingTimeout _ => true
  | .pop _ _ => true
  | .xchNonOwnerAccess _ _ buffer => bufferOk buffer
  | .xchUncorrectableRead _ word => decide (word < 8192)
  | .mpuAccessCheck _ _ addr width data => word32 addr && widthOk width && word64 data
  | .enterLogic _ => true
  | .leaveLogic _ => true
  | .tagWrite _ addr value => word32 addr && tagOk value
  | .leExceptionEntry _ _ => true
  | .otpSelect _ r value => reqOk r && word64 value
  | .otpData _ r _ => reqOk r
  | .burn _ r => reqOk r
  | .finalise _ r => reqOk r
  | .advance _ r => reqOk r
  | .trialApply _ r => reqOk r
  | .trialClear _ r => reqOk r
  | .debugDisable _ r => reqOk r
  | .otpCommandComplete _ _ _ => true
  | .storeRecordCommit _ _ => true
  | .sectorEraseComplete _ _ => true
  | .eraseCreditAccrual _ _ => true
  | .read _ r index sub => reqOk r && word16 index && sub8 sub
  | .write _ r reqSeq index sub type value => reqOk r && word16 reqSeq && word16 index && sub8 sub && sub8 type && bytesOk value
  | .registerWrite _ r index sub value => reqOk r && word16 index && sub8 sub && word64 value
  | .segment _ _ node reqSeq offset data _ => nodeOk node && word16 reqSeq && word32 offset && bytesOk data
  | .segmentTimeout _ _ node => nodeOk node
  | .prepare _ r index sub type value => reqOk r && word16 index && sub8 sub && sub8 type && word64 value
  | .confirm _ r token code => reqOk r && word32 token && word32 code
  | .confirmWindowExpiry _ node => requesterOk node
  | .dictRestore _ r value => reqOk r && word64 value
  | .imageErase _ r => reqOk r
  | .imageEraseComplete _ => true
  | .imageLoadAbandon _ r => reqOk r
  | .imageData _ r data => reqOk r && bytesOk data
  | .bankValidationComplete _ => true
  | .imageBankSelect _ r value => reqOk r && word64 value
  | .exchangeRequest _ r tx => reqOk r && word64 tx
  | .exchangeCancel _ r => reqOk r
  | .exchangeReady _ => true
  | .exchangeSwitch _ _ => true
  | .imageCrcScan _ crc => word32 crc
  | .imageUncorrectableRead _ => true
  | .instAck _ r id value => reqOk r && instanceOk id && word64 value
  | .dirRequest _ r id value => reqOk r && instanceOk id && word64 value
  | .canFrameReceive _ _ id data _ _ _ => identifierOk id && frameBytesOk data
  | .heartbeatSend _ => true
  | .heartbeat _ node runState period => nodeOk node && sub8 runState && word16 period
  | .nodePresenceTimeout _ node => nodeOk node
  | .announceSend _ => true
  | .announce _ data => frameBytesOk data
  | .resyncRequest _ data => frameBytesOk data
  | .resyncRequestRepeat _ conn => sub8 conn
  | .zopsDataFrame _ connId data => sub8 connId && frameBytesOk data
  | .connectionWatchdogExpiry _ conn => sub8 conn
  | .busOff _ _ => true
  | .busOffRecoveryStart _ _ => true
  | .busOffRecoveryComplete _ _ => true
  | .status _ data => frameBytesOk data
  | .mirrorLinkLost _ => true
  | .snapshotReceived _ frame => frameOk frame
  | .snapshotStale _ => true
  | .twinTokenChange _ _ => true
  | .tokenContention _ => true
  | .presenceLoopChange _ _ => true
  | .roleDecision _ => true
  | .takeoverDecision _ => true
  | .mirrorReplace _ r value => reqOk r && word64 value
  | .replacementCopyEnd _ _ _ image => imageOk image
  | .modbusReadHoldingRegisters _ start quantity => word16 start && word16 quantity
  | .modbusReadInputRegisters _ start quantity => word16 start && word16 quantity
  | .readDeviceIdentification _ mei code objectId => sub8 mei && sub8 code && sub8 objectId
  | .modbusFrameDiscard _ _ => true
  | .modbusLeTimeout _ => true
  | .toolDetect _ _ => true
  | .resetReq _ _ => true
  | .serviceDictFrame _ service index sub type value => sub8 service && word16 index && sub8 sub && sub8 type && bytesOk value
  | .serviceConfirmedFrame _ seq service index sub type value token code => word16 seq && sub8 service && word16 index && sub8 sub && sub8 type && word64 value && word32 token && word32 code
  | .debugMemoryRead _ addr count => word32 addr && word16 count
  | .debugMemoryWrite _ addr data => word32 addr && bytesOk data
  | .loaderErase _ bank => firmwareBankOk bank
  | .loaderWrite _ bank offset data => firmwareBankOk bank && word32 offset && bytesOk data
  | .loaderStatus _ => true
  | .splitDebug _ r => reqOk r
  | .jointHalt _ r => reqOk r
  | .resume _ r => reqOk r
  | .step _ x => reqOk x.r && x.instr.all logicInstrOk
  | .simEnable _ r value => reqOk r && word64 value
  | .simOutputs _ r value => reqOk r && word64 value
  | .serviceBistRequest _ r value => reqOk r && word64 value
  | .serviceBistComplete _ _ late _ => decide (late ≤ 8)
  | .eventReadSeq _ r value => reqOk r && word64 value
  | .timeEpochUtc _ r value => reqOk r && word64 value
  | .ledgerIntervalElapse _ => true
  | .tempSample _ _ => true
  | .dieTempSample _ _ => true
  | .illegalFunction _ code => sub8 code
  | .pllLockTimeout _ => true
  | .driverThermalRestart _ ch => channelOk ch
  | .copyRequest _ => true

end Sys2Proof
end

