-- ==== Sys2Proof/Tests/Slice0.lean ====
section
/-!
SUPPORT. Slice0.lean: the WellFormed smoke test, the spec's worked examples, and one witness a statement: a small state and operands that
meet its hypotheses, clause by clause, at the boundary values of their ranges.
-/

set_option Elab.async false

namespace Sys2Proof.Tests

open Sys2Proof.Machine

/-! ### Small states -/

/-- Hold, released and powered, with a store that takes a write. -/
def held : State :=
  { State.reset with
    rt.state := .hold
    rt.cycling := true
    power.logicOn := true
    power.auxOk := true
    store.config.credit := 1 }

/-- Run, Service and the rest of the states. -/
def inState (x : RunState) : State := { held with rt.state := x }

/-- `s` at tick `t` of both times. -/
def at_ (t : Nat) (s : State) : State := { s with clock.localTicks := t, clock.net := t * 2 ^ 32 }

/-- Off with one entry qualified. -/
def charged : State := { State.reset with power.auxOk := true }

/-- `s` at step `b` of a start. -/
def starting (b : BootStep) : State := { State.reset with rt.state := .test, power.logicOn := true, power.auxOk := true, boot.step := b }

/-- Passes running for a cycle that ends at 100,000. -/
def passing : State := { inState .run with rt.passesRunning := true, rt.libDone := true }

/-- Held with the seal closed over set A as the firmware programs it. -/
def fenced : State :=
  match execMpuSeal 0 false false (starting .mpuSeal) with
  | .next s => { held with le := s.le }
  | _ => held

/-- Ready for a boundary at 100,000: passes ended and the queue popped. -/
def boundary (x : RunState) : State := at_ 100000 { inState x with rt.popped := true }

/-- `s` with channel `n` as `c`. -/
def withCh (n : Nat) (c : Channel) (s : State) : State := { s with field.channels := s.field.channels.set n c }

/-- Node 1 over ZOP-S, over plain ZOP, and the service port. -/
def n1 : Req := { node := 1, chan := .zops }
def p1 : Req := { node := 1, chan := .plain }
def port : Req := { node := 0, chan := .service }

/-- Counts of a monitor window at their nominal values, and sensors at rest. -/
def counts : ClockCounts := { le := 20000, ce := 10000, ios := 10000, ts := 10000, me := 10000, can := 10000, sd := 10000 }

/-- A confirmed write of node 1 that waits for its boundary. -/
def waiting (index sub value : Nat) : QueuedWrite :=
  { requester := 1
    channel := .zops
    confirmed := true
    index := index
    sub := sub
    type := 2
    value := value
    len := 1 }

/-- Passes that write nothing and end in time. -/
def passed : PassResult :=
  { plainUs := 10
    shadowUs := 20
    instrs := []
    plainWrites := []
    shadowWrites := []
    trapAt := none
    plainDiff := 0
    codedOut := []
    reachesHalt := false }

/-- Samples of the two entries: a half-cycle's end on the mains entry, and a voltage held on either. -/
def half (peak before : Nat) : EntrySample := { entry := .mains, mv := 0, held := 0, halfCycleEnd := true, peak := peak, before := before }
def steady (mv held : Nat) : EntrySample := { entry := .aux, mv := mv, held := held, halfCycleEnd := false, peak := 0, before := 0 }

/-- The PREPARE of `DICT_RESTORE` by node 1, its slot with token 1, and a segmented transfer of 60 bytes with 56 received. -/
def prepared (value : Nat) : Access :=
  { r := n1
    index := 0x1010
    sub := 7
    type := 2
    value := value
    len := 1
    confirmed := true }
def slot (r : Req) : PendingSlot :=
  { requester := r.node
    token := 1
    index := 0x1010
    sub := 7
    type := 2
    value := 1
    at_ := 0
    channel := r.chan }
def opened : Transfer :=
  { requester := 1
    channel := .a
    index := 0x5000
    sub := 7
    type := 16
    reqSeq := 5
    length := 60
    data := List.replicate 56 7
    at_ := 0 }

/-! ### WellFormed: every check refuses an operand outside its range -/

theorem test_wf_channel : Instr.wf (.filterElapsed 0 31) = true ∧ Instr.wf (.filterElapsed 0 32) = false := by decide
theorem test_wf_bank : Instr.wf (.bankSwitchOpenCheck 0 3 true) = true ∧ Instr.wf (.bankSwitchOpenCheck 0 4 true) = false := by decide
theorem test_wf_pair : Instr.wf (.pairDisagreement 0 3) = true ∧ Instr.wf (.pairDisagreement 0 4) = false := by decide
theorem test_wf_counter : Instr.wf (.cntTimeout 0 3) = true ∧ Instr.wf (.cntTimeout 0 4) = false := by decide
theorem test_wf_supply :
    Instr.wf (.fieldSupplyOutOfRange 0 2) = true ∧ Instr.wf (.fieldSupplyOutOfRange 0 0) = false ∧
      Instr.wf (.fieldSupplyOutOfRange 0 3) = false := by decide
theorem test_wf_domain : Instr.wf (.domainPowerUp 0 55) = true ∧ Instr.wf (.domainPowerUp 0 56) = false := by decide
theorem test_wf_group :
    Instr.wf (.bistGroupComplete 0 8 [] 0 0) = true ∧ Instr.wf (.bistGroupComplete 0 0 [] 0 0) = false ∧
      Instr.wf (.bistGroupComplete 0 9 [] 0 0) = false := by decide
theorem test_wf_source : Instr.wf (.warmReset 0 7) = true ∧ Instr.wf (.warmReset 0 0) = false ∧ Instr.wf (.warmReset 0 8) = false := by
  decide
theorem test_wf_buffer : Instr.wf (.releaseBuffer 0 .le 127) = true ∧ Instr.wf (.releaseBuffer 0 .le 128) = false ∧
    Instr.wf (.xchUncorrectableRead 0 8191) = true ∧ Instr.wf (.xchUncorrectableRead 0 8192) = false := by decide
theorem test_wf_post : Instr.wf (.post 0 .le 0 .ce 256 0) = false ∧ Instr.wf (.post 0 .le 0 .ce 1 65536) = false := by decide
theorem test_wf_firmware_bank : Instr.wf (.loaderErase 0 1) = true ∧ Instr.wf (.loaderErase 0 2) = false := by decide
theorem test_wf_width :
    Instr.wf (.mpuAccessCheck 0 .load 0 8 0) = true ∧ Instr.wf (.mpuAccessCheck 0 .load 0 3 0) = false ∧
      Instr.wf (.mpuAccessCheck 0 .load (2 ^ 32) 4 0) = false ∧ Instr.wf (.mpuAccessCheck 0 .load 0 4 (2 ^ 64)) = false := by decide
theorem test_wf_tag : Instr.wf (.tagWrite 0 0 15) = true ∧ Instr.wf (.tagWrite 0 0 16) = false := by decide
theorem test_wf_sync :
    Instr.wf (.sync 0 .a 16 255 0) = true ∧ Instr.wf (.sync 0 .a 16 256 0) = false ∧ Instr.wf (.sync 0 .a 17 0 0) = false ∧
      Instr.wf (.sync 0 .a 0 0 0) = false ∧ Instr.wf (.sync 0 .a 1 0 (2 ^ 32)) = false := by decide
theorem test_wf_frame :
    Instr.wf (.canFrameReceive 0 .a 0x7FF [] true false false) = true ∧
      Instr.wf (.canFrameReceive 0 .a (2 ^ 29) [] true false false) = false ∧
      Instr.wf (.canFrameReceive 0 .a 0 (List.replicate 65 0) true false false) = false := by decide
theorem test_wf_requester :
    Instr.wf (.read 0 n1 0 0) = true ∧ Instr.wf (.read 0 (Req.mk 17 .plain) 0 0) = false ∧ Instr.wf (.read 0 (Req.mk 1 .service) 0 0) = false ∧
      Instr.wf (.confirmWindowExpiry 0 16) = true ∧ Instr.wf (.confirmWindowExpiry 0 17) = false := by decide
theorem test_wf_write :
    Instr.wf (.write 0 n1 0 65536 0 0 []) = false ∧ Instr.wf (.write 0 n1 0 0 256 0 []) = false ∧
      Instr.wf (.write 0 n1 65536 0 0 0 []) = false ∧ Instr.wf (.registerWrite 0 n1 0 0 (2 ^ 64)) = false := by decide
theorem test_wf_instance :
    Instr.wf (.instAck 0 n1 4095 1) = true ∧ Instr.wf (.instAck 0 n1 0 1) = false ∧ Instr.wf (.instAck 0 n1 4096 1) = false := by decide
theorem test_wf_counts : Instr.wf (.clockMonitorWindow 0 counts) = true ∧
    Instr.wf (.clockMonitorWindow 0 (ClockCounts.mk 65536 0 0 0 0 0 0)) = false := by decide
theorem test_wf_sensors :
    Instr.wf (.cycleBoundary 0 (Sensors.mk 65536 0 0 [] 0 0 0 0 0 0 0)) = false := by decide
theorem test_wf_result : Instr.wf (.handOver 0 passed) = true ∧
    Instr.wf (.handOver 0 (PassResult.mk 0 0 [] [(0x60000, 0)] [] none 0 [] false)) = false ∧
    Instr.wf (.handOver 0 (PassResult.mk 0 0 [] [] [(0x60000, .signed, 0)] none 0 [] false)) = false ∧
    Instr.wf (.handOver 0 (PassResult.mk 0 0 [] [] [] none 0 [(32, 0)] false)) = false ∧
    Instr.wf (.handOver 0 (PassResult.mk 0 0 [LogicInstr.mk .add .signed 0 4 0 0 0x5FFFC] [] [] none 0 [] false)) = true ∧
    Instr.wf (.handOver 0 (PassResult.mk 0 0 [LogicInstr.mk .add .signed 0 4 0 0 0x60000] [] [] none 0 [] false)) = false := by decide
theorem test_wf_bytes : bytesOk (List.replicate 4097 0) = false ∧ imageOk (List.replicate 0x40001 0) = false := by
  unfold bytesOk imageOk
  rw [List.length_replicate, List.length_replicate]
  decide

/-! ### Witnesses: power entry, clock and resets -/

/-- The thresholds of Table 2-1 met and missed by one step, on either entry, and after 470 V. -/
theorem witness_EntryQualifies :
    let past : State := { held with power.mainsOver := true }
    let met (s : State) (x : EntrySample) : Bool :=
      let e := x.entry
      (e != .mains || (if s.power.mainsOver then x.halfCycleEnd && decide (115 < x.peak) && decide (x.peak ≤ 470) else decide (115000 < x.mv))) &&
        (e != .aux || (decide (17500 ≤ x.mv) && decide (x.mv ≤ 32500) && decide (100000 ≤ x.held)))
    met held { steady 115001 0 with entry := .mains } = true ∧ met held { steady 115000 0 with entry := .mains } = false ∧ met past (half 470 471) = true ∧
      met past (half 116 0) = true ∧ met past (half 115 0) = false ∧ met past (half 471 0) = false ∧
      met held (steady 17500 100000) = true ∧ met held (steady 32500 100000) = true ∧ met held (steady 17499 100000) = false ∧
      met held (steady 32501 100000) = false ∧ met held (steady 24000 99999) = false ∧ held.noMains = false ∧
      held.power.pfw = false ∧ ({ held with power.pfw := true } : State).power.pfw = true ∧
      ({ held with otp.bank0 := 0x44, otp.bank1 := 0x44, otp.bank2 := 0x44 } : State).noMains = true := by decide +kernel

/-- Both entries, the last of them, none; and a warning exactly 1 ms after the last entry was lost, and one tick before. -/
theorem witness_LostEntryRaisesWarning :
    let both : State := { held with power.mainsOk := true }
    let lost : State := { held with power.auxOk := false, power.lostAt := some 0 }
    let met (x : EntrySample) : Bool :=
      let e := x.entry
      (e != .mains || (decide (x.mv < 20000) && decide (150000 ≤ x.held)) || (x.halfCycleEnd && decide (x.peak < 100) && decide (x.before < 100)) ||
        (x.halfCycleEnd && decide (470 < x.peak) && decide (470 < x.before))) &&
        (e != .aux || ((decide (x.mv < 16500) || decide (33000 < x.mv)) && decide (5000 ≤ x.held)))
    both.power.mainsOk = true ∧ both.power.auxOk = true ∧ both.power.logicOn = true ∧
      held.power.auxOk = true ∧ held.power.mainsOk = false ∧
      met { steady 19999 150000 with entry := .mains } = true ∧ met { steady 20000 150000 with entry := .mains } = false ∧ met { steady 0 149999 with entry := .mains } = false ∧
      met { half 99 99 with mv := 90000 } = true ∧ met { half 100 99 with mv := 90000 } = false ∧
      met { half 471 471 with mv := 90000 } = true ∧ met { half 471 470 with mv := 90000 } = false ∧
      met (steady 16499 5000) = true ∧ met (steady 33001 5000) = true ∧ met (steady 16500 5000) = false ∧
      met (steady 33000 5000) = false ∧ met (steady 0 4999) = false ∧ State.reset.power.logicOn = false ∧
      held.savingGroup = false ∧ ({ starting (.bist 1) with power.pfw := true, boot.retainedStatus := 1 } : State).savingGroup = true ∧
      lost.power.lostAt = some 0 ∧ lost.power.logicOn = true ∧ lost.power.pfw = false ∧ lost.power.mainsOk = false ∧
      lost.power.auxOk = false ∧ 0 + 10000 ≤ (lost.elapse 10000).localNow ∧ (lost.elapse 9999).localNow < 0 + 10000 := by decide +kernel

theorem witness_RideThroughEndsOrGateReopens :
    let warned : State := { held with power.pfw := true, power.rideSince := 5, power.gateClosed := true }
    let shut : State := { held with power.gateClosed := true }
    warned.power.pfw = true ∧ 21999 < 22000 ∧ warned.power.rideSince + 100 * warned.pfRidethrough ≤ (warned.elapse 2500005).localNow ∧
      (warned.elapse 2500004).localNow < warned.power.rideSince + 100 * warned.pfRidethrough ∧ 22000 ≤ 22000 ∧
      shut.power.gateClosed = true ∧ shut.power.pfw = false ∧ 30000 ≤ 30000 ∧ held.power.gateClosed = false ∧ 29999 < 30000 ∧
      shut.store.deferred = [] ∧ warned.power.gateClosed = true ∧ warned.power.pfw = true ∧
      [0, 1, 2, 3].flatMap (fun k => shut.store.heldBack.filter (fun r => r.rank == k)) = [] ∧
      ({ shut with store.heldLeft := 1 } : State).store.heldLeft ≠ 0 := by
  decide +kernel

/-- The measured charge at the two limits of R81, and a pause that ends after 10 ms to the tick. -/
theorem witness_HoldupEstimateIsMeasured :
    let p (n : Nat) : HoldupPause := { start := 0, v1 := 40000, sum := 5000 * n, count := n }
    let paused (n : Nat) : State := { held with power.pause := some (p n) }
    held.power.estimateMade = false ∧ 30000 ≤ 30000 ∧
      min 500000 (6428 * 56000 / (3 * (36000 - max 20000 30000))) < 20000 ∧
      20000 ≤ min 500000 (6429 * 56000 / (3 * (36000 - max 20000 30000))) ∧
      min 500000 (12857 * 56000 / (3 * (36000 - max 20000 30000))) < 40000 ∧
      40000 ≤ min 500000 (12858 * 56000 / (3 * (36000 - max 20000 30000))) ∧ 30000 < 30001 ∧
      held.rt.cycling = true ∧ held.power.pause = none ∧ held.power.pfw = false ∧ (held.power.mainsOk || held.power.auxOk) = true ∧
      (held.elapse 0).now = held.rt.boundary ∧ (held.elapse 1).now ≠ held.rt.boundary ∧
      (paused 1).power.pause = some (p 1) ∧ ((paused 1).elapse 999999).localNow < 0 + 1000000 ∧
      0 + 1000000 ≤ ((paused 1).elapse 1000000).localNow ∧ 39999 < (p 1).v1 ∧ (p 1).v1 ≤ 40000 := by decide +kernel

theorem witness_SupplyStartEntersBoot :
    charged.power.logicOn = false ∧ (charged.power.mainsOk || charged.power.auxOk) = true ∧ 36000 ≤ 36000 ∧
      held.power.logicOn = true ∧ (State.reset.power.mainsOk || State.reset.power.auxOk) = false ∧ 35999 < 36000 := by decide +kernel

theorem witness_DrawAndDomainsAreSupervised :
    let drawn : State := { held with power.overdrawSince := some 0 }
    let odd : State := { held with power.mismatchTwice := 1 }
    let pd (n : Nat) : State := { held with power.switching := [(n, 5000)] }
    let b : State := starting .waitLock
    drawn.power.overdrawSince = some 0 ∧ 9000 < 9001 ∧ 9000 ≤ 9000 ∧ drawn.power.logicOn = true ∧
      held.boot.step = .idle ∧ b.boot.step = .waitLock ∧ (starting .lockRetry).boot.step = .lockRetry ∧
      (starting .locked).boot.step = .locked ∧ b.boot.entryAt + 100 * 500 ≤ (b.elapse 50000).localNow ∧
      b.boot.entryAt + 100 * 100 ≤ (b.elapse 10000).localNow ∧
      0 + 10000000 ≤ (drawn.elapse 10000000).localNow ∧
      odd.power.mismatchTwice ≠ 0 ∧ (∀ d ∈ odd.rt.detected, d.cause ≠ 0x0101) ∧ held.power.mismatchTwice = 0 ∧
      (∀ e ∈ (pd 40).power.switching, e.1 = 40 → ((pd 40).elapse 4999).bootPower.bistPower.localNow < e.2) ∧
      (pd 40).power.switching.find? (fun e => e.1 == 40) = some (40, 5000) ∧ 5000 ≤ ((pd 40).elapse 5000).bootPower.bistPower.localNow ∧
      (pd 31).power.switching.find? (fun e => e.1 == 31) = some (31, 5000) ∧ 31 < 32 ∧ 31 < (pd 31).field.channels.length := by
  decide +kernel

theorem witness_ResetSourcesHoldTheUnitInBoot :
    let locked : State := { held with clock.pllLock := true, clock.trimValid := true }
    let booting : State := { starting .release with boot.watchdogSince := some 0 }
    let inReset : State := starting .resetHeld
    locked.power.logicOn = true ∧ locked.boot.step ≠ .resetHeld ∧ 2 ≤ 2 ∧ 7 ≤ 7 ∧ locked.clock.pllLock = true ∧
      countsOk locked.clock.trimValid locked.power.domainStatus { counts with le := 19399 } = false ∧
      countsOk locked.clock.trimValid locked.power.domainStatus { counts with le := 19400 } = true ∧
      booting.power.logicOn = true ∧ booting.boot.step ≠ .resetHeld ∧ booting.boot.watchdogSince = some 0 ∧
      200000000 ≤ booting.boot.watchdogRun + ((booting.elapse 200000000).localNow - 0) ∧
      inReset.power.logicOn = true ∧ inReset.boot.step = .resetHeld ∧
      countsOk locked.clock.trimValid locked.power.domainStatus counts = true := by decide +kernel

theorem witness_PllLocksOrIsRetried :
    let s : State := starting .waitLock
    let r : State := starting .lockRetry
    let trim := !s.otp.fails s.otp.lifecycleState .trim
    let u : State := (s.elapse 0).bootPower
    s.boot.step = .waitLock ∧ s.power.pfw = false ∧ 1000 ≤ 1000 ∧ countsOk trim u.power.domainStatus counts = true ∧ 1000 < 1001 ∧
      countsOk trim u.power.domainStatus { counts with ts := 0 } = false ∧ s.boot.retryAt + 100000 ≤ (s.elapse 100000).bootPower.localNow ∧
      (s.elapse 99999).bootPower.localNow < s.boot.retryAt + 100000 ∧ r.boot.step = .lockRetry ∧
      r.boot.retryAt + 1000000 ≤ (r.elapse 1000000).bootPower.localNow ∧ r.power.pfw = false ∧
      (r.elapse 999999).bootPower.localNow < r.boot.retryAt + 1000000 := by decide +kernel

theorem witness_TimeMasterSendsRounds :
    let s : State := { held with dict.values := [(objKey 0x1800 2, 255)], clock.sync := .free }
    let m : State := { held with clock.sync := .master, zop.canA.enabled := true, zop.canB.enabled := true }
    let sent (t : Nat) : State := at_ t { m with clock.sending := some { round := 0, instant := 0, ma := none, mb := none } }
    s.rt.cycling = true ∧ s.clock.sync = .free ∧ s.timePriority = 255 ∧
      s.clock.lastHeard + 100000 * (30 + s.timePriority) ≤ (s.elapse 28500000).now ∧
      (s.elapse 28499999).now < s.clock.lastHeard + 100000 * (30 + s.timePriority) ∧ held.timePriority = 0 ∧
      m.rt.cycling = true ∧ m.clock.sync = .master ∧ m.zop.canA.accepts = true ∧ m.zop.canB.accepts = true ∧
      (m.elapse 1000000).now % 1000000 = 0 ∧ m.clock.roundLast < (m.elapse 1000000).now ∧ (m.elapse 999999).now % 1000000 ≠ 0 ∧
      (m.elapse 0).now ≤ m.clock.roundLast ∧ (sent 0).clock.sync = .master ∧
      (sent 0).clock.sending = some { round := 0, instant := 0, ma := none, mb := none } ∧
      0 + 200000 < ((sent 0).elapse 200001).now ∧ ((sent 0).elapse 200000).now ≤ 0 + 200000 ∧
      0 + 150000 ≤ ((sent 0).elapse 150000).now ∧ ((sent 0).elapse 149999).now < 0 + 150000 ∧
      ((none : Option Nat).isSome || !(sent 0).channelInUse .a) = false ∧ ((some 5).isSome || !(sent 0).channelInUse .a) = true ∧
      ({ s with clock.sync := .locking } : State).clock.sync = .locking ∧
      ({ s with clock.sync := .holdover } : State).clock.sync = .holdover := by
  decide +kernel

/-- A receiver of round 7 from node 3 on both channels; offsets at 30, 35 and 1,000 ticks and one past each. -/
theorem witness_ReceiverFollowsItsMaster :
    let s : State := { held with zop.canA.enabled := true, clock.sync := .locked }
    let got (la lb : Nat) : State := { s with clock.captures :=
      [{ master := 3, priority := 9, round := 7, la := some la, lb := some lb, done := false }] }
    let e (la ma : Nat) : Int := la - ma
    s.rt.cycling = true ∧ s.channelInUse .a = true ∧ 3 ≠ s.zop.nodeId ∧ (∀ c ∈ s.clock.captures, c.master = 3 → c.round ≠ 7) ∧
      (∀ c ∈ s.clock.captures, c.master = 3 → c.round = 7 → c.done = true) ∧
      (got 1035 1005).clock.sync = .locked ∧ (got 1035 1005).clock.masters = [] ∧
      ((got 1035 1005).elapse 3000035).now ≤ ((1000 - 1000 % 1000000 : Nat) : Int) + e 1035 1000 + 3000000 ∧
      ¬ ((got 1035 1005).elapse 3000036).now ≤ ((1000 - 1000 % 1000000 : Nat) : Int) + e 1035 1000 + 3000000 ∧
      (∃ c ∈ (got 1035 1005).clock.captures, c.master = 3 ∧ c.round = 7 ∧ c.done = false) ∧ (0 : Int) ≤ (s.elapse 0).now ∧
      (e 1035 1000 - e 1005 1000).natAbs ≤ 30 ∧ 30 < (e 1035 1000 - e 1004 1000).natAbs ∧ (e 1035 1000).natAbs ≤ 35 ∧
      35 < (e 1036 1000).natAbs ∧ (e 1036 1000 - e 1036 1000).natAbs ≤ 30 ∧ (got 1036 1036).clock.departure = false ∧
      (e 2000 1000).natAbs ≤ 1000 ∧ 1000 < (e 2001 1000).natAbs ∧
      ({ got 1036 1036 with clock.departure := true } : State).clock.departure = true := by decide +kernel

theorem witness_SyncTimeoutsAndSteps :
    let s (x : SyncState) : State := { inState .run with clock.sync := x, clock.lastAccepted := some 0 }
    let limit : State := { held with clock.limitSince := some 0 }
    let slew : State := { held with clock.slewUntil := some 1000000 }
    let step (x : RunState) : State := { inState x with clock.pendingStep := some 5, clock.net := 100000 * 2 ^ 32 }
    (s .locked).clock.lastAccepted = some 0 ∧ ((s .locked).elapse 2999999).now < 0 + 3000000 ∧
      0 + 3000000 ≤ ((s .locked).elapse 3000000).now ∧ (s .locked).clock.sync = .locked ∧ (s .locking).clock.sync = .locking ∧
      (s .holdover).clock.sync = .holdover ∧
      (s .holdover).clock.holdoverSince + 100 * (s .holdover).syncHoldover ≤ ((s .holdover).elapse 100000000).now ∧
      ((s .holdover).elapse 99999999).now < (s .holdover).clock.holdoverSince + 100 * (s .holdover).syncHoldover ∧
      (s .holdover).rt.state = .run ∧ (s .holdover).syncRequired = true ∧
      limit.clock.limitSince = some 0 ∧ limit.syncRequired = true ∧ 0 + 100000000 ≤ (limit.elapse 100000000).localNow ∧
      (limit.elapse 99999999).localNow < 0 + 100000000 ∧
      slew.clock.slewUntil = some 1000000 ∧ slew.clock.sync ≠ .master ∧ (1000000 : Int) ≤ (slew.elapse 1000000).now ∧
      (slew.elapse 999999).now < (1000000 : Int) ∧ ((step .run).elapse 0).now ≠ (step .run).rt.boundary ∧
      (step .hold).rt.cycling = true ∧ (at_ 0 (step .hold)).now = (at_ 0 (step .hold)).rt.boundary ∧
      ((at_ 0 (step .hold)).elapse 0).boundaryDue = false ∧ ((at_ 99999 (step .hold)).elapse 0).now ≠ (step .hold).rt.boundary ∧
      (step .hold).clock.pendingStep = some 5 ∧ ((step .hold).elapse 0).boundaryDue = true ∧ (step .hold).rt.state ≠ .run ∧
      (step .run).rt.state = .run ∧ ((step .run).elapse 0).boundaryDue = true ∧
      ({ step .hold with clock.net := 99999 * 2 ^ 32 } : State).boundaryDue = false := by decide +kernel

/-! ### Witnesses: start, states and the cycle -/

/-- Firmware bank 0 with a valid header of an empty body. -/
def firmware : List Host.Cell :=
  let head := leBytes 4 0x5B3A0C71 ++ leBytes 4 0x00020001 ++ leBytes 4 0 ++ leBytes 4 1 ++ leBytes 4 (crc32c []) ++ List.replicate 40 0
  cellWrite erasedByte (fwBase 0) (head ++ leBytes 4 (crc32c head)) []

theorem witness_ResetReleaseLeadsToTest :
    let s : State := starting .resetHeld
    let failed : State := { s with boot.retained.bootFailures := 3 }
    let l : State := starting .locked
    s.boot.step = .resetHeld ∧ (s.elapse 99999).localNow < s.boot.resetAt + 100000 ∧
      s.boot.resetAt + 100000 ≤ (s.elapse 100000).localNow ∧ s.boot.noBank = false ∧ s.boot.retained.bootFailures < 3 ∧
      ({ s with boot.noBank := true } : State).boot.noBank = true ∧ failed.boot.step = .resetHeld ∧
      3 ≤ failed.boot.retained.bootFailures ∧ s.rt.cycling = false ∧ s.power.domainCommand.getLsbD 49 = false ∧ l.boot.step = .locked ∧ l.power.pfw = false ∧ l.le.fwSelect = none ∧
      ({ l with le.flash := firmware } : State).le.fwSelect = some 0 := by decide +kernel

theorem witness_SelfTestsEnterTheirResults :
    let s (n : Nat) : State := starting (.bist n)
    let warned : State := { s 3 with power.pfw := true }
    let kept : State := { s 1 with power.pfw := true, boot.cold := false, boot.retainedStatus := 3 }
    let late (n t : Nat) : Bool := decide (100 * groupLimit (s n).boot.cold n < ((s n).elapse t).localNow - (s n).boot.groupAt)
    (s 1).boot.step = .bist 1 ∧ (s 8).boot.step = .bist 8 ∧ 1 ≤ 1 ∧ 8 ≤ 8 ∧ (s 1).power.pfw = false ∧
      (s 1).boot.groupAt ≤ ((s 1).elapse 0).localNow ∧ late 1 3000000 = false ∧ late 1 3000001 = true ∧
      (({ s 1 with boot.groupAt := 5 } : State).elapse 4).localNow < 5 ∧ warned.boot.groupAt ≤ warned.power.rideSince ∧
      warned.power.rideSince < ({ warned with boot.groupAt := 1 } : State).boot.groupAt ∧
      ((s 1).otp.tested ((s 1).otp.applied.map (fun e => e.toNat))) 0 = true ∧
      warned.boot.step = .bist 3 ∧ warned.power.pfw = true ∧ warned.keepsRegion 3 = false ∧ kept.keepsRegion 1 = true ∧
      (starting .comparator).boot.step = .comparator ∧ (starting .comparator).power.pfw = false ∧
      (starting .mpuSeal).boot.step = .mpuSeal ∧ (starting .mpuSeal).power.pfw = false ∧ (starting .mpuSeal).power.logicOn = true ∧
      (true || false) = true := by decide +kernel

theorem witness_RecoveryAndReleaseEndTheStart :
    let s : State := { starting .release with boot.comparator := 0x7F }
    (starting .recovery).boot.step = .recovery ∧ (starting .recovery).power.pfw = false ∧
      s.boot.step = .release ∧ s.power.pfw = false ∧ s.power.gateClosed = false ∧ s.epochWaits = false ∧ s.zop.session ≠ 2 ∧
      ({ s with zop.session := 2, power.gateClosed := true } : State).zop.session = 2 ∧
      s.boot.failCount = 0 ∧ s.boot.comparator = 0x7F ∧ s.boot.retained.cause = none ∧ s.boot.retained.watchdogExpiry = false ∧
      s.boot.retained.latch = false ∧ s.rt.lockoutLatch = false ∧
      0 < ({ s with boot.failCount := 1 } : State).boot.failCount ∧ ({ s with boot.comparator := 0x7E } : State).boot.comparator ≠ 0x7F ∧
      ({ s with boot.retained.cause := some 0x0102 } : State).boot.retained.cause = some 0x0102 ∧
      ({ s with boot.retained.watchdogExpiry := true } : State).boot.retained.watchdogExpiry = true ∧
      ({ s with boot.retained.latch := true } : State).boot.retained.latch = true ∧
      ({ s with rt.lockoutLatch := true } : State).rt.lockoutLatch = true := by decide +kernel

theorem witness_BoundaryCountsTheCycle :
    let step : State := { passing with clock.pendingStep := some 5, rt.state := .hold }
    ((at_ 99999 held).elapse 0).boundaryDue = false ∧ ((at_ 0 passing).elapse 100000).boundaryDue = true ∧
      passing.rt.passesRunning = true ∧ passing.clock.pendingStep = none ∧ passing.rt.state = .run ∧ step.clock.pendingStep = some 5 ∧
      passing.mirror.role ≠ 2 ∧ passing.mirror.role ≠ 3 ∧ passing.zop.held = [] ∧ passing.rt.libDone = true ∧
      step.rt.state ≠ .run ∧ ((at_ 0 step).elapse 100000).boundaryDue = true := by decide +kernel

/-- A fault of each class, and none, in the states where each decides. -/
theorem witness_FaultsDecideTheState :
    let hit (x : RunState) (c : FaultClass) : State :=
      { boundary x with rt.detected := [{ cause := 0x0703, cls := c, time := 0, data := [] }] }
    let quiet (s : State) : Bool := (s.elapse 0).boundaryDue && !s.rt.passesRunning && s.rt.popped && !s.rt.resetAtBoundary &&
      s.service.bistFrom.isNone && s.service.pending.isEmpty && s.dict.queued.isEmpty && s.rt.encoding.isNone && !s.rt.autoStart
    quiet (hit .run .recoverable) = true ∧ (hit .run .recoverable).rt.state = .run ∧ quiet (hit .safeStop .nonRecoverable) = true ∧
      (∀ d ∈ (hit .run .recoverable).rt.detected, d.cls ≠ .nonRecoverable) ∧ quiet (boundary .hold) = true ∧
      (boundary .service).rt.state = .service ∧ (boundary .hold).rt.detected = [] ∧ (boundary .hold).clock.pendingStep = none ∧
      (boundary .hold).mirror.selectDue = none ∧ (boundary .hold).passes.halted = false := by decide +kernel

/-- A Run request and an acknowledge in SafeStop, with and without a persisting cause. -/
theorem witness_RejectedRequestsLeaveTheState :
    let q (sub value : Nat) : QueuedWrite := waiting 0x2200 sub value
    let s (c : List Nat) (r : QueuedWrite) : State := { boundary .safeStop with rt.active := c, dict.queued := [r] }
    let quiet (s : State) : Bool := (s.elapse 0).boundaryDue && !s.rt.passesRunning && s.rt.popped && !s.rt.resetAtBoundary &&
      s.service.bistFrom.isNone && s.mirror.pairStop.isNone && s.service.pending.isEmpty && s.rt.detected.isEmpty &&
      s.glint.carried.isEmpty && s.analog.carried.isEmpty
    quiet (s [] (q 5 1)) = true ∧ quiet (s [0x0705] (q 5 1)) = true ∧ quiet (s [] (q 2 1)) = true ∧
      (s [0x0705] (q 5 1)).rt.active ≠ [] ∧ (s [] (q 5 1)).rt.active = [] ∧ (s [] (q 2 1)).dict.queued = [q 2 1] ∧
      (q 2 1).index = 0x2200 ∧ (q 2 1).value = 1 ∧ (s [] (q 2 1)).rt.state = .safeStop := by decide +kernel

theorem witness_RequestsTakeEffectAtTheBoundary :
    let q (value : Nat) : QueuedWrite := waiting 0x2200 2 value
    let s (x : RunState) (v : Nat) : State := { boundary x with dict.queued := [q v] }
    let quiet (s : State) : Bool := (s.elapse 0).boundaryDue && !s.rt.passesRunning && s.rt.popped && !s.rt.resetAtBoundary &&
      s.service.bistFrom.isNone && s.rt.encoding.isNone && s.mirror.pairStop.isNone && s.service.pending.isEmpty &&
      s.rt.detected.isEmpty && s.glint.carried.isEmpty && s.analog.carried.isEmpty
    quiet (s .run 3) = true ∧ quiet (s .lockout 5) = true ∧ quiet (s .hold 1) = true ∧ (s .service 3).rt.state = .service ∧
      (s .hold 1).images.image = none ∧ ({ s .hold 1 with rt.splitSinceReset := true } : State).rt.splitSinceReset = true ∧
      (s .hold 2).otp.lifecycle = 1 ∧ (s .hold 1).zop.session ≠ 1 ∧ quiet { s .hold 2 with otp.lifecycle := 2 } = true ∧
      (s .hold 2).rt.autoStart = false ∧ ({ s .lockout 5 with rt.ackArmed := true } : State).rt.ackArmed = true ∧
      (s .lockout 5).rt.ackArmed = false := by decide +kernel

/-- Passes whose signatures agree, differ and trap, in a window of one cycle and of eight, before and after the deadline. -/
theorem witness_HandOverEndsThePasses :
    let r : PassResult := passed
    let s : State := at_ 1000 passing
    let w : State := { s with passes.windowActive := 1 }
    let c : State := withCh 31 { on := true, mode := 3 } { s with images.codeConstant := 62141 }
    let bad : PassResult := { r with codedOut := [(31, 5)] }
    let stray : PassResult := { r with plainWrites := [(0, 1)] }
    let odd : PassResult := { r with plainWrites := [(0x14000, 1)] }
    let i : ActiveImage := { sequence := 7, familyId := 9, crc := 5, declaredUs := 0, stateSize := 64, stackSize := 0, uses := [], analog := [] }
    let v : State := { w with images.image := some i }
    let after (x : State) (r : PassResult) := thenPass ((x.elapse 0).plainPass r true) (fun t => t.shadowPass r true)
    let images (x : State) (r : PassResult) := (((after x r).1.alterOutputs r).alterCoded r).outputImages
    let guarded : State := { s with le := fenced.le }
    held.rt.passesRunning = false ∧ s.rt.passesRunning = true ∧ s.rt.cycling = true ∧ s.rt.libDone = true ∧ s.passes.split = false ∧
      s.service.haltArmed = false ∧ s.service.resuming = false ∧ s.rt.passTag + 1000 + (s.elapse 0).commitTicks ≤ ((s.elapse 0).now : Int) ∧
      (((at_ 999 passing).elapse 0).now : Int) < passing.rt.passTag + 1000 ∧
      ({ at_ 0 passing with service.resuming := true } : State).service.resuming = true ∧ r.instrs = [] ∧ r.reachesHalt = false ∧
      (after s r).2 = none ∧ ¬ s.passes.windowActive ≤ s.passes.position + 1 ∧
      w.passes.windowActive ≤ w.passes.position + 1 ∧
      (after w r).1.passes.sigPlain = (after w r).1.passes.sigShadow ∧
      (after v odd).1.passes.sigPlain ≠ (after v odd).1.passes.sigShadow ∧ (after v odd).2 = none ∧
      (after s { r with trapAt := some 0 }).2 = some (.trap 0) ∧ (after guarded stray).2 = some .violation ∧
      (images s r).isRight = true ∧ (after c bad).2 = none ∧ (images c bad).isLeft = true ∧
      (s.elapse 98000).pastDeadline = false ∧ (s.elapse 98001).pastDeadline = true := by decide +kernel

theorem witness_PlacementAndWatchdog :
    let due : State := { inState .run with rt.boundary := 100000, field.placementDue := true }
    let fresh : State := { due with field.images := [{ tag := 0, plain := 1, shadow := 1 }] }
    let armed (n : Nat) : State := { inState .run with field.wdArmed := true, field.wdMissed := n }
    held.field.placementDue = false ∧ ((at_ 109999 due).elapse 0).now < due.rt.boundary + 10000 ∧ due.rt.cycling = true ∧
      due.field.placementDue = true ∧ due.rt.boundary + 10000 ≤ ((at_ 110000 due).elapse 0).now ∧ due.field.safeState = false ∧
      due.field.applyState = false ∧ due.service.simActive = false ∧ ((at_ 110000 due).elapse 0).freshImage = none ∧
      ((at_ 110000 fresh).elapse 0).freshImage = some { tag := 0, plain := 1, shadow := 1 } ∧ fresh.rt.state = .run ∧
      isOutputMode ((withCh 31 { mode := 2 } fresh).ch 31).mode = true ∧ (due.elapse 0).freshImage = none ∧
      31 < (withCh 31 { mode := 2 } fresh).field.channels.length ∧ (held.ch 31).mode ≠ 3 ∧
      (armed 3).field.wdArmed = true ∧ (armed 3).field.safeState = false ∧ (armed 3).outputWdCycles ≤ (armed 3).field.wdMissed ∧
      (armed 2).field.wdMissed < (armed 2).outputWdCycles ∧ (0x0703 ∉ (armed 3).rt.active) ∧ held.field.wdArmed = false := by
  decide +kernel

theorem witness_MarkStallAndEncoding :
    let stalled (n : Nat) : State := { held with rt.stallCount := n }
    let coding : State := { held with rt.encoding := some .run }
    (stalled 256).rt.cycling = true ∧ 256 ≤ (stalled 256).rt.stallCount ∧ (stalled 256).power.logicOn = true ∧
      (stalled 256).boot.step ≠ .resetHeld ∧ (stalled 255).rt.stallCount < 256 ∧ held.rt.encoding = none ∧
      coding.rt.encoding ≠ none ∧ coding.rt.encodingDone = false ∧ coding.rt.cycling = true ∧
      coding.rt.cycling = true ∧ (.bool : WordType) = .bool ∧ (1 : BitVec 32).toNat ≤ 1 ∧ ¬ (2 : BitVec 32).toNat ≤ 1 ∧
      codeConstantValid 62141 = true ∧ codeConstantValid 0 = false ∧ -(2 ^ 31 : Int) ≤ -(2 ^ 31) ∧ (2 ^ 32 - 1 : Int) < 2 ^ 32 := by decide +kernel

/-! ### Witnesses: the dictionary -/

/-- A write of `TIME_EPOCH_UTC` by node 1 over plain ZOP, judged. -/
def epochWrite (s : State) : Nat :=
  s.judgeWrite { r := p1, index := 0x1800, sub := 12, type := 6, value := 9, len := 8, confirmed := false }

/-- The write of every row that names one object's, in the statement's order; the last three are those that any requester may make anywhere. -/
def rowWrites (r : Req) : List Machine.Access :=
  [rowAccess r 0x2200 2 1, rowAccess r 0x2200 2 2, rowAccess r 0x2200 2 3, rowAccess r 0x2200 2 5, rowAccess r 0x2200 5 1,
    rowAccess r 0x2200 0x12 1, rowAccess r 0x1010 7 1, rowAccess r 0x5000 9 0, rowAccess r 0x5000 9 cancelTick, rowAccess r 0x3300 2 15,
    rowAccess r 0x2300 5 0x10, rowAccess r 0x2300 7 1, rowAccess r 0x2300 8 1, rowAccess r 0x2300 8 2, rowAccess r 0x2300 8 3] ++
    [rowAccess r 0x2300 8 4, rowAccess r 0x2300 8 5, rowAccess r 0x2300 8 6, { rowAccess r 0x5000 7 0 with len := 128 },
      rowAccess r 0x5000 2 1, rowAccess r (0x4000 + 1) 5 1, rowAccess r (0x4000 + 2) 0xA 0, rowAccess r 0x5800 0xE 1, rowAccess r 0x5C00 2 1,
      rowAccess r 0x5C00 2 2, rowAccess r 0x5C00 2 3, rowAccess r 0x5C00 2 4, rowAccess r 0x5C00 4 1, rowAccess r 0x5C00 5 0,
      rowAccess r 0x5C00 6 1] ++
    [rowAccess r 0x5E00 0xA 0, rowAccess r 0x1800 0xC 7, rowAccess r 0x5000 5 1, rowAccess r 0x5000 5 2]

/-- `s` with an instance of EMERGENCY_STOP and one of DIRECTION_INTERLOCK; the workshop's Service with halted passes. -/
def blocked (s : State) : State := { s with lib.blocks := [{ id := 1, type := 1 }, { id := 2, type := 8 }] }
def workshop : State := { inState .service with otp.lifecycle := 5, passes.split := true, passes.halted := true }

/-- Every row's write is accepted somewhere, and refused somewhere but for those that no check bars. -/
theorem witness_WritesWaitForTheBoundary :
    let code (s : State) (r : Req) (k : Nat) : Nat := ((rowWrites r)[k]?.map (fun a => ((blocked s).elapse 5).judgeWrite a)).getD 1
    let both : State := { held with dict.queued := [waiting 0x5000 2 1] }
    State.reset.released = false ∧ held.released = true ∧ (rowWrites n1).length = 34 ∧
      (∀ k, k < 34 → code held n1 k = 0 ∨ code held port k = 0 ∨ code (inState .run) n1 k = 0 ∨ code (inState .safeStop) n1 k = 0 ∨
        code workshop port k = 0) ∧
      (∀ k, k < 30 → code held p1 k ≠ 0 ∨ code (inState .run) n1 k ≠ 0) ∧
      (blocked (inState .safeStop)).released = true ∧ workshop.released = true ∧ n1.chan ≠ .plain ∧
      (both.elapse 5).confirmedAlready { n1 with node := 2 } 0x5000 2 = true ∧ (both.elapse 5).confirmedAlready n1 0x5000 2 = false := by
  decide +kernel

/-- REQ_SEQ at both ends of its range: 1 and 32,767 ahead, equal, and 32,768 ahead. -/
theorem witness_RequestSequenceDecides :
    let s : State := { held with dict.reqSeq := [(1, 65535)] }
    s.released = true ∧ held.lastReqSeq 1 = none ∧ epochWrite (held.elapse 5) = 0 ∧ s.lastReqSeq 1 = some 65535 ∧
      (32766 + 65536 - 65535) % 65536 = 32767 ∧ (65535 + 65536 - 65535) % 65536 = 0 ∧ 65535 ≠ 0 ∧
      32767 < (32767 + 65536 - 65535) % 65536 := by decide +kernel

/-- A PREPARE, its CONFIRM one tick before the window ends, and the window's end. -/
theorem witness_ConfirmedWriteTakesTwoSteps :
    let a : Access := rowAccess n1 0x1010 7 1
    let p : PendingSlot := slot n1
    let s : State := { held with dict.slots := [p] }
    held.released = true ∧ (held.elapse 0).judgeWrite (prepared 1) = 0 ∧ (held.elapse 0).ownerRefusal (prepared 1) = (0, 0) ∧
      a.index = 0x1010 ∧ s.dict.slots.find? (fun x => x.requester == n1.node) = some p ∧ p.token = 1 % 2 ^ 32 ∧
      (s.elapse 499999999).localNow < p.at_ + 500000000 ∧ s.confirmCode p % 2 ^ 32 = s.confirmCode p ∧
      s.confirmedAlready n1 p.index p.sub = false ∧ (s.elapse 499999999).judgeWrite (prepared 1) = 0 ∧
      (s.elapse 499999999).ownerRefusal (prepared 1) = (0, 0) ∧ typeSize p.type = (prepared 1).len ∧
      (∀ x ∈ s.dict.superseded, x.requester ≠ n1.node) ∧ n1.chan = .zops ∧ port.chan = .service := by
  decide +kernel

theorem witness_RejectedConfirmsAndTheSlot :
    let p : PendingSlot := slot n1
    let s : State := { held with dict.slots := [p] }
    held.dict.slots.find? (fun x => x.requester == n1.node) = none ∧ s.released = true ∧
      s.dict.slots.find? (fun x => x.requester == n1.node) = some p ∧ p.token ≠ 2 % 2 ^ 32 ∧
      p.at_ + 500000000 ≤ (s.elapse 500000000).localNow ∧ p.token = 1 % 2 ^ 32 ∧ (s.elapse 499999999).localNow < p.at_ + 500000000 ∧
      (s.confirmCode p + 1) % 2 ^ 32 ≠ s.confirmCode p := by decide +kernel

/-- An object that answers, one that does not exist, a subindex that does not, and one that cannot be read. -/
theorem witness_ReadsAreAnsweredAtOnce :
    State.reset.released = false ∧ held.released = true ∧ (held.elapse 0).judgeRead 0x1800 2 = 0 ∧ (findObj 0x1800 2).isSome = true ∧
      p1.chan ≠ .modbus ∧
      ((findObj 0x1800 2).map (fun o =>
        (State.objectBytes { held.elapse 0 with dict := { (held.elapse 0).dict with response := none } } p1 0x1800 2 o).isRight)) =
          some true ∧
      (held.elapse 0).indexExists 0x1111 = false ∧ (held.elapse 0).indexExists 0x1800 = true ∧ findObj 0x1800 0xFE = none ∧
      (held.elapse 0).indexExists 0x2300 = true ∧ (findObj 0x2300 8).map (fun o => o.access) = some .woc := by decide +kernel

/-- A transfer of 60 bytes with 56 received: its continuation, its end, one short, one early, and its time-out to the tick. -/
theorem witness_SegmentsAreReassembled :
    let x : Transfer := opened
    let s : State := { held with zop.canA.enabled := true, zop.transfers := [x] }
    let full : State := { s with zop.dictPosted := 3 }
    full.zop.dictPosted = 3 ∧ s.zop.dictPosted < 3 ∧ s.zop.held = [] ∧ s.xch.ceTasks = [] ∧ s.xch.portBusy .ce = false ∧
      (s.elapse 0).startingUp 48 = false ∧ (s.elapse 0).freeBuffer .ce ≠ none ∧ s.xch.buffers.length = 128 ∧ 60 ≤ 492 ∧
    s.rt.cycling = true ∧ (s.zop.can .a).up = true ∧ (s.elapse 0).transfer .b 1 = none ∧ (s.elapse 0).transfer .a 1 = some x ∧
      (s.elapse 0).continues x 5 56 [1, 2] = true ∧ (s.elapse 0).continues x 5 56 [1, 2, 3, 4] = true ∧
      x.data.length + [1, 2, 3, 4].length = x.length ∧ x.data.length + [1, 2].length < x.length ∧
      (s.elapse 0).continues x 5 57 [1] = false ∧ (s.elapse 0).continues x 5 56 [1, 2, 3, 4, 5] = false ∧
      (s.elapse 9999999).localNow < x.at_ + 10000000 ∧ x.at_ + 10000000 ≤ (s.elapse 10000000).localNow := by decide +kernel

/-! ### Witnesses: the field side -/

theorem witness_FieldFaultsAreDetectedAndCleared :
    let open_ : State := withCh 31 { mode := 4 } { at_ 10000 (inState .run) with field.banks := List.replicate 4 { closed := true } }
    let opened (c : Bool) : State := { held with field.banks := List.replicate 4 { closed := c, openedAt := some 0 } }
    let high : State := { held with field.banks := List.replicate 4 { closed := false, openedAt := some 0, openHighRun := 2 } }
    let low : State := { held with field.fs1.low := true, field.fs2.low := true }
    let fs (n : Nat) : State := { held with field.fs1.outRun := n, field.fs2.outRun := n }
    let rb (n : Nat) : State := withCh 31 { mode := 4, mismatchRun := n } held
    let quiet (x : Option Instant) : State := { held with analog.pairs := List.replicate 4 { disagreeFault := true, agreeSince := x } }
    open_.rt.state = .run ∧ open_.rt.runSince + 10000 ≤ (open_.elapse 0).now ∧ open_.safetyBank 3 = true ∧
      (open_.bank 3).closed = true ∧ (open_.bank 3).closeFailed = false ∧ (7 : BitVec 4).getLsbD 3 = false ∧
      ((at_ 9999 open_).elapse 0).now < open_.rt.runSince + 10000 ∧
      ((opened false).bank 0).openedAt = some 0 ∧ ((opened false).bank 0).closed = false ∧ (opened false).rt.cycling = true ∧
      0 + 500000 ≤ ((opened false).elapse 500000).localNow ∧ ((opened false).elapse 499999).localNow < 0 + 500000 ∧
      ((opened false).bank 0).openHighRun ≠ 2 ∧ (high.bank 0).openHighRun = 2 ∧ (high.bank 0).openedAt = some 0 ∧ (low.field.fs1.low && low.field.fs2.low) = true ∧
      low.rt.cycling = true ∧ 0x0701 ∉ low.rt.active ∧ 0x0702 ∉ low.rt.active ∧ held.field.fs1.outRun ≤ 2 ∧
      ((held.field.fs1.compare true 17999 0).outRun, (held.field.fs1.compare true 18000 0).outRun) = (1, 0) ∧
      ((withCh 15 { mode := 1 } (fs 1)).compareSupplies 17999 24000).field.fs1.low = true ∧ ((withCh 15 { mode := 1 } (fs 1)).compareSupplies 18000 24000).field.fs1.low = false ∧
      (withCh 15 { mode := 1 } (fs 1)).field.fs1.low = false ∧ ((withCh 15 { mode := 1 } (fs 1)).ch 15).mode = 1 ∧
      16 ≤ (({ (rb 2).ch 31 with readbackFault := true, matchRun := 16 }) : Channel).matchRun ∧
      ((opened true).bank 0).closed = true ∧ (fs 2).rt.cycling = true ∧ (fs 2).field.fs1.low = false ∧ 2 ≤ (fs 2).field.fs1.outRun ∧
      (fs 1).field.fs1.outRun < 2 ∧ (fs 2).field.fs2.low = false ∧ 2 ≤ (fs 2).field.fs2.outRun ∧ (fs 1).field.fs2.outRun < 2 ∧
      ((rb 2).ch 31).readbackFault = false ∧ 2 ≤ ((rb 2).ch 31).mismatchRun ∧ isSafetyMode ((rb 2).ch 31).mode = true ∧
      ((rb 1).ch 31).mismatchRun < 2 ∧ 0x0703 ≠ 0x0705 ∧ 0x0703 ≠ 0x070A ∧ 31 < held.field.channels.length ∧
      isSafetyMode ((withCh 31 { mode := 3 } held).ch 31).mode = false ∧ (quiet (some 0)).analog.pairs.all (fun q => q.disagreeFault) = true ∧
      0 + 10000000 ≤ ((quiet (some 0)).elapse 10000000).now ∧ ((quiet (some 0)).elapse 9999999).now < 0 + 10000000 ∧
      (quiet none).analog.pairs.map (fun q => q.agreeSince) = List.replicate 4 none := by decide +kernel

/-- A run on CH31 at its due instant, one tick before, while blanked, and none. -/
theorem witness_InputFiltersHoldTheLevel :
    let r : FilterRun := { stamp := 3, due := 40000 }
    let s : State := withCh 31 { on := true, mode := 1, raw := true, run := some r } held
    let b : State := withCh 31 { on := true, mode := 1, run := some r, blanked := some { pre := true, run := none } } held
    let seen : State := withCh 31 { on := true, mode := 1 } { held with dict.values := [(objKey (0x3000 + 31) 2, 2)] }
    let late : State := withCh 31 { on := true, mode := 1, raw := true, run := some r } (at_ 100000 held)
    comparatorLevel 1 1 14999 false = false ∧ comparatorLevel 1 1 15000 false = true ∧ comparatorLevel 1 1 5001 true = true ∧
      comparatorLevel 1 1 5000 true = false ∧ comparatorLevel 1 2 11000 false = true ∧ comparatorLevel 1 3 10999 false = false ∧
      isOutputMode ((withCh 31 { mode := 4 } held).ch 31).mode = true ∧ (5000 : Nat) ≤ 5000 ∧ held.power.fs2Mv ≤ 5000 ∧
      isOutputMode 4 = true ∧ comparatorLevel 4 1 12000 false = true ∧ comparatorLevel 4 1 10000 true = false ∧
      comparatorLevel 4 1 11999 false = false ∧ (seen.elapse 0).boundaryDue = false ∧ (late.elapse 0).boundaryDue = true ∧
      (late.ch 31).held = none ∧ (((late.ch 31).hold 40000).held = some (true, 3)) ∧ (((late.ch 31).hold 39999).held = some (false, 0)) ∧
      ((s.ch 31).on && (s.ch 31).mode == 1) = true ∧ comparatorLevel 1 (s.chInputType 31) 0 (s.ch 31).raw ≠ (s.ch 31).raw ∧
      comparatorLevel 1 (s.chInputType 31) 24000 (s.ch 31).raw = (s.ch 31).raw ∧
      31 < s.field.channels.length ∧ (s.ch 31).run = some r ∧ r.due ≤ (s.elapse 40000).localNow ∧ (s.ch 31).blanked = none ∧
      (s.elapse 39999).localNow < r.due ∧ (b.ch 31).blanked ≠ none ∧ (s.ch 0).run = none ∧
      ((s.ch 31).on && (s.ch 31).mode == 1 && !s.supplyLow 31 && (s.ch 31).blanked.isNone) = true := by decide +kernel

theorem witness_CountingInputsCount :
    let s (c : Counter) : State := { withCh 31 { on := true, mode := 5 } held with counters := List.replicate 4 c }
    let seen : Counter := { seen := 1, last := 0, lastChange := some 0 }
    let up (x : State) : Bool := comparatorLevel (x.ch 31).mode (x.chInputType 31) 24000 (x.ch 31).raw
    3 < 4 ∧ 3 < held.counters.length ∧ 28 + 3 < held.field.channels.length ∧ (held.ch 31).on = false ∧ up (s seen) = true ∧
      ((s seen).ch 31).raw = false ∧ ((at_ 100000 (s seen)).elapse 0).boundaryLate = false ∧ ((at_ 100001 (s seen)).elapse 0).boundaryLate = true ∧
      ((s seen).ch 31).on = true ∧ ((s seen).ch 31).mode = 5 ∧ (s seen).supplyLow 31 = false ∧
      ((s seen).counter 3).lastChange = some 0 ∧ ((s seen).elapse 199).now < 0 + 200 ∧
      0 + 200 ≤ ((s seen).elapse 200).now ∧ ((s { seen with skip := true }).counter 3).skip = true ∧
      ((s seen).counter 3).skip = false ∧ edgeMatches ((s seen).cntEdge 3) true = true ∧
      edgeMatches ((s seen).cntEdge 3) false = false ∧ ((s {}).counter 3).seen = 0 ∧ ((s seen).counter 3).seen ≠ 0 ∧
      ((s seen).elapse 1000000000).now - ((s seen).counter 3).last ≤ 1000000000 ∧
      ((s seen).counter 3).lastLocal + 100 * (s seen).cntTimeout 3 ≤ ((s seen).elapse 10000000).localNow ∧
      ((s seen).elapse 9999999).localNow < ((s seen).counter 3).lastLocal + 100 * (s seen).cntTimeout 3 := by decide +kernel

/-- CH00 sources code 0 and CH01 is its test input, in the cycle that begins 100,000 ticks after Run. -/
def glinting : State :=
  withCh 0 { on := true, mode := 4, command := true } (withCh 1 { on := true, mode := 1, filtered := true }
    { inState .run with
      rt.boundary := 100000
      dict.values := [(objKey 0x3220 1, 0x40), (objKey 0x3220 2, 0xC0)] })

/-- Its slot at a point of its progress. -/
def glintAt (started tested ended : Bool) (stop : Nat) : State :=
  let g : GlintSlot :=
    { code := 0
      start := 115000
      stop := stop
      blankEnd := stop + 5000
      pre := some 2
      preSrc := 1
      pulsing := 1
      started := started
      tested := tested
      ended := ended
      finished := false
      stuckOn := 0
      broken := false }
  { glinting with glint.slot := some g }

theorem witness_GlintSlotRuns :
    let s (a b : Bool) : State := glintAt a false b 135000
    let hidden : State := withCh 1 { on := true, mode := 1, blanked := some { pre := true, run := some (3, 500) } } (s true true)
    glinting.slotCode = some 0 ∧ glinting.glintActive = true ∧ glinting.pulseSources 0 ≠ 0 ∧
      glinting.rt.boundary + 15000 - 1000 ≤ ((at_ 114000 glinting).elapse 0).now ∧ glinting.glint.slot = none ∧
      ((at_ 113999 glinting).elapse 0).now < glinting.rt.boundary + 14000 ∧
      (s false false).glint.slot.map (fun h => h.start) = some ((s false false).rt.boundary + 15000) ∧ held.slotCode = none ∧ held.glintActive = false ∧
      (s false false).glint.slot.isSome = true ∧ 115000 ≤ ((at_ 115000 (s false false)).elapse 0).now ∧
      ((at_ 114999 (s false false)).elapse 0).now < 115000 ∧ 1 ∈ glinting.testInputs ∧ glinting.glintCode 1 = 0 ∧
      135000 ≤ ((at_ 135000 (s true false)).elapse 0).now ∧ ((at_ 134999 (s true false)).elapse 0).now < 135000 ∧
      140000 ≤ ((at_ 140000 (s true true)).elapse 0).now ∧ ((at_ 139999 (s true true)).elapse 0).now < 140000 ∧
      held.glint.slot = none ∧ (hidden.ch 1).blanked.isSome = true ∧ hidden.glint.slot.isSome = true ∧ (1 : Nat) < 32 ∧
      1 < hidden.field.channels.length ∧ (1 : BitVec 32).getLsbD 1 = false ∧ (2 : BitVec 32).getLsbD 1 = true ∧ glinting.sensorSupply 0 = true ∧
      (s false false).boundaryDue = false ∧ (glinting.ch 1).on = true ∧ (glinting.ch 1).mode = 1 ∧ glinting.glintRole 1 = 3 ∧
      glinting.supplyLow 1 = false := by decide +kernel

theorem witness_GlintVerdictsCount :
    let s : State := glintAt true false false 135000
    s.glint.ownRun.length = 32 ∧ s.glint.foreignRun.length = 256 ∧ s.glint.missCount.length = 32 ∧
      s.glint.slot.map (fun g => (g.started, g.tested, g.broken, g.code)) = some (true, false, false, 0) ∧
      135000 - 1000 ≤ ((at_ 134000 s).elapse 0).now ∧ ((at_ 133999 s).elapse 0).now < 135000 - 1000 ∧ 1 ∈ (s.elapse 0).testInputs ∧
      2 ∉ (s.elapse 0).testInputs ∧ s.glint.slot.map (fun g => g.pulsing.getLsbD 0) = some true ∧ s.supplyOutside 0 = false ∧
      (s.ch 0).command = true ∧ (1 : BitVec 32).getLsbD 0 = true ∧ held.glintCondition 0x0711 0 = false ∧
      ({ inState .run with glint.ownRun := [2] } : State).glintCondition 0x0711 0 = true ∧ (inState .run).rt.state = .run ∧ (0 : Nat) < 8 := by decide +kernel

theorem witness_AnalogSamplesAreScaledAndCompared :
    let bits : List Bool := (List.range 64).map (fun k => k % 2 == 0)
    let s (n : Nat) : State := { held with analog.pairs := List.replicate 4 { on := true, synced := true, ratio := 64, sinceSync := n } }
    3 < (s 1).analog.pairs.length ∧ ((s 1).pair 3).on = true ∧ ((s 1).pair 3).synced = true ∧ 0 < ((s 1).pair 3).ratio ∧
      bits.length = ((s 1).pair 3).ratio ∧ ((s 1).pair 3).sinceSync < 2 ∧ ((s 2).pair 3).sinceSync < 3 ∧
      (equalRun ((s 1).pair 3).a.lastBit ((s 1).pair 3).a.equalBits bits).1 = false ∧
      ((s 1).elapse 1280).localNow = ((s 1).pair 3).syncEdge + 2 * (10 * ((s 1).pair 3).ratio) ∧
      ((s 2).elapse 1920).localNow = ((s 2).pair 3).syncEdge + 3 * (10 * ((s 2).pair 3).ratio) ∧ (held.pair 3).on = false ∧
      (((s 2).elapse 1919).localNow - ((s 2).pair 3).syncEdge) % (10 * ((s 2).pair 3).ratio) ≠ 0 ∧
      (((s 2).elapse 1280).localNow - ((s 2).pair 3).syncEdge) / (10 * ((s 2).pair 3).ratio) ≤ ((s 2).pair 3).sinceSync ∧
      ({ on := true } : Pair).synced = false ∧ (held.pair 3).held = none ∧
      ((at_ 100000 (s 2)).elapse 0).boundaryLate = false ∧ ((at_ 100001 (s 2)).elapse 0).boundaryLate = true ∧
      ((s 2).elapse 0).anTolerance 3 < ((((s 2).elapse 0).convert 3 false 101).1 - (((s 2).elapse 0).convert 3 true 0).1).natAbs ∧
      ¬ ((s 2).elapse 0).anTolerance 3 < ((((s 2).elapse 0).convert 3 false 100).1 - (((s 2).elapse 0).convert 3 true 0).1).natAbs ∧
      0 < 1 ∧ (-7381974 : Int).natAbs < 7381975 ∧ (7381975 : Int) ≤ 7381975 ∧ (-7381975 : Int) ≤ -7381975 := by decide +kernel

theorem witness_AnalogFaultsAndResets :
    let q (n : Nat) : Pair := { on := true, disagree := true, runFirst := some 0, runLatest := n, syncAt := some 1000000 }
    let d (n : Nat) : State := { held with analog.pairs := List.replicate 4 (q n) }
    let w (v : Nat) : QueuedWrite := { waiting 0x3300 2 v with confirmed := false }
    let stuck (n : Nat) : Bool := (equalRun (q 0).a.lastBit (q 0).a.equalBits (List.replicate n false)).1
    3 < (d 0).analog.pairs.length ∧ ((d 0).pair 3).runFirst = some 0 ∧ ((d 0).pair 3).on = true ∧ ((d 0).pair 3).disagree = true ∧
      ((d 0).pair 3).disagreeFault = false ∧ 0 + 100 * (d 0).anDiscTime 3 ≤ ((d 200000).pair 3).runLatest ∧
      ((d 199999).pair 3).runLatest < 0 + 100 * (d 0).anDiscTime 3 ∧ ((d 0).pair 3).modFault = false ∧ (held.pair 3).on = false ∧
      stuck 129 = true ∧ stuck 128 = false ∧ (d 0).field.safeState = false ∧ 0 < held.anSyncGrid ∧ (w 15).index = 0x3300 ∧
      (w 15).sub = 2 ∧ (w 15).isCopy = false ∧ (w 15).via = none ∧ bitOf (w 15).value 3 = true ∧ bitOf (w 7).value 3 = false ∧
      (({ held with analog.pairs := List.replicate 4 { on := true } } : State).pair 3).syncAt = none ∧
      ((d 0).pair 3).syncAt = some 1000000 ∧ 1000000 ≤ ((d 0).elapse 1000000).now ∧ ((d 0).elapse 999999).now < 1000000 ∧
      (d 0).rt.state ≠ .run ∧ (inState .run).rt.state = .run ∧ (held.pair 3).syncAt = none := by decide +kernel

/-- A block of a type with two channels, closed, whose inputs are open: a demand. -/
def demand : Block := { type := 1, state := 1 }

theorem witness_LibraryOpensAndInterlocks :
    demand.type ≠ 4 ∧ demand.state = 1 ∧
      (held.frozenAt (param demand 0) = false ∨
        (held.frozenAt (param demand 1) != (param demand 2 == 1)) = false) := by decide +kernel

/-! ### Witnesses: exchange RAM and memory protection -/

/-- Both CAN channels in use. -/
def networked : State := { held with zop.canA.enabled := true, zop.canB.enabled := true, zop.conns := [{ connId := 5, role := 1 }] }

/-- Exchange RAM with buffer `n` as `b`. -/
def withBuf (n : Nat) (b : Buffer) (s : State) : State := { s with xch.buffers := s.xch.buffers.set n b }

/-- A command of `port` on buffer `n` in progress since tick 0. -/
def serving (n : Nat) (port : Owner) (what : XchPending) : State :=
  { withBuf n { busy := some what } held with xch.active := some (n, port, 0) }

theorem witness_ExchangeCommandsAreJudged :
    let own (o : Owner) : State := withBuf 0 { owner := o } held
    let full : State := { held with xch.buffers := List.replicate 128 { owner := .ce } }
    let at_0 : State := { held with xch.coincident := some { at_ := 0, last := .le, commands := [], undo := none } }
    let a : XchWaiting := { port := .le, code := 1, buffer := 128, target := .free, kind := 0, len := 0, at_ := 0 }
    held.rt.cycling = true ∧ held.xch.coincident = none ∧ (at_0.elapse 0).localNow = 0 ∧ (at_0.elapse 1).localNow ≠ 0 ∧
      a.port ≠ .free ∧ { a with port := .ce }.port ≠ a.port ∧ held.xch.active = none ∧ held.xch.waiting = [] ∧
      State.reset.rt.cycling = false ∧ Owner.le ≠ .free ∧ (serving 0 .le .toFree).xch.portBusy .le = true ∧
      (serving 0 .ce .toFree).xch.portBusy .le = false ∧ (serving 0 .ce .toFree).xch.active.isSome = true ∧
      held.xch.portBusy .le = false ∧ held.xch.active = none ∧ (held.freeBuffer .le).isSome = true ∧ full.freeBuffer .le = none ∧
      (held.buffer 0).owner ≠ .le ∧ ((own .le).buffer 0).owner = .le ∧ postPermitted .le .ce 7 513 = false ∧
      postPermitted .le .ce 7 512 = true ∧ 0 < (own .le).xch.buffers.length ∧ 127 < held.xch.buffers.length ∧
      (Owner.ce ≠ .le) ∧ (held.buffer 0).owner = .free ∧ homeOf 0 = .le ∧ homeOf 127 ≠ .le ∧ ((own .ce).buffer 0).owner = .ce ∧
      ((own .me).buffer 0).owner = .me ∧ ((own .ce).buffer 0).masked = false ∧ (held.elapse 5).startingUp 48 = false ∧
      (({ held with power.switching := [(48, 5000)] } : State).elapse 4999).startingUp 48 = true := by decide +kernel

theorem witness_PostKeepsTheDeclaredPayload :
    let s (what : XchPending) : State := serving 127 .ce what
    (s .toFree).xch.active = some (127, .ce, 0) ∧ 127 < 128 ∧ 127 < (s .toFree).xch.buffers.length ∧
      ((s .toFree).buffer 127).busy = some .toFree ∧ ((s (.post .le 1 512)).buffer 127).busy = some (.post .le 1 512) ∧ 512 ≤ 512 ∧
      ((s (.claim .ce none)).buffer 127).busy = some (.claim .ce none) ∧
      ((s (.claim .ce (some { target := .le, kind := 1, payload := [] }))).buffer 127).busy.isSome = true ∧ held.xch.active = none := by decide +kernel

theorem witness_OwnershipPassesAtTheEnd :
    let x : XchPost := { target := .le, kind := 3, payload := [1] }
    let s (what : XchPending) : State := serving 0 .le what
    let c (what : XchPending) : State := serving 127 .ce what
    let q : State := { withBuf 5 { owner := .le, queued := true } held with xch.leQueue := [5], xch.lePops := 15 }
    let inCe (k : Nat) : State :=
      { networked with xch.ceQueue := [5], xch.buffers := held.xch.buffers.set 5 { owner := .ce, queued := true, kind := k } }
    let inMe (k role : Nat) : State := { withBuf 5 { owner := .me, queued := true, kind := k } held with xch.meQueue := [5], mirror.role := role }
    let served (p : Owner) (y : State) : State := { y with xch.active := some (0, p, 0) }
    (s .toFree).xch.leTasks = [] ∧ (s .toFree).xch.ceTasks = [] ∧ (s .toFree).xch.meTasks = [] ∧ (s .toFree).xch.waiting = [] ∧
      (s .toFree).xch.active = some (0, .le, 0) ∧ 0 < (s .toFree).xch.buffers.length ∧ ((s .toFree).buffer 0).busy = some .toFree ∧
      ((s .revoke).buffer 0).busy = some .revoke ∧ ((s (.post .ce 1 4)).buffer 0).busy = some (.post .ce 1 4) ∧
      ((s (.claim .le none)).buffer 0).busy = some (.claim .le none) ∧ ((c (.claim .ce (some x))).buffer 127).busy = some (.claim .ce (some x)) ∧
      (c .toFree).rt.cycling = true ∧ ((c .toFree).elapse 0).startingUp 48 = false ∧ postPermitted .ce x.target x.kind x.payload.length = true ∧
      Owner.le ≠ .free ∧ Owner.ce ≠ .free ∧ q.rt.cycling = true ∧ q.xch.lePops < 16 ∧ held.xch.queue .le = [] ∧ held.xch.queue .ce = [] ∧
      held.xch.queue .me = [] ∧ q.xch.queue .le = 5 :: [] ∧ (q.buffer 5).owner = .le ∧ (q.buffer 5).ue = false ∧ (q.buffer 5).kind ≠ 2 ∧
      (q.buffer 5).kind ≠ 3 ∧ (q.buffer 5).kind ≠ 7 ∧ 5 < q.xch.buffers.length ∧ q.xch.coincident = none ∧
      (withBuf 5 { owner := .le, ue := true } q).xch.queue .le = 5 :: [] ∧ ((withBuf 5 { owner := .le, ue := true } q).buffer 5).ue = true ∧
      (inCe 1).xch.queue .ce = 5 :: [] ∧ ((inCe 1).buffer 5).kind = 1 ∧ (inCe 1).zop.canA.accepts = true ∧ (inCe 1).zop.canB.accepts = true ∧
      ((inCe 5).buffer 5).kind = 5 ∧ ((inCe 2).buffer 5).kind ≠ 1 ∧ ((inCe 2).buffer 5).kind ≠ 4 ∧ ((inCe 2).buffer 5).kind ≠ 5 ∧
      (inMe 6 1).xch.queue .me = 5 :: [] ∧ ((inMe 6 1).buffer 5).kind = 6 ∧ (inMe 6 1).mirror.role = 1 ∧ ((inMe 1 1).buffer 5).kind ≠ 6 ∧
      (inMe 6 2).mirror.role ≠ 1 ∧ (inCe 1).xch.portBusy .ce = false ∧ (inCe 1).xch.active = none ∧
      (served .ce (inCe 1)).xch.portBusy .ce = true ∧ 16 ≤ ({ q with xch.lePops := 16 } : State).xch.lePops := by decide +kernel

theorem witness_ExchangeFaultsAreDetected :
    let own : State := withBuf 127 { owner := .ce } held
    let s : State := serving 0 .le .toFree
    own.rt.cycling = true ∧ own.leRuns = true ∧ own.owns .ce 127 = true ∧ own.owns .le 127 = false ∧ own.owns .me 127 = false ∧ held.owns .ce 127 = false ∧
      ((held.elapse 0).ledger.due 0x0605 0 100000000 (held.elapse 0).localNow).isSome = true ∧ 127 < held.xch.buffers.length ∧
      s.rt.cycling = true ∧ s.xch.active = some (0, .le, 0) ∧ 0 + 128 ≤ (s.elapse 128).localNow ∧ (s.elapse 127).localNow < 0 + 128 ∧
      held.xch.active = none := by decide +kernel

/-- An allowed load and store, a misaligned access at the last words of the map, and a store to the sealed registers. -/
theorem witness_MpuChecksEveryAccess :
    fenced.leRuns = true ∧ 0xFFFFFFFF < 2 ^ 32 ∧ (fenced.elapse 0).mpuVerdict .load 0x2005FFFC 4 0 = none ∧
      inExchangeRam 0x2005FFFC = false ∧ (fenced.elapse 0).mpuVerdict .store 0x2005FFFC 4 7 = none ∧ inPlainRam 0x2005FFFC = true ∧
      fenced.rt.cycling = true ∧ (fenced.elapse 0).mpuVerdict .load 0xFFFFFFFF 4 0 = some (0x0506, none) ∧ fenced.le.violation = false ∧
      heldElsewhere 0x2005FFFC = false ∧ (areaByte 0x2000C000).isSome = true ∧ inPlainRam 0x2000C000 = true ∧
      (fenced.elapse 0).mpuVerdict .store 0x2000C000 4 7 = none ∧ fenced.le.inputs.length = 180 ∧ fenced.le.inputsCoded.length = 180 ∧
      fenced.le.outputs.length = 32 ∧ fenced.le.outputsCoded.length = 32 ∧ inEventLog 0x22000000 = true ∧ inPlainRam 0x22000000 = true ∧
      (fenced.elapse 0).mpuVerdict .store 0x22000000 8 7 = none ∧ inExchangeRam 0x24000000 = true ∧ fenced.owns .le 0 = false ∧
      (withBuf 0 { owner := .le } fenced).owns .le 0 = true ∧ (fenced.elapse 0).mpuVerdict .load 0x24000000 4 0 = none ∧
      fenced.le.isSealed = true ∧ inMpuRegisters 0x48000000 = true := by decide +kernel

theorem witness_TagsAndSetsSwitch :
    let b : State := { fenced with le.inB := true, le.saved := [false] }
    fenced.leRuns = true ∧ 0x2005FFFF < 2 ^ 32 ∧ (fenced.elapse 0).mpuVerdict .tagWrite 0x2005FFC0 1 7 = none ∧
      fenced.otp.maskedPairs.contains ((0x2005FFC0 - 0x20000000) / 64) = false ∧ fenced.rt.cycling = true ∧
      ((fenced.elapse 0).mpuVerdict .tagWrite 0x2005FFC0 1 8).isSome = true ∧ fenced.le.inB = false ∧ b.le.inB = true ∧
      b.rt.cycling = true ∧ fenced.le.violation = false ∧ b.le.violation = false ∧ b.le.saved = false :: [] ∧ fenced.le.saved = [] := by
  decide +kernel

/-! ### Witnesses: fuses, store and images -/

/-- Run with the store and the OTP engine ready; lifecycle Workshop. -/
def bench : State := { held with otp.lifecycle := 2, boot.step := .idle }

/-- A waiting write of an object, its value accepted and refused at the boundary, and each row whose effect is stated. -/
theorem witness_WaitingWritesTakeEffect :
    let w (index sub value : Nat) : QueuedWrite := { waiting index sub value with reqSeq := some 5 }
    let dir (id : Nat) : QueuedWrite := waiting (0x4000 + id) 0xA 0
    (w 0x2400 3 0).isCopy = false ∧ (w 0x2400 3 0).via = none ∧ held.judgeWrite (w 0x2400 3 2).access = 0 ∧
      held.judgeWrite (w 0x2400 3 (2 ^ 63)).access ≠ 0 ∧ (findObj 0x2400 3).map (fun o => o.access == .rw || o.access == .rws) = some true ∧
      0x2400 ≤ (w 0x2400 3 0).index ∧ (w 0x2400 3 0).index < 0x3300 ∧ ((w 0x2400 3 0).index, (w 0x2400 3 0).sub) ≠ (0x1010, 7) ∧
      (findObj 0x32FF 0).isSome = false ∧ (findObj 0x1010 1).isSome = true ∧ (w 0x1010 1 0).index < 0x1800 ∧
      (w 0x2400 3 0).reqSeq = some 5 ∧ (w 0x2200 0x12 1).index = 0x2200 ∧ (w 0x5E00 0xA 1).sub = 0xA ∧ (w 0x1800 0xC 1).index = 0x1800 ∧
      (w 0x1010 7 1).sub = 7 ∧ (dir 2).isDirRequest = true ∧ (dir 2).via = none := by decide +kernel

/-- The factory's writes over the service port: a section that takes a burn, one refused, an operation in progress. -/
theorem witness_OtpCommandsStart :
    let w (sub value : Nat) : QueuedWrite := { waiting 0x2300 sub value with requester := 0, channel := .service, confirmed := false }
    let s : State := { held with otp.select := 0x10 }
    let f : BitVec 4096 := BitVec.twoPow 4096 2048
    let adv : State := { s with otp.bank0 := f, otp.bank1 := f, otp.staging := 2 }
    let busy : State := { s with otp.running := some { code := 1, sel := .identity, item := 0, since := 0 } }
    (w 8 1).isCopy = false ∧ (w 8 1).via = none ∧ (w 8 1).index = 0x2300 ∧ (w 5 0x10).sub = 5 ∧ (w 7 1).sub = 7 ∧ (w 8 1).value = 1 ∧
      s.otp.running = none ∧ busy.otp.running ≠ none ∧ s.otp.unstable = [] ∧ ({ s with otp.unstable := [4] } : State).otp.unstable ≠ [] ∧
      (0 : Nat) ≤ 31 ∧ 31 < 0 + 32 ∧ ¬ 32 < 0 + 32 ∧ busy.otpRefusal 1 = (0x800E, 0x88) ∧ 0x800E ≠ 0 ∧
      s.otpRefusal 1 = (0, 0) ∧ sectionOfSelect s.otp.select = some .identity ∧ s.senseFuses.startStatus 1 .identity = 0 ∧
      ({ s with otp.bank0 := 1, otp.bank1 := 1, otp.bank2 := 1 } : State).senseFuses.startStatus 1 .identity ≠ 0 ∧
      adv.otpRefusal 3 = (0, 0) ∧ ({ bench with otp.select := 0x20 } : State).otpRefusal 4 = (0, 0) ∧ s.otpRefusal 2 = (0, 0) ∧
      s.otpRefusal 5 = (0, 0) ∧ s.otpRefusal 6 = (0, 0) ∧ (bench.otpRefusal 4).1 = 0x800E := by decide +kernel

theorem witness_OtpCommandsBurnWhatIsPlanned :
    let run : OtpRun := { code := 6, sel := .lifecycle, item := 5, since := 0 }
    let s : State := { held with otp.running := some run }
    let fin : OtpRun := { code := 2, sel := .identity, item := 0, since := 0 }
    held.otp.running = none ∧ ({ s with power.gateClosed := true } : State).power.gateClosed = true ∧ s.otp.running = some run ∧
      s.power.gateClosed = false ∧ (s.otp.planned run).Nodup ∧ 2088 ∈ s.otp.planned run ∧ 2088 < 4096 ∧
      2088 ∈ verifiedBits run ∧ s.otp.verifies run (3 * 2088) = true ∧ 1 ∉ s.otp.planned run ∧ s.otp.unstable = [] ∧
      2 ≤ (([3 * 2088, 3 * 2088 + 1, 3 * 2088 + 2]).filter (fun f => s.otp.verifies run f && [3 * 2088, 3 * 2088 + 2].contains f)).length ∧
      conflicts (s.otp.content .identity) (s.otp.staging.toNat % 2 ^ (sectionMap .identity).size) = false ∧ fin.code = 2 ∧
      2 ≤ ((s.otp.toBurn [2088]).filter (fun f => (s.otp.toBurn [2088]).contains f)).length := by decide +kernel

/-- A record that fits behind the sector's last one, one that needs a sector that does not exist, and the sector's end. -/
theorem witness_StoreProgramsAndErases :
    let area (pos : Nat) : AreaState := { sector := 96, pos := pos }
    let full (pos : Nat) : Store := held.store.modArea .config (fun _ => area pos)
    let r (b : Bool) : StoreRecord := { area := .config, type := 1, payload := [1, 2], origin := 0, retried := b }
    let s (b : Bool) : State := { held with store.queue := [r b] }
    let e : Erase := { sector := 127, count := 1, row := 0, entry := 0 }
    let x : State := { held with store.erase := some e }
    held.store.queue = [] ∧ (s false).power.gateClosed = false ∧ (s false).store.queue = r false :: [] ∧ (s true).store.queue = [r true] ∧
      ((full 4064).place .config 1).map (fun p => ((p.areaState .config).sector, (p.areaState .config).pos)) = some (96, 4064) ∧
      ((full 4064).place .config 2).isNone = true ∧ ((full 32).place .config 2).isSome = true ∧
      (s false).store.heldLeft ≤ 1 ∧ 1 < ({ s false with store.heldLeft := 2, store.deferred := [(0, [])] } : State).store.heldLeft ∧
      held.store.erase = none ∧ x.store.erase = some e ∧ x.eraseSuspended = false ∧ 127 < 128 ∧ 128 ≤ 129 ∧ e.row ≤ 1 ∧ (r true).retried = true ∧
      ({ x with store.queue := [r false] } : State).eraseSuspended = true ∧ held.power.logicOn = true ∧
      (held.store.areaState .config).accruedAt + areaPeriod .config ≤ (held.elapse (areaPeriod .config)).localNow ∧
      (held.elapse (areaPeriod .config - 1)).localNow < (held.store.areaState .config).accruedAt + areaPeriod .config ∧
      State.reset.power.logicOn = false := by decide +kernel

theorem witness_LoadingTouchesTheLoadTarget :
    let body : State := held
    let head : State := { held with images.loadOffset := 0 }
    let erasing : State := { held with images.bankA.state := .erasing, images.bankB.state := .erasing }
    let check : State := { held with images.validating := some (1, .load) }
    let w (sub value len : Nat) : QueuedWrite := { waiting 0x5000 sub value with confirmed := false, len := len }
    (w 5 1 1).isCopy = false ∧ (w 5 1 1).via = none ∧ (w 5 1 1).index = 0x5000 ∧ (w 5 1 1).sub = 5 ∧ (w 5 2 1).value = 2 ∧ (w 7 0 128).sub = 7 ∧
      held.loadCommandRefusal = 0 ∧ ({ held with power.gateClosed := true } : State).loadCommandRefusal ≠ 0 ∧
      body.dataRefusal (leBytes (w 7 0 4096).len (w 7 0 4096).value).length = 0 ∧ body.images.loadOffset ≠ 0 ∧
      body.dataRefusal (leBytes (w 7 0 16).len (w 7 0 16).value).length ≠ 0 ∧ head.images.loadOffset = 0 ∧
      head.dataRefusal (leBytes (w 7 0 128).len (w 7 0 128).value).length = 0 ∧ held.erasingBank = none ∧ erasing.erasingBank.isSome = true ∧ erasing.power.gateClosed = false ∧ held.images.validating = none ∧ erasing.store.heldLeft = 0 ∧ held.store.heldLeft = 0 ∧
      ({ held with store.heldLeft := 1 } : State).store.heldLeft ≠ 0 ∧ check.store.deferred = [] ∧
      ({ check with store.deferred := [(0, [])] } : State).store.deferred ≠ [] ∧
      check.images.validating = some (1, .load) ∧ (check.elapse 0).bankReason 1 = 1 := by decide +kernel

/-! A minimal image: one EMERGENCY_STOP on CH00 and CH01, without connections. -/

def imageBody : List Byte :=
  let entry := leBytes 2 1 ++ leBytes 1 1 ++ leBytes 1 0 ++ leBytes 4 0 ++ leBytes 4 128 ++ leBytes 4 0 ++ leBytes 4 1 ++ leBytes 4 0 ++
    leBytes 4 100 ++ leBytes 4 0 ++ leBytes 4 0xFF ++ leBytes 4 0 ++ leBytes 36 0 ++ leBytes 4 0
  entry ++ leBytes 16 0 ++ (leBytes 8 1 ++ leBytes 8 1 ++ leBytes 240 0) ++ leBytes 16 0 ++ leBytes 16 0 ++ leBytes 4 0x13

def imageBytes : List Byte :=
  let head := leBytes 4 0x1A7E0D52 ++ leBytes 2 2 ++ leBytes 2 0x80 ++ leBytes 4 0x204 ++ leBytes 4 1 ++ leBytes 4 7 ++ leBytes 4 9 ++
    leBytes 4 62141 ++ leBytes 4 100 ++ leBytes 4 0x200 ++ leBytes 4 128 ++ leBytes 4 0 ++ leBytes 4 0 ++
    (leBytes 4 0x80 ++ leBytes 4 80) ++ (leBytes 4 0xE0 ++ leBytes 4 256) ++ (leBytes 4 0x1E0 ++ leBytes 4 16) ++ leBytes 8 0 ++
    (leBytes 4 0x200 ++ leBytes 4 4) ++ leBytes 8 0 ++ leBytes 24 0 ++ leBytes 4 (crc32c imageBody)
  head ++ leBytes 4 (crc32c head) ++ imageBody

/-- Both banks hold it, in state `x`. -/
def loaded (x : RunState) : State :=
  { inState x with
    le.flash := cellWrite erasedByte (bankBase 2) imageBytes (cellWrite erasedByte (bankBase 1) imageBytes [])
    images.bankA := { state := .valid, reason := 0, complete := true }
    images.bankB := { state := .valid, reason := 0, complete := true } }

/-- Run on bank 1 with online change enabled and an exchange pending at the boundary 0. -/
def changing (ready : Bool) : State :=
  { loaded .run with
    images.active := 1
    images.codeConstant := 62141
    images.pending := some { at_ := 0, ready := ready }
    rt.passTag := 0
    rt.libDone := false
    rt.passesRunning := true }

set_option maxRecDepth 20000 in
theorem test_image_is_valid : ((loaded .hold).elapse 0).bankReason 1 = 0 ∧ imageBytes.length = 0x204 := by decide +kernel

set_option maxRecDepth 20000 in
theorem witness_ImagesAreSelectedAndExchanged :
    let s : State := loaded .hold
    let r : State := { loaded .run with
      images.active := 1
      images.codeConstant := 62141
      images.image := some ((loaded .run).loadImage 1)
      lib.blocks := (loaded .run).loadBlocks 1
      dict.values := [(objKey 0x3000 1, 1), (objKey 0x3001 1, 1), (objKey 0x5000 3, 1)] }
    let w : QueuedWrite := waiting 0x5000 2 2
    w.isCopy = false ∧ w.via = none ∧ w.index = 0x5000 ∧ w.sub = 2 ∧ s.bankReason w.value = 0 ∧ (s.images.bank w.value).state ≠ .erasing ∧
      held.bankReason w.value ≠ 0 ∧ ({ s with images.bankB.state := .erasing } : State).images.bankB.state = .erasing ∧
      held.zop.peers = [] ∧ r.roleRefusal = 0 ∧ (rowAccess n1 0x5000 9 0).value ≠ cancelTick ∧ r.exchangeRefusal 0 = 0 ∧
      r.exchangeRefusal 1000000 = 0x89 ∧ (rowAccess n1 0x5000 9 cancelTick).value = cancelTick ∧
      ({ r with mirror.role := 2 } : State).roleRefusal ≠ 0 := by
  decide +kernel

set_option maxRecDepth 20000 in
theorem witness_ImagesAreSelectedAndExchanged_switch :
    let c : State := changing true
    let d : State := { c with images.codeConstant := 62143 }
    c.images.pending = some { at_ := 0, ready := true } ∧ c.rt.boundary = 0 ∧ c.rt.state = .run ∧ c.rt.passesRunning = true ∧
      c.rt.libDone = false ∧ c.rt.passTag = c.rt.boundary ∧ ({ c with rt.libDone := true } : State).rt.libDone = true ∧
      c.power.gateClosed = false ∧ (c.imageHeader c.loadTarget).codeConstant = c.images.codeConstant ∧
      (changing false).images.pending = some { at_ := 0, ready := false } ∧ ({ c with power.gateClosed := true } : State).power.gateClosed = true ∧
      (d.imageHeader d.loadTarget).codeConstant ≠ d.images.codeConstant ∧ d.images.pending = some { at_ := 0, ready := true } ∧
      ({ c with rt.state := .hold } : State).rt.state ≠ .run ∧ ({ c with rt.boundary := 5 } : State).rt.boundary ≠ 0 ∧
      held.images.pending = none := by decide +kernel

/-- An image of CRC 5, scanned right and wrong, in Hold and in Run; an acknowledge of instance 1 and a request of instance 2. -/
theorem witness_ImageIntegrityAndLibraryCommands :
    let i : ActiveImage := { sequence := 7, familyId := 9, crc := 5, declaredUs := 0, stateSize := 0, stackSize := 0, uses := [], analog := [] }
    let s (x : RunState) : State := { inState x with images.image := some i, lib.blocks := [{ id := 1, type := 1 }, { id := 2, type := 8 }] }
    held.images.image = none ∧ (s .hold).images.image = some i ∧ i.crc = 5 ∧ i.crc ≠ 6 ∧ (s .hold).rt.state = .hold ∧
      (s .run).rt.state ≠ .hold ∧ (∀ d ∈ (s .run).rt.detected, d.cause ≠ 0x0407) ∧ (s .run).rt.cycling = true ∧
      (waiting (0x4000 + 1) 5 1).isCopy = false ∧ (waiting (0x4000 + 1) 5 1).via = none ∧ 0x4001 ≤ (waiting (0x4000 + 1) 5 1).index ∧
      (waiting (0x4000 + 4095) 0xA 0).index < 0x5000 ∧ (s .run).roleRefusal = 0 ∧
      ({ s .run with mirror.role := 2 } : State).roleRefusal ≠ 0 := by decide +kernel

/-! ### Witnesses: ZOP and mirror pairs -/

/-- `body` with the check that makes it a valid ANNOUNCE or RESYNC_REQUEST. -/
def checked (body : List Byte) : List Byte := body ++ leBytes 4 (seededCrc networked.keySeed body)

/-- The consumer of connection 5 from node 3, with the peer announced, in state `st`. -/
def consuming (st : Nat) : State :=
  { networked with
    zop.conns := [{ connId := 5, role := 2, peer := 3, words := 1, period := 1, wdTime := 1000, state := st, seqNext := 65535, source := 3 }]
    zop.peers := [{ node := 3, uid := 77, epoch := 9 }] }

theorem witness_FramesPresenceAndBusOff :
    let d : List Byte := [0x20, 1]
    let c : State := { networked with zop.canA.busOff := true, zop.canA.recovering := true, zop.canA.busOffs := [0] }
    networked.rt.cycling = true ∧ (networked.zop.can .a).up = true ∧ d.length ∈ fdLengths ∧ 0x7FF < 0x800 ∧ versionOk d = true ∧
      (networked.elapse 0).startingUp 46 = false ∧ (networked.elapse 0).startingUp 50 = false ∧ (networked.elapse 0).startingUp 51 = false ∧
      (({ networked with power.switching := [(46, 5000)] } : State).elapse 4999).startingUp 46 = true ∧
      ((consuming 2).zop.conns.map (fun c => (c.role, c.connId)) = [(2, 5)]) ∧ networked.xch.buffers.length = 128 ∧ networked.xch.ceTasks = [] ∧
      networked.xch.portBusy .ce = false ∧ (networked.elapse 0).startingUp 48 = false ∧ (networked.elapse 0).freeBuffer .ce ≠ none ∧
      ({ networked with zop.posted := [(0x30F, d, 0)] } : State).zop.posted.filter (fun p => decide ((0 : Nat) < p.2.2 + us networked.rt.cycleUs)) =
        [(0x30F, d, 0)] ∧
      versionOk [0x40, 1] = false ∧ networked.ownIdentifier 0x210 d = true ∧ networked.ownIdentifier 0x30F d = false ∧ 0x300 ≤ 0x30F ∧
      0x30F < 0x400 ∧ (0x30F - 0x300) % 16 + 1 = networked.zop.nodeId ∧
      networked.zop.heartbeatAt + us networked.zop.heartbeatUs ≤ (networked.elapse 10000000).localNow ∧
      (networked.elapse 9999999).localNow < networked.zop.heartbeatAt + us networked.zop.heartbeatUs ∧
      (networked.zop.can .b).accepts = true ∧ (held.zop.can .a).accepts = false ∧ (held.zop.can .a).up = false ∧ 1 ≤ 1 ∧ 16 ≤ 16 ∧ 16 < 17 ∧
      c.zop.canA.busOff = true ∧ c.zop.canA.recovering = true ∧ (∀ x ∈ c.zop.canA.busOffs, x + ms 10 ≤ (c.elapse 1000000).localNow) ∧
      c.zop.canA.busOffs ≠ [] ∧ held.zop.canA.busOff = false ∧ ({ c with zop.canA.sequence := true } : State).zop.canA.sequence = true ∧
      8 ≤ (List.replicate 7 0 ++ [5]).length := by decide +kernel

/-- ANNOUNCE of node 3 with epoch 9, of this node with another UID, and a RESYNC_REQUEST for connection 5. -/
theorem witness_SessionsAndConnections :
    let ann (node uid : Nat) : List Byte := checked ([0x20] ++ leBytes 1 node ++ [1, 0] ++ leBytes 4 9 ++ leBytes 16 uid ++ leBytes 4 0)
    let res (epoch : Nat) : List Byte := checked ([0x20, 3, 2, 0] ++ leBytes 2 5 ++ [0, 0] ++ leBytes 4 epoch)
    let p : Announced := { node := 3, uid := 77, epoch := 9 }
    let known : State := { networked with zop.peers := [p] }
    networked.rt.cycling = true ∧ networked.zop.announcedAt = none ∧ networked.rt.state = .hold ∧ networked.zop.session ≠ 2 ∧
      ({ networked with zop.session := 2 } : State).zop.session = 2 ∧ networked.freeBuffer .le ≠ none ∧
      networked.zop.session ≠ 2 ∧ (networked.zop.announcedAt = none ∧ networked.rt.state = .hold) ∧ 1 ≤ sourceOf (ann 3 77) ∧
      sourceOf (ann 3 77) ≤ 16 ∧ networked.checkOk (ann 17 77) = true ∧ 16 < sourceOf (ann 17 77) ∧
      ({ networked with zop.announceDue := true } : State).zop.announceDue = true ∧
      ({ networked with zop.announcedAt := some 0 } : State).zop.announcedAt = some 0 ∧ 0 + ms 1000 ≤ (networked.elapse 100000000).localNow ∧
      versionOk (ann 3 77) = true ∧ sourceOf (ann 3 77) = 3 ∧ networked.checkOk (ann 3 77) = true ∧
      networked.checkOk ((ann 3 77).set 9 1) = false ∧ leAt (ann 3 77) 2 1 = 1 ∧ 3 ≠ networked.zop.nodeId ∧
      known.peer 3 = some { node := 3, uid := leAt (ann 3 77) 8 16, epoch := leAt (ann 3 77) 4 4 } ∧ networked.peer 3 ≠ some p ∧
      sourceOf (ann 16 77) = networked.zop.nodeId ∧ networked.checkOk (ann 16 77) = true ∧
      leAt (ann 16 77) 8 16 ≠ networked.boot.uid ∧ networked.checkOk (res 0) = true ∧ leAt (res 0) 2 1 = 2 ∧
      networked.checkOk ((res 0).set 5 1) = false ∧ (∃ c ∈ networked.zop.conns, c.role = 1 ∧ c.connId = leAt (res 0) 4 2) ∧
      (∀ c ∈ held.zop.conns, c.role = 1 → c.connId ≠ leAt (res 0) 4 2) ∧ leAt (res 0) 8 4 = networked.zop.epoch ∧
      leAt (res 1) 8 4 ≠ networked.zop.epoch ∧ versionOk [0x40, 3] = false := by decide +kernel

/-- A data frame of connection 5 with the given sequence; `flags` 0x24 carries RESYNC. -/
def dataFrame (flags seq : Nat) : List Byte :=
  let body := leBytes 1 flags ++ [3] ++ leBytes 2 seq ++ leBytes 8 0 ++ leBytes 4 1
  body ++ leBytes 4 (seededCrc ((consuming 2).sessionSeed 77 5 3 (consuming 2).receiverId 9) body)

/-- Good frames in every state, with gaps 0, 1, 2, 32,767 and 32,768, and one with a wrong check. -/
theorem witness_SessionsAndConnections_data :
    let good (d : List Byte) : Bool := d.length == dataLength 1 && (d.drop 20).all (· == 0) &&
      leAt d 16 4 == seededCrc ((consuming 2).sessionSeed 77 5 3 (consuming 2).receiverId 9) (d.take 16)
    let gap (seq : Nat) : Nat := (leAt (dataFrame 0x20 seq) 2 2 + 65536 - 65535) % 65536
    let later (n : Nat) : State := { consuming 2 with rt.boundary := n }
    (consuming 1).zop.conns.findIdx? (fun x => x.role == 2 && x.connId == 5) = some 0 ∧ versionOk (dataFrame 0x20 0) = true ∧
      sourceOf (dataFrame 0x20 0) = 3 ∧ ((consuming 1).peer 3).isSome = true ∧ (networked.peer 3) = none ∧ good (dataFrame 0x20 0) = true ∧
      good (dataFrame 0x24 0) = true ∧ good ((dataFrame 0x20 0).set 12 9) = false ∧ bitOf (leAt (dataFrame 0x24 0) 0 1) 2 = true ∧
      bitOf (leAt (dataFrame 0x20 0) 0 1) 2 = false ∧ ((consuming 2).elapse 0).synced = false ∧ gap 65535 = 0 ∧ gap 0 = 1 ∧ gap 1 = 2 ∧
      gap 32766 = 32767 ∧ gap 32767 = 32768 ∧
      (later 100000).zop.conns.map (fun c => decide (c.wdFrom + us c.wdTime ≤ ((later 100000).rt.boundary : Int))) = [true] ∧
      (later 99999).zop.conns.map (fun c => decide (c.wdFrom + us c.wdTime ≤ ((later 99999).rt.boundary : Int))) = [false] ∧
      (consuming 1).zop.conns.map (fun c => (c.role, c.state, c.requestedAt)) = [(2, 1, none)] ∧
      (consuming 3).zop.conns.map (fun c => (c.role, c.state)) = [(2, 3)] ∧ (consuming 2).rt.cycling = true := by decide +kernel

/-- `good` and old: the stamp is 0 and the frame aged, one watchdog time and one tick later. -/
theorem witness_SessionsAndConnections_age :
    let s : State := { consuming 2 with clock.sync := .locked }
    ((at_ 100000 s).elapse 0).synced = true ∧ bitOf (leAt (dataFrame 0x28 0) 0 1) 3 = true ∧ leAt (dataFrame 0x28 0) 4 8 = 0 ∧
      ((at_ 100000 s).elapse 0).now ≤ 0 + us 1000 ∧ ¬ ((at_ 100001 s).elapse 0).now ≤ 0 + us 1000 := by decide +kernel

/-- A pair member of role `r` in state `x`, its link and loop intact. -/
def paired (x : RunState) (r : Nat) : State :=
  { inState x with
    dict.values := [(objKey 0x5800 1, 1)]
    mirror.role := r
    mirror.linkOk := true
    mirror.loopOk := true }

theorem witness_LinkTokenAndLoop :
    let body (flags : Nat) : List Byte := leBytes 2 0x4D53 ++ [1, 1, 4] ++ leBytes 1 flags ++ leBytes 54 0
    let st (flags : Nat) : List Byte := body flags ++ leBytes 4 (crc32c (body flags))
    let s : State := paired .run 2
    let two : State := { s with mirror.token := true, mirror.twinToken := true, mirror.contentionSince := some 0 }
    s.linked = true ∧ held.linked = false ∧ parseStatus 0 [] = none ∧ (parseStatus 0 (st 1)).isSome = true ∧
      (parseStatus 0 (st 1)).map (fun x => x.flags.getLsbD 0) = some true ∧ s.mirror.twinToken = false ∧
      s.mirror.twinTokenAt + us 10 ≤ (s.elapse 1000).now ∧ ¬ s.mirror.twinTokenAt + us 10 ≤ (s.elapse 999).now ∧
      ({ s with mirror.missed := 3 } : State).mirror.missed = 3 ∧ s.mirror.linkOk = true ∧ s.mirror.missed < 3 ∧
      two.mirror.contentionSince = some 0 ∧ two.rt.cycling = true ∧ two.mirror.token = true ∧ two.mirror.twinToken = true ∧
      0 + us 10 ≤ (two.elapse 1000).now ∧ 0x0B05 ∉ two.rt.active ∧ s.mirror.loopOk = true ∧ s.mirror.contentionSince = none := by
  decide +kernel

theorem witness_SnapshotsRolesAndTakeover :
    let s (r : Nat) : State := { paired .run r with mirror.committed := some (0, 0), rt.boundary := 100000, mirror.twinTokenAt := 0 }
    let stale : State := { s 2 with mirror.committed := none }
    (s 2).linked = true ∧ (s 2).rt.state = .run ∧ (s 2).mirror.role = 2 ∧ (s 3).mirror.role = 3 ∧ held.linked = false ∧ (s 1).mirror.role = 1 ∧
      ({ s 2 with mirror.stale := 3 } : State).mirror.stale = 3 ∧ (s 2).mirror.stale ≠ 3 ∧
      ({ s 1 with mirror.roleDue := true } : State).mirror.roleDue = true ∧ (s 1).rt.runSince + us 10 ≤ ((s 1).elapse 1000).now ∧
      ((s 1).elapse 999).now < (s 1).rt.runSince + us 10 ∧ (s 1).mirror.roleDue = false ∧ (s 2).standbyFit = true ∧
      (s 2).mirror.twinToken = false ∧ (s 2).mirror.twinTokenAt + us 10 ≤ (s 2).rt.boundary ∧
      (s 2).rt.boundary + us 10 ≤ ((at_ 101000 (s 2)).elapse 0).now ∧ (s 2).eligible = true ∧
      (s 2).mirror.twinTokenAt + us 20 ≤ ((at_ 101000 (s 2)).elapse 0).now ∧ stale.standbyFit = true ∧ stale.snapshotFresh = false ∧
      stale.mirror.claimSince = false ∧ (s 3).standbyFit = false ∧ (s 2).rt.cycling = true ∧ (s 2).field.safeState = false ∧
      (waiting 0x5800 0xE 1).isCopy = false ∧ (waiting 0x5800 0xE 1).via = none ∧ (waiting 0x5800 0xE 1).sub = 0xE ∧ held.mirror.replace ≠ 1 ∧
      ({ paired .hold 0 with mirror.replace := 1 } : State).mirror.replace = 1 ∧ (paired .hold 0).power.gateClosed = false ∧
      (paired .hold 0).store.heldLeft = 0 ∧ ({ paired .hold 0 with power.gateClosed := true } : State).power.gateClosed = true := by decide +kernel

/-- A snapshot of the image of bank 1, as the standby takes it, and one with a wrong CRC. -/
def snapshotFrame (ok : Bool) : SnapshotFrame :=
  let i : ActiveImage :=
    { sequence := 7, familyId := 9, crc := crc32c imageBody, declaredUs := 0, stateSize := 128, stackSize := 0, uses := [], analog := [] }
  let n := nativeSize 128 0
  let b := snapshotBytes false 1 0 i 62141 (List.replicate n 0) (List.replicate (2 * n) 0) []
  { bytes := if ok then b else b.set (b.length - 1) (~~~(b.getD (b.length - 1) 0)), blocks := [] }

set_option maxRecDepth 20000 in
theorem witness_SnapshotsRolesAndTakeover_snapshot :
    let s : State := { loaded .run with dict.values := [(objKey 0x5800 1, 1)], mirror.role := 2, images.active := 1 }
    let n := nativeSize 128 0
    s.linked = true ∧ s.rt.state = .run ∧ s.mirror.role = 2 ∧ s.snapshotOk (snapshotFrame true) = true ∧
      s.snapshotOk (snapshotFrame false) = false ∧ snapCut (snapshotFrame true) = false ∧
      snapCut { snapshotFrame true with bytes := [] } = true ∧ snapCrcOk (snapshotFrame true) = true ∧
      snapCrcOk (snapshotFrame false) = false ∧ (List.replicate (2 * n) (0 : Byte)).length = 2 * n ∧ ([] : List Byte).length ≤ 512 ∧
      580 + 3 * n < 2 ^ 32 := by decide +kernel

/-! ### Witnesses: Modbus, service, ledger and the whole machine -/

/-- The Modbus window serves. -/
def windowed : State := { held with dict.values := [(objKey 0x5A00 1, 1)], power.domainStatus := BitVec.twoPow 56 52 }

/-- Requests at their limits: quantity 0, 1, 125 and 126, the last address, and every answer of READ DEVICE IDENTIFICATION. -/
theorem witness_ModbusRequestsAreAnswered :
    let o : State := { windowed with modbus.outstanding := some ([3, 0, 0, 0, 1], 0) }
    let full : State := { windowed with zop.held := [[1]] }
    windowed.modbusServes = true ∧ windowed.modbus.outstanding = none ∧ held.modbusServes = false ∧ 125 < 126 ∧ ¬ 125 < 125 ∧
      65536 < 65535 + 2 ∧ ¬ 65536 < 65535 + 1 ∧ 65535 < 65536 ∧ 255 < 256 ∧ 0x0D ≠ 0x0E ∧ 4 < 5 ∧
      (∀ x ∈ windowed.deviceObjects, x.1 ≠ 5) ∧ (∃ x ∈ windowed.deviceObjects, x.1 = 0x80) ∧
      (∀ x ∈ windowed.deviceObjects.filter (fun o => decide (o.2.2 ≤ 1)), x.1 ≠ 4) ∧
      (∃ x ∈ windowed.deviceObjects.filter (fun o => decide (o.2.2 ≤ 3)), x.1 = 0x80) ∧ 127 < 128 ∧ 0x2A ≠ 0x2B ∧
      full.zop.held ≠ [] ∧ windowed.zop.held = [] ∧ windowed.zop.dictPosted < 3 ∧ windowed.rt.cycling = true ∧ windowed.xch.buffers.length = 128 ∧
      (3 ≠ o.modbus.tag) ∧ 0 = o.modbus.tag ∧
      o.modbus.outstanding = some (3 :: [0, 0, 0, 1], 0) ∧ 0 + ms 100 ≤ (o.elapse 10000000).localNow ∧
      ¬ 0 + ms 100 ≤ (o.elapse 9999999).localNow := by decide +kernel

/-- A tool session in the workshop with both passes halted, and the recovery loader. -/
def serviced : State := { fenced with service.session := true, otp.lifecycle := 2, passes.halted := true }
def loader (lc : Nat) : State :=
  { State.reset with
    rt.state := .boot
    power.logicOn := true
    boot.step := .stopped
    boot.retained.bootFailures := 3
    service.session := true
    otp.lifecycle := lc }

theorem witness_ServicePortAnswers :
    let low : State := { serviced with service.resetLowAt := some 0 }
    let seq (n : Nat) : State := { serviced with service.seqLast := some n }
    let asked : State := { serviced with dict.slots := [slot port] }
    held.service.session = false ∧ serviced.service.session = true ∧ held.power.logicOn = true ∧ held.released = true ∧
      State.reset.released = false ∧ low.service.resetLowAt = some 0 ∧ 0 + ms 10 ≤ (low.elapse 1000000).localNow ∧
      low.power.logicOn = true ∧ low.boot.step ≠ .resetHeld ∧ held.service.resetLowAt = none ∧ serviced.released = true ∧
      held.portAnswers = false ∧ serviced.portAnswers = true ∧ serviced.service.seqLast = none ∧
      (∀ x ∈ asked.dict.superseded, x.requester ≠ 0) ∧ asked.dict.slots.find? (fun x => x.requester == 0) = some (slot port) ∧
      (slot port).token = 1 % 2 ^ 32 ∧ (asked.elapse 499999999).localNow < (slot port).at_ + 500000000 ∧
      asked.confirmCode (slot port) % 2 ^ 32 = asked.confirmCode (slot port) ∧
      asked.confirmedAlready servicePort (slot port).index (slot port).sub = false ∧
      serviced.dict.slots.find? (fun x => x.requester == 0) = none ∧
      (seq 65535).service.seqLast = some 65535 ∧ (0 + 65536 - 65535) % 65536 = 1 ∧ (32766 + 65536 - 65535) % 65536 = 32767 ∧
      32767 < (32767 + 65536 - 65535) % 65536 ∧ 65535 < 65536 := by decide +kernel

theorem witness_ServicePortAnswers_memory :
    Memory.wf serviced = true ∧ 0xFFFFFFFF < 2 ^ 32 ∧ countOf 4 = true ∧ countOf 4096 = true ∧ countOf 4098 = false ∧
      serviced.debugStatusOf .load 0x2005FFFC 4 = 0 ∧ inPlainRam 0x2005FFFC = true ∧ serviced.debugStatusOf .store 0x2005FFFC 4 = 0 ∧
      serviced.debugStatusOf .load 0x08000000 4 = 0 ∧ inFlash 0x08000000 = true ∧ serviced.debugStatusOf .store 0x60000000 4 ≠ 0 ∧
      serviced.foreignBuffer 0x2005FFFC 4 = none ∧ serviced.unstatedRam 0x2005FFFC = false ∧ heldElsewhere 0x2005FFFC = false ∧
      heldElsewhere (0x2005FFFC + 4 - 1) = false ∧ serviced.debugStatusOf .load 0x24000000 4 = 0 ∧ inExchangeRam 0x24000000 = true ∧
      (withBuf 0 { owner := .le } serviced).foreignBuffer 0x24000000 4 = none ∧ serviced.foreignBuffer 0x24000000 4 = some 0 ∧
      serviced.debugStatusOf .store 0x24000000 4 = 0 ∧ serviced.rt.cycling = true ∧ serviced.debugStatusOf .load 0x48000000 4 = 0 ∧
      inMpuRegisters 0x48000000 = true ∧ serviced.mpuRegisterBytes[0]?.isSome = true ∧
      (∀ i, i < 4 → (areaByte (0x2000C000 + i)).isSome = true) ∧ serviced.debugStatusOf .store 0x2000C000 4 = 0 ∧
      serviced.le.inputs.length = 180 ∧ (∀ i, i < 4 → inEventLog (0x22000000 + i) = true) ∧ serviced.debugStatusOf .store 0x22000000 4 = 0 ∧
      (loader 2).power.gateClosed = false ∧ (loader 2).store.heldLeft = 0 ∧
      ({ loader 2 with power.gateClosed := true } : State).power.gateClosed = true ∧
      (loader 2).service.session = true ∧ (loader 2).rt.state = .boot ∧ (loader 2).boot.step = .stopped ∧
      3 ≤ (loader 2).boot.retained.bootFailures ∧ ({ loader 2 with boot.noBank := true } : State).boot.noBank = true ∧
      (loader 4).loaderPermitted = false ∧ (loader 2).loaderPermitted = true ∧ (0x80000 - 4096) % 32 = 0 ∧
      (0x80000 - 4096) + 4096 ≤ 0x80000 ∧
      (cellBytes erasedByte (loader 2).le.flash (fwBase 1) 32).all (fun x => x == erasedByte) = true := by decide +kernel

theorem witness_DebugRequestsWaitForTheBoundary :
    let w (sub value : Nat) : QueuedWrite := { waiting 0x5C00 sub value with requester := 0, channel := .service, confirmed := false }
    let s : State := { inState .service with otp.lifecycle := 5 }
    let split : State := { s with passes.split := true }
    let halted : State := { split with passes.halted := true }
    let b : State := { split with service.bistFrom := some .service }
    (w 2 1).isCopy = false ∧ (w 2 1).via = none ∧ (w 2 1).index = 0x5C00 ∧ (w 2 1).sub = 2 ∧ (w 2 4).value = 4 ∧ (w 4 1).sub = 4 ∧
      (w 5 1).sub = 5 ∧ (w 6 1).sub = 6 ∧ (w 3 1).sub = 3 ∧ s.splitPermitted = true ∧
      ({ s with otp.debugDisabled := true } : State).splitPermitted = false ∧ split.haltSoon = false ∧
      split.service.pending.contains .bist = false ∧ halted.haltSoon = true ∧ halted.passes.halted = true ∧ split.passes.halted = false ∧
      held.service.bistFrom = none ∧ b.service.bistFrom ≠ none ∧
      b.power.pfw = false ∧ b.rt.state = .service ∧ [1, 2, 3, 5, 8].contains ((8 * 2 ^ 60 : BitVec 64).toNat / 2 ^ 60) = true ∧
      b.otp.tested b.bistEntries (8 * 2 ^ 60) = true ∧ 100 * serviceLimit 8 < (b.elapse 200000000).localNow - b.boot.bistAt ∧
      ¬ 100 * serviceLimit 8 < (b.elapse 0).localNow - b.boot.bistAt ∧ ({ b with power.pfw := true } : State).power.pfw = true := by decide +kernel

theorem witness_RecordsLedgerAndTemperature :
    let full : State := { held with xch.buffers := List.replicate 128 { owner := .ce } }
    held.freeBuffer .le ≠ none ∧ full.rt.cycling = true ∧ full.freeBuffer .le = none ∧
    held.rt.cycling = true ∧ held.ledger.intervalFrom + us held.ledgerInterval ≤ (held.elapse 360000000000).localNow ∧
      (held.elapse 359999999999).localNow < held.ledger.intervalFrom + us held.ledgerInterval ∧ held.power.gateClosed = false ∧
      held.ledger.switches = held.ledger.switchesKept ∧ held.ledger.breaks = held.ledger.breaksKept ∧ State.reset.rt.cycling = false ∧
      (1020 : Int) ≤ max (-400) (min 1250 1020) ∧ held.ledger.warnArmed = true ∧ max (-400) (min 1250 1000) ≤ (1000 : Int) ∧
      (1080 : Int) ≤ max (-400) (min 1250 2000) ∧ 9 ≤ ({ held with ledger.hotRun := 9 } : State).ledger.hotRun ∧
      59 ≤ ({ held with ledger.coolRun := 59 } : State).ledger.coolRun ∧ max (-400) (min 1250 1079) < (1080 : Int) ∧
      (1000 : Int) < max (-400) (min 1250 1001) ∧ State.reset.power.logicOn = false ∧ held.power.logicOn = true ∧
      held.boot.step ≠ .resetHeld ∧ (1399 : Int) < 1400 ∧ (1400 : Int) ≤ 1400 ∧ held.ledger.dieRun = 0 ∧
      ({ held with ledger.dieRun := 1 } : State).ledger.dieRun = 1 ∧ (starting .recovery).rt.cycling = false := by decide +kernel

theorem witness_StepTakesTheFront :
    let f : CanFrame := { id := 0x210, data := [0x20], brs := false, esi := false }
    let q : State := { networked with zop.canA.queue := [f] }
    ({ held with pending := [.leAliveWrite 0] } : State).pending = .leAliveWrite 0 :: [] ∧ held.pending = [] ∧ q.pending = [] ∧
      (q.zop.can .a).accepts = true ∧ (q.zop.can .a).queue = f :: [] ∧ (q.zop.can .b).queue = [] ∧ (held.zop.can .a).accepts = false ∧
      q.clock.sending = none := by decide +kernel

theorem witness_EveryStepKeepsMemoryAndFuses :
    Memory.wf { withCh 0 {} fenced with le.ram := [(0x20000000, 1)], pending := [.release 0] } = true ∧ Memory.wf State.reset = true := by decide +kernel

theorem witness_StateChangesByTheTable :
    let s : State := { held with pending := [.leAliveWrite 0] }
    s.startConsistent = true ∧ Machine.step s = .next { held with rt.leMark := true } ∧
      ∀ (dt : Nat) (x : Sensors) (rest : List Instr), s.pending ≠ .cycleBoundary dt x :: rest := by
  refine ⟨by decide +kernel, rfl, ?_⟩
  intro dt x rest h
  exact absurd h (by simp)

/-! ### The spec's worked examples -/

/-- What a command left, for the tests below. -/
def after (o : Host.Outcome State Fault Refusal) : State :=
  match o with
  | .next s => s
  | _ => State.reset

/-- The check value of CRC-32C (R23). -/
theorem test_crc : crc32c [0x31, 0x32, 0x33, 0x34, 0x35, 0x36, 0x37, 0x38, 0x39] = 0xE3069283 := by decide +kernel

/-- Ch. 2: a charge timed at 62,720 µs from 20 V is an estimate of 73,173 µs. -/
theorem test_holdup_estimate : (after (exec (.holdupChargeTimed 0 20000 62720) held)).power.estimate = 73173 := by decide +kernel

/-- Table 3-10 row 3. -/
theorem test_first_round :
    let s : State := { held with zop.nodeId := 5, clock.net := 3435000 * 2 ^ 32, clock.captures :=
      [{ master := 1, priority := 10, round := 912, la := some 3413561, lb := some 3413561, done := false }] }
    let t := after (exec (.followUp 0 1 true true 912 912000020 912000020) s)
    t.clock.offsetLast = -908586459 ∧ t.clock.sync = .locking ∧ t.clock.pendingStep = some 908586459 := by decide +kernel

/-- Table 4-17: the raw failure of group 2 as it is recorded. -/
theorem test_failure_record :
    let raw : BitVec 64 := 0x04035A402F340000
    failRecord 2 raw = 0x24035A402F340000 := by decide +kernel

/-- R186: coded words of the worked case of ch. 6, A = 62,141. -/
theorem test_coded_words :
    codeWord 62141 1 = 0xF2BD ∧ codeWord 62141 1000 = 0x3B43248 ∧ codeWord 62141 (-1) = 0xFFFFFFFFFFFF0D43 := by decide +kernel

/-- Table 7-10 and the load that follows it. -/
theorem test_stray_store :
    let s : State := { fenced with le.inB := true, le.tags := [(0x4010 / 64, 1)] }
    s.mpuVerdict .store 0x20004010 4 0 = some (0x0502, some 15) ∧ s.mpuInfo .store 0x20004010 4 0x0502 (some 15) = 0x8F100602 := by
  decide +kernel
theorem test_stray_load :
    let s : State := { fenced with le.inB := true }
    s.mpuVerdict .load 0x20030000 4 0 = some (0x0503, some 10) ∧ s.mpuInfo .load 0x20030000 4 0x0503 (some 10) = 0x8A04C203 := by
  decide +kernel

/-- Ch. 11: 754,975 is 45.0 mA and 50,332 is 3.00 mA at a gain of 100,000 / 2^24. -/
theorem test_residual_current :
    let s : State := { held with dict.values := [(objKey 0x3310 4, 100000)] }
    (s.convert 0 false 754975).1 = 4500 ∧ (s.convert 0 false 50332).1 = 300 := by decide +kernel

/-- R380: 327.2 µs, rounded up. -/
theorem test_switch_time : switchTime 6144 false = 328 := by decide +kernel

/-- Ch. 15: the confirmation block of the worked case and `LAST_ACCESS_ERROR` of the write it rejects. -/
theorem test_confirmation :
    confirmBlock 309218 7 0x2400 1 7 1 500 = [0xE2, 0xB7, 4, 0, 7, 0, 0, 0, 0, 0x24, 1, 7, 1, 0, 0, 0, 0xF4, 1, 0, 0, 0, 0, 0, 0] := by
  decide +kernel
theorem test_rejected_write :
    (after (exec (.prepare 0 n1 0x2400 1 7 600) held)).dict.lastError = 0x8006240001010000 := by decide +kernel

/-- Table 18-14: `SNAPSHOT_SIZE`. -/
theorem test_snapshot_size : snapshotSize 2048 4 = 7300 := by decide +kernel

/-- Ch. 19: the registers of the worked case, as the LE reads them at one instant. -/
theorem test_modbus_registers :
    let s : State := { windowed with
      rt.state := .run
      clock.net := 5000200000 * 2 ^ 32
      analog.pairs := List.replicate 4 { a := { fLast := 300 } }
      dict.values := [(objKey 0x5A00 1, 1), (objKey 0x5A00 2, 5), (objKey 0x5A10 1, 0x2200010000000000),
        (objKey 0x5A10 2, 0x2200030000010000), (objKey 0x5A10 3, 0x1800050000020000), (objKey 0x5A10 4, 0x3320030000060000)] }
    s.readRange 0 8 = some [0, 4, 0, 0, 0, 0, 0, 1, 0x2A, 8, 0xFF, 0x40, 0, 0, 1, 0x2C] ∧ s.readRange 3 3 = none := by decide +kernel

/-- Ch. 20: a session with simulation active reads 0x00A0. -/
theorem test_debug_status :
    ({ serviced with passes.halted := false, service.simActive := true } : State).debugStatus = 0xA0 := by decide +kernel

/-- A snapshot is at most as long as that of the largest image (R518). -/
theorem test_wf_snapshot : frameOk (snapshotFrame true) = true := by decide +kernel

/-- R319: a modulator at full scale reads 2^23. -/
theorem test_sinc_full_scale : sincCode 4 (List.replicate 12 true) = 2 ^ 23 := by decide +kernel

end Sys2Proof.Tests
end

namespace Sys2Proof.Machine

theorem State.reset_allOutputsOff : State.reset.allOutputsOff := by
  refine ⟨?_, ?_, rfl⟩ <;> decide

/-- Settles O58: each register of `State.reset` is read off; the memories are `Memory.reset_wf`. -/
theorem resetMeetsTheInvariants : Obligations.ResetMeetsTheInvariants := by
  refine ⟨rfl, rfl, rfl, rfl, rfl, rfl, rfl, rfl, rfl, State.reset_allOutputsOff, rfl, rfl, rfl, rfl, rfl, rfl, rfl, rfl, rfl, rfl, rfl,
    rfl, rfl, rfl, rfl, rfl, rfl, Memory.reset_wf, rfl⟩

end Sys2Proof.Machine

namespace Sys2Proof.Machine

/-! ### Choices and loops, part by part -/

@[simp] theorem State.rt_ite {c : Prop} [Decidable c] (s t : State) :
    (if c then s else t).rt = if c then s.rt else t.rt := by
  split <;> rfl

@[simp] theorem State.power_ite {c : Prop} [Decidable c] (s t : State) :
    (if c then s else t).power = if c then s.power else t.power := by
  split <;> rfl

@[simp] theorem State.clock_ite {c : Prop} [Decidable c] (s t : State) :
    (if c then s else t).clock = if c then s.clock else t.clock := by
  split <;> rfl

@[simp] theorem State.boot_ite {c : Prop} [Decidable c] (s t : State) :
    (if c then s else t).boot = if c then s.boot else t.boot := by
  split <;> rfl

@[simp] theorem State.otp_ite {c : Prop} [Decidable c] (s t : State) :
    (if c then s else t).otp = if c then s.otp else t.otp := by
  split <;> rfl

@[simp] theorem State.passes_ite {c : Prop} [Decidable c] (s t : State) :
    (if c then s else t).passes = if c then s.passes else t.passes := by
  split <;> rfl

@[simp] theorem State.le_ite {c : Prop} [Decidable c] (s t : State) :
    (if c then s else t).le = if c then s.le else t.le := by
  split <;> rfl

@[simp] theorem State.xch_ite {c : Prop} [Decidable c] (s t : State) :
    (if c then s else t).xch = if c then s.xch else t.xch := by
  split <;> rfl

@[simp] theorem State.field_ite {c : Prop} [Decidable c] (s t : State) :
    (if c then s else t).field = if c then s.field else t.field := by
  split <;> rfl

@[simp] theorem State.glint_ite {c : Prop} [Decidable c] (s t : State) :
    (if c then s else t).glint = if c then s.glint else t.glint := by
  split <;> rfl

@[simp] theorem State.counters_ite {c : Prop} [Decidable c] (s t : State) :
    (if c then s else t).counters = if c then s.counters else t.counters := by
  split <;> rfl

@[simp] theorem State.analog_ite {c : Prop} [Decidable c] (s t : State) :
    (if c then s else t).analog = if c then s.analog else t.analog := by
  split <;> rfl

@[simp] theorem State.lib_ite {c : Prop} [Decidable c] (s t : State) :
    (if c then s else t).lib = if c then s.lib else t.lib := by
  split <;> rfl

@[simp] theorem State.images_ite {c : Prop} [Decidable c] (s t : State) :
    (if c then s else t).images = if c then s.images else t.images := by
  split <;> rfl

@[simp] theorem State.store_ite {c : Prop} [Decidable c] (s t : State) :
    (if c then s else t).store = if c then s.store else t.store := by
  split <;> rfl

@[simp] theorem State.dict_ite {c : Prop} [Decidable c] (s t : State) :
    (if c then s else t).dict = if c then s.dict else t.dict := by
  split <;> rfl

@[simp] theorem State.zop_ite {c : Prop} [Decidable c] (s t : State) :
    (if c then s else t).zop = if c then s.zop else t.zop := by
  split <;> rfl

@[simp] theorem State.mirror_ite {c : Prop} [Decidable c] (s t : State) :
    (if c then s else t).mirror = if c then s.mirror else t.mirror := by
  split <;> rfl

@[simp] theorem State.modbus_ite {c : Prop} [Decidable c] (s t : State) :
    (if c then s else t).modbus = if c then s.modbus else t.modbus := by
  split <;> rfl

@[simp] theorem State.service_ite {c : Prop} [Decidable c] (s t : State) :
    (if c then s else t).service = if c then s.service else t.service := by
  split <;> rfl

@[simp] theorem State.ledger_ite {c : Prop} [Decidable c] (s t : State) :
    (if c then s else t).ledger = if c then s.ledger else t.ledger := by
  split <;> rfl

@[simp] theorem State.freeCount_ite {c : Prop} [Decidable c] (s t : State) :
    (if c then s else t).freeCount = if c then s.freeCount else t.freeCount := by
  split <;> rfl

@[simp] theorem State.pending_ite {c : Prop} [Decidable c] (s t : State) :
    (if c then s else t).pending = if c then s.pending else t.pending := by
  split <;> rfl

@[simp] theorem Runtime.state_ite {c : Prop} [Decidable c] (s t : Runtime) :
    (if c then s else t).state = if c then s.state else t.state := by
  split <;> rfl

@[simp] theorem Runtime.entryTime_ite {c : Prop} [Decidable c] (s t : Runtime) :
    (if c then s else t).entryTime = if c then s.entryTime else t.entryTime := by
  split <;> rfl

@[simp] theorem Runtime.stateCause_ite {c : Prop} [Decidable c] (s t : Runtime) :
    (if c then s else t).stateCause = if c then s.stateCause else t.stateCause := by
  split <;> rfl

@[simp] theorem Runtime.cycleUs_ite {c : Prop} [Decidable c] (s t : Runtime) :
    (if c then s else t).cycleUs = if c then s.cycleUs else t.cycleUs := by
  split <;> rfl

@[simp] theorem Runtime.boundary_ite {c : Prop} [Decidable c] (s t : Runtime) :
    (if c then s else t).boundary = if c then s.boundary else t.boundary := by
  split <;> rfl

@[simp] theorem Runtime.cycling_ite {c : Prop} [Decidable c] (s t : Runtime) :
    (if c then s else t).cycling = if c then s.cycling else t.cycling := by
  split <;> rfl

@[simp] theorem Runtime.cycleCount_ite {c : Prop} [Decidable c] (s t : Runtime) :
    (if c then s else t).cycleCount = if c then s.cycleCount else t.cycleCount := by
  split <;> rfl

@[simp] theorem Runtime.overrunCount_ite {c : Prop} [Decidable c] (s t : Runtime) :
    (if c then s else t).overrunCount = if c then s.overrunCount else t.overrunCount := by
  split <;> rfl

@[simp] theorem Runtime.passTimeMax_ite {c : Prop} [Decidable c] (s t : Runtime) :
    (if c then s else t).passTimeMax = if c then s.passTimeMax else t.passTimeMax := by
  split <;> rfl

@[simp] theorem Runtime.stallCount_ite {c : Prop} [Decidable c] (s t : Runtime) :
    (if c then s else t).stallCount = if c then s.stallCount else t.stallCount := by
  split <;> rfl

@[simp] theorem Runtime.leMark_ite {c : Prop} [Decidable c] (s t : Runtime) :
    (if c then s else t).leMark = if c then s.leMark else t.leMark := by
  split <;> rfl

@[simp] theorem Runtime.popped_ite {c : Prop} [Decidable c] (s t : Runtime) :
    (if c then s else t).popped = if c then s.popped else t.popped := by
  split <;> rfl

@[simp] theorem Runtime.passesRunning_ite {c : Prop} [Decidable c] (s t : Runtime) :
    (if c then s else t).passesRunning = if c then s.passesRunning else t.passesRunning := by
  split <;> rfl

@[simp] theorem Runtime.lockoutLatch_ite {c : Prop} [Decidable c] (s t : Runtime) :
    (if c then s else t).lockoutLatch = if c then s.lockoutLatch else t.lockoutLatch := by
  split <;> rfl

@[simp] theorem Runtime.ackArmed_ite {c : Prop} [Decidable c] (s t : Runtime) :
    (if c then s else t).ackArmed = if c then s.ackArmed else t.ackArmed := by
  split <;> rfl

@[simp] theorem Runtime.splitSinceReset_ite {c : Prop} [Decidable c] (s t : Runtime) :
    (if c then s else t).splitSinceReset = if c then s.splitSinceReset else t.splitSinceReset := by
  split <;> rfl

@[simp] theorem Runtime.active_ite {c : Prop} [Decidable c] (s t : Runtime) :
    (if c then s else t).active = if c then s.active else t.active := by
  split <;> rfl

@[simp] theorem Runtime.detected_ite {c : Prop} [Decidable c] (s t : Runtime) :
    (if c then s else t).detected = if c then s.detected else t.detected := by
  split <;> rfl

@[simp] theorem Runtime.encoding_ite {c : Prop} [Decidable c] (s t : Runtime) :
    (if c then s else t).encoding = if c then s.encoding else t.encoding := by
  split <;> rfl

@[simp] theorem Runtime.encodingDone_ite {c : Prop} [Decidable c] (s t : Runtime) :
    (if c then s else t).encodingDone = if c then s.encodingDone else t.encodingDone := by
  split <;> rfl

@[simp] theorem Runtime.autoStart_ite {c : Prop} [Decidable c] (s t : Runtime) :
    (if c then s else t).autoStart = if c then s.autoStart else t.autoStart := by
  split <;> rfl

@[simp] theorem Runtime.resetAtBoundary_ite {c : Prop} [Decidable c] (s t : Runtime) :
    (if c then s else t).resetAtBoundary = if c then s.resetAtBoundary else t.resetAtBoundary := by
  split <;> rfl

@[simp] theorem Runtime.runSince_ite {c : Prop} [Decidable c] (s t : Runtime) :
    (if c then s else t).runSince = if c then s.runSince else t.runSince := by
  split <;> rfl

@[simp] theorem Runtime.passTag_ite {c : Prop} [Decidable c] (s t : Runtime) :
    (if c then s else t).passTag = if c then s.passTag else t.passTag := by
  split <;> rfl

@[simp] theorem Runtime.libDone_ite {c : Prop} [Decidable c] (s t : Runtime) :
    (if c then s else t).libDone = if c then s.libDone else t.libDone := by
  split <;> rfl

@[simp] theorem Boot.step_ite {c : Prop} [Decidable c] (s t : Boot) :
    (if c then s else t).step = if c then s.step else t.step := by
  split <;> rfl

@[simp] theorem Power.logicOn_ite {c : Prop} [Decidable c] (s t : Power) :
    (if c then s else t).logicOn = if c then s.logicOn else t.logicOn := by
  split <;> rfl

@[simp] theorem Power.gateClosed_ite {c : Prop} [Decidable c] (s t : Power) :
    (if c then s else t).gateClosed = if c then s.gateClosed else t.gateClosed := by
  split <;> rfl

@[simp] theorem Clock.localTicks_ite {c : Prop} [Decidable c] (s t : Clock) :
    (if c then s else t).localTicks = if c then s.localTicks else t.localTicks := by
  split <;> rfl

@[simp] theorem Clock.net_ite {c : Prop} [Decidable c] (s t : Clock) :
    (if c then s else t).net = if c then s.net else t.net := by
  split <;> rfl


/-- What every pass of a loop leaves alone, the loop leaves alone. -/
theorem foldl_preserves {α β : Type} (p : State → β) (f : State → α → State) (h : ∀ t a, p (f t a) = p t) (l : List α) (s : State) :
    p (l.foldl f s) = p s := by
  induction l generalizing s with
  | nil => rfl
  | cons x l ih => rw [List.foldl_cons, ih, h]

@[simp] theorem State.rt_foldl {α : Type} (f : State → α → State)
    (h : ∀ t a, (f t a).rt = t.rt) (l : List α) (s : State) :
    (l.foldl f s).rt = s.rt := foldl_preserves (·.rt) f h l s
@[simp] theorem State.power_foldl {α : Type} (f : State → α → State)
    (h : ∀ t a, (f t a).power = t.power) (l : List α) (s : State) :
    (l.foldl f s).power = s.power := foldl_preserves (·.power) f h l s
@[simp] theorem State.clock_foldl {α : Type} (f : State → α → State)
    (h : ∀ t a, (f t a).clock = t.clock) (l : List α) (s : State) :
    (l.foldl f s).clock = s.clock := foldl_preserves (·.clock) f h l s
@[simp] theorem State.boot_foldl {α : Type} (f : State → α → State)
    (h : ∀ t a, (f t a).boot = t.boot) (l : List α) (s : State) :
    (l.foldl f s).boot = s.boot := foldl_preserves (·.boot) f h l s
@[simp] theorem State.otp_foldl {α : Type} (f : State → α → State)
    (h : ∀ t a, (f t a).otp = t.otp) (l : List α) (s : State) :
    (l.foldl f s).otp = s.otp := foldl_preserves (·.otp) f h l s
@[simp] theorem State.passes_foldl {α : Type} (f : State → α → State)
    (h : ∀ t a, (f t a).passes = t.passes) (l : List α) (s : State) :
    (l.foldl f s).passes = s.passes := foldl_preserves (·.passes) f h l s
@[simp] theorem State.le_foldl {α : Type} (f : State → α → State)
    (h : ∀ t a, (f t a).le = t.le) (l : List α) (s : State) :
    (l.foldl f s).le = s.le := foldl_preserves (·.le) f h l s
@[simp] theorem State.xch_foldl {α : Type} (f : State → α → State)
    (h : ∀ t a, (f t a).xch = t.xch) (l : List α) (s : State) :
    (l.foldl f s).xch = s.xch := foldl_preserves (·.xch) f h l s
@[simp] theorem State.field_foldl {α : Type} (f : State → α → State)
    (h : ∀ t a, (f t a).field = t.field) (l : List α) (s : State) :
    (l.foldl f s).field = s.field := foldl_preserves (·.field) f h l s
@[simp] theorem State.glint_foldl {α : Type} (f : State → α → State)
    (h : ∀ t a, (f t a).glint = t.glint) (l : List α) (s : State) :
    (l.foldl f s).glint = s.glint := foldl_preserves (·.glint) f h l s
@[simp] theorem State.counters_foldl {α : Type} (f : State → α → State)
    (h : ∀ t a, (f t a).counters = t.counters) (l : List α) (s : State) :
    (l.foldl f s).counters = s.counters := foldl_preserves (·.counters) f h l s
@[simp] theorem State.analog_foldl {α : Type} (f : State → α → State)
    (h : ∀ t a, (f t a).analog = t.analog) (l : List α) (s : State) :
    (l.foldl f s).analog = s.analog := foldl_preserves (·.analog) f h l s
@[simp] theorem State.lib_foldl {α : Type} (f : State → α → State)
    (h : ∀ t a, (f t a).lib = t.lib) (l : List α) (s : State) :
    (l.foldl f s).lib = s.lib := foldl_preserves (·.lib) f h l s
@[simp] theorem State.images_foldl {α : Type} (f : State → α → State)
    (h : ∀ t a, (f t a).images = t.images) (l : List α) (s : State) :
    (l.foldl f s).images = s.images := foldl_preserves (·.images) f h l s
@[simp] theorem State.store_foldl {α : Type} (f : State → α → State)
    (h : ∀ t a, (f t a).store = t.store) (l : List α) (s : State) :
    (l.foldl f s).store = s.store := foldl_preserves (·.store) f h l s
@[simp] theorem State.dict_foldl {α : Type} (f : State → α → State)
    (h : ∀ t a, (f t a).dict = t.dict) (l : List α) (s : State) :
    (l.foldl f s).dict = s.dict := foldl_preserves (·.dict) f h l s
@[simp] theorem State.zop_foldl {α : Type} (f : State → α → State)
    (h : ∀ t a, (f t a).zop = t.zop) (l : List α) (s : State) :
    (l.foldl f s).zop = s.zop := foldl_preserves (·.zop) f h l s
@[simp] theorem State.mirror_foldl {α : Type} (f : State → α → State)
    (h : ∀ t a, (f t a).mirror = t.mirror) (l : List α) (s : State) :
    (l.foldl f s).mirror = s.mirror := foldl_preserves (·.mirror) f h l s
@[simp] theorem State.modbus_foldl {α : Type} (f : State → α → State)
    (h : ∀ t a, (f t a).modbus = t.modbus) (l : List α) (s : State) :
    (l.foldl f s).modbus = s.modbus := foldl_preserves (·.modbus) f h l s
@[simp] theorem State.service_foldl {α : Type} (f : State → α → State)
    (h : ∀ t a, (f t a).service = t.service) (l : List α) (s : State) :
    (l.foldl f s).service = s.service := foldl_preserves (·.service) f h l s
@[simp] theorem State.ledger_foldl {α : Type} (f : State → α → State)
    (h : ∀ t a, (f t a).ledger = t.ledger) (l : List α) (s : State) :
    (l.foldl f s).ledger = s.ledger := foldl_preserves (·.ledger) f h l s
@[simp] theorem State.freeCount_foldl {α : Type} (f : State → α → State)
    (h : ∀ t a, (f t a).freeCount = t.freeCount) (l : List α) (s : State) :
    (l.foldl f s).freeCount = s.freeCount := foldl_preserves (·.freeCount) f h l s
@[simp] theorem State.pending_foldl {α : Type} (f : State → α → State)
    (h : ∀ t a, (f t a).pending = t.pending) (l : List α) (s : State) :
    (l.foldl f s).pending = s.pending := foldl_preserves (·.pending) f h l s
@[simp] theorem State.rt_state_foldl {α : Type} (f : State → α → State)
    (h : ∀ t a, (f t a).rt.state = t.rt.state) (l : List α) (s : State) :
    (l.foldl f s).rt.state = s.rt.state := foldl_preserves (·.rt.state) f h l s
@[simp] theorem State.rt_entryTime_foldl {α : Type} (f : State → α → State)
    (h : ∀ t a, (f t a).rt.entryTime = t.rt.entryTime) (l : List α) (s : State) :
    (l.foldl f s).rt.entryTime = s.rt.entryTime := foldl_preserves (·.rt.entryTime) f h l s
@[simp] theorem State.rt_stateCause_foldl {α : Type} (f : State → α → State)
    (h : ∀ t a, (f t a).rt.stateCause = t.rt.stateCause) (l : List α) (s : State) :
    (l.foldl f s).rt.stateCause = s.rt.stateCause := foldl_preserves (·.rt.stateCause) f h l s
@[simp] theorem State.rt_cycleUs_foldl {α : Type} (f : State → α → State)
    (h : ∀ t a, (f t a).rt.cycleUs = t.rt.cycleUs) (l : List α) (s : State) :
    (l.foldl f s).rt.cycleUs = s.rt.cycleUs := foldl_preserves (·.rt.cycleUs) f h l s
@[simp] theorem State.rt_boundary_foldl {α : Type} (f : State → α → State)
    (h : ∀ t a, (f t a).rt.boundary = t.rt.boundary) (l : List α) (s : State) :
    (l.foldl f s).rt.boundary = s.rt.boundary := foldl_preserves (·.rt.boundary) f h l s
@[simp] theorem State.rt_cycling_foldl {α : Type} (f : State → α → State)
    (h : ∀ t a, (f t a).rt.cycling = t.rt.cycling) (l : List α) (s : State) :
    (l.foldl f s).rt.cycling = s.rt.cycling := foldl_preserves (·.rt.cycling) f h l s
@[simp] theorem State.rt_cycleCount_foldl {α : Type} (f : State → α → State)
    (h : ∀ t a, (f t a).rt.cycleCount = t.rt.cycleCount) (l : List α) (s : State) :
    (l.foldl f s).rt.cycleCount = s.rt.cycleCount := foldl_preserves (·.rt.cycleCount) f h l s
@[simp] theorem State.rt_overrunCount_foldl {α : Type} (f : State → α → State)
    (h : ∀ t a, (f t a).rt.overrunCount = t.rt.overrunCount) (l : List α) (s : State) :
    (l.foldl f s).rt.overrunCount = s.rt.overrunCount := foldl_preserves (·.rt.overrunCount) f h l s
@[simp] theorem State.rt_passTimeMax_foldl {α : Type} (f : State → α → State)
    (h : ∀ t a, (f t a).rt.passTimeMax = t.rt.passTimeMax) (l : List α) (s : State) :
    (l.foldl f s).rt.passTimeMax = s.rt.passTimeMax := foldl_preserves (·.rt.passTimeMax) f h l s
@[simp] theorem State.rt_stallCount_foldl {α : Type} (f : State → α → State)
    (h : ∀ t a, (f t a).rt.stallCount = t.rt.stallCount) (l : List α) (s : State) :
    (l.foldl f s).rt.stallCount = s.rt.stallCount := foldl_preserves (·.rt.stallCount) f h l s
@[simp] theorem State.rt_leMark_foldl {α : Type} (f : State → α → State)
    (h : ∀ t a, (f t a).rt.leMark = t.rt.leMark) (l : List α) (s : State) :
    (l.foldl f s).rt.leMark = s.rt.leMark := foldl_preserves (·.rt.leMark) f h l s
@[simp] theorem State.rt_popped_foldl {α : Type} (f : State → α → State)
    (h : ∀ t a, (f t a).rt.popped = t.rt.popped) (l : List α) (s : State) :
    (l.foldl f s).rt.popped = s.rt.popped := foldl_preserves (·.rt.popped) f h l s
@[simp] theorem State.rt_passesRunning_foldl {α : Type} (f : State → α → State)
    (h : ∀ t a, (f t a).rt.passesRunning = t.rt.passesRunning) (l : List α) (s : State) :
    (l.foldl f s).rt.passesRunning = s.rt.passesRunning := foldl_preserves (·.rt.passesRunning) f h l s
@[simp] theorem State.rt_lockoutLatch_foldl {α : Type} (f : State → α → State)
    (h : ∀ t a, (f t a).rt.lockoutLatch = t.rt.lockoutLatch) (l : List α) (s : State) :
    (l.foldl f s).rt.lockoutLatch = s.rt.lockoutLatch := foldl_preserves (·.rt.lockoutLatch) f h l s
@[simp] theorem State.rt_ackArmed_foldl {α : Type} (f : State → α → State)
    (h : ∀ t a, (f t a).rt.ackArmed = t.rt.ackArmed) (l : List α) (s : State) :
    (l.foldl f s).rt.ackArmed = s.rt.ackArmed := foldl_preserves (·.rt.ackArmed) f h l s
@[simp] theorem State.rt_splitSinceReset_foldl {α : Type} (f : State → α → State)
    (h : ∀ t a, (f t a).rt.splitSinceReset = t.rt.splitSinceReset) (l : List α) (s : State) :
    (l.foldl f s).rt.splitSinceReset = s.rt.splitSinceReset := foldl_preserves (·.rt.splitSinceReset) f h l s
@[simp] theorem State.rt_active_foldl {α : Type} (f : State → α → State)
    (h : ∀ t a, (f t a).rt.active = t.rt.active) (l : List α) (s : State) :
    (l.foldl f s).rt.active = s.rt.active := foldl_preserves (·.rt.active) f h l s
@[simp] theorem State.rt_detected_foldl {α : Type} (f : State → α → State)
    (h : ∀ t a, (f t a).rt.detected = t.rt.detected) (l : List α) (s : State) :
    (l.foldl f s).rt.detected = s.rt.detected := foldl_preserves (·.rt.detected) f h l s
@[simp] theorem State.rt_encoding_foldl {α : Type} (f : State → α → State)
    (h : ∀ t a, (f t a).rt.encoding = t.rt.encoding) (l : List α) (s : State) :
    (l.foldl f s).rt.encoding = s.rt.encoding := foldl_preserves (·.rt.encoding) f h l s
@[simp] theorem State.rt_encodingDone_foldl {α : Type} (f : State → α → State)
    (h : ∀ t a, (f t a).rt.encodingDone = t.rt.encodingDone) (l : List α) (s : State) :
    (l.foldl f s).rt.encodingDone = s.rt.encodingDone := foldl_preserves (·.rt.encodingDone) f h l s
@[simp] theorem State.rt_autoStart_foldl {α : Type} (f : State → α → State)
    (h : ∀ t a, (f t a).rt.autoStart = t.rt.autoStart) (l : List α) (s : State) :
    (l.foldl f s).rt.autoStart = s.rt.autoStart := foldl_preserves (·.rt.autoStart) f h l s
@[simp] theorem State.rt_resetAtBoundary_foldl {α : Type} (f : State → α → State)
    (h : ∀ t a, (f t a).rt.resetAtBoundary = t.rt.resetAtBoundary) (l : List α) (s : State) :
    (l.foldl f s).rt.resetAtBoundary = s.rt.resetAtBoundary := foldl_preserves (·.rt.resetAtBoundary) f h l s
@[simp] theorem State.rt_runSince_foldl {α : Type} (f : State → α → State)
    (h : ∀ t a, (f t a).rt.runSince = t.rt.runSince) (l : List α) (s : State) :
    (l.foldl f s).rt.runSince = s.rt.runSince := foldl_preserves (·.rt.runSince) f h l s
@[simp] theorem State.rt_passTag_foldl {α : Type} (f : State → α → State)
    (h : ∀ t a, (f t a).rt.passTag = t.rt.passTag) (l : List α) (s : State) :
    (l.foldl f s).rt.passTag = s.rt.passTag := foldl_preserves (·.rt.passTag) f h l s
@[simp] theorem State.rt_libDone_foldl {α : Type} (f : State → α → State)
    (h : ∀ t a, (f t a).rt.libDone = t.rt.libDone) (l : List α) (s : State) :
    (l.foldl f s).rt.libDone = s.rt.libDone := foldl_preserves (·.rt.libDone) f h l s
@[simp] theorem State.boot_step_foldl {α : Type} (f : State → α → State)
    (h : ∀ t a, (f t a).boot.step = t.boot.step) (l : List α) (s : State) :
    (l.foldl f s).boot.step = s.boot.step := foldl_preserves (·.boot.step) f h l s
@[simp] theorem State.power_logicOn_foldl {α : Type} (f : State → α → State)
    (h : ∀ t a, (f t a).power.logicOn = t.power.logicOn) (l : List α) (s : State) :
    (l.foldl f s).power.logicOn = s.power.logicOn := foldl_preserves (·.power.logicOn) f h l s
@[simp] theorem State.power_gateClosed_foldl {α : Type} (f : State → α → State)
    (h : ∀ t a, (f t a).power.gateClosed = t.power.gateClosed) (l : List α) (s : State) :
    (l.foldl f s).power.gateClosed = s.power.gateClosed := foldl_preserves (·.power.gateClosed) f h l s
@[simp] theorem State.clock_localTicks_foldl {α : Type} (f : State → α → State)
    (h : ∀ t a, (f t a).clock.localTicks = t.clock.localTicks) (l : List α) (s : State) :
    (l.foldl f s).clock.localTicks = s.clock.localTicks := foldl_preserves (·.clock.localTicks) f h l s
@[simp] theorem State.clock_net_foldl {α : Type} (f : State → α → State)
    (h : ∀ t a, (f t a).clock.net = t.clock.net) (l : List α) (s : State) :
    (l.foldl f s).clock.net = s.clock.net := foldl_preserves (·.clock.net) f h l s

/-- What every pass of a loop keeps, the loop keeps. -/
theorem foldl_frame {α : Type} (R : State → State → Prop) (hr : ∀ s, R s s) (ht : ∀ s t u, R s t → R t u → R s u)
    (f : State → α → State) (h : ∀ t a, R t (f t a)) (l : List α) (s : State) : R s (l.foldl f s) := by
  induction l generalizing s with
  | nil => exact hr s
  | cons x l ih => exact ht _ _ _ (h s x) (ih _)


@[simp] theorem State.drawFree_fst (s : State) : s.drawFree.1 = Config.freeValue s.freeCount := rfl
@[simp] theorem State.drawFree_snd (s : State) : s.drawFree.2 = { s with freeCount := s.freeCount + 1 } := rfl
@[simp] theorem State.freeBytes_snd (n : Nat) (s : State) : (s.freeBytes n).2 = { s with freeCount := s.freeCount + n } := rfl

/-! ### Frames -/

/-- A part of the state that an operation leaves alone. -/
@[simp] abbrev Kept (whole _ _ rest : Prop) : Prop := whole ∧ rest
/-- A part of which it leaves the fields named with the part. -/
@[simp] abbrev Partly (_ part _ rest : Prop) : Prop := part ∧ rest
/-- A part of which it leaves the little named last. -/
@[simp] abbrev Barely (_ _ core rest : Prop) : Prop := core ∧ rest
/-- A part that it may change. -/
@[simp] abbrev Free (_ _ _ rest : Prop) : Prop := rest

/-- The runtime state with what belongs to it. -/
@[simp] abbrev State.SamePhase (s t : State) : Prop :=
  t.rt.state = s.rt.state ∧ t.rt.cycling = s.rt.cycling ∧ t.rt.entryTime = s.rt.entryTime ∧ t.rt.stateCause = s.rt.stateCause ∧
    t.rt.lockoutLatch = s.rt.lockoutLatch ∧ t.rt.ackArmed = s.rt.ackArmed ∧ t.rt.encoding = s.rt.encoding

/-- The runtime but for the causes and the passes that a fault ends. -/
@[simp] abbrev State.SameRun (s t : State) : Prop :=
  State.SamePhase s t ∧ t.rt.cycleUs = s.rt.cycleUs ∧ t.rt.boundary = s.rt.boundary ∧ t.rt.cycleCount = s.rt.cycleCount ∧
    t.rt.overrunCount = s.rt.overrunCount ∧ t.rt.passTimeMax = s.rt.passTimeMax ∧ t.rt.stallCount = s.rt.stallCount ∧
    t.rt.leMark = s.rt.leMark ∧ t.rt.popped = s.rt.popped ∧ t.rt.splitSinceReset = s.rt.splitSinceReset ∧
    t.rt.encodingDone = s.rt.encodingDone ∧ t.rt.autoStart = s.rt.autoStart ∧
    t.rt.resetAtBoundary = s.rt.resetAtBoundary ∧ t.rt.runSince = s.rt.runSince ∧ t.rt.passTag = s.rt.passTag ∧
    t.rt.libDone = s.rt.libDone

/-- The firmware of the boot ROM or of a bank runs. -/
def BootStep.firmware : BootStep → Bool
  | .idle | .resetHeld | .lockRetry | .stopped => false
  | _ => true

/-- A fault before release stops the firmware where it stands, and nothing after release touches the boot sequence (R235): what may
become of `b`. -/
def Boot.MayBe (b' b : Boot) (cycling : Bool) : Prop :=
  (cycling = true → b' = b) ∧ (b'.step = b.step ∨ b'.step = .stopped ∧ b.step.firmware = true)

@[simp] theorem Boot.MayBe.refl (b : Boot) (cycling : Bool) : b.MayBe b cycling := ⟨fun _ => rfl, .inl rfl⟩

theorem Boot.MayBe.trans {cycling : Bool} {a b c : Boot} (h : b.MayBe a cycling) (h' : c.MayBe b cycling) : c.MayBe a cycling := by
  obtain ⟨hab, hs⟩ := h
  obtain ⟨hbc, hs'⟩ := h'
  refine ⟨fun h => (hbc h).trans (hab h), ?_⟩
  grind [BootStep.firmware]

/-- What an operation that leads from `s` to `t` leaves alone: every part but those named. -/
@[simp] abbrev State.Frame (s t : State)
    (rt passing power clock boot otp passes le xch field glint counters analog lib images store dict zop mirror modbus service ledger
      freeCount : Prop → Prop → Prop → Prop → Prop := Kept) : Prop :=
  rt (t.rt = s.rt) (State.SameRun s t) (State.SamePhase s t) <|
  passing (t.rt.passesRunning = s.rt.passesRunning) True True <|
  power (t.power = s.power) (t.power.logicOn = s.power.logicOn ∧ t.power.gateClosed = s.power.gateClosed)
    (t.power.logicOn = s.power.logicOn) <|
  clock (t.clock = s.clock) (t.clock.localTicks = s.clock.localTicks ∧ t.clock.net = s.clock.net)
    (t.clock.localTicks = s.clock.localTicks) <|
  boot (t.boot = s.boot) (t.boot.step = s.boot.step) (t.boot.MayBe s.boot s.rt.cycling) <|
  otp (t.otp = s.otp) True True <| passes (t.passes = s.passes) True True <| le (t.le = s.le) True True <|
  xch (t.xch = s.xch) True True <| field (t.field = s.field) True True <| glint (t.glint = s.glint) True True <|
  counters (t.counters = s.counters) True True <| analog (t.analog = s.analog) True True <| lib (t.lib = s.lib) True True <|
  images (t.images = s.images) True True <| store (t.store = s.store) True True <| dict (t.dict = s.dict) True True <|
  zop (t.zop = s.zop) True True <| mirror (t.mirror = s.mirror) True True <| modbus (t.modbus = s.modbus) True True <|
  service (t.service = s.service) True True <| ledger (t.ledger = s.ledger) True True <|
  freeCount (t.freeCount = s.freeCount) True True <|
  t.pending = s.pending

/-! ### Machine/Ops.lean -/

@[simp] theorem State.requestRecord_frame (r : StoreRecord) (s : State) : State.Frame s (s.requestRecord r) (store := Free) := by
  simp [State.requestRecord]

@[simp] theorem State.persist_frame (key size value : Nat) (s : State) : State.Frame s (s.persist key size value) (store := Free) := by
  simp [State.persist]

@[simp] theorem State.persistLatch_frame (s : State) : State.Frame s s.persistLatch (store := Free) := by
  simp [State.persistLatch]

@[simp] theorem State.dropEvent_frame (s : State) : State.Frame s s.dropEvent (store := Free) := by
  simp [State.dropEvent]

@[simp] theorem State.storeEvent_frame (r : EventRecord) (s : State) : State.Frame s (s.storeEvent r) (store := Free) := by
  simp [State.storeEvent]

@[simp] theorem State.enterRecord_frame (r : EventRecord) (s : State) :
    State.Frame s (s.enterRecord r).1 (store := Free) (ledger := Free) := by
  simp [State.enterRecord]

@[simp] theorem State.selfRecord_frame (code interval : Nat) (s : State) :
    State.Frame s (s.selfRecord code interval) (store := Free) (ledger := Free) := by
  unfold State.selfRecord
  split <;> simp

@[simp] theorem State.afterEntry_frame (e : EntryResult) (s : State) :
    State.Frame s (s.afterEntry e) (store := Free) (ledger := Free) := by
  simp [State.afterEntry]

@[simp] theorem State.logRecord_frame (r : EventRecord) (s : State) : State.Frame s (s.logRecord r) (store := Free) (ledger := Free) := by
  simp [State.logRecord]

@[simp] theorem State.eventAt_frame (code : Nat) (time : Instant) (data : List Byte) (s : State) :
    State.Frame s (s.eventAt code time data) (store := Free) (ledger := Free) := by
  simp [State.eventAt]

@[simp] theorem State.event_frame (code : Nat) (data : List Byte) (s : State) :
    State.Frame s (s.event code data) (store := Free) (ledger := Free) := by
  simp [State.event]

@[simp] theorem State.eventLimited_frame (code key interval : Nat) (data : List Byte) (s : State) :
    State.Frame s (s.eventLimited code key interval data) (store := Free) (ledger := Free) := by
  unfold State.eventLimited
  split <;> simp

@[simp] theorem State.detectAt_frame (cause : Nat) (cls : FaultClass) (time : Instant) (data : List Byte) (s : State) :
    State.Frame s (s.detectAt cause cls time data) (rt := Partly) := by
  simp [State.detectAt]

@[simp] theorem State.detect_frame (cause : Nat) (cls : FaultClass) (s : State) : State.Frame s (s.detect cause cls) (rt := Partly) := by
  simp [State.detect]

@[simp] theorem State.detectOnce_frame (cause : Nat) (cls : FaultClass) (s : State) :
    State.Frame s (s.detectOnce cause cls) (rt := Partly) := by
  simp [State.detectOnce]

@[simp] theorem State.raise_frame (cause : Nat) (s : State) : State.Frame s (s.raise cause) (rt := Partly) := by
  simp [State.raise]

@[simp] theorem State.clearCause_frame (cause : Nat) (s : State) : State.Frame s (s.clearCause cause) (rt := Partly) := by
  simp [State.clearCause]

@[simp] theorem State.recoverable_frame (cause : Nat) (data : List Byte) (s : State) :
    State.Frame s (s.recoverable cause data) (rt := Partly) := by
  simp [State.recoverable]

@[simp] theorem State.drawFree_frame (s : State) : State.Frame s s.drawFree.2 (freeCount := Free) := by
  simp [State.drawFree]

@[simp] theorem State.freeBytes_frame (n : Nat) (s : State) : State.Frame s (s.freeBytes n).2 (freeCount := Free) := by
  simp [State.freeBytes]

/-! ### Machine/Field.lean -/

@[simp] theorem State.modCh_frame (n : Nat) (f : Channel → Channel) (s : State) : State.Frame s (s.modCh n f) (field := Free) := by
  simp [State.modCh]

@[simp] theorem State.modBank_frame (b : Nat) (f : Bank → Bank) (s : State) : State.Frame s (s.modBank b f) (field := Free) := by
  simp [State.modBank]

@[simp] theorem State.refreshDrivers_frame (exempt : List Nat) (s : State) :
    State.Frame s (s.refreshDrivers exempt) (field := Free) (ledger := Free) := by
  simp [State.refreshDrivers]

@[simp] theorem State.command_frame (n : Nat) (v : Bool) (s : State) : State.Frame s (s.command n v) (field := Free) := by
  simp [State.command]

@[simp] theorem State.placeSafe_frame (s : State) : State.Frame s s.placeSafe (field := Free) := by
  simp [State.placeSafe]

@[simp] theorem State.closeBank_frame (b : Nat) (s : State) : State.Frame s (s.closeBank b) (field := Free) := by
  simp [State.closeBank]

@[simp] theorem State.openBank_frame (b : Nat) (s : State) : State.Frame s (s.openBank b) (field := Free) := by
  simp [State.openBank]

@[simp] theorem State.openSafetyBanks_frame (s : State) : State.Frame s s.openSafetyBanks (field := Free) := by
  simp [State.openSafetyBanks]

@[simp] theorem State.openAllBanks_frame (s : State) : State.Frame s s.openAllBanks (field := Free) := by
  simp [State.openAllBanks]

@[simp] theorem State.setBanks_frame (s : State) : State.Frame s s.setBanks (field := Free) := by
  simp [State.setBanks]

@[simp] theorem State.stopToken_frame (s : State) : State.Frame s s.stopToken (mirror := Free) := by
  simp [State.stopToken]

@[simp] theorem State.breakPulse_frame (s : State) : State.Frame s s.breakPulse (glint := Free) := by
  simp [State.breakPulse]

@[simp] theorem State.iosSafeState_frame (s : State) :
    State.Frame s s.iosSafeState (field := Free) (glint := Free) (mirror := Free) (ledger := Free) := by
  simp [State.iosSafeState]

@[simp] theorem State.outputsOff_frame (s : State) :
    State.Frame s s.outputsOff (field := Free) (glint := Free) (mirror := Free) (ledger := Free) := by
  simp [State.outputsOff]

@[simp] theorem State.holdChannel_frame (n : Nat) (s : State) : State.Frame s (s.holdChannel n) (field := Free) := by
  simp [State.holdChannel]

@[simp] theorem State.channelOn_frame (n : Nat) (s : State) : State.Frame s (s.channelOn n) (field := Free) := by
  simp [State.channelOn]

@[simp] theorem State.clearInput_frame (i : Nat) (s : State) : State.Frame s (s.clearInput i) (le := Free) := by
  simp [State.clearInput]

@[simp] theorem State.channelOff_frame (n : Nat) (s : State) : State.Frame s (s.channelOff n) (le := Free) (field := Free) := by
  simp [State.channelOff]

@[simp] theorem State.supplyReturns_frame (supply : Nat) (s : State) :
    State.Frame s (s.supplyReturns supply) (field := Free) (counters := Free) := by
  simp [State.supplyReturns]

@[simp] theorem State.supplyFails_frame (supply : Nat) (s : State) : State.Frame s (s.supplyFails supply) (field := Free) := by
  unfold State.supplyFails
  exact foldl_frame (fun s t => State.Frame s t (field := Free)) (by simp) (by grind) _ (fun t i => by simp) _ _

@[simp] theorem State.outputPin_frame (n mv : Nat) (s : State) : State.Frame s (s.outputPin n mv) (field := Free) := by
  simp [State.outputPin]

@[simp] theorem State.freezeChannel_frame (tk mv n : Nat) (s : State) : State.Frame s (s.freezeChannel tk mv n) (field := Free) := by
  simp [State.freezeChannel]

@[simp] theorem State.freezeBank_frame (railHigh railLow : BitVec 4) (b : Nat) (s : State) :
    State.Frame s (s.freezeBank railHigh railLow b) (field := Free) := by
  simp [State.freezeBank]

@[simp] theorem State.supplyChanges_frame (supply : Nat) (was is : Bool) (s : State) :
    State.Frame s (s.supplyChanges supply was is) (field := Free) (counters := Free) := by
  simp [State.supplyChanges]

@[simp] theorem State.compareSupplies_frame (fs1Mv fs2Mv : Nat) (s : State) :
    State.Frame s (s.compareSupplies fs1Mv fs2Mv) (power := Partly) (field := Free) (counters := Free) (ledger := Free) := by
  simp [State.compareSupplies]

/-! ### Machine/Glint.lean -/

@[simp] theorem State.glintPre_frame (raw readback : BitVec 32) (s : State) :
    State.Frame s (s.glintPre raw readback) (glint := Free) := by
  unfold State.glintPre
  split <;> simp

@[simp] theorem State.blankInputs_frame (c : Nat) (pre : BitVec 32) (s : State) :
    State.Frame s (s.blankInputs c pre) (field := Free) := by
  simp [State.blankInputs]

@[simp] theorem State.glintStart_frame (s : State) : State.Frame s s.glintStart (field := Free) (glint := Free) (ledger := Free) := by
  unfold State.glintStart
  split <;> simp

@[simp] theorem State.testVerdict_frame (code : Nat) (pre raw : BitVec 32) (n : Nat) (s : State) :
    State.Frame s (s.testVerdict code pre raw n) (glint := Free) := by
  simp [State.testVerdict]

@[simp] theorem State.sourceVerdict_frame (readback : BitVec 32) (n : Nat) (s : State) :
    State.Frame s (s.sourceVerdict readback n) (field := Free) (glint := Free) (store := Free) (ledger := Free) := by
  unfold State.sourceVerdict
  split <;> simp

@[simp] theorem State.glintTest_frame (raw readback : BitVec 32) (s : State) :
    State.Frame s (s.glintTest raw readback) (field := Free) (glint := Free) (store := Free) (ledger := Free) := by
  unfold State.glintTest
  split <;> simp

@[simp] theorem State.glintFault_frame (cause n : Nat) (s : State) : State.Frame s (s.glintFault cause n) (glint := Free) := by
  simp [State.glintFault]

@[simp] theorem State.glintEnd_frame (s : State) : State.Frame s s.glintEnd (field := Free) (glint := Free) (ledger := Free) := by
  unfold State.glintEnd
  split <;> simp

@[simp] theorem State.glintPost_frame (raw readback : BitVec 32) (s : State) :
    State.Frame s (s.glintPost raw readback) (field := Free) (glint := Free) (store := Free) (ledger := Free) := by
  unfold State.glintPost
  split <;> simp

@[simp] theorem State.holdCounter_frame (n : Nat) (s : State) : State.Frame s (s.holdCounter n) (counters := Free) := by
  simp [State.holdCounter]

@[simp] theorem State.countChange_frame (n mv : Nat) (s : State) :
    State.Frame s (s.countChange n mv) (field := Free) (counters := Free) (store := Free) (ledger := Free) (freeCount := Free) := by
  unfold State.countChange
  dsimp only
  (repeat' split) <;> simp

@[simp] theorem State.countTimeout_frame (n : Nat) (s : State) : State.Frame s (s.countTimeout n) (counters := Free) := by
  simp [State.countTimeout]

@[simp] theorem State.inputChange_frame (n mv : Nat) (s : State) : State.Frame s (s.inputChange n mv) (field := Free) := by
  simp [State.inputChange]

@[simp] theorem State.recompare_frame (n : Nat) (s : State) :
    State.Frame s (s.recompare n) (field := Free) (counters := Free) (store := Free) (ledger := Free) (freeCount := Free) := by
  simp [State.recompare]

@[simp] theorem State.filterElapsed_frame (n : Nat) (s : State) : State.Frame s (s.filterElapsed n) (field := Free) := by
  simp [State.filterElapsed]

/-! ### Machine/Passes.lean -/

@[simp] theorem State.restartWindow_frame (s : State) : State.Frame s s.restartWindow (passes := Free) := by
  simp [State.restartWindow]

@[simp] theorem State.faultLine_frame (s : State) :
    State.Frame s s.faultLine (rt := Partly) (passing := Free) (field := Free) (glint := Free) (mirror := Free) (ledger := Free) := by
  unfold State.faultLine
  simp

@[simp] theorem State.lineFault_frame (cause : Nat) (data : List Byte) (s : State) :
    State.Frame s (s.lineFault cause data) (rt := Partly) (passing := Free) (boot := Barely) (field := Free) (glint := Free)
      (mirror := Free) (ledger := Free) := by
  unfold State.lineFault
  split
  · simp
  · split <;> simp_all [Boot.MayBe, BootStep.firmware]

@[simp] theorem State.passFault_frame (cause address : Nat) (s : State) :
    State.Frame s (s.passFault cause address) (rt := Partly) (passing := Free) (boot := Barely) (passes := Free) (field := Free)
      (glint := Free) (mirror := Free) (ledger := Free) := by
  simp [State.passFault]

/-! ### Machine/Areas.lean -/

@[simp] theorem State.writeInputs_frame (s : State) : State.Frame s s.writeInputs (le := Free) := by
  simp [State.writeInputs]

@[simp] theorem State.moveInputs_frame (d : Int) (s : State) : State.Frame s (s.moveInputs d) (le := Free) := by
  simp [State.moveInputs]

@[simp] theorem State.storeNative_frame (s : State) (w : Nat × BitVec 32) : State.Frame s (State.storeNative s w) (le := Free) := by
  unfold State.storeNative
  split <;> simp

@[simp] theorem State.storeCoded_frame (s : State) (w : Nat × BitVec 64) : State.Frame s (State.storeCoded s w) (le := Free) := by
  unfold State.storeCoded
  split <;> simp

@[simp] theorem State.putSlotByte_frame (slot off base : Nat) (b : Byte) (s : State) :
    State.Frame s (s.putSlotByte slot off base b) (le := Free) (ledger := Free) := by
  simp [State.putSlotByte]

@[simp] theorem State.putAreaByte_frame (coded : Bool) (off k : Nat) (b : Byte) (s : State) :
    State.Frame s (s.putAreaByte coded off k b) (le := Free) := by
  simp [State.putAreaByte]

@[simp] theorem State.putRam_frame (addr : Nat) (bytes : List Byte) (s : State) :
    State.Frame s (s.putRam addr bytes) (le := Free) (ledger := Free) := by
  unfold State.putRam
  split
  · simp
  · refine foldl_frame (fun s t => State.Frame s t (le := Free) (ledger := Free)) (by simp) (by grind) _ (fun t i => ?_) _ _
    dsimp only
    (repeat' split) <;> simp

/-! ### Machine/Fuses.lean -/

@[simp] theorem State.senseFuses_frame (s : State) : State.Frame s s.senseFuses (otp := Free) (freeCount := Free) := by
  simp [State.senseFuses]

@[simp] theorem State.bootCause_frame (cause : Nat) (recoverable : Bool) (s : State) :
    State.Frame s (s.bootCause cause recoverable) (rt := Partly) (store := Free) (ledger := Free) := by
  simp [State.bootCause]

@[simp] theorem State.bootCauseIf_frame (b : Bool) (cause : Nat) (recoverable : Bool) (s : State) :
    State.Frame s (s.bootCauseIf b cause recoverable) (rt := Partly) (store := Free) (ledger := Free) := by
  simp [State.bootCauseIf]

@[simp] theorem State.otpRead_frame (s : State) :
    State.Frame s s.otpRead (rt := Partly) (power := Partly) (clock := Partly) (boot := Partly) (otp := Free) (store := Free)
      (ledger := Free) (freeCount := Free) := by
  simp [State.otpRead]

@[simp] theorem State.abortBurn_frame (cut : Bool) (s : State) : State.Frame s (s.abortBurn cut) (otp := Free) (freeCount := Free) := by
  unfold State.abortBurn
  split <;> simp

/-! ### Machine/Store.lean -/

@[simp] theorem State.readTorn_frame (s : State) : State.Frame s s.readTorn (store := Free) (freeCount := Free) := by
  simp [State.readTorn]

@[simp] theorem State.persistCredits_frame (s : State) : State.Frame s s.persistCredits (store := Free) (ledger := Free) := by
  simp [State.persistCredits]

@[simp] theorem State.checkUsable_frame (a : Area) (s : State) : State.Frame s (s.checkUsable a) (rt := Partly) (store := Free) := by
  simp [State.checkUsable]

@[simp] theorem State.retire_frame (sec : Nat) (s : State) : State.Frame s (s.retire sec) (rt := Partly) (store := Free) := by
  simp [State.retire]

@[simp] theorem State.requestCopies_frame (sec : Nat) (s : State) : State.Frame s (s.requestCopies sec) (store := Free) := by
  simp [State.requestCopies]

@[simp] theorem State.startReclaim_frame (a : Area) (s : State) : State.Frame s (s.startReclaim a) (store := Free) := by
  unfold State.startReclaim
  dsimp only
  (repeat' split) <;> simp

@[simp] theorem State.finishRetiring_frame (a : Area) (s : State) :
    State.Frame s (s.finishRetiring a) (rt := Partly) (store := Free) := by
  simp [State.finishRetiring]

@[simp] theorem State.startErase_frame (a : Area) (s : State) :
    State.Frame s (s.startErase a) (rt := Partly) (store := Free) (ledger := Free) := by
  unfold State.startErase
  split <;> simp

@[simp] theorem State.startErases_frame (s : State) : State.Frame s s.startErases (rt := Partly) (store := Free) (ledger := Free) := by
  simp [State.startErases]

@[simp] theorem State.housekeep_frame (s : State) : State.Frame s s.housekeep (rt := Partly) (store := Free) (ledger := Free) := by
  simp [State.housekeep]

@[simp] theorem State.programFlash_frame (addr : Nat) (data : List Byte) (s : State) :
    State.Frame s (s.programFlash addr data) (le := Free) (store := Free) := by
  simp [State.programFlash]

@[simp] theorem State.programDeferred_frame (s : State) : State.Frame s s.programDeferred (le := Free) (store := Free) := by
  simp [State.programDeferred]

@[simp] theorem State.recordDone_frame (s : State) : State.Frame s s.recordDone (le := Free) (store := Free) := by
  simp [State.recordDone]

@[simp] theorem State.abandonRecord_frame (cut : Bool) (s : State) :
    State.Frame s (s.abandonRecord cut) (store := Free) (freeCount := Free) := by
  unfold State.abandonRecord
  dsimp only
  (repeat' split) <;> simp

@[simp] theorem State.abandonErase_frame (s : State) : State.Frame s s.abandonErase (store := Free) (freeCount := Free) := by
  unfold State.abandonErase
  dsimp only
  (repeat' split) <;> simp

@[simp] theorem State.noteCommit_frame (r : StoreRecord) (s : State) :
    State.Frame s (s.noteCommit r) (rt := Partly) (boot := Partly) (store := Free) (ledger := Free) := by
  unfold State.noteCommit
  dsimp only
  (repeat' split) <;> simp

@[simp] theorem State.commitRecord_frame (readBackOk : Bool) (s : State) :
    State.Frame s (s.commitRecord readBackOk) (rt := Partly) (boot := Partly) (le := Free) (store := Free) (ledger := Free)
      (freeCount := Free) := by
  unfold State.commitRecord
  dsimp only
  (repeat' split) <;> simp

@[simp] theorem State.eraseComplete_frame (verifyOk : Bool) (s : State) :
    State.Frame s (s.eraseComplete verifyOk) (rt := Partly) (store := Free) (ledger := Free) := by
  unfold State.eraseComplete
  split <;> simp

@[simp] theorem State.accrue_frame (a : Area) (s : State) : State.Frame s (s.accrue a) (store := Free) := by
  simp [State.accrue]

@[simp] theorem State.closeGate_frame (s : State) : State.Frame s s.closeGate (power := Barely) (store := Free) (freeCount := Free) := by
  simp [State.closeGate]

@[simp] theorem State.openGate_frame (s : State) : State.Frame s s.openGate (power := Barely) (le := Free) (store := Free) := by
  simp [State.openGate]

/-! ### Machine/Reset.lean -/

@[simp] theorem State.countSeconds_frame (s : State) : State.Frame s s.countSeconds (ledger := Free) := by
  simp [State.countSeconds]

@[simp] theorem State.charge_frame (s : State) : State.Frame s s.charge (power := Partly) := by
  simp [State.charge]

@[simp] theorem State.storeAt_frame (mv : Nat) (s : State) : State.Frame s (s.storeAt mv) (power := Partly) := by
  simp [State.storeAt]

@[simp] theorem State.interruptedSave_frame (s : State) : State.Frame s s.interruptedSave (boot := Partly) := by
  unfold State.interruptedSave
  split <;> simp

@[simp] theorem State.bootPower_frame (s : State) : State.Frame s s.bootPower (power := Partly) := by
  simp [State.bootPower]

@[simp] theorem State.bistPower_frame (s : State) : State.Frame s s.bistPower (power := Partly) := by
  unfold State.bistPower
  split <;> simp

@[simp] theorem State.recordDetected_frame (s : State) : State.Frame s s.recordDetected (store := Free) (ledger := Free) := by
  simp [State.recordDetected]

@[simp] theorem State.pendCause_frame (cause : Nat) (s : State) : State.Frame s (s.pendCause cause) (boot := Partly) := by
  simp [State.pendCause]

/-! ### Machine/Transmit.lean -/

@[simp] theorem State.sendOn_frame (ch : CanChannel) (id : Nat) (data : List Byte) (s : State) :
    State.Frame s (s.sendOn ch id data) (zop := Free) := by
  unfold State.sendOn
  split <;> simp

@[simp] theorem State.send_frame (id : Nat) (data : List Byte) (s : State) : State.Frame s (s.send id data) (zop := Free) := by
  simp [State.send]

@[simp] theorem State.transmitOne_frame (s : State) : State.Frame s s.transmitOne (clock := Partly) (zop := Free) := by
  simp [State.transmitOne]

/-! ### Machine/Clock.lean -/

@[simp] theorem State.noteCounts_frame (c : ClockCounts) (ok : Bool) (s : State) :
    State.Frame s (s.noteCounts c ok) (clock := Partly) := by
  simp [State.noteCounts]

@[simp] theorem State.pauseWatchdog_frame (s : State) : State.Frame s s.pauseWatchdog (boot := Partly) := by
  unfold State.pauseWatchdog
  split <;> simp

@[simp] theorem State.resumeWatchdog_frame (s : State) : State.Frame s s.resumeWatchdog (boot := Partly) := by
  simp [State.resumeWatchdog]

@[simp] theorem State.lockFails_frame (cause : Nat) (s : State) : State.Frame s (s.lockFails cause) (clock := Partly) (boot := Free) := by
  simp [State.lockFails]

@[simp] theorem State.pllLocks_frame (lockUs : Nat) (c : ClockCounts) (s : State) :
    State.Frame s (s.pllLocks lockUs c) (power := Partly) (clock := Partly) (boot := Free) := by
  simp [State.pllLocks]

@[simp] theorem State.lockTimeout_frame (s : State) : State.Frame s s.lockTimeout (power := Partly) (clock := Partly) (boot := Free) := by
  simp [State.lockTimeout]

@[simp] theorem State.lockRetry_frame (s : State) : State.Frame s s.lockRetry (power := Partly) (boot := Free) := by
  simp [State.lockRetry]

@[simp] theorem State.setRho_frame (rho : Int) (s : State) : State.Frame s (s.setRho rho) (clock := Partly) := by
  simp [State.setRho]

@[simp] theorem State.rhoIsR_frame (s : State) : State.Frame s s.rhoIsR (clock := Partly) := by
  simp [State.rhoIsR]

@[simp] theorem State.slew_frame (e : Int) (inst : Instant) (s : State) : State.Frame s (s.slew e inst) (clock := Partly) := by
  simp [State.slew]

@[simp] theorem State.applyOffset_frame (e : Int) (inst : Instant) (s : State) :
    State.Frame s (s.applyOffset e inst) (clock := Partly) := by
  simp [State.applyOffset]

@[simp] theorem State.becomeFree_frame (s : State) : State.Frame s s.becomeFree (rt := Partly) (clock := Partly) := by
  simp [State.becomeFree]

@[simp] theorem State.becomeLocked_frame (e : Int) (s : State) : State.Frame s (s.becomeLocked e) (clock := Partly) := by
  simp [State.becomeLocked]

@[simp] theorem State.acceptRound_frame (e : Int) (inst : Instant) (s : State) :
    State.Frame s (s.acceptRound e inst) (clock := Partly) := by
  simp [State.acceptRound]

@[simp] theorem State.noteOffset_frame (e : Int) (s : State) : State.Frame s (s.noteOffset e) (clock := Partly) := by
  simp [State.noteOffset]

@[simp] theorem State.roundOffset_frame (e : Int) (inst : Instant) (demoted : Bool) (s : State) :
    State.Frame s (s.roundOffset e inst demoted) (clock := Partly) := by
  unfold State.roundOffset
  dsimp only
  (repeat' split) <;> simp

@[simp] theorem State.roundStart_frame (s : State) : State.Frame s s.roundStart (clock := Partly) (zop := Free) := by
  simp [State.roundStart]

@[simp] theorem State.followUpSend_frame (missedA missedB : Bool) (s : State) :
    State.Frame s (s.followUpSend missedA missedB) (clock := Partly) (zop := Free) := by
  unfold State.followUpSend
  split <;> simp

@[simp] theorem State.syncFrame_frame (ch : CanChannel) (master priority round : Nat) (s : State) :
    State.Frame s (s.syncFrame ch master priority round) (clock := Partly) := by
  simp [State.syncFrame]

@[simp] theorem State.hearRound_frame (master priority : Nat) (inst : Instant) (s : State) :
    State.Frame s (s.hearRound master priority inst) (clock := Partly) := by
  simp [State.hearRound]

@[simp] theorem State.yieldMaster_frame (s : State) : State.Frame s s.yieldMaster (clock := Partly) := by
  simp [State.yieldMaster]

@[simp] theorem State.followUpFrame_frame (master : Nat) (validA validB : Bool) (round ma mb : Nat) (s : State) :
    State.Frame s (s.followUpFrame master validA validB round ma mb) (clock := Partly) := by
  unfold State.followUpFrame
  dsimp only
  (repeat' split) <;> simp

@[simp] theorem State.noRound_frame (s : State) : State.Frame s s.noRound (clock := Partly) := by
  unfold State.noRound
  split <;> simp

@[simp] theorem State.roundTimeout_frame (s : State) : State.Frame s s.roundTimeout (rt := Partly) (clock := Partly) := by
  unfold State.roundTimeout
  (repeat' split) <;> simp

@[simp] theorem State.holdoverExpiry_frame (s : State) : State.Frame s s.holdoverExpiry (rt := Partly) (clock := Partly) := by
  simp [State.holdoverExpiry]

@[simp] theorem State.masterTimeout_frame (s : State) : State.Frame s s.masterTimeout (clock := Partly) := by
  simp [State.masterTimeout]

@[simp] theorem State.rateHold_frame (s : State) : State.Frame s s.rateHold (rt := Partly) := by
  unfold State.rateHold
  split <;> simp

@[simp] theorem State.moveTimes_frame (d : Int) (s : State) :
    State.Frame s (s.moveTimes d) (rt := Barely) (clock := Partly) (xch := Free) (field := Free) (glint := Free) (counters := Free)
      (analog := Free) (lib := Free) (zop := Free) (mirror := Free) (service := Free) := by
  simp [State.moveTimes]

@[simp] theorem State.syncAfterStep_frame (s : State) : State.Frame s s.syncAfterStep (analog := Free) := by
  simp [State.syncAfterStep]

@[simp] theorem State.applyStep_frame (s : State) :
    State.Frame s s.applyStep (rt := Barely) (clock := Barely) (le := Free) (xch := Free) (field := Free) (glint := Free)
      (counters := Free) (analog := Free) (lib := Free) (zop := Free) (mirror := Free) (service := Free) := by
  unfold State.applyStep
  split <;> simp

@[simp] theorem State.stepAtBoundary_frame (s : State) :
    State.Frame s s.stepAtBoundary (rt := Barely) (clock := Barely) (le := Free) (xch := Free) (field := Free) (glint := Free)
      (counters := Free) (analog := Free) (lib := Free) (zop := Free) (mirror := Free) (service := Free) := by
  unfold State.stepAtBoundary
  split <;> simp

@[simp] theorem State.timeStep_frame (s : State) :
    State.Frame s s.timeStep (rt := Barely) (clock := Barely) (le := Free) (xch := Free) (field := Free) (glint := Free)
      (counters := Free) (analog := Free) (lib := Free) (zop := Free) (mirror := Free) (service := Free) := by
  simp [State.timeStep]

/-! ### Machine/Analog.lean -/

@[simp] theorem State.useTrim_frame (s : State) : State.Frame s s.useTrim (power := Partly) (clock := Partly) (analog := Free) := by
  simp [State.useTrim]

@[simp] theorem State.modPair_frame (p : Nat) (f : Pair → Pair) (s : State) : State.Frame s (s.modPair p f) (analog := Free) := by
  simp [State.modPair]

@[simp] theorem State.holdPair_frame (p : Nat) (t : Instant) (s : State) : State.Frame s (s.holdPair p t) (analog := Free) := by
  simp [State.holdPair]

@[simp] theorem State.sampleChannel_frame (p : Nat) (chanB valid : Bool) (raw : Int) (s : State) :
    State.Frame s (s.sampleChannel p chanB valid raw) (analog := Free) (freeCount := Free) := by
  unfold State.sampleChannel
  dsimp only
  (repeat' split) <;> simp

@[simp] theorem State.modSide_frame (p : Nat) (chanB : Bool) (f : AnChannel → AnChannel) (s : State) :
    State.Frame s (s.modSide p chanB f) (analog := Free) := by
  simp [State.modSide]

@[simp] theorem State.analogCause_frame (cause : Nat) (cls : FaultClass) (channel : Nat) (s : State) :
    State.Frame s (s.analogCause cause cls channel) (analog := Free) := by
  simp [State.analogCause]

@[simp] theorem State.checkBits_frame (p : Nat) (emitted : BitRun) (s : State) :
    State.Frame s (s.checkBits p emitted) (field := Free) (glint := Free) (analog := Free) (mirror := Free) (ledger := Free) := by
  simp [State.checkBits]

@[simp] theorem State.feedSide_frame (p r : Nat) (chanB : Bool) (bits : Option (List Bool)) (s : State) :
    State.Frame s (s.feedSide p r chanB bits) (field := Free) (glint := Free) (analog := Free) (mirror := Free) (ledger := Free) := by
  unfold State.feedSide
  split <;> simp

@[simp] theorem State.sampleComplete_frame (p : Nat) (bitsA bitsB : Option (List Bool)) (s : State) :
    State.Frame s (s.sampleComplete p bitsA bitsB) (field := Free) (glint := Free) (analog := Free) (mirror := Free) (ledger := Free)
      (freeCount := Free) := by
  simp [State.sampleComplete]

@[simp] theorem State.disagreement_frame (p : Nat) (s : State) : State.Frame s (s.disagreement p) (rt := Partly) (analog := Free) := by
  unfold State.disagreement
  dsimp only
  (repeat' split) <;> simp

@[simp] theorem State.requestSync_frame (p : Nat) (s : State) : State.Frame s (s.requestSync p) (analog := Free) := by
  simp [State.requestSync]

@[simp] theorem State.requestSyncs_frame (value : Nat) (s : State) : State.Frame s (s.requestSyncs value) (analog := Free) := by
  simp [State.requestSyncs]

@[simp] theorem State.pairOn_frame (p : Nat) (s : State) : State.Frame s (s.pairOn p) (analog := Free) := by
  simp [State.pairOn]

@[simp] theorem State.pairOff_frame (p : Nat) (s : State) : State.Frame s (s.pairOff p) (rt := Partly) (analog := Free) := by
  simp [State.pairOff]

@[simp] theorem State.applyRatio_frame (p : Nat) (s : State) : State.Frame s (s.applyRatio p) (analog := Free) := by
  simp [State.applyRatio]

@[simp] theorem State.syncReset_frame (p : Nat) (s : State) : State.Frame s (s.syncReset p) (analog := Free) := by
  unfold State.syncReset
  split <;> simp

@[simp] theorem State.freezePair_frame (refBad : BitVec 2) (p : Nat) (s : State) :
    State.Frame s (s.freezePair refBad p) (field := Free) (glint := Free) (analog := Free) (mirror := Free) (ledger := Free)
      (freeCount := Free) := by
  unfold State.freezePair
  dsimp only
  (repeat' split) <;> simp

@[simp] theorem State.clearDisagreements_frame (s : State) : State.Frame s s.clearDisagreements (rt := Partly) (analog := Free) := by
  simp [State.clearDisagreements]

@[simp] theorem State.freezeAnalog_frame (ref1 ref2 bandgap : Nat) (s : State) :
    State.Frame s (s.freezeAnalog ref1 ref2 bandgap) (rt := Partly) (field := Free) (glint := Free) (analog := Free) (mirror := Free)
      (ledger := Free) (freeCount := Free) := by
  simp [State.freezeAnalog]

/-! ### Machine/Domains.lean -/

@[simp] theorem State.blockOff_frame (pd : Nat) (s : State) :
    State.Frame s (s.blockOff pd) (rt := Partly) (le := Free) (field := Free) (analog := Free) (mirror := Free) (modbus := Free) := by
  simp [State.blockOff]

@[simp] theorem State.applyDomains_frame (s : State) :
    State.Frame s s.applyDomains (rt := Partly) (power := Partly) (le := Free) (field := Free) (analog := Free) (mirror := Free)
      (modbus := Free) (ledger := Free) := by
  simp [State.applyDomains]

@[simp] theorem State.restartCounter_frame (n : Nat) (s : State) : State.Frame s (s.restartCounter n) (counters := Free) := by
  simp [State.restartCounter]

@[simp] theorem State.powerUp_frame (pd : Nat) (s : State) :
    State.Frame s (s.powerUp pd) (power := Partly) (field := Free) (counters := Free) (analog := Free) (mirror := Free) := by
  unfold State.powerUp
  dsimp only
  (repeat' split) <;> simp

@[simp] theorem State.compareDomains_frame (good : BitVec 56) (s : State) : State.Frame s (s.compareDomains good) (power := Partly) := by
  simp [State.compareDomains]

@[simp] theorem State.domainFault_frame (s : State) : State.Frame s s.domainFault (rt := Partly) := by
  simp [State.domainFault]

@[simp] theorem State.applyMode_frame (n : Nat) (s : State) : State.Frame s (s.applyMode n) (field := Free) (counters := Free) := by
  simp [State.applyMode]

@[simp] theorem State.placeState_frame (s : State) : State.Frame s s.placeState (field := Free) := by
  simp [State.placeState]

@[simp] theorem State.applyConfig_frame (s : State) :
    State.Frame s s.applyConfig (rt := Partly) (power := Partly) (le := Free) (field := Free) (counters := Free) (analog := Free)
      (store := Free) (mirror := Free) (modbus := Free) (ledger := Free) (freeCount := Free) := by
  simp [State.applyConfig]

/-! ### Machine/ImageFormat.lean -/

@[simp] theorem State.validateBank_frame (bank : Nat) (s : State) :
    State.Frame s (s.validateBank bank) (field := Free) (images := Free) (store := Free) (ledger := Free) := by
  simp [State.validateBank]

/-! ### Machine/Judge.lean -/

@[simp] theorem State.reject_frame (a : Access) (code detail : Nat) (s : State) :
    State.Frame s (s.reject a code detail) (otp := Free) (images := Free) (store := Free) (dict := Free) (ledger := Free) := by
  simp [State.reject]

@[simp] theorem State.accept_frame (a : Access) (s : State) : State.Frame s (s.accept a) (store := Free) (dict := Free) := by
  simp [State.accept]

@[simp] theorem State.refuse_frame (a : Access) (detail : Nat) (s : State) :
    State.Frame s (s.refuse a detail) (otp := Free) (images := Free) (store := Free) (dict := Free) (ledger := Free) := by
  simp [State.refuse]

@[simp] theorem State.enqueueWrite_frame (a : Access) (via : Option CanChannel) (reqSeq : Option Nat) (token code : Nat) (s : State)
    (instr : Option LogicInstr) :
    State.Frame s (State.enqueueWrite a via reqSeq token code s instr) (dict := Free) := by
  simp [State.enqueueWrite]

@[simp] theorem State.takeWrite_frame (a : Access) (via : Option CanChannel) (reqSeq : Option Nat) (s : State) (instr : Option LogicInstr)
    :
    State.Frame s (State.takeWrite a via reqSeq s instr) (otp := Free) (images := Free) (store := Free) (dict := Free) (ledger := Free) :=
      by
  unfold State.takeWrite
  (repeat' split) <;> simp

@[simp] theorem State.takeRow_frame (a : Access) (s : State) (instr : Option LogicInstr) :
    State.Frame s (State.takeRow a s instr) (otp := Free) (images := Free) (store := Free) (dict := Free) (ledger := Free) := by
  simp [State.takeRow, State.request]

/-! ### Machine/Mpu.lean -/

@[simp] theorem State.putArea_frame (coded : Bool) (off : Nat) (bytes : List Byte) (s : State) :
    State.Frame s (s.putArea coded off bytes) (le := Free) := by
  simp [State.putArea]

@[simp] theorem State.clearArea_frame (off n : Nat) (s : State) : State.Frame s (s.clearArea off n) (le := Free) := by
  simp [State.clearArea]

@[simp] theorem State.setTag_frame (g v : Nat) (s : State) : State.Frame s (s.setTag g v) (le := Free) := by
  simp [State.setTag]

@[simp] theorem State.setTags_frame (g n v : Nat) (s : State) : State.Frame s (s.setTags g n v) (le := Free) := by
  simp [State.setTags]

@[simp] theorem State.zeroGranules_frame (g n : Nat) (s : State) : State.Frame s (s.zeroGranules g n) (le := Free) := by
  simp [State.zeroGranules]

@[simp] theorem State.tagFirmware_frame (s : State) : State.Frame s s.tagFirmware (le := Free) := by
  simp [State.tagFirmware]

@[simp] theorem State.tagLogic_frame (stateBytes stackBytes : Nat) (s : State) :
    State.Frame s (s.tagLogic stateBytes stackBytes) (le := Free) := by
  simp [State.tagLogic]

@[simp] theorem State.violation_frame (addr info cause : Nat) (s : State) :
    State.Frame s (s.violation addr info cause) (rt := Partly) (passing := Free) (boot := Barely) (le := Free) (field := Free)
      (glint := Free) (mirror := Free) (ledger := Free) := by
  simp [State.violation]

@[simp] theorem State.mpuCheck_frame (kind : AccessKind) (addr width value : Nat) (s : State) :
    State.Frame s (s.mpuCheck kind addr width value).1 (rt := Partly) (passing := Free) (boot := Barely) (le := Free) (field := Free)
      (glint := Free) (mirror := Free) (ledger := Free) := by
  unfold State.mpuCheck
  split <;> simp

@[simp] theorem State.xchFault_frame (cause buffer : Nat) (s : State) :
    State.Frame s (s.xchFault cause buffer) (rt := Partly) (passing := Free) (boot := Barely) (xch := Free) (field := Free)
      (glint := Free) (mirror := Free) (ledger := Free) := by
  unfold State.xchFault
  split <;> simp

@[simp] theorem State.leAccess_frame (kind : AccessKind) (addr width data : Nat) (s : State) :
    State.Frame s (s.leAccess kind addr width data) (rt := Partly) (passing := Free) (boot := Barely) (le := Free) (xch := Free)
      (field := Free) (glint := Free) (mirror := Free) (ledger := Free) := by
  unfold State.leAccess
  (repeat' split) <;> simp

@[simp] theorem State.mpuAccess_frame (kind : AccessKind) (addr width data : Nat) (s : State) :
    State.Frame s (s.mpuAccess kind addr width data) (rt := Partly) (passing := Free) (boot := Barely) (le := Free) (xch := Free)
      (field := Free) (glint := Free) (mirror := Free) (ledger := Free) := by
  unfold State.mpuAccess
  split
  · simp
  · dsimp only
    split
    · have h := State.mpuCheck_frame kind (addr % 2 ^ 32) width data s
      have h' := State.leAccess_frame kind (addr % 2 ^ 32) width data (s.mpuCheck kind (addr % 2 ^ 32) width data).1
      grind [Boot.MayBe.trans]
    · simp

@[simp] theorem State.tagWriteInstr_frame (addr value : Nat) (s : State) :
    State.Frame s (s.tagWriteInstr addr value) (rt := Partly) (passing := Free) (boot := Barely) (le := Free) (xch := Free)
      (field := Free) (glint := Free) (mirror := Free) (ledger := Free) := by
  unfold State.tagWriteInstr
  split <;> simp

@[simp] theorem State.switchViolation_frame (cause : Nat) (s : State) :
    State.Frame s (s.switchViolation cause) (rt := Partly) (passing := Free) (boot := Barely) (le := Free) (field := Free) (glint := Free)
      (mirror := Free) (ledger := Free) (freeCount := Free) := by
  simp [State.switchViolation]

@[simp] theorem State.enterLogic_frame (s : State) :
    State.Frame s s.enterLogic (rt := Partly) (passing := Free) (boot := Barely) (le := Free) (field := Free) (glint := Free)
      (mirror := Free) (ledger := Free) (freeCount := Free) := by
  unfold State.enterLogic
  (repeat' split) <;> simp

@[simp] theorem State.leaveLogic_frame (s : State) :
    State.Frame s s.leaveLogic (rt := Partly) (passing := Free) (boot := Barely) (le := Free) (field := Free) (glint := Free)
      (mirror := Free) (ledger := Free) (freeCount := Free) := by
  unfold State.leaveLogic
  (repeat' split) <;> simp

@[simp] theorem State.exceptionSwitch_frame (isReturn : Bool) (s : State) : State.Frame s (s.exceptionSwitch isReturn) (le := Free) := by
  unfold State.exceptionSwitch
  (repeat' split) <;> simp

@[simp] theorem State.passAccess_frame (coded : Bool) (kind : AccessKind) (off : Nat) (s : State) :
    State.Frame s (s.passAccess coded kind off).1 (rt := Partly) (passing := Free) (boot := Barely) (le := Free) (field := Free)
      (glint := Free) (mirror := Free) (ledger := Free) := by
  simp [State.passAccess]

/-- What each of its steps keeps, a pass keeps, up to the step that stops it. -/
theorem runPass_frame {α : Type} {R : State → State → Prop} (hr : ∀ s, R s s) (ht : ∀ s t u, R s t → R t u → R s u)
    (step : α → State → State × Option PassStop) (h : ∀ a s, R s (step a s).1) (l : List α) (s : State) : R s (runPass step l s).1 := by
  induction l generalizing s with
  | nil => exact hr s
  | cons a l ih =>
    unfold runPass
    split <;> rename_i heq
    · simpa [heq] using h a s
    · exact ht _ _ _ (by simpa [heq] using h a s) (ih _)

theorem thenPass_frame {R : State → State → Prop} (ht : ∀ s t u, R s t → R t u → R s u) {s : State} {p : State × Option PassStop}
    (hp : R s p.1) (next : State → State × Option PassStop) (h : ∀ t, R t (next t).1) : R s (thenPass p next).1 := by
  unfold thenPass
  split
  · exact hp
  · exact ht _ _ _ hp (h _)

@[simp] theorem State.stopPass_frame (e : PassStop) (s : State) :
    State.Frame s (s.stopPass e) (rt := Partly) (passing := Free) (boot := Barely) (passes := Free) (field := Free) (glint := Free)
      (mirror := Free) (ledger := Free) := by
  unfold State.stopPass
  split <;> simp

@[simp] theorem State.passAccesses_frame (coded : Bool) (reads : List Nat) (dst : Nat) (s : State) :
    State.Frame s (s.passAccesses coded reads dst).1 (rt := Partly) (passing := Free) (boot := Barely) (le := Free) (field := Free)
      (glint := Free) (mirror := Free) (ledger := Free) := by
  exact runPass_frame (R := fun s t => State.Frame s t (rt := Partly) (passing := Free) (boot := Barely) (le := Free) (field := Free)
    (glint := Free) (mirror := Free) (ledger := Free)) (by simp) (by grind [Boot.MayBe.trans]) _ (by simp) _ _

@[simp] theorem State.plainStore_frame (fold : Bool) (off : Nat) (v : BitVec 32) (s : State) :
    State.Frame s (s.plainStore fold off v) (passes := Free) (le := Free) := by
  simp [State.plainStore]

@[simp] theorem State.shadowStore_frame (off : Nat) (t : WordType) (c : BitVec 64) (s : State) :
    State.Frame s (s.shadowStore off t c).1 (passes := Free) (le := Free) := by
  unfold State.shadowStore
  dsimp only
  (repeat' split) <;> simp

@[simp] theorem State.plainInstr_frame (fold : Bool) (i : LogicInstr) (s : State) :
    State.Frame s (s.plainInstr fold i).1 (rt := Partly) (passing := Free) (boot := Barely) (passes := Free) (le := Free) (field := Free)
      (glint := Free) (mirror := Free) (ledger := Free) := by
  unfold State.plainInstr
  have h := State.passAccesses_frame false ((instrReads i).map (·.1)) i.dst s
  split <;> rename_i heq <;> rw [heq] at h <;> simp_all

@[simp] theorem State.shadowInstr_frame (i : LogicInstr) (s : State) :
    State.Frame s (s.shadowInstr i).1 (rt := Partly) (passing := Free) (boot := Barely) (passes := Free) (le := Free) (field := Free)
      (glint := Free) (mirror := Free) (ledger := Free) := by
  unfold State.shadowInstr
  have h := State.passAccesses_frame true ((instrReads i).map (·.1)) i.dst s
  split <;> rename_i heq <;> rw [heq] at h
  · simp_all
  · dsimp only
    split <;> simp_all

@[simp] theorem State.plainWrite_frame (fold : Bool) (w : Nat × BitVec 32) (s : State) :
    State.Frame s (s.plainWrite fold w).1 (rt := Partly) (passing := Free) (boot := Barely) (passes := Free) (le := Free) (field := Free)
      (glint := Free) (mirror := Free) (ledger := Free) := by
  unfold State.plainWrite
  have h := State.passAccess_frame false .store w.1 s
  split <;> rename_i heq <;> rw [heq] at h
  · simp_all
  · simp_all

@[simp] theorem State.shadowWrite_frame (w : Nat × WordType × BitVec 64) (s : State) :
    State.Frame s (s.shadowWrite w).1 (rt := Partly) (passing := Free) (boot := Barely) (passes := Free) (le := Free) (field := Free)
      (glint := Free) (mirror := Free) (ledger := Free) := by
  unfold State.shadowWrite
  have h := State.passAccess_frame true .store w.1 s
  split <;> rename_i heq <;> rw [heq] at h
  · simp_all
  · simp_all

@[simp] theorem State.putStateNative_frame (s : State) : State.Frame s s.putStateNative (le := Free) := by
  simp [State.putStateNative]

@[simp] theorem State.putStateCoded_frame (s : State) : State.Frame s s.putStateCoded (le := Free) := by
  simp [State.putStateCoded]

@[simp] theorem State.plainBlocks_frame (slots : Nat → Bool) (s : State) :
    State.Frame s (s.plainBlocks slots) (passes := Free) (le := Free) := by
  simp [State.plainBlocks]

@[simp] theorem State.shadowBlocks_frame (slots : Nat → Bool) (s : State) :
    State.Frame s (s.shadowBlocks slots) (passes := Free) (le := Free) := by
  simp [State.shadowBlocks]

@[simp] theorem State.writeSets_frame (s : State) : State.Frame s s.writeSets (le := Free) := by
  simp [State.writeSets]

/-! ### Machine/Exchange.lean -/

@[simp] theorem State.modBuffer_frame (n : Nat) (f : Buffer → Buffer) (s : State) : State.Frame s (s.modBuffer n f) (xch := Free) := by
  simp [State.modBuffer]

@[simp] theorem State.accepted_frame (w : XchWaiting) (n : Nat) (what : XchPending) (s : State) :
    State.Frame s (s.accepted w n what) (xch := Free) := by
  simp [State.accepted]

@[simp] theorem State.processCommand_frame (w : XchWaiting) (s : State) : State.Frame s (s.processCommand w).1 (xch := Free) := by
  unfold State.processCommand
  split <;> simp

@[simp] theorem State.serveWaiting_frame (k : Nat) (s : State) : State.Frame s (State.serveWaiting k s) (xch := Free) := by
  induction k generalizing s with
  | zero => simp [State.serveWaiting]
  | succ k ih =>
    unfold State.serveWaiting
    dsimp only
    (repeat' split) <;> simp [ih]

@[simp] theorem State.takeBack_frame (c : Coincident) (s : State) : State.Frame s (s.takeBack c) (xch := Free) := by
  unfold State.takeBack
  split <;> simp

@[simp] theorem State.arbitrate_frame (c : Coincident) (w : XchWaiting) (s : State) : State.Frame s (s.arbitrate c w) (xch := Free) := by
  simp [State.arbitrate]

@[simp] theorem State.takeCommand_frame (w : XchWaiting) (s : State) : State.Frame s (s.takeCommand w) (xch := Free) := by
  simp [State.takeCommand]

@[simp] theorem State.issue_frame (w : XchWaiting) (s : State) : State.Frame s (s.issue w) (xch := Free) := by
  unfold State.issue
  dsimp only
  (repeat' split) <;> simp

@[simp] theorem State.skipPost_frame (x : XchPost) (s : State) :
    State.Frame s (s.skipPost x) (xch := Free) (store := Free) (ledger := Free) := by
  simp [State.skipPost]

@[simp] theorem State.portTask_frame (p : Owner) (s : State) :
    State.Frame s (s.portTask p) (xch := Free) (store := Free) (ledger := Free) := by
  unfold State.portTask
  (repeat' split) <;> simp

@[simp] theorem State.runTasks_frame (p : Owner) (s : State) :
    State.Frame s (s.runTasks p) (xch := Free) (store := Free) (ledger := Free) := by
  simp [State.runTasks]

@[simp] theorem State.runPorts_frame (s : State) : State.Frame s s.runPorts (xch := Free) (store := Free) (ledger := Free) := by
  simp [State.runPorts]

@[simp] theorem State.addTasks_frame (p : Owner) (l : List XchTask) (s : State) :
    State.Frame s (s.addTasks p l) (xch := Free) (store := Free) (ledger := Free) := by
  simp [State.addTasks]

@[simp] theorem State.releaseRead_frame (p : Owner) (n : Nat) (s : State) :
    State.Frame s (s.releaseRead p n) (xch := Free) (store := Free) (ledger := Free) := by
  simp [State.releaseRead]

@[simp] theorem State.fillBuffer_frame (who : Owner) (n : Nat) (post : Option XchPost) (s : State) :
    State.Frame s (s.fillBuffer who n post) (le := Free) (xch := Free) := by
  unfold State.fillBuffer
  split <;> simp

@[simp] theorem State.notePosted_frame (n : Nat) (s : State) : State.Frame s (s.notePosted n) (zop := Free) := by
  simp [State.notePosted]

@[simp] theorem State.finishBuffer_frame (n : Nat) (what : XchPending) (s : State) :
    State.Frame s (s.finishBuffer n what) (le := Free) (xch := Free) (store := Free) (zop := Free) (ledger := Free) := by
  unfold State.finishBuffer
  split <;> simp

@[simp] theorem State.zeroingDone_frame (s : State) :
    State.Frame s s.zeroingDone (le := Free) (xch := Free) (store := Free) (zop := Free) (ledger := Free) := by
  unfold State.zeroingDone
  (repeat' split) <;> simp

@[simp] theorem State.zeroingTimeout_frame (s : State) :
    State.Frame s s.zeroingTimeout (rt := Partly) (passing := Free) (boot := Barely) (xch := Free) (field := Free) (glint := Free)
      (mirror := Free) (ledger := Free) := by
  unfold State.zeroingTimeout
  (repeat' split) <;> simp

@[simp] theorem State.popQueue_frame (port : Owner) (s : State) : State.Frame s (s.popQueue port) (xch := Free) := by
  unfold State.popQueue
  (repeat' split) <;> simp

@[simp] theorem State.nonOwnerAccess_frame (port : Owner) (n : Nat) (s : State) :
    State.Frame s (s.nonOwnerAccess port n) (rt := Partly) (passing := Free) (boot := Barely) (xch := Free) (field := Free)
      (glint := Free) (store := Free) (mirror := Free) (ledger := Free) := by
  unfold State.nonOwnerAccess
  (repeat' split) <;> simp

@[simp] theorem State.uncorrectableRead_frame (n word : Nat) (s : State) :
    State.Frame s (s.uncorrectableRead n word) (le := Free) (xch := Free) (store := Free) (ledger := Free) := by
  simp [State.uncorrectableRead]

@[simp] theorem State.xchBoundary_frame (s : State) : State.Frame s s.xchBoundary (xch := Free) (store := Free) (ledger := Free) := by
  simp [State.xchBoundary]

@[simp] theorem State.maskBuffers_frame (s : State) : State.Frame s s.maskBuffers (xch := Free) := by
  simp [State.maskBuffers]

/-! ### Machine/Library.lean -/

@[simp] theorem State.blockEvent_frame (b : Block) (ev : BlockEvent) (s : State) :
    State.Frame s (s.blockEvent b ev) (store := Free) (ledger := Free) (freeCount := Free) := by
  unfold State.blockEvent
  split <;> simp

@[simp] theorem State.evaluateLibrary_frame (s : State) :
    State.Frame s s.evaluateLibrary (lib := Free) (store := Free) (ledger := Free) (freeCount := Free) := by
  simp [State.evaluateLibrary]

@[simp] theorem State.startLibrary_frame (s : State) : State.Frame s s.startLibrary (lib := Free) := by
  simp [State.startLibrary]

@[simp] theorem State.discardLibrary_frame (s : State) : State.Frame s s.discardLibrary (lib := Free) := by
  simp [State.discardLibrary]

@[simp] theorem State.freezeLibrary_frame (s : State) : State.Frame s s.freezeLibrary (lib := Free) := by
  simp [State.freezeLibrary]

/-! ### Machine/Zop.lean -/

@[simp] theorem State.modConn_frame (c : Nat) (f : Connection → Connection) (s : State) :
    State.Frame s (s.modConn c f) (zop := Free) := by
  simp [State.modConn]

@[simp] theorem State.lePost_frame (kind : Nat) (payload : List Byte) (s : State) :
    State.Frame s (s.lePost kind payload) (xch := Free) (store := Free) (ledger := Free) := by
  simp [State.lePost]

@[simp] theorem State.leSend_frame (id : Nat) (data : List Byte) (s : State) :
    State.Frame s (s.leSend id data) (xch := Free) (store := Free) (ledger := Free) := by
  simp [State.leSend]

@[simp] theorem State.leSendOn_frame (ch : CanChannel) (id : Nat) (data : List Byte) (s : State) :
    State.Frame s (s.leSendOn ch id data) (xch := Free) (store := Free) (ledger := Free) := by
  simp [State.leSendOn]

@[simp] theorem State.cePost_frame (kind : Nat) (payload : List Byte) (s : State) :
    State.Frame s (s.cePost kind payload) (xch := Free) (store := Free) (ledger := Free) := by
  simp [State.cePost]

@[simp] theorem State.postDict_frame (payload : List Byte) (s : State) :
    State.Frame s (s.postDict payload) (xch := Free) (store := Free) (zop := Free) (ledger := Free) := by
  simp [State.postDict]

@[simp] theorem State.postHeld_frame (s : State) :
    State.Frame s s.postHeld (xch := Free) (store := Free) (zop := Free) (ledger := Free) := by
  simp [State.postHeld]

@[simp] theorem State.postRecords_frame (s : State) : State.Frame s s.postRecords (xch := Free) (store := Free) (ledger := Free) := by
  simp [State.postRecords]

@[simp] theorem State.sendState_frame (s : State) : State.Frame s s.sendState (zop := Free) := by
  simp [State.sendState]

@[simp] theorem State.heartbeatSend_frame (s : State) : State.Frame s s.heartbeatSend (zop := Free) := by
  simp [State.heartbeatSend]

@[simp] theorem State.hearNode_frame (node period : Nat) (s : State) : State.Frame s (s.hearNode node period) (zop := Free) := by
  simp [State.hearNode]

@[simp] theorem State.presenceTimeout_frame (node : Nat) (s : State) : State.Frame s (s.presenceTimeout node) (zop := Free) := by
  simp [State.presenceTimeout]

@[simp] theorem State.announce_frame (s : State) :
    State.Frame s s.announce (xch := Free) (store := Free) (zop := Free) (ledger := Free) := by
  simp [State.announce]

@[simp] theorem State.announceSend_frame (s : State) :
    State.Frame s s.announceSend (xch := Free) (store := Free) (zop := Free) (ledger := Free) := by
  simp [State.announceSend]

@[simp] theorem State.requestResync_frame (c : Nat) (s : State) :
    State.Frame s (s.requestResync c) (xch := Free) (store := Free) (zop := Free) (ledger := Free) := by
  unfold State.requestResync
  split <;> simp

@[simp] theorem State.toSyncing_frame (c : Nat) (s : State) :
    State.Frame s (s.toSyncing c) (xch := Free) (store := Free) (zop := Free) (ledger := Free) := by
  simp [State.toSyncing]

@[simp] theorem State.nodeConflict_frame (s : State) : State.Frame s s.nodeConflict (rt := Partly) (zop := Free) := by
  simp [State.nodeConflict]

@[simp] theorem State.takeAnnounce_frame (d : List Byte) (node : Nat) (s : State) :
    State.Frame s (s.takeAnnounce d node) (rt := Partly) (xch := Free) (store := Free) (zop := Free) (ledger := Free) := by
  unfold State.takeAnnounce
  dsimp only
  split
  · split <;> simp
  · split
    · simp
    · refine foldl_frame (fun s t => State.Frame s t (rt := Partly) (xch := Free) (store := Free) (zop := Free) (ledger := Free)) (by
          simp) (by grind) _ (fun t i => ?_) _ _
      (repeat' split) <;> simp

@[simp] theorem State.takeResync_frame (d : List Byte) (s : State) : State.Frame s (s.takeResync d) (zop := Free) := by
  simp [State.takeResync]

@[simp] theorem State.hearControl_frame (d : List Byte) (s : State) :
    State.Frame s (s.hearControl d) (rt := Partly) (xch := Free) (store := Free) (zop := Free) (ledger := Free) := by
  unfold State.hearControl
  split <;> simp [State.controlFrame]

@[simp] theorem State.repeatResync_frame (c : Nat) (s : State) :
    State.Frame s (s.repeatResync c) (xch := Free) (store := Free) (zop := Free) (ledger := Free) := by
  unfold State.repeatResync
  split <;> simp

@[simp] theorem State.produceFrames_frame (s : State) :
    State.Frame s s.produceFrames (xch := Free) (store := Free) (zop := Free) (ledger := Free) := by
  unfold State.produceFrames
  split
  · simp
  · refine foldl_frame (fun s t => State.Frame s t (xch := Free) (store := Free) (zop := Free) (ledger := Free)) (by simp) (by grind) _
        (fun t i => ?_) _ _
    dsimp only
    (repeat' split) <;> simp

@[simp] theorem State.restartProducers_frame (s : State) : State.Frame s s.restartProducers (zop := Free) := by
  simp [State.restartProducers]

@[simp] theorem State.storeBoth_frame (s : State) (w : Nat × WordType × BitVec 32) :
    State.Frame s (State.storeBoth s w) (le := Free) := by
  simp [State.storeBoth]

@[simp] theorem State.freezeConns_frame (s : State) : State.Frame s s.freezeConns (le := Free) (zop := Free) := by
  simp [State.freezeConns]

@[simp] theorem State.seqError_frame (c : Nat) (s : State) : State.Frame s (s.seqError c) (zop := Free) := by
  simp [State.seqError]

@[simp] theorem State.judgeData_frame (i : Nat) (c : Connection) (d : List Byte) (s : State) :
    State.Frame s (s.judgeData i c d) (store := Free) (zop := Free) (ledger := Free) := by
  unfold State.judgeData
  dsimp only
  split
  · simp
  · (repeat' split) <;> simp

@[simp] theorem State.dataFrameIn_frame (connId : Nat) (d : List Byte) (s : State) :
    State.Frame s (s.dataFrameIn connId d) (store := Free) (zop := Free) (ledger := Free) := by
  unfold State.dataFrameIn
  (repeat' split) <;> simp

@[simp] theorem State.connExpiry_frame (i : Nat) (s : State) :
    State.Frame s (s.connExpiry i) (xch := Free) (store := Free) (zop := Free) (ledger := Free) := by
  unfold State.connExpiry
  split <;> simp

@[simp] theorem State.syncHeld_frame (s : State) :
    State.Frame s s.syncHeld (xch := Free) (store := Free) (zop := Free) (ledger := Free) := by
  unfold State.syncHeld
  refine foldl_frame (fun s t => State.Frame s t (xch := Free) (store := Free) (zop := Free) (ledger := Free)) (by simp) (by grind) _ (fun
      t i => ?_) _ _
  (repeat' split) <;> simp

@[simp] theorem State.startConns_frame (s : State) :
    State.Frame s s.startConns (xch := Free) (store := Free) (zop := Free) (ledger := Free) := by
  simp [State.startConns]

@[simp] theorem State.stopConns_frame (s : State) : State.Frame s s.stopConns (zop := Free) := by
  simp [State.stopConns]

@[simp] theorem State.exchangeConns_frame (fresh : List Connection) (s : State) :
    State.Frame s (s.exchangeConns fresh) (xch := Free) (store := Free) (zop := Free) (ledger := Free) := by
  simp [State.exchangeConns]

@[simp] theorem State.modCan_frame (ch : CanChannel) (f : CanState → CanState) (s : State) :
    State.Frame s (s.modCan ch f) (zop := Free) := by
  unfold State.modCan
  split <;> simp

@[simp] theorem State.busOff_frame (ch : CanChannel) (s : State) :
    State.Frame s (s.busOff ch) (store := Free) (zop := Free) (ledger := Free) := by
  simp [State.busOff]

@[simp] theorem State.recoveryStart_frame (ch : CanChannel) (s : State) :
    State.Frame s (s.recoveryStart ch) (store := Free) (zop := Free) (ledger := Free) := by
  simp [State.recoveryStart]

@[simp] theorem State.recoveryDone_frame (ch : CanChannel) (s : State) :
    State.Frame s (s.recoveryDone ch) (store := Free) (zop := Free) (ledger := Free) := by
  simp [State.recoveryDone]

/-! ### Machine/Image.lean -/

@[simp] theorem State.refuseLoad_frame (a : Access) (code : Nat) (s : State) :
    State.Frame s (s.refuseLoad a code) (otp := Free) (images := Free) (store := Free) (dict := Free) (ledger := Free) := by
  simp [State.refuseLoad]

@[simp] theorem State.modImageBank_frame (bank : Nat) (f : ImageBank → ImageBank) (s : State) :
    State.Frame s (s.modImageBank bank f) (field := Free) (images := Free) := by
  simp [State.modImageBank]

@[simp] theorem State.startImageErase_frame (s : State) : State.Frame s s.startImageErase (field := Free) (images := Free) := by
  simp [State.startImageErase]

@[simp] theorem State.loadCommand_frame (a : Access) (s : State) :
    State.Frame s (s.loadCommand a) (otp := Free) (field := Free) (images := Free) (store := Free) (dict := Free) (ledger := Free) := by
  unfold State.loadCommand
  (repeat' split) <;> simp

@[simp] theorem State.imageErased_frame (s : State) :
    State.Frame s s.imageErased (le := Free) (field := Free) (images := Free) (store := Free) := by
  unfold State.imageErased
  split <;> simp

@[simp] theorem State.programImage_frame (data : List Byte) (s : State) :
    State.Frame s (s.programImage data) (le := Free) (field := Free) (images := Free) (store := Free) := by
  simp [State.programImage]

@[simp] theorem State.writeImageData_frame (a : Access) (data : List Byte) (s : State) :
    State.Frame s (s.writeImageData a data) (otp := Free) (le := Free) (field := Free) (images := Free) (store := Free) (dict := Free)
      (ledger := Free) := by
  unfold State.writeImageData
  split <;> simp

@[simp] theorem State.validationDone_frame (s : State) :
    State.Frame s s.validationDone (field := Free) (images := Free) (store := Free) (ledger := Free) := by
  unfold State.validationDone
  split <;> simp

@[simp] theorem State.selectImage_frame (bank : Nat) (s : State) :
    State.Frame s (s.selectImage bank) (lib := Free) (images := Free) (zop := Free) := by
  simp [State.selectImage]

@[simp] theorem State.selectAtRelease_frame (s : State) :
    State.Frame s s.selectAtRelease (field := Free) (lib := Free) (images := Free) (store := Free) (zop := Free) (ledger := Free) := by
  simp [State.selectAtRelease]

@[simp] theorem State.storeSelect_frame (bank : Nat) (s : State) : State.Frame s (s.storeSelect bank) (store := Free) (dict := Free) := by
  simp [State.storeSelect]

@[simp] theorem State.bankSelect_frame (a : Access) (s : State) :
    State.Frame s (s.bankSelect a) (otp := Free) (xch := Free) (field := Free) (lib := Free) (images := Free) (store := Free)
      (dict := Free) (zop := Free) (ledger := Free) := by
  simp [State.bankSelect]

@[simp] theorem State.cancelExchange_frame (code : Nat) (s : State) : State.Frame s (s.cancelExchange code) (images := Free) := by
  simp [State.cancelExchange]

@[simp] theorem State.requestExchange_frame (a : Access) (s : State) :
    State.Frame s (s.requestExchange a) (otp := Free) (images := Free) (store := Free) (dict := Free) (ledger := Free) := by
  unfold State.requestExchange
  split <;> simp

@[simp] theorem State.exchangeWrite_frame (a : Access) (s : State) :
    State.Frame s (s.exchangeWrite a) (otp := Free) (images := Free) (store := Free) (dict := Free) (ledger := Free) := by
  unfold State.exchangeWrite
  split <;> simp

@[simp] theorem State.exchangeReady_frame (s : State) : State.Frame s s.exchangeReady (images := Free) := by
  unfold State.exchangeReady
  split <;> simp

@[simp] theorem State.exchangeBoundary_frame (s : State) : State.Frame s s.exchangeBoundary (images := Free) := by
  unfold State.exchangeBoundary
  split <;> simp

@[simp] theorem State.reencodeInputs_frame (oldBank : Nat) (s : State) :
    State.Frame s (s.reencodeInputs oldBank) (le := Free) (zop := Free) := by
  simp [State.reencodeInputs]

@[simp] theorem State.switchImage_frame (coded : List (Nat × List Byte)) (s : State) :
    State.Frame s (s.switchImage coded) (passes := Free) (le := Free) (xch := Free) (lib := Free) (images := Free) (store := Free)
      (zop := Free) (ledger := Free) (freeCount := Free) := by
  simp [State.switchImage]

@[simp] theorem State.exchangeSwitch_frame (trapAt : Option Nat) (s : State) :
    State.Frame s (s.exchangeSwitch trapAt) (rt := Partly) (passing := Free) (boot := Barely) (passes := Free) (le := Free) (xch := Free)
      (field := Free) (glint := Free) (lib := Free) (images := Free) (store := Free) (zop := Free) (mirror := Free) (ledger := Free)
      (freeCount := Free) := by
  unfold State.exchangeSwitch
  dsimp only
  (repeat' split) <;> simp

@[simp] theorem State.completeExchange_frame (s : State) :
    State.Frame s s.completeExchange (images := Free) (store := Free) (dict := Free) (ledger := Free) (freeCount := Free) := by
  unfold State.completeExchange
  split <;> simp

@[simp] theorem State.crcScan_frame (crc : Nat) (s : State) : State.Frame s (s.crcScan crc) (rt := Partly) := by
  unfold State.crcScan
  split <;> simp

@[simp] theorem State.imageUncorrectable_frame (s : State) :
    State.Frame s s.imageUncorrectable (rt := Partly) (passing := Free) (boot := Barely) (field := Free) (glint := Free) (mirror := Free)
      (ledger := Free) := by
  unfold State.imageUncorrectable
  (repeat' split) <;> simp

@[simp] theorem State.ackWrite_frame (a : Access) (s : State) :
    State.Frame s (s.ackWrite a) (otp := Free) (lib := Free) (images := Free) (store := Free) (dict := Free) (ledger := Free) := by
  unfold State.ackWrite
  split <;> simp

@[simp] theorem State.dirWrite_frame (a : Access) (s : State) :
    State.Frame s (s.dirWrite a) (otp := Free) (lib := Free) (images := Free) (store := Free) (dict := Free) (ledger := Free) := by
  unfold State.dirWrite
  split <;> simp

/-! ### Machine/Ledger.lean -/

@[simp] theorem State.persistGroup_frame (g : Nat) (s : State) : State.Frame s (s.persistGroup g) (store := Free) (ledger := Free) := by
  unfold State.persistGroup
  split <;> simp

@[simp] theorem State.persistGroups_frame (s : State) : State.Frame s s.persistGroups (store := Free) (ledger := Free) := by
  simp [State.persistGroups]

@[simp] theorem State.ledgerElapse_frame (s : State) : State.Frame s s.ledgerElapse (store := Free) (ledger := Free) := by
  simp [State.ledgerElapse]

@[simp] theorem State.boardSample_frame (tenths : Int) (s : State) :
    State.Frame s (s.boardSample tenths) (rt := Partly) (store := Free) (ledger := Free) := by
  simp [State.boardSample]

@[simp] theorem State.dieSample_frame (tenths : Int) (s : State) :
    State.Frame s (s.dieSample tenths) (rt := Partly) (passing := Free) (boot := Free) (field := Free) (glint := Free) (mirror := Free)
      (ledger := Free) := by
  simp [State.dieSample]

/-! ### Machine/Power.lean -/

@[simp] theorem State.countRide_frame (s : State) : State.Frame s s.countRide (power := Partly) (store := Free) := by
  simp [State.countRide]

@[simp] theorem State.resumeGroup_frame (s : State) : State.Frame s s.resumeGroup (boot := Partly) := by
  unfold State.resumeGroup
  split <;> simp

@[simp] theorem State.clearWarning_frame (s : State) :
    State.Frame s s.clearWarning (power := Partly) (boot := Partly) (store := Free) := by
  simp [State.clearWarning]

@[simp] theorem State.qualify_frame (e : Entry) (x : EntrySample) (holdupMv : Nat) (s : State) :
    State.Frame s (s.qualify e x holdupMv) (power := Partly) (boot := Partly) (store := Free) := by
  unfold State.qualify
  (repeat' split) <;> simp

@[simp] theorem State.disqualify_frame (e : Entry) (x : EntrySample) (s : State) :
    State.Frame s (s.disqualify e x) (power := Partly) (store := Free) (ledger := Free) := by
  unfold State.disqualify
  split <;> simp

@[simp] theorem State.raiseWarning_frame (s : State) :
    State.Frame s s.raiseWarning (power := Barely) (boot := Partly) (otp := Free) (store := Free) (freeCount := Free) := by
  unfold State.raiseWarning
  dsimp only
  (repeat' split) <;> simp

@[simp] theorem State.gateReopens_frame (holdupMv : Nat) (s : State) :
    State.Frame s (s.gateReopens holdupMv) (power := Barely) (otp := Free) (le := Free) (store := Free) := by
  unfold State.gateReopens
  dsimp only
  (repeat' split) <;> simp

@[simp] theorem State.judgeEstimate_frame (s : State) :
    State.Frame s s.judgeEstimate (rt := Partly) (store := Free) (ledger := Free) := by
  simp [State.judgeEstimate]

@[simp] theorem State.makeEstimate_frame (us_ : Nat) (s : State) :
    State.Frame s (s.makeEstimate us_) (rt := Partly) (power := Partly) (store := Free) (ledger := Free) := by
  simp [State.makeEstimate]

@[simp] theorem State.chargeTimed_frame (startMv chargeUs : Nat) (s : State) :
    State.Frame s (s.chargeTimed startMv chargeUs) (rt := Partly) (power := Partly) (store := Free) (ledger := Free) := by
  simp [State.chargeTimed]

@[simp] theorem State.pauseStart_frame (holdupMv : Nat) (s : State) : State.Frame s (s.pauseStart holdupMv) (power := Partly) := by
  simp [State.pauseStart]

@[simp] theorem State.pauseEnd_frame (holdupMv logicMw : Nat) (s : State) :
    State.Frame s (s.pauseEnd holdupMv logicMw) (rt := Partly) (power := Partly) (store := Free) (ledger := Free) (freeCount := Free) :=
      by
  unfold State.pauseEnd
  split <;> simp

@[simp] theorem State.supplyStart_frame (holdupMv : Nat) (s : State) :
    State.Frame s (s.supplyStart holdupMv) (rt := Free) (power := Free) (clock := Barely) (boot := Free) (otp := Free) (store := Free)
      (ledger := Free) := by
  simp [State.supplyStart]

@[simp] theorem State.suppliesAt_frame (fs1Mv fs2Mv : Nat) (s : State) :
    State.Frame s (s.suppliesAt fs1Mv fs2Mv) (power := Partly) (field := Free) (ledger := Free) := by
  simp [State.suppliesAt]

@[simp] theorem State.measure_frame (x : PowerSample) (s : State) :
    State.Frame s (s.measure x) (power := Partly) (field := Free) (ledger := Free) := by
  simp [State.measure]

@[simp] theorem State.overdraw_frame (x : PowerSample) (s : State) :
    State.Frame s (s.overdraw x) (rt := Partly) (power := Partly) (field := Free) (store := Free) (ledger := Free) := by
  unfold State.overdraw
  dsimp only
  (repeat' split) <;> simp

/-! ### Machine/Recovery.lean -/

@[simp] theorem State.copyTail_frame (a : Area) (s : State) : State.Frame s (s.copyTail a) (store := Free) := by
  unfold State.copyTail
  dsimp only
  (repeat' split) <;> simp

@[simp] theorem State.drain_frame (k : Nat) (s : State) :
    State.Frame s (State.drain k s) (rt := Partly) (boot := Partly) (le := Free) (store := Free) (ledger := Free) (freeCount := Free) :=
      by
  induction k generalizing s with
  | zero => simp [State.drain]
  | succ k ih =>
    unfold State.drain
    split
    · simp
    · simpa using ih (s.commitRecord true)

@[simp] theorem State.loadObject_frame (key v dflt : Nat) (s : State) :
    State.Frame s (s.loadObject key v dflt) (power := Partly) (boot := Partly) (images := Free) (store := Free) (dict := Free)
      (zop := Free) (mirror := Free) (service := Free) (ledger := Free) := by
  simp [State.loadObject]

@[simp] theorem State.loadObjects_frame (s : State) :
    State.Frame s s.loadObjects (rt := Partly) (power := Partly) (boot := Partly) (images := Free) (store := Free) (dict := Free)
      (zop := Free) (mirror := Free) (service := Free) (ledger := Free) := by
  unfold State.loadObjects
  dsimp only
  split <;> simp

@[simp] theorem State.loadLatch_frame (s : State) : State.Frame s s.loadLatch (rt := Free) := by
  unfold State.loadLatch
  split <;> simp

@[simp] theorem State.loadCounters_frame (g : Nat) (s : State) : State.Frame s (s.loadCounters g) (ledger := Free) := by
  unfold State.loadCounters
  (repeat' split) <;> simp

@[simp] theorem State.loadEvents_frame (s : State) : State.Frame s s.loadEvents (ledger := Free) := by
  simp [State.loadEvents]

@[simp] theorem State.loadLedger_frame (s : State) : State.Frame s s.loadLedger (ledger := Free) := by
  simp [State.loadLedger]

@[simp] theorem State.initialiseStore_frame (s : State) :
    State.Frame s s.initialiseStore (rt := Free) (power := Partly) (boot := Partly) (images := Free) (store := Free) (dict := Free)
      (zop := Free) (mirror := Free) (service := Free) (ledger := Free) := by
  simp [State.initialiseStore]

@[simp] theorem State.countRedo_frame (redo : List Nat) (s : State) :
    State.Frame s (s.countRedo redo) (store := Free) (ledger := Free) := by
  simp [State.countRedo]

@[simp] theorem State.takeEpoch_frame (s : State) : State.Frame s s.takeEpoch (store := Free) (zop := Free) := by
  simp [State.takeEpoch]

@[simp] theorem State.countRidesEarly_frame (s : State) : State.Frame s s.countRidesEarly (power := Partly) (store := Free) := by
  simp [State.countRidesEarly]

@[simp] theorem State.recheckUsable_frame (a : Area) (s : State) :
    State.Frame s (s.recheckUsable a) (rt := Partly) (store := Free) (ledger := Free) := by
  simp [State.recheckUsable]

@[simp] theorem State.recoverStore_frame (elapsedUs : Nat) (s : State) :
    State.Frame s (s.recoverStore elapsedUs) (rt := Free) (power := Partly) (boot := Free) (le := Free) (images := Free) (store := Free)
      (dict := Free) (zop := Free) (mirror := Free) (service := Free) (ledger := Free) (freeCount := Free) := by
  simp [State.recoverStore]

/-! ### Machine/Boot.lean -/

@[simp] theorem State.checkRetained_frame (crcOk : Bool) (s : State) :
    State.Frame s (s.checkRetained crcOk) (boot := Partly) (store := Free) (mirror := Free) (ledger := Free) := by
  simp [State.checkRetained]

@[simp] theorem State.releaseReset_frame (crcOk : Bool) (s : State) :
    State.Frame s (s.releaseReset crcOk) (boot := Free) (store := Free) (mirror := Free) (ledger := Free) := by
  simp [State.releaseReset]

@[simp] theorem State.bootEntry_frame (s : State) :
    State.Frame s s.bootEntry (rt := Free) (power := Partly) (clock := Partly) (boot := Free) (otp := Free) (lib := Free) (store := Free)
      (ledger := Free) (freeCount := Free) := by
  unfold State.bootEntry
  split
  · cases s.le.fwSelect <;> simp
  · simp

@[simp] theorem State.bistClears_frame (g : Nat) (s : State) :
    State.Frame s (s.bistClears g) (boot := Partly) (le := Free) (mirror := Free) := by
  unfold State.bistClears
  split <;> simp

@[simp] theorem State.bistDomainsAfter_frame (g : Nat) (s : State) : State.Frame s (s.bistDomainsAfter g) (power := Partly) := by
  simp [State.bistDomainsAfter]

@[simp] theorem State.groupComplete_frame (g : Nat) (raw : List (BitVec 64)) (place element : Nat) (s : State) :
    State.Frame s (s.groupComplete g raw place element) (power := Partly) (boot := Free) (le := Free) (mirror := Free) := by
  simp [State.groupComplete]

@[simp] theorem State.comparatorTest_frame (faulty : BitVec 7) (s : State) : State.Frame s (s.comparatorTest faulty) (boot := Free) := by
  simp [State.comparatorTest]

@[simp] theorem State.startConfiguration_frame (s : State) :
    State.Frame s s.startConfiguration (rt := Barely) (clock := Partly) (passes := Free) (zop := Free) := by
  simp [State.startConfiguration]

@[simp] theorem State.storeAgain_frame (r : EventRecord) (s : State) :
    State.Frame s (s.storeAgain r) (store := Free) (ledger := Free) := by
  simp [State.storeAgain]

@[simp] theorem State.startLog_frame (s : State) : State.Frame s s.startLog (store := Free) (ledger := Free) := by
  simp [State.startLog]

@[simp] theorem State.countStart_frame (s : State) : State.Frame s s.countStart (boot := Partly) (store := Free) := by
  simp [State.countStart]

@[simp] theorem State.releaseState_frame (causes : List Nat) (s : State) :
    State.Frame s (s.releaseState causes) (rt := Free) (store := Free) (ledger := Free) := by
  unfold State.releaseState
  split <;> simp

@[simp] theorem State.countEarlySessions_frame (s : State) : State.Frame s s.countEarlySessions (store := Free) (service := Free) := by
  simp [State.countEarlySessions]

/-! ### Machine/Mirror.lean -/

@[simp] theorem State.tryToken_frame (s : State) : State.Frame s s.tryToken (field := Free) (mirror := Free) (ledger := Free) := by
  simp [State.tryToken]

@[simp] theorem State.twinTokenChange_frame (on : Bool) (s : State) :
    State.Frame s (s.twinTokenChange on) (field := Free) (mirror := Free) (ledger := Free) := by
  simp [State.twinTokenChange]

@[simp] theorem State.tokenContention_frame (s : State) : State.Frame s s.tokenContention (rt := Partly) := by
  unfold State.tokenContention
  split <;> simp

@[simp] theorem State.presenceLoop_frame (intact : Bool) (s : State) :
    State.Frame s (s.presenceLoop intact) (store := Free) (mirror := Free) (ledger := Free) := by
  simp [State.presenceLoop]

@[simp] theorem State.standbyJoins_frame (s : State) : State.Frame s s.standbyJoins (mirror := Free) := by
  simp [State.standbyJoins]

@[simp] theorem State.sendStatus_frame (s : State) : State.Frame s s.sendStatus (mirror := Free) := by
  simp [State.sendStatus]

@[simp] theorem State.frameValid_frame (claim : Bool) (s : State) :
    State.Frame s (s.frameValid claim) (store := Free) (mirror := Free) (ledger := Free) := by
  simp [State.frameValid]

@[simp] theorem State.statusFrame_frame (data : List Byte) (s : State) :
    State.Frame s (s.statusFrame data) (store := Free) (mirror := Free) (ledger := Free) := by
  unfold State.statusFrame
  (repeat' split) <;> simp

@[simp] theorem State.countMissed_frame (s : State) : State.Frame s s.countMissed (mirror := Free) := by
  simp [State.countMissed]

@[simp] theorem State.linkLost_frame (s : State) : State.Frame s s.linkLost (store := Free) (mirror := Free) (ledger := Free) := by
  simp [State.linkLost]

@[simp] theorem State.keepRecords_frame (s : State) : State.Frame s s.keepRecords (le := Free) := by
  simp [State.keepRecords]

@[simp] theorem State.captureSnapshot_frame (s : State) : State.Frame s s.captureSnapshot (le := Free) (mirror := Free) := by
  unfold State.captureSnapshot
  split <;> simp

@[simp] theorem State.receiveSnapshot_frame (f : SnapshotFrame) (s : State) :
    State.Frame s (s.receiveSnapshot f) (store := Free) (mirror := Free) (ledger := Free) := by
  simp [State.receiveSnapshot]

@[simp] theorem State.enterTwin_frame (r : EventRecord) (s : State) : State.Frame s (s.enterTwin r) (store := Free) (ledger := Free) := by
  simp [State.enterTwin]

@[simp] theorem State.writeSnapshot_frame (f : SnapshotFrame) (s : State) :
    State.Frame s (s.writeSnapshot f) (passes := Free) (le := Free) (xch := Free) (lib := Free) (images := Free) (store := Free)
      (dict := Free) (zop := Free) (ledger := Free) := by
  unfold State.writeSnapshot
  dsimp only
  (repeat' split) <;> simp

@[simp] theorem State.commitBoundary_frame (s : State) :
    State.Frame s s.commitBoundary (passes := Free) (le := Free) (xch := Free) (lib := Free) (images := Free) (store := Free)
      (dict := Free) (zop := Free) (mirror := Free) (ledger := Free) := by
  unfold State.commitBoundary
  dsimp only
  (repeat' split) <;> simp

@[simp] theorem State.snapshotStale_frame (s : State) :
    State.Frame s s.snapshotStale (store := Free) (mirror := Free) (ledger := Free) := by
  simp [State.snapshotStale]

@[simp] theorem State.enterPair_frame (s : State) : State.Frame s s.enterPair (mirror := Free) := by
  simp [State.enterPair]

@[simp] theorem State.leavePair_frame (s : State) : State.Frame s s.leavePair (mirror := Free) := by
  simp [State.leavePair]

@[simp] theorem State.roleDecision_frame (s : State) :
    State.Frame s s.roleDecision (field := Free) (mirror := Free) (ledger := Free) := by
  simp [State.roleDecision]

@[simp] theorem State.takeOver_frame (s : State) :
    State.Frame s s.takeOver (passes := Free) (field := Free) (store := Free) (zop := Free) (mirror := Free) (ledger := Free) := by
  simp [State.takeOver]

@[simp] theorem State.takeoverDecision_frame (s : State) :
    State.Frame s s.takeoverDecision (rt := Partly) (passes := Free) (field := Free) (store := Free) (zop := Free) (mirror := Free)
      (ledger := Free) := by
  simp [State.takeoverDecision]

@[simp] theorem State.replaceWrite_frame (a : Access) (s : State) :
    State.Frame s (s.replaceWrite a) (store := Free) (dict := Free) (mirror := Free) := by
  simp [State.replaceWrite]

@[simp] theorem State.copyImage_frame (image : List Byte) (s : State) :
    State.Frame s (s.copyImage image) (le := Free) (field := Free) (images := Free) (store := Free) (mirror := Free) (ledger := Free) :=
      by
  simp [State.copyImage]

@[simp] theorem State.selectCopied_frame (s : State) :
    State.Frame s s.selectCopied (xch := Free) (lib := Free) (images := Free) (store := Free) (dict := Free) (zop := Free)
      (mirror := Free) (ledger := Free) := by
  unfold State.selectCopied
  split <;> simp

@[simp] theorem State.copyEnd_frame (ok : Bool) (values : List (Nat × Nat)) (image : List Byte) (s : State) :
    State.Frame s (s.copyEnd ok values image) (le := Free) (field := Free) (images := Free) (store := Free) (dict := Free)
      (mirror := Free) (ledger := Free) := by
  simp [State.copyEnd]

/-! ### Machine/Otp.lean -/

@[simp] theorem State.selectSection_frame (code : Nat) (s : State) :
    State.Frame s (s.selectSection code) (otp := Free) (freeCount := Free) := by
  simp [State.selectSection]

@[simp] theorem State.stageWord_frame (value : Nat) (s : State) : State.Frame s (s.stageWord value) (otp := Free) := by
  simp [State.stageWord]

@[simp] theorem State.otpRefuse_frame (a : Access) (code status : Nat) (s : State) :
    State.Frame s (s.otpRefuse a code status) (otp := Free) (images := Free) (store := Free) (dict := Free) (ledger := Free) := by
  simp [State.otpRefuse]

@[simp] theorem State.otpStaging_frame (a : Access) (s : State) :
    State.Frame s (s.otpStaging a) (otp := Free) (images := Free) (store := Free) (dict := Free) (ledger := Free) (freeCount := Free) :=
      by
  simp [State.otpStaging, State.stagingWrite]

@[simp] theorem State.startRun_frame (run : OtpRun) (s : State) :
    State.Frame s (s.startRun run) (rt := Partly) (power := Partly) (otp := Free) (le := Free) (field := Free) (analog := Free)
      (mirror := Free) (modbus := Free) (ledger := Free) := by
  simp [State.startRun]

@[simp] theorem State.startOtp_frame (cmd : Nat) (s : State) :
    State.Frame s (s.startOtp cmd) (rt := Partly) (power := Partly) (otp := Free) (le := Free) (field := Free) (analog := Free)
      (mirror := Free) (modbus := Free) (ledger := Free) (freeCount := Free) := by
  unfold State.startOtp
  dsimp only
  (repeat' split) <;> simp

@[simp] theorem State.otpCommand_frame (a : Access) (s : State) :
    State.Frame s (s.otpCommand a) (rt := Partly) (power := Partly) (otp := Free) (le := Free) (field := Free) (analog := Free)
      (images := Free) (store := Free) (dict := Free) (mirror := Free) (modbus := Free) (ledger := Free) (freeCount := Free) := by
  unfold State.otpCommand
  split <;> simp

@[simp] theorem State.otpComplete_frame (unburned weak : List Nat) (s : State) :
    State.Frame s (s.otpComplete unburned weak) (rt := Partly) (power := Partly) (otp := Free) (le := Free) (field := Free)
      (analog := Free) (store := Free) (mirror := Free) (modbus := Free) (ledger := Free) := by
  unfold State.otpComplete
  split <;> simp

/-! ### Machine/Service.lean -/

@[simp] theorem State.pendDebug_frame (p : DebugPending) (s : State) : State.Frame s (s.pendDebug p) (service := Free) := by
  simp [State.pendDebug]

@[simp] theorem State.debugWrite_frame (a : Access) (i : Option LogicInstr) (s : State) :
    State.Frame s (s.debugWrite a i) (otp := Free) (images := Free) (store := Free) (dict := Free) (service := Free) (ledger := Free) :=
      by
  unfold State.debugWrite
  split <;> simp

@[simp] theorem State.simWrite_frame (a : Access) (s : State) :
    State.Frame s (s.simWrite a) (store := Free) (dict := Free) (service := Free) := by
  simp [State.simWrite]

@[simp] theorem State.simOutputsWrite_frame (a : Access) (s : State) :
    State.Frame s (s.simOutputsWrite a) (store := Free) (dict := Free) (service := Free) := by
  simp [State.simOutputsWrite]

@[simp] theorem State.bistWrite_frame (a : Access) (s : State) :
    State.Frame s (s.bistWrite a) (store := Free) (dict := Free) (service := Free) := by
  simp [State.bistWrite]

@[simp] theorem State.enterSplit_frame (s : State) :
    State.Frame s s.enterSplit (rt := Barely) (passes := Free) (store := Free) (ledger := Free) := by
  simp [State.enterSplit]

@[simp] theorem State.resumeHalt_frame (s : State) :
    State.Frame s s.resumeHalt (passes := Free) (store := Free) (service := Free) (ledger := Free) := by
  simp [State.resumeHalt]

@[simp] theorem State.stepHalt_frame (i : Option LogicInstr) (s : State) :
    State.Frame s (s.stepHalt i) (rt := Partly) (passing := Free) (boot := Barely) (passes := Free) (le := Free) (field := Free)
      (glint := Free) (mirror := Free) (service := Free) (ledger := Free) (freeCount := Free) := by
  have ht : ∀ s t u, State.Frame s t (rt := Partly) (passing := Free) (boot := Barely) (passes := Free) (le := Free) (field := Free)
      (glint := Free) (mirror := Free) (service := Free) (ledger := Free) (freeCount := Free) → State.Frame t u (rt := Partly)
      (passing := Free) (boot := Barely) (passes := Free) (le := Free) (field := Free) (glint := Free) (mirror := Free) (service := Free)
      (ledger := Free) (freeCount := Free) → State.Frame s u (rt := Partly) (passing := Free) (boot := Barely) (passes := Free)
      (le := Free) (field := Free) (glint := Free) (mirror := Free) (service := Free) (ledger := Free) (freeCount := Free) := by grind
      [Boot.MayBe.trans]
  have hp (i : LogicInstr) (s : State) : State.Frame s (thenPass (State.plainInstr (!s.passes.split) i s)
      (fun t => if t.passes.split then (t, none) else t.shadowInstr i)).1 (rt := Partly) (passing := Free) (boot := Barely)
          (passes := Free) (le := Free) (field := Free) (glint := Free) (mirror := Free) (service := Free) (ledger := Free)
          (freeCount := Free) :=
    thenPass_frame ht (by simp) _ (fun t => by split <;> simp)
  unfold State.stepHalt
  split
  · simp
  · dsimp only
    split
    · simp
    · rename_i i
      have h := hp i { s.drawFree.2 with service.haltedAt := some (s.drawFree.1.toNat % 2 ^ 32) }
      split <;> rename_i heq <;> rw [heq] at h
      · simpa using h
      · exact ht _ _ _ (by simpa using h) (by simp)

@[simp] theorem State.setSim_frame (on : Bool) (s : State) :
    State.Frame s (s.setSim on) (field := Free) (store := Free) (service := Free) (ledger := Free) := by
  simp [State.setSim]

@[simp] theorem State.startServiceBist_frame (s : State) :
    State.Frame s s.startServiceBist (rt := Partly) (power := Partly) (boot := Partly) (le := Free) (field := Free) (analog := Free)
      (store := Free) (mirror := Free) (modbus := Free) (service := Free) (ledger := Free) := by
  simp [State.startServiceBist]

@[simp] theorem State.takeDebug_frame (p : DebugPending) (s : State) :
    State.Frame s (s.takeDebug p) (rt := Barely) (passing := Free) (power := Partly) (boot := Free) (passes := Free) (le := Free)
      (field := Free) (glint := Free) (analog := Free) (store := Free) (mirror := Free) (modbus := Free) (service := Free)
      (ledger := Free) (freeCount := Free) := by
  unfold State.takeDebug
  split <;> simp

@[simp] theorem State.debugBoundary_frame (s : State) :
    State.Frame s s.debugBoundary (rt := Barely) (passing := Free) (power := Partly) (boot := Free) (passes := Free) (le := Free)
      (field := Free) (glint := Free) (analog := Free) (store := Free) (mirror := Free) (modbus := Free) (service := Free)
      (ledger := Free) (freeCount := Free) := by
  simp [State.debugBoundary]

@[simp] theorem State.leaveService_frame (s : State) :
    State.Frame s s.leaveService (rt := Partly) (passes := Free) (field := Free) (store := Free) (service := Free) (ledger := Free) := by
  simp [State.leaveService]

@[simp] theorem State.reachHalt_frame (s : State) :
    State.Frame s s.reachHalt (passes := Free) (store := Free) (service := Free) (ledger := Free) := by
  simp [State.reachHalt]

@[simp] theorem State.bistResults_frame (raw : List (BitVec 64)) (late place : Nat) (s : State) :
    State.Frame s (s.bistResults raw late place) (boot := Free) (le := Free) := by
  simp [State.bistResults]

@[simp] theorem State.bistDone_frame (raw : List (BitVec 64)) (late place : Nat) (s : State) :
    State.Frame s (s.bistDone raw late place) (rt := Free) (power := Partly) (boot := Free) (le := Free) (field := Free) (analog := Free)
      (store := Free) (mirror := Free) (modbus := Free) (service := Free) (ledger := Free) := by
  unfold State.bistDone
  split <;> simp

@[simp] theorem State.toolDetect_frame (low : Bool) (s : State) : State.Frame s (s.toolDetect low) (store := Free) (service := Free) := by
  simp [State.toolDetect]

@[simp] theorem State.debugBytes_frame (addr n : Nat) (s : State) : State.Frame s (s.debugBytes addr n).2 (freeCount := Free) := by
  unfold State.debugBytes
  dsimp only
  (repeat' split) <;> simp

@[simp] theorem State.debugAccess_frame (kind : AccessKind) (addr n : Nat) (data : List Byte) (s : State) :
    State.Frame s (s.debugAccess kind addr n data) (rt := Partly) (passing := Free) (boot := Barely) (le := Free) (xch := Free)
      (field := Free) (glint := Free) (store := Free) (mirror := Free) (service := Free) (ledger := Free) (freeCount := Free) := by
  unfold State.debugAccess
  dsimp only
  (repeat' split) <;> simp

@[simp] theorem State.loaderErase_frame (bank : Nat) (s : State) : State.Frame s (s.loaderErase bank) (le := Free) (store := Free) := by
  simp [State.loaderErase]

@[simp] theorem State.loaderWrite_frame (bank off : Nat) (data : List Byte) (s : State) :
    State.Frame s (s.loaderWrite bank off data) (le := Free) (store := Free) (freeCount := Free) := by
  unfold State.loaderWrite
  dsimp only
  (repeat' split) <;> simp

@[simp] theorem State.loaderReport_frame (s : State) : State.Frame s s.loaderReport (service := Free) := by
  simp [State.loaderReport]

/-! ### Machine/Dict.lean -/

@[simp] theorem State.transmitPlain_frame (ch : CanChannel) (requester service reqSeq : Nat) (a : Response) (s : State) :
    State.Frame s (s.transmitPlain ch requester service reqSeq a) (zop := Free) := by
  simp [State.transmitPlain]

@[simp] theorem State.sendPlain_frame (ch : CanChannel) (requester service reqSeq : Nat) (s : State) :
    State.Frame s (s.sendPlain ch requester service reqSeq) (xch := Free) (store := Free) (ledger := Free) := by
  unfold State.sendPlain
  split <;> simp

@[simp] theorem State.setDictSeq_frame (q : DictSeq) (s : State) : State.Frame s (s.setDictSeq q) (zop := Free) := by
  simp [State.setDictSeq]

@[simp] theorem State.sendZops_frame (ch : CanChannel) (requester service : Nat) (s : State) :
    State.Frame s (s.sendZops ch requester service) (xch := Free) (store := Free) (zop := Free) (ledger := Free) := by
  unfold State.sendZops
  split <;> simp

@[simp] theorem State.withToken_frame (token code : Nat) (s : State) : State.Frame s (s.withToken token code) (dict := Free) := by
  simp [State.withToken]

@[simp] theorem State.rejectRead_frame (r : Req) (index sub code detail : Nat) (s : State) :
    State.Frame s (s.rejectRead r index sub code detail) (dict := Free) := by
  unfold State.rejectRead
  simp

@[simp] theorem State.readObject_frame (r : Req) (index sub : Nat) (s : State) :
    State.Frame s (s.readObject r index sub) (dict := Free) := by
  unfold State.readObject
  (repeat' split) <;> simp

@[simp] theorem State.acceptAgain_frame (a : Access) (s : State) : State.Frame s (s.acceptAgain a) (dict := Free) := by
  simp [State.acceptAgain]

@[simp] theorem State.sequencedWrite_frame (a : Access) (via : Option CanChannel) (reqSeq : Nat) (s : State) :
    State.Frame s (s.sequencedWrite a via reqSeq) (otp := Free) (images := Free) (store := Free) (dict := Free) (ledger := Free) := by
  unfold State.sequencedWrite
  split <;> simp

@[simp] theorem State.syncWrite_frame (a : Access) (s : State) :
    State.Frame s (s.syncWrite a) (analog := Free) (store := Free) (dict := Free) := by
  simp [State.syncWrite]

@[simp] theorem State.refuseAs_frame (a : Access) (code detail : Nat) (s : State) :
    State.Frame s (s.refuseAs a code detail) (otp := Free) (images := Free) (store := Free) (dict := Free) (ledger := Free) := by
  simp [State.refuseAs]

@[simp] theorem State.fillSlot_frame (a : Access) (s : State) : State.Frame s (s.fillSlot a) (dict := Free) := by
  simp [State.fillSlot]

@[simp] theorem State.prepareWrite_frame (r : Req) (index sub type value : Nat) (s : State) :
    State.Frame s (s.prepareWrite r index sub type value) (otp := Free) (images := Free) (store := Free) (dict := Free) (ledger := Free)
      := by
  simp only [State.prepareWrite, State.judgeAll]
  (repeat' split) <;> simp

@[simp] theorem State.rejectConfirm_frame (c : ConfirmRequest) (slot : Option PendingSlot) (code : Nat) (s : State) :
    State.Frame s (s.rejectConfirm c slot code) (otp := Free) (images := Free) (store := Free) (dict := Free) (ledger := Free)
      (freeCount := Free) := by
  unfold State.rejectConfirm
  split <;> simp

@[simp] theorem State.failConfirm_frame (c : ConfirmRequest) (slot : Option PendingSlot) (code : Nat) (s : State) :
    State.Frame s (s.failConfirm c slot code) (otp := Free) (images := Free) (store := Free) (dict := Free) (ledger := Free)
      (freeCount := Free) := by
  simp [State.failConfirm]

@[simp] theorem State.emptySlot_frame (node : Nat) (s : State) : State.Frame s (s.emptySlot node) (dict := Free) := by
  simp [State.emptySlot]

@[simp] theorem State.acceptConfirm_frame (c : ConfirmRequest) (via : Option CanChannel) (p : PendingSlot) (s : State) :
    State.Frame s (s.acceptConfirm c via p) (otp := Free) (images := Free) (store := Free) (dict := Free) (ledger := Free)
      (freeCount := Free) := by
  simp only [State.acceptConfirm, State.judgeAll]
  (repeat' split) <;> simp

@[simp] theorem State.confirmWrite_frame (c : ConfirmRequest) (via : Option CanChannel) (s : State) :
    State.Frame s (s.confirmWrite c via) (otp := Free) (images := Free) (store := Free) (dict := Free) (ledger := Free)
      (freeCount := Free) := by
  unfold State.confirmWrite
  (repeat' split) <;> simp

@[simp] theorem State.windowExpiry_frame (node : Nat) (s : State) : State.Frame s (s.windowExpiry node) (dict := Free) := by
  simp [State.windowExpiry]

@[simp] theorem State.setObject_frame (index sub : Nat) (o : Obj) (value : Nat) (s : State) :
    State.Frame s (s.setObject index sub o value) (store := Free) (dict := Free) := by
  simp [State.setObject]

@[simp] theorem State.supersede_frame (index sub : Nat) (s : State) : State.Frame s (s.supersede index sub) (dict := Free) := by
  simp [State.supersede]

@[simp] theorem State.restoreDefaults_frame (s : State) : State.Frame s s.restoreDefaults (store := Free) (dict := Free) := by
  simp [State.restoreDefaults]

@[simp] theorem State.setReadSeq_frame (node value : Nat) (s : State) : State.Frame s (s.setReadSeq node value) (ledger := Free) := by
  simp [State.setReadSeq]

/-- What a write that its owner takes leaves alone. -/
def State.OwnerFrame (s t : State) : Prop :=
  State.Frame s t (rt := Barely) (power := Partly) (clock := Partly) (otp := Free) (le := Free) (xch := Free) (field := Free)
      (analog := Free) (lib := Free) (images := Free) (store := Free) (dict := Free) (zop := Free) (mirror := Free) (modbus := Free)
      (service := Free) (ledger := Free) (freeCount := Free)

theorem State.ownerTakes_ownerFrame (q : QueuedWrite) (s : State) : s.OwnerFrame (s.ownerTakes q) := by
  unfold State.ownerTakes
  dsimp only
  iterate 18 refine iteInduction (motive := s.OwnerFrame) (fun _ => by simp [State.OwnerFrame]) (fun _ => ?_)
  split <;> simp [State.OwnerFrame]

@[simp] theorem State.ownerTakes_frame (q : QueuedWrite) (s : State) :
    State.Frame s (s.ownerTakes q) (rt := Barely) (power := Partly) (clock := Partly) (otp := Free) (le := Free) (xch := Free)
      (field := Free) (analog := Free) (lib := Free) (images := Free) (store := Free) (dict := Free) (zop := Free) (mirror := Free)
      (modbus := Free) (service := Free) (ledger := Free) (freeCount := Free) :=
  s.ownerTakes_ownerFrame q

@[simp] theorem State.noteApplied_frame (q : QueuedWrite) (s : State) : State.Frame s (s.noteApplied q) (dict := Free) := by
  unfold State.noteApplied
  split <;> simp

@[simp] theorem State.answerQueued_frame (q : QueuedWrite) (s : State) :
    State.Frame s (s.answerQueued q) (xch := Free) (store := Free) (dict := Free) (zop := Free) (ledger := Free) := by
  unfold State.answerQueued
  (repeat' split) <;> simp

@[simp] theorem State.answerRequest_frame (q : QueuedWrite) (code detail : Nat) (s : State) :
    State.Frame s (s.answerRequest q code detail) (otp := Free) (xch := Free) (images := Free) (store := Free) (dict := Free)
      (zop := Free) (ledger := Free) := by
  simp [State.answerRequest]

@[simp] theorem State.discardRequest_frame (s : State) (q : QueuedWrite) :
    State.Frame s (State.discardRequest s q) (otp := Free) (xch := Free) (images := Free) (store := Free) (dict := Free) (zop := Free)
      (ledger := Free) (freeCount := Free) := by
  simp [State.discardRequest]

@[simp] theorem State.applyCopy_frame (q : QueuedWrite) (s : State) : State.Frame s (s.applyCopy q) (store := Free) (dict := Free) := by
  unfold State.applyCopy
  split <;> simp

@[simp] theorem State.applyWrite_frame (changed : Bool) (s : State) (q : QueuedWrite) :
    State.Frame s (State.applyWrite changed s q) (rt := Barely) (power := Partly) (clock := Partly) (otp := Free) (le := Free)
      (xch := Free) (field := Free) (analog := Free) (lib := Free) (images := Free) (store := Free) (dict := Free) (zop := Free)
      (mirror := Free) (modbus := Free) (service := Free) (ledger := Free) (freeCount := Free) := by
  simp [State.applyWrite]

@[simp] theorem State.applyInOrder_frame (changed : Bool) (l : List QueuedWrite) (s : State) :
    State.Frame s (State.applyInOrder changed l s) (rt := Barely) (power := Partly) (clock := Partly) (otp := Free) (le := Free)
      (xch := Free) (field := Free) (analog := Free) (lib := Free) (images := Free) (store := Free) (dict := Free) (zop := Free)
      (mirror := Free) (modbus := Free) (service := Free) (ledger := Free) (freeCount := Free) := by
  induction l generalizing s with
  | nil => simp [State.applyInOrder]
  | cons q l ih =>
    unfold State.applyInOrder
    split <;> simp [ih]

@[simp] theorem State.applyWrites_frame (changed : Bool) (s : State) :
    State.Frame s (s.applyWrites changed) (rt := Barely) (power := Partly) (clock := Partly) (otp := Free) (le := Free) (xch := Free)
      (field := Free) (counters := Free) (analog := Free) (lib := Free) (images := Free) (store := Free) (dict := Free) (zop := Free)
      (mirror := Free) (modbus := Free) (service := Free) (ledger := Free) (freeCount := Free) := by
  simp [State.applyWrites]

@[simp] theorem State.serviceDict_frame (service index sub type : Nat) (value : List Byte) (s : State) :
    State.Frame s (s.serviceDict service index sub type value) (otp := Free) (images := Free) (store := Free) (dict := Free)
      (ledger := Free) := by
  unfold State.serviceDict
  split <;> simp

@[simp] theorem State.confirmedRequest_frame (r : Req) (via : Option CanChannel) (service index sub type value token code : Nat) (s :
    State) :
    State.Frame s (s.confirmedRequest r via service index sub type value token code) (otp := Free) (images := Free) (store := Free)
      (dict := Free) (ledger := Free) (freeCount := Free) := by
  unfold State.confirmedRequest
  split <;> simp

@[simp] theorem State.serviceConfirmed_frame (seq service index sub type value token code : Nat) (s : State) :
    State.Frame s (s.serviceConfirmed seq service index sub type value token code) (otp := Free) (images := Free) (store := Free)
      (dict := Free) (service := Free) (ledger := Free) (freeCount := Free) := by
  unfold State.serviceConfirmed
  split <;> simp [State.request]

/-! ### Machine/Modbus.lean -/

@[simp] theorem State.modbusAnswer_frame (pdu : List Byte) (s : State) : State.Frame s (s.modbusAnswer pdu) (modbus := Free) := by
  simp [State.modbusAnswer]

@[simp] theorem State.modbusException_frame (fc code : Nat) (s : State) : State.Frame s (s.modbusException fc code) (modbus := Free) := by
  simp [State.modbusException]

@[simp] theorem State.modbusRead_frame (fc start quantity : Nat) (s : State) :
    State.Frame s (s.modbusRead fc start quantity) (xch := Free) (store := Free) (zop := Free) (modbus := Free) (ledger := Free) := by
  simp [State.modbusRead]

@[simp] theorem State.modbusDeliver_frame (tag : Nat) (values : Option (List Byte)) (s : State) :
    State.Frame s (s.modbusDeliver tag values) (modbus := Free) := by
  unfold State.modbusDeliver
  (repeat' split) <;> simp

@[simp] theorem State.modbusPop_frame (tag start quantity : Nat) (s : State) :
    State.Frame s (s.modbusPop tag start quantity) (xch := Free) (store := Free) (ledger := Free) := by
  simp [State.modbusPop]

@[simp] theorem State.identify_frame (mei code objectId : Nat) (s : State) :
    State.Frame s (s.identify mei code objectId) (modbus := Free) := by
  unfold State.identify
  (repeat' split) <;> simp

@[simp] theorem State.illegal_frame (code : Nat) (s : State) : State.Frame s (s.illegal code) (modbus := Free) := by
  simp [State.illegal]

@[simp] theorem State.modbusDiscard_frame (why : ModbusDiscard) (s : State) : State.Frame s (s.modbusDiscard why) (modbus := Free) := by
  simp [State.modbusDiscard]

@[simp] theorem State.modbusLate_frame (s : State) : State.Frame s s.modbusLate (modbus := Free) := by
  unfold State.modbusLate
  split <;> simp

/-! ### Machine/Receive.lean -/

@[simp] theorem State.postRequest_frame (h : DictHead) (value : List Byte) (s : State) :
    State.Frame s (s.postRequest h value) (xch := Free) (store := Free) (zop := Free) (ledger := Free) := by
  simp [State.postRequest]

@[simp] theorem State.postFrame_frame (ch : CanChannel) (id : Nat) (d : List Byte) (s : State) :
    State.Frame s (s.postFrame ch id d) (xch := Free) (store := Free) (ledger := Free) := by
  simp [State.postFrame]

@[simp] theorem State.brokenRequest_frame (ch : CanChannel) (requester service reqSeq index sub type : Nat) (s : State) :
    State.Frame s (s.brokenRequest ch requester service reqSeq index sub type) (dict := Free) (zop := Free) := by
  unfold State.brokenRequest
  dsimp only
  (repeat' split) <;> simp

@[simp] theorem State.dropTransfer_frame (ch : CanChannel) (node : Nat) (s : State) :
    State.Frame s (s.dropTransfer ch node) (zop := Free) := by
  simp [State.dropTransfer]

@[simp] theorem State.breakTransfer_frame (t : Transfer) (s : State) :
    State.Frame s (s.breakTransfer t) (dict := Free) (zop := Free) := by
  simp [State.breakTransfer]

@[simp] theorem State.segmentIn_frame (ch : CanChannel) (node reqSeq offset : Nat) (data : List Byte) (last : Bool) (s : State) :
    State.Frame s (s.segmentIn ch node reqSeq offset data last) (xch := Free) (store := Free) (dict := Free) (zop := Free)
      (ledger := Free) := by
  unfold State.segmentIn
  split <;> simp

@[simp] theorem State.segmentLate_frame (ch : CanChannel) (node : Nat) (s : State) :
    State.Frame s (s.segmentLate ch node) (dict := Free) (zop := Free) := by
  unfold State.segmentLate
  split <;> simp

@[simp] theorem State.plainFirst_frame (ch : CanChannel) (node : Nat) (d : List Byte) (s : State) :
    State.Frame s (s.plainFirst ch node d) (xch := Free) (store := Free) (dict := Free) (zop := Free) (ledger := Free) := by
  simp [State.plainFirst]

@[simp] theorem State.plainConfirmed_frame (ch : CanChannel) (node : Nat) (d : List Byte) (s : State) :
    State.Frame s (s.plainConfirmed ch node d) (xch := Free) (store := Free) (zop := Free) (ledger := Free) := by
  simp [State.plainConfirmed]

@[simp] theorem State.plainFrame_frame (ch : CanChannel) (node : Nat) (d : List Byte) (s : State) :
    State.Frame s (s.plainFrame ch node d) (xch := Free) (store := Free) (dict := Free) (zop := Free) (service := Free) (ledger := Free)
      := by
  simp [State.plainFrame]

@[simp] theorem State.dispatchFrame_frame (ch : CanChannel) (id : Nat) (d : List Byte) (s : State) :
    State.Frame s (s.dispatchFrame ch id d) (clock := Partly) (xch := Free) (store := Free) (dict := Free) (zop := Free) (service := Free)
      (ledger := Free) := by
  simp [State.dispatchFrame, State.postOnce]

@[simp] theorem State.receiveFrame_frame (ch : CanChannel) (id : Nat) (d : List Byte) (fd ide esi : Bool) (s : State) :
    State.Frame s (s.receiveFrame ch id d fd ide esi) (rt := Partly) (clock := Partly) (xch := Free) (store := Free) (dict := Free)
      (zop := Free) (service := Free) (ledger := Free) := by
  simp [State.receiveFrame]

@[simp] theorem State.plainRequest_frame (h : DictHead) (value : List Byte) (s : State) :
    State.Frame s (s.plainRequest h value) (otp := Free) (xch := Free) (images := Free) (store := Free) (dict := Free) (ledger := Free) :=
      by
  unfold State.plainRequest
  split <;> simp [State.request]

@[simp] theorem State.zopsRequest_frame (ch : CanChannel) (node : Nat) (d : List Byte) (s : State) :
    State.Frame s (s.zopsRequest ch node d) (otp := Free) (xch := Free) (images := Free) (store := Free) (dict := Free) (zop := Free)
      (service := Free) (ledger := Free) (freeCount := Free) := by
  unfold State.zopsRequest
  dsimp only
  (repeat' split) <;> simp [State.request]

@[simp] theorem State.readFrame_frame (d : List Byte) (s : State) :
    State.Frame s (s.readFrame d) (rt := Partly) (otp := Free) (xch := Free) (images := Free) (store := Free) (dict := Free) (zop := Free)
      (service := Free) (ledger := Free) (freeCount := Free) := by
  simp [State.readFrame]

@[simp] theorem State.readPart_frame (d : List Byte) (s : State) :
    State.Frame s (s.readPart d) (otp := Free) (xch := Free) (images := Free) (store := Free) (dict := Free) (zop := Free)
      (service := Free) (ledger := Free) := by
  simp [State.readPart]

@[simp] theorem State.readBuffer_frame (n : Nat) (s : State) :
    State.Frame s (s.readBuffer n) (rt := Partly) (otp := Free) (xch := Free) (images := Free) (store := Free) (dict := Free)
      (zop := Free) (service := Free) (ledger := Free) (freeCount := Free) := by
  unfold State.readBuffer
  split <;> simp

@[simp] theorem State.popRead_frame (s : State) :
    State.Frame s s.popRead (rt := Partly) (otp := Free) (xch := Free) (images := Free) (store := Free) (dict := Free) (zop := Free)
      (service := Free) (ledger := Free) (freeCount := Free) := by
  unfold State.popRead
  split <;> simp

@[simp] theorem State.popBuffers_frame (k : Nat) (a : Allotment) (s : State) :
    State.Frame s (State.popBuffers k a s) (rt := Partly) (otp := Free) (xch := Free) (images := Free) (store := Free) (dict := Free)
      (zop := Free) (service := Free) (ledger := Free) (freeCount := Free) := by
  induction k generalizing a s with
  | zero => simp [State.popBuffers]
  | succ k ih =>
    unfold State.popBuffers
    (repeat' split) <;> simp [ih]

@[simp] theorem State.popInbound_frame (s : State) :
    State.Frame s s.popInbound (rt := Barely) (otp := Free) (xch := Free) (images := Free) (store := Free) (dict := Free) (zop := Free)
      (service := Free) (ledger := Free) (freeCount := Free) := by
  simp [State.popInbound]

@[simp] theorem State.ceHandles_frame (n : Nat) (s : State) :
    State.Frame s (s.ceHandles n) (zop := Free) (modbus := Free) (ledger := Free) := by
  unfold State.ceHandles
  split <;> simp

@[simp] theorem State.meHandles_frame (n : Nat) (s : State) : State.Frame s (s.meHandles n) (mirror := Free) := by
  simp [State.meHandles]

@[simp] theorem State.pop_frame (port : Owner) (s : State) :
    State.Frame s (s.pop port) (rt := Partly) (otp := Free) (xch := Free) (images := Free) (store := Free) (dict := Free) (zop := Free)
      (mirror := Free) (modbus := Free) (service := Free) (ledger := Free) (freeCount := Free) := by
  unfold State.pop
  split <;> simp

/-! ### Machine/States.lean -/

@[simp] theorem State.leaveRun_frame (s : State) :
    State.Frame s s.leaveRun (glint := Free) (lib := Free) (zop := Free) (mirror := Free) := by
  simp [State.leaveRun]

@[simp] theorem State.leaveState_frame (s : State) :
    State.Frame s s.leaveState (rt := Partly) (passes := Free) (field := Free) (glint := Free) (lib := Free) (store := Free) (zop := Free)
      (mirror := Free) (service := Free) (ledger := Free) := by
  unfold State.leaveState
  split <;> simp

@[simp] theorem State.startPasses_frame (s : State) :
    State.Frame s s.startPasses (rt := Free) (passes := Free) (le := Free) (field := Free) (lib := Free) (service := Free) := by
  unfold State.startPasses
  dsimp only
  (repeat' split) <;> simp

@[simp] theorem State.beginRun_frame (s : State) :
    State.Frame s s.beginRun (rt := Free) (passes := Free) (le := Free) (xch := Free) (field := Free) (glint := Free) (lib := Free)
      (store := Free) (zop := Free) (mirror := Free) (service := Free) (ledger := Free) := by
  simp [State.beginRun]

@[simp] theorem State.enterState_frame (st : RunState) (s : State) :
    State.Frame s (s.enterState st) (rt := Free) (passing := Free) (passes := Free) (le := Free) (xch := Free) (field := Free)
      (glint := Free) (lib := Free) (store := Free) (dict := Free) (zop := Free) (mirror := Free) (service := Free) (ledger := Free) := by
  unfold State.enterState
  split <;> simp

@[simp] theorem State.recordFaults_frame (c : Option Nat) (l : List Detected) (s : State) :
    State.Frame s (State.recordFaults c l s) (store := Free) (ledger := Free) := by
  induction l generalizing c s with
  | nil => simp [State.recordFaults]
  | cons d l ih => simp [State.recordFaults, ih]

@[simp] theorem State.lockoutCommand_frame (s : State) :
    State.Frame s s.lockoutCommand (rt := Partly) (power := Partly) (otp := Free) (le := Free) (field := Free) (analog := Free)
      (mirror := Free) (modbus := Free) (ledger := Free) (freeCount := Free) := by
  unfold State.lockoutCommand
  split <;> simp

@[simp] theorem State.enterByFault_frame (st : RunState) (cause : Nat) (s : State) :
    State.Frame s (s.enterByFault st cause) (rt := Free) (passing := Free) (power := Partly) (boot := Partly) (otp := Free)
      (passes := Free) (le := Free) (xch := Free) (field := Free) (glint := Free) (analog := Free) (lib := Free) (store := Free)
      (dict := Free) (zop := Free) (mirror := Free) (modbus := Free) (service := Free) (ledger := Free) (freeCount := Free) := by
  simp [State.enterByFault]

@[simp] theorem State.evaluateFaults_frame (l : List Detected) (s : State) :
    State.Frame s (s.evaluateFaults l) (rt := Free) (passing := Free) (power := Partly) (boot := Partly) (otp := Free) (passes := Free)
      (le := Free) (xch := Free) (field := Free) (glint := Free) (analog := Free) (lib := Free) (store := Free) (dict := Free)
      (zop := Free) (mirror := Free) (modbus := Free) (service := Free) (ledger := Free) (freeCount := Free) := by
  unfold State.evaluateFaults
  split <;> simp

@[simp] theorem State.noteCommand_frame (s : State) :
    State.Frame s s.noteCommand (store := Free) (ledger := Free) (freeCount := Free) := by
  simp [State.noteCommand]

@[simp] theorem State.judgeRun_frame (s : State) :
    State.Frame s s.judgeRun.1 (rt := Free) (store := Free) (ledger := Free) (freeCount := Free) := by
  unfold State.judgeRun
  dsimp only
  (repeat' split) <;> simp

@[simp] theorem State.judgeService_frame (s : State) : State.Frame s s.judgeService.1 (rt := Free) := by
  unfold State.judgeService
  split <;> simp

@[simp] theorem State.judgeHold_frame (s : State) :
    State.Frame s s.judgeHold.1 (rt := Free) (passing := Free) (passes := Free) (le := Free) (xch := Free) (field := Free) (glint := Free)
      (lib := Free) (store := Free) (dict := Free) (zop := Free) (mirror := Free) (service := Free) (ledger := Free) := by
  unfold State.judgeHold
  (repeat' split) <;> simp

@[simp] theorem State.judgeAck_frame (s : State) :
    State.Frame s s.judgeAck.1 (rt := Free) (passing := Free) (boot := Partly) (passes := Free) (le := Free) (xch := Free) (field := Free)
      (glint := Free) (lib := Free) (store := Free) (dict := Free) (zop := Free) (mirror := Free) (service := Free) (ledger := Free) := by
  unfold State.judgeAck
  split <;> simp

@[simp] theorem State.judgeSafeStopAck_frame (s : State) :
    State.Frame s s.judgeSafeStopAck.1 (rt := Free) (passing := Free) (passes := Free) (le := Free) (xch := Free) (field := Free)
      (glint := Free) (lib := Free) (store := Free) (dict := Free) (zop := Free) (mirror := Free) (service := Free) (ledger := Free) := by
  unfold State.judgeSafeStopAck
  split <;> simp

@[simp] theorem State.judgeRequest_frame (q : QueuedWrite) (s : State) :
    State.Frame s (s.judgeRequest q).1 (rt := Free) (passing := Free) (boot := Partly) (passes := Free) (le := Free) (xch := Free)
      (field := Free) (glint := Free) (lib := Free) (store := Free) (dict := Free) (zop := Free) (mirror := Free) (service := Free)
      (ledger := Free) (freeCount := Free) := by
  unfold State.judgeRequest
  (repeat' split) <;> simp

@[simp] theorem State.outrankRequest_frame (s : State) (q : QueuedWrite) :
    State.Frame s (State.outrankRequest s q) (otp := Free) (xch := Free) (images := Free) (store := Free) (dict := Free) (zop := Free)
      (ledger := Free) := by
  unfold State.outrankRequest
  split <;> simp

@[simp] theorem State.evaluateRequests_frame (qs : List QueuedWrite) (faulted : Bool) (s : State) :
    State.Frame s (s.evaluateRequests qs faulted) (rt := Free) (passing := Free) (boot := Partly) (otp := Free) (passes := Free)
      (le := Free) (xch := Free) (field := Free) (glint := Free) (lib := Free) (images := Free) (store := Free) (dict := Free)
      (zop := Free) (mirror := Free) (service := Free) (ledger := Free) (freeCount := Free) := by
  unfold State.evaluateRequests
  split <;> simp

@[simp] theorem State.followPairStop_frame (s : State) :
    State.Frame s s.followPairStop (rt := Free) (passing := Free) (passes := Free) (le := Free) (xch := Free) (field := Free)
      (glint := Free) (lib := Free) (store := Free) (dict := Free) (zop := Free) (mirror := Free) (service := Free) (ledger := Free) := by
  unfold State.followPairStop
  (repeat' split) <;> simp

@[simp] theorem State.automaticStart_frame (s : State) :
    State.Frame s s.automaticStart (rt := Free) (store := Free) (ledger := Free) (freeCount := Free) := by
  simp [State.automaticStart]

@[simp] theorem State.finishEncoding_frame (s : State) :
    State.Frame s s.finishEncoding (rt := Free) (passing := Free) (passes := Free) (le := Free) (xch := Free) (field := Free)
      (glint := Free) (lib := Free) (store := Free) (dict := Free) (zop := Free) (mirror := Free) (service := Free) (ledger := Free)
      (freeCount := Free) := by
  unfold State.finishEncoding
  (repeat' split) <;> simp

@[simp] theorem State.encodingComplete_frame (differs : Option Nat) (s : State) :
    State.Frame s (s.encodingComplete differs) (rt := Free) (passing := Free) (boot := Barely) (passes := Free) (field := Free)
      (glint := Free) (mirror := Free) (ledger := Free) := by
  unfold State.encodingComplete
  (repeat' split) <;> simp

/-! ### Machine/Cycle.lean -/

@[simp] theorem State.evaluatePasses_frame (s : State) :
    State.Frame s s.evaluatePasses (rt := Barely) (passes := Free) (le := Free) (lib := Free) (store := Free) (ledger := Free)
      (freeCount := Free) := by
  simp [State.evaluatePasses]

@[simp] theorem State.bankFault_frame (old : Bank) (b : Nat) (s : State) :
    State.Frame s (s.bankFault old b) (rt := Partly) (store := Free) (ledger := Free) := by
  simp [State.bankFault]

@[simp] theorem State.countStall_frame (s : State) : State.Frame s s.countStall (rt := Barely) := by
  simp [State.countStall]

@[simp] theorem State.freeze_frame (tk : Nat) (x : Sensors) (s : State) :
    State.Frame s (s.freeze tk x) (rt := Partly) (power := Partly) (field := Free) (glint := Free) (counters := Free) (analog := Free)
      (store := Free) (mirror := Free) (ledger := Free) (freeCount := Free) := by
  simp [State.freeze]

@[simp] theorem State.newCycle_frame (x : Sensors) (s : State) :
    State.Frame s (s.newCycle x) (rt := Barely) (power := Partly) (clock := Partly) (xch := Free) (field := Free) (glint := Free)
      (counters := Free) (analog := Free) (images := Free) (store := Free) (zop := Free) (mirror := Free) (ledger := Free)
      (freeCount := Free) := by
  simp [State.newCycle]

@[simp] theorem State.takeImage_frame (s : State) : State.Frame s s.takeImage (le := Free) := by
  simp [State.takeImage]

@[simp] theorem State.passedBoundary_frame (x : Sensors) (s : State) :
    State.Frame s (s.passedBoundary x) (rt := Barely) (power := Partly) (clock := Partly) (passes := Free) (le := Free) (xch := Free)
      (field := Free) (glint := Free) (counters := Free) (analog := Free) (lib := Free) (images := Free) (store := Free) (dict := Free)
      (zop := Free) (mirror := Free) (ledger := Free) (freeCount := Free) := by
  simp [State.passedBoundary]

@[simp] theorem State.evaluateBoundary_frame (faults : List Detected) (s : State) :
    State.Frame s (s.evaluateBoundary faults) (rt := Free) (passing := Free) (power := Partly) (clock := Partly) (boot := Free)
      (otp := Free) (passes := Free) (le := Free) (xch := Free) (field := Free) (glint := Free) (counters := Free) (analog := Free)
      (lib := Free) (images := Free) (store := Free) (dict := Free) (zop := Free) (mirror := Free) (modbus := Free) (service := Free)
      (ledger := Free) (freeCount := Free) := by
  simp [State.evaluateBoundary]

@[simp] theorem State.boundaryWork_frame (old : RunState) (cause : Nat) (s : State) :
    State.Frame s (s.boundaryWork old cause) (power := Partly) (clock := Partly) (passes := Free) (le := Free) (xch := Free)
      (analog := Free) (lib := Free) (images := Free) (store := Free) (dict := Free) (zop := Free) (mirror := Free) (ledger := Free) := by
  simp [State.boundaryWork]

@[simp] theorem State.launchPasses_frame (s : State) : State.Frame s s.launchPasses (rt := Barely) (passing := Free) := by
  simp [State.launchPasses]

@[simp] theorem State.aliveMark_frame (s : State) : State.Frame s s.aliveMark (rt := Barely) := by
  simp [State.aliveMark]

/-! ### Machine/Handover.lean -/

@[simp] theorem State.alterOutputs_frame (r : PassResult) (s : State) : State.Frame s (s.alterOutputs r) (le := Free) := by
  simp [State.alterOutputs]

@[simp] theorem State.alterCoded_frame (r : PassResult) (s : State) : State.Frame s (s.alterCoded r) (le := Free) := by
  simp [State.alterCoded]

@[simp] theorem State.plainPass_frame (r : PassResult) (ended : Bool) (s : State) :
    State.Frame s (s.plainPass r ended).1 (rt := Partly) (passing := Free) (boot := Barely) (passes := Free) (le := Free) (field := Free)
      (glint := Free) (mirror := Free) (ledger := Free) := by
  have ht : ∀ s t u, State.Frame s t (rt := Partly) (passing := Free) (boot := Barely) (passes := Free) (le := Free) (field := Free)
      (glint := Free) (mirror := Free) (ledger := Free) → State.Frame t u (rt := Partly) (passing := Free) (boot := Barely)
      (passes := Free) (le := Free) (field := Free) (glint := Free) (mirror := Free) (ledger := Free) → State.Frame s u (rt := Partly)
      (passing := Free) (boot := Barely) (passes := Free) (le := Free) (field := Free) (glint := Free) (mirror := Free) (ledger := Free)
      := by grind [Boot.MayBe.trans]
  unfold State.plainPass
  have h := thenPass_frame (R := fun s t => State.Frame s t (rt := Partly) (passing := Free) (boot := Barely) (passes := Free)
      (le := Free) (field := Free) (glint := Free) (mirror := Free) (ledger := Free)) ht
    (runPass_frame (R := fun s t => State.Frame s t (rt := Partly) (passing := Free) (boot := Barely) (passes := Free) (le := Free)
        (field := Free) (glint := Free) (mirror := Free) (ledger := Free)) (by simp) ht (State.plainInstr (!s.passes.split)) (by simp)
        r.instrs s)
    _ (runPass_frame (R := fun s t => State.Frame s t (rt := Partly) (passing := Free) (boot := Barely) (passes := Free) (le := Free)
        (field := Free) (glint := Free) (mirror := Free) (ledger := Free)) (by simp) ht (State.plainWrite (!s.passes.split)) (by simp)
        r.plainWrites)
  dsimp only
  split <;> rename_i heq <;> rw [heq] at h
  · exact h
  · split <;> exact h

@[simp] theorem State.shadowPass_frame (r : PassResult) (ended : Bool) (s : State) :
    State.Frame s (s.shadowPass r ended).1 (rt := Partly) (passing := Free) (boot := Barely) (passes := Free) (le := Free) (field := Free)
      (glint := Free) (mirror := Free) (ledger := Free) := by
  have ht : ∀ s t u, State.Frame s t (rt := Partly) (passing := Free) (boot := Barely) (passes := Free) (le := Free) (field := Free)
      (glint := Free) (mirror := Free) (ledger := Free) → State.Frame t u (rt := Partly) (passing := Free) (boot := Barely)
      (passes := Free) (le := Free) (field := Free) (glint := Free) (mirror := Free) (ledger := Free) → State.Frame s u (rt := Partly)
      (passing := Free) (boot := Barely) (passes := Free) (le := Free) (field := Free) (glint := Free) (mirror := Free) (ledger := Free)
      := by grind [Boot.MayBe.trans]
  unfold State.shadowPass
  split
  · simp
  · have h := thenPass_frame (R := fun s t => State.Frame s t (rt := Partly) (passing := Free) (boot := Barely) (passes := Free)
        (le := Free) (field := Free) (glint := Free) (mirror := Free) (ledger := Free)) ht
      (runPass_frame (R := fun s t => State.Frame s t (rt := Partly) (passing := Free) (boot := Barely) (passes := Free) (le := Free)
          (field := Free) (glint := Free) (mirror := Free) (ledger := Free)) (by simp) ht State.shadowInstr (by simp) r.instrs s)
      _ (runPass_frame (R := fun s t => State.Frame s t (rt := Partly) (passing := Free) (boot := Barely) (passes := Free) (le := Free)
          (field := Free) (glint := Free) (mirror := Free) (ledger := Free)) (by simp) ht State.shadowWrite (by simp) r.shadowWrites)
    split <;> rename_i heq <;> rw [heq] at h
    · exact h
    · (repeat' split) <;> exact h

@[simp] theorem State.passTimes_frame (r : PassResult) (s : State) : State.Frame s (s.passTimes r) (rt := Barely) (passes := Free) := by
  simp [State.passTimes]

@[simp] theorem State.advanceWindow_frame (s : State) : State.Frame s s.advanceWindow (passes := Free) := by
  simp [State.advanceWindow]

@[simp] theorem State.compareWindow_frame (s : State) :
    State.Frame s s.compareWindow (rt := Partly) (passing := Free) (boot := Barely) (passes := Free) (field := Free) (glint := Free)
      (mirror := Free) (ledger := Free) := by
  unfold State.compareWindow
  dsimp only
  (repeat' split) <;> simp

@[simp] theorem State.endCycle_frame (s : State) : State.Frame s s.endCycle (rt := Partly) (passing := Free) (service := Free) := by
  simp [State.endCycle]

@[simp] theorem State.popAfter_frame (s : State) :
    State.Frame s s.popAfter (rt := Barely) (otp := Free) (xch := Free) (images := Free) (store := Free) (dict := Free) (zop := Free)
      (service := Free) (ledger := Free) (freeCount := Free) := by
  simp [State.popAfter]

@[simp] theorem State.overrun_frame (s : State) :
    State.Frame s s.overrun (rt := Barely) (passing := Free) (otp := Free) (le := Free) (xch := Free) (images := Free) (store := Free)
      (dict := Free) (zop := Free) (mirror := Free) (service := Free) (ledger := Free) (freeCount := Free) := by
  simp [State.overrun]

@[simp] theorem State.handImages_frame (plain shadow : BitVec 32) (s : State) :
    State.Frame s (s.handImages plain shadow) (rt := Barely) (passing := Free) (otp := Free) (le := Free) (xch := Free) (field := Free)
      (images := Free) (store := Free) (dict := Free) (zop := Free) (mirror := Free) (service := Free) (ledger := Free)
      (freeCount := Free) := by
  simp [State.handImages]

@[simp] theorem State.completeCycle_frame (r : PassResult) (s : State) :
    State.Frame s (s.completeCycle r) (rt := Barely) (passing := Free) (boot := Barely) (otp := Free) (passes := Free) (le := Free)
      (xch := Free) (field := Free) (glint := Free) (images := Free) (store := Free) (dict := Free) (zop := Free) (mirror := Free)
      (service := Free) (ledger := Free) (freeCount := Free) := by
  have ht : ∀ t u, State.Frame s t (rt := Barely) (passing := Free) (boot := Barely) (otp := Free) (passes := Free) (le := Free)
      (xch := Free) (field := Free) (glint := Free) (images := Free) (store := Free) (dict := Free) (zop := Free) (mirror := Free)
      (service := Free) (ledger := Free) (freeCount := Free) → State.Frame t u (rt := Barely) (passing := Free) (boot := Barely)
      (otp := Free) (passes := Free) (le := Free) (xch := Free) (field := Free) (glint := Free) (images := Free) (store := Free)
      (dict := Free) (zop := Free) (mirror := Free) (service := Free) (ledger := Free) (freeCount := Free) → State.Frame s u
      (rt := Barely) (passing := Free) (boot := Barely) (otp := Free) (passes := Free) (le := Free) (xch := Free) (field := Free)
      (glint := Free) (images := Free) (store := Free) (dict := Free) (zop := Free) (mirror := Free) (service := Free) (ledger := Free)
      (freeCount := Free) := by
    grind [Boot.MayBe.trans]
  unfold State.completeCycle
  extract_lets t u
  have h : State.Frame s u (rt := Barely) (passing := Free) (boot := Barely) (otp := Free) (passes := Free) (le := Free) (xch := Free)
      (field := Free) (glint := Free) (images := Free) (store := Free) (dict := Free) (zop := Free) (mirror := Free) (service := Free)
      (ledger := Free) (freeCount := Free) := by
    unfold u
    split
    · simp [t]
    · simpa [t] using t.advanceWindow.compareWindow_frame
  split
  · exact h
  · split
    · exact ht u _ h (by simp)
    · split
      · exact ht u _ h (by simp)
      · exact ht u _ h (by simp)

@[simp] theorem State.endFolds_frame (s : State) : State.Frame s s.endFolds (passes := Free) := by
  simp [State.endFolds]

@[simp] theorem State.handOver_frame (r : PassResult) (s : State) :
    State.Frame s (s.handOver r) (rt := Barely) (passing := Free) (boot := Barely) (otp := Free) (passes := Free) (le := Free)
      (xch := Free) (field := Free) (glint := Free) (lib := Free) (images := Free) (store := Free) (dict := Free) (zop := Free)
      (mirror := Free) (service := Free) (ledger := Free) (freeCount := Free) := by
  have ht : ∀ s t u, State.Frame s t (rt := Barely) (passing := Free) (boot := Barely) (otp := Free) (passes := Free) (le := Free)
      (xch := Free) (field := Free) (glint := Free) (lib := Free) (images := Free) (store := Free) (dict := Free) (zop := Free)
      (mirror := Free) (service := Free) (ledger := Free) (freeCount := Free) → State.Frame t u (rt := Barely) (passing := Free)
      (boot := Barely) (otp := Free) (passes := Free) (le := Free) (xch := Free) (field := Free) (glint := Free) (lib := Free)
      (images := Free) (store := Free) (dict := Free) (zop := Free) (mirror := Free) (service := Free) (ledger := Free)
      (freeCount := Free) → State.Frame s u (rt := Barely) (passing := Free) (boot := Barely) (otp := Free) (passes := Free) (le := Free)
      (xch := Free) (field := Free) (glint := Free) (lib := Free) (images := Free) (store := Free) (dict := Free) (zop := Free)
      (mirror := Free) (service := Free) (ledger := Free) (freeCount := Free) := by grind [Boot.MayBe.trans]
  unfold State.handOver
  split
  · simp
  · extract_lets u ended
    have hu : State.Frame s u (rt := Barely) (passing := Free) (boot := Barely) (otp := Free) (passes := Free) (le := Free) (xch := Free)
        (field := Free) (glint := Free) (lib := Free) (images := Free) (store := Free) (dict := Free) (zop := Free) (mirror := Free)
        (service := Free) (ledger := Free) (freeCount := Free) := by
      unfold u
      split <;> simp
    have h : State.Frame u (thenPass (u.plainPass r ended) (fun t => if t.passes.split then (t, none) else t.shadowPass r ended)).1
        (rt := Barely) (passing := Free) (boot := Barely) (otp := Free) (passes := Free) (le := Free) (xch := Free) (field := Free)
        (glint := Free) (lib := Free) (images := Free) (store := Free) (dict := Free) (zop := Free) (mirror := Free) (service := Free)
        (ledger := Free) (freeCount := Free) :=
      thenPass_frame (R := fun s t => State.Frame s t (rt := Barely) (passing := Free) (boot := Barely) (otp := Free) (passes := Free)
          (le := Free) (xch := Free) (field := Free) (glint := Free) (lib := Free) (images := Free) (store := Free) (dict := Free)
          (zop := Free) (mirror := Free) (service := Free) (ledger := Free) (freeCount := Free)) ht (by simp) _ (fun t => by split <;>
          simp)
    split
    next t e heq =>
      rw [heq] at h
      exact ht _ _ _ hu (ht _ _ _ h (by simpa using State.stopPass_frame e t.endFolds))
    next t heq =>
      rw [heq] at h
      split
      · exact ht _ _ _ hu (ht _ _ _ h (by simpa using ((t.alterOutputs r).alterCoded r).completeCycle_frame r))
      · exact ht _ _ _ hu (ht _ _ _ h (by simp))

/-! ### Machine/Outputs.lean -/

@[simp] theorem State.placeImages_frame (i : OutImages) (which : Channel → Bool) (s : State) :
    State.Frame s (s.placeImages i which) (field := Free) := by
  simp [State.placeImages]

@[simp] theorem State.placeSimulated_frame (s : State) : State.Frame s s.placeSimulated (field := Free) := by
  simp [State.placeSimulated]

@[simp] theorem State.armWatchdog_frame (s : State) : State.Frame s s.armWatchdog (field := Free) := by
  unfold State.armWatchdog
  split <;> simp

@[simp] theorem State.placeFresh_frame (i : OutImages) (s : State) : State.Frame s (s.placeFresh i) (field := Free) := by
  simp [State.placeFresh]

@[simp] theorem State.countSwitches_frame (old : List Bool) (s : State) :
    State.Frame s (s.countSwitches old) (field := Free) (ledger := Free) := by
  simp [State.countSwitches]

@[simp] theorem State.placeOutputs_frame (s : State) :
    State.Frame s s.placeOutputs (field := Free) (mirror := Free) (ledger := Free) := by
  unfold State.placeOutputs
  dsimp only
  (repeat' split) <;> simp

@[simp] theorem State.watchdogExpiry_frame (s : State) :
    State.Frame s s.watchdogExpiry (rt := Partly) (field := Free) (glint := Free) (mirror := Free) (service := Free) (ledger := Free) :=
      by
  simp [State.watchdogExpiry]

@[simp] theorem State.closeCheck_frame (railHigh : BitVec 4) (s : State) :
    State.Frame s (s.closeCheck railHigh) (rt := Partly) (field := Free) (ledger := Free) := by
  unfold State.closeCheck
  dsimp only
  (repeat' split) <;> simp [State.modBank]

@[simp] theorem State.openCheck_frame (b : Nat) (railLow : Bool) (s : State) : State.Frame s (s.openCheck b railLow) (rt := Partly) := by
  simp [State.openCheck]

@[simp] theorem State.supplyOut_frame (supply : Nat) (s : State) : State.Frame s (s.supplyOut supply) (rt := Partly) := by
  simp [State.supplyOut]

@[simp] theorem State.readbackFault_frame (n : Nat) (s : State) :
    State.Frame s (s.readbackFault n) (rt := Partly) (field := Free) (store := Free) (ledger := Free) := by
  simp [State.readbackFault]

@[simp] theorem State.driverConditions_frame (n : Nat) (conditions : BitVec 4) (s : State) :
    State.Frame s (s.driverConditions n conditions) (field := Free) (ledger := Free) := by
  simp [State.driverConditions]

@[simp] theorem State.thermalRestart_frame (n : Nat) (s : State) :
    State.Frame s (s.thermalRestart n) (field := Free) (ledger := Free) := by
  simp [State.thermalRestart]

@[simp] theorem State.clearReadback_frame (safety : Bool) (s : State) : State.Frame s (s.clearReadback safety) (field := Free) := by
  simp [State.clearReadback]

@[simp] theorem State.causeClear_frame (cause : Nat) (s : State) :
    State.Frame s (s.causeClear cause) (rt := Partly) (field := Free) (analog := Free) := by
  simp [State.causeClear]

end Sys2Proof.Machine

namespace Sys2Proof.Machine

/-- `s` with another boot sequence and other counts of seconds, on which the log does not depend. -/
def State.withCounts (b : Boot) (l : Ledger) (s : State) : State :=
  { s with
    boot := b
    ledger.countedTo := l.countedTo
    ledger.powered := l.powered
    ledger.run := l.run
    ledger.bins := l.bins }

theorem State.requestRecord_withCounts (r : StoreRecord) (b : Boot) (l : Ledger) (s : State) :
    (s.withCounts b l).requestRecord r = (s.requestRecord r).withCounts b l := by
  by_cases h : s.power.gateClosed <;> simp [State.requestRecord, State.withCounts, h]

theorem State.storeEvent_withCounts (r : EventRecord) (b : Boot) (l : Ledger) (s : State) :
    (s.withCounts b l).storeEvent r = (s.storeEvent r).withCounts b l := by
  unfold State.storeEvent
  split
  · exact State.requestRecord_withCounts ..
  · exact State.requestRecord_withCounts _ b l { s with store.eventDropped := sat32 (s.store.eventDropped + 1) }

theorem Ledger.enter_withCounts (n : Nat) (r : EventRecord) (b : Boot) (l : Ledger) (s : State) :
    (s.withCounts b l).ledger.enter n r = (({ s with ledger := (s.ledger.enter n r).1 }.withCounts b l).ledger, (s.ledger.enter n r).2) := by
  by_cases h : s.ledger.ring.length < n
  · simp [Ledger.enter, Ledger.place, State.withCounts, h]
  · cases hf : s.ledger.ring.findIdx? (fun o => !o.waiting) <;> simp [Ledger.enter, Ledger.place, State.withCounts, h, hf]

theorem State.enterRecord_withCounts (r : EventRecord) (b : Boot) (l : Ledger) (s : State) :
    (s.withCounts b l).enterRecord r = ((s.enterRecord r).1.withCounts b l, (s.enterRecord r).2) := by
  unfold State.enterRecord
  dsimp only
  rw [← State.storeEvent_withCounts, Ledger.enter_withCounts]
  rfl

theorem State.selfRecord_withCounts (code interval : Nat) (b : Boot) (l : Ledger) (s : State) :
    (s.withCounts b l).selfRecord code interval = (s.selfRecord code interval).withCounts b l := by
  have h : (s.withCounts b l).ledger.due code 0 interval (s.withCounts b l).localNow = s.ledger.due code 0 interval s.localNow := rfl
  unfold State.selfRecord
  rw [h]
  split
  · rfl
  · exact congrArg Prod.fst (State.enterRecord_withCounts (s.newRecord code s.now false (leBytes 4 _)) b l
      { s with ledger := s.ledger.noteRecorded code 0 s.localNow })

theorem State.logRecord_withCounts (s : State) (r : EventRecord) (b : Boot) (l : Ledger) :
    (s.withCounts b l).logRecord r = (s.logRecord r).withCounts b l := by
  unfold State.logRecord State.afterEntry
  dsimp only
  rw [State.enterRecord_withCounts, show (s.withCounts b l).rt.cycling = s.rt.cycling from rfl]
  split
  · (repeat' split) <;> simp only [State.selfRecord_withCounts]
  · rfl

theorem State.recordDetected_withCounts (b : Boot) (l : Ledger) (s : State) :
    (s.withCounts b l).recordDetected = s.recordDetected.withCounts b l := by
  exact List.foldl_hom (State.withCounts b l) fun t d => t.logRecord_withCounts (t.newRecord d.cause d.time false d.data) b l

theorem State.countSeconds_eq_withCounts (b : Boot) (s : State) :
    State.countSeconds { s with boot := b } = s.withCounts b (State.countSeconds { s with boot := b }).ledger := by
  unfold State.countSeconds
  split <;> rfl

theorem State.countSeconds_recordDetected_ring (b : Boot) (s : State) :
    (State.countSeconds { s with boot := b }).recordDetected.ledger.ring = s.recordDetected.ledger.ring := by
  rw [State.countSeconds_eq_withCounts, State.recordDetected_withCounts]
  rfl

/-- What a reset and the loss of supply leave of `s` (R95, R115, R119). -/
@[simp] theorem State.cutShort_keeps (warm : Bool) (s : State) :
    (s.cutShort warm).rt.stateCause = s.rt.stateCause ∧ (s.cutShort warm).rt.lockoutLatch = s.rt.lockoutLatch ∧
      (s.cutShort warm).power.logicOn = s.power.logicOn ∧ (s.cutShort warm).power.domainCommand = s.power.domainCommand ∧ (s.cutShort warm).clock.localTicks = s.clock.localTicks ∧
      (s.cutShort warm).clock.net = 0 ∧ (s.cutShort warm).boot = s.boot ∧ (s.cutShort warm).le.flash = s.le.flash ∧
      (s.cutShort warm).ledger = (if warm then s.ledger.afterWarm else {}) ∧ (s.cutShort warm).mirror.token = false ∧
      (s.cutShort warm).mirror.store = (if warm then s.mirror.store else none) ∧ (s.cutShort warm).rt.cycling = false ∧
      (s.cutShort warm).rt.encoding = none ∧ (s.cutShort warm).pending = s.pending := by
  cases warm <;> simp [State.cutShort, State.loseVolatile]

@[simp] theorem State.cutShort_allOutputsOff (warm : Bool) (s : State) : (s.cutShort warm).allOutputsOff := by
  simp [State.allOutputsOff, State.cutShort, State.loseVolatile]
  rfl

@[simp] theorem State.outputsOff_ring (s : State) : s.outputsOff.ledger.ring = s.ledger.ring := by
  simp [State.outputsOff, State.refreshDrivers]

@[simp] theorem State.outputsOff_snapshot (s : State) : s.outputsOff.mirror.store = s.mirror.store := by
  simp [State.outputsOff, State.stopToken]

@[simp] theorem State.charge_domainCommand (s : State) : s.charge.power.domainCommand = s.power.domainCommand := rfl

/-- A warm reset by one source, asserted in `u` with its boot sequence already changed to `b` (R116, R119). -/
theorem State.assertWarmReset_held (k : Nat) (hk : k ≠ 0) (u : State) (b : Boot) (hl : u.power.logicOn = true) (hb : b.step ≠ .resetHeld) :
    State.heldInReset k u (State.assertWarmReset k { u with boot := b }) := by
  have hkeep := State.cutShort_keeps true
    (State.charge { (State.countSeconds { u with boot := b }).recordDetected.interruptedSave.outputsOff with power.pause := none })
  have hoff := State.cutShort_allOutputsOff true
    (State.charge { (State.countSeconds { u with boot := b }).recordDetected.interruptedSave.outputsOff with power.pause := none })
  unfold State.assertWarmReset State.heldInReset
  simp only [hl, hk, pdBit]
  generalize State.cutShort true _ = w at *
  simp_all [u.countSeconds_recordDetected_ring b, Ledger.afterWarm, State.localNow]
  exact hoff

/-- The cause pended for the record of the reset stays pending. -/
theorem State.assertWarmReset_cause (k : Nat) (hk : k ≠ 0) (s : State) (hl : s.power.logicOn = true) (hb : s.boot.step ≠ .resetHeld) :
    (s.assertWarmReset k).boot.retained.cause = s.boot.retained.cause := by
  have hi (t : State) : t.interruptedSave.boot.retained.cause = t.boot.retained.cause := by
    unfold State.interruptedSave
    (repeat' split) <;> rfl
  unfold State.assertWarmReset
  simp [hl, hb, hk, hi]

end Sys2Proof.Machine

namespace Sys2Proof.Machine

/-! ### The AN code (R186 to R189) -/

theorem codeConstantValid_iff (a : Nat) : codeConstantValid a = true ↔ a % 2 = 1 ∧ 32769 ≤ a ∧ a ≤ 65535 := by
  simp [codeConstantValid, and_assoc]

/-- A coded word spells A times its value: the product of a 16-bit constant and a 33-bit value fits 64 bits. -/
theorem codeWord_toInt {a : Nat} {x : Int} (ha : codeConstantValid a = true) (lo : -(2 ^ 31) ≤ x) (hi : x < 2 ^ 32) :
    (codeWord a x).toInt = a * x := by
  obtain ⟨-, -, hle⟩ := (codeConstantValid_iff a).mp ha
  have ha' : (a : Int) ≤ 65535 := by exact_mod_cast hle
  have below : (a : Int) * x ≤ 65535 * 2 ^ 32 := by nlinarith
  have above : -(65535 * 2 ^ 31) ≤ (a : Int) * x := by nlinarith
  rw [codeWord, BitVec.toInt_ofInt]
  exact Int.bmod_eq_of_le (by norm_num; omega) (by norm_num; omega)

theorem codeWord_ediv {a : Nat} (ha : codeConstantValid a = true) (x : Int) : (a : Int) * x / a = x := by
  obtain ⟨-, hge, -⟩ := (codeConstantValid_iff a).mp ha
  exact Int.mul_ediv_cancel_left x (by omega)

theorem codedQuotient_codeWord {a : Nat} {x : Int} (ha : codeConstantValid a = true) (lo : -(2 ^ 31) ≤ x) (hi : x < 2 ^ 32) :
    codedQuotient a (codeWord a x) = some x := by
  have hne : a ≠ 0 := by have := (codeConstantValid_iff a).mp ha; omega
  simp only [codedQuotient, codeWord_toInt ha lo hi, codeWord_ediv ha]
  exact if_pos ⟨hne, Int.mul_comm _ _, lo, hi⟩

/-- A quotient found is one whose product is the word. -/
theorem codedQuotient_eq_some {a : Nat} {c : BitVec 64} {q : Int} (h : codedQuotient a c = some q) :
    c.toInt = a * q ∧ -(2 ^ 31) ≤ q ∧ q < 2 ^ 32 := by
  simp only [codedQuotient] at h
  split at h
  · next hc =>
    obtain ⟨-, hm, lo, hi⟩ := hc
    cases h
    exact ⟨by rw [Int.mul_comm]; exact hm.symm, lo, hi⟩
  · cases h

/-- Setting a bit that is clear adds its weight. -/
theorem xor_twoPow_of_clear {n : Nat} (v : BitVec n) (k : Nat) (hv : v.getLsbD k = false) :
    v ^^^ BitVec.twoPow n k = v + BitVec.twoPow n k := by
  have disjoint : v &&& BitVec.twoPow n k = 0#n := by rw [BitVec.and_twoPow, hv]; rfl
  rw [BitVec.add_eq_or_of_and_eq_zero _ _ disjoint]
  refine BitVec.eq_of_getLsbD_eq fun i _ => ?_
  simp only [BitVec.getLsbD_xor, BitVec.getLsbD_or, BitVec.getLsbD_twoPow]
  by_cases h : k = i
  · subst h; simp [hv]
  · simp [h]

theorem toInt_add_twoPow (v : BitVec 64) (k : Nat) (hk : k < 64) :
    ∃ m : Int, (v + BitVec.twoPow 64 k).toInt = v.toInt + 2 ^ k + m * 2 ^ 64 := by
  have weight : (BitVec.twoPow 64 k).toNat = 2 ^ k := BitVec.toNat_twoPow_of_lt hk
  have cast : ((2 ^ k : Nat) : Int) = 2 ^ k := by norm_num
  rw [BitVec.toInt_eq_toNat_bmod, BitVec.toInt_eq_toNat_bmod, BitVec.toNat_add, weight, ← cast]
  generalize 2 ^ k = p
  refine ⟨((((v.toNat + p) % 2 ^ 64 : Nat) : Int).bmod (2 ^ 64) - ((v.toNat : Int).bmod (2 ^ 64) + p)) / 2 ^ 64, ?_⟩
  simp only [Int.bmod]
  omega

/-- Flipping bit `k` adds or subtracts 2^k, modulo 2^64. -/
theorem toInt_xor_twoPow (w : BitVec 64) (k : Nat) (hk : k < 64) :
    ∃ e m : Int, (e = 1 ∨ e = -1) ∧ (w ^^^ BitVec.twoPow 64 k).toInt = w.toInt + e * 2 ^ k + m * 2 ^ 64 := by
  cases hw : w.getLsbD k with
  | false =>
    obtain ⟨m, h⟩ := toInt_add_twoPow w k hk
    exact ⟨1, m, .inl rfl, by rw [xor_twoPow_of_clear w k hw, h, Int.one_mul]⟩
  | true =>
    have clear : (w ^^^ BitVec.twoPow 64 k).getLsbD k = false := by simp [hw, hk]
    have back : w = (w ^^^ BitVec.twoPow 64 k) + BitVec.twoPow 64 k := by
      rw [← xor_twoPow_of_clear _ k clear, BitVec.xor_assoc, BitVec.xor_self, BitVec.xor_zero]
    obtain ⟨m, h⟩ := toInt_add_twoPow (w ^^^ BitVec.twoPow 64 k) k hk
    rw [← back] at h
    exact ⟨-1, -m, .inr rfl, by omega⟩

/-- An odd constant above 1 divides no power of two. -/
theorem codeConstant_not_dvd {a : Nat} (ha : codeConstantValid a = true) (k : Nat) : ¬ (a : Int) ∣ 2 ^ k := by
  obtain ⟨odd, hge, -⟩ := (codeConstantValid_iff a).mp ha
  intro h
  have h' : a ∣ 2 ^ k := by exact_mod_cast h
  have one : a = 1 := Nat.Coprime.eq_one_of_dvd (Nat.Coprime.pow_right k ((Nat.coprime_two_right).mpr (Nat.odd_iff.mpr odd))) h'
  omega

/-- R187: a single-bit error is always found. -/
theorem codedQuotient_flip {a : Nat} {x : Int} (ha : codeConstantValid a = true) (lo : -(2 ^ 31) ≤ x) (hi : x < 2 ^ 32) (k : Nat)
    (hk : k < 64) : codedQuotient a (codeWord a x ^^^ BitVec.twoPow 64 k) = none := by
  rw [Option.eq_none_iff_forall_ne_some]
  intro q hq
  obtain ⟨hc, hlo, hhi⟩ := codedQuotient_eq_some hq
  obtain ⟨e, m, he, hflip⟩ := toInt_xor_twoPow (codeWord a x) k hk
  rw [hc, codeWord_toInt ha lo hi] at hflip
  obtain ⟨-, -, hle⟩ := (codeConstantValid_iff a).mp ha
  have ha' : (a : Int) ≤ 65535 := by exact_mod_cast hle
  have weight : (2 : Int) ^ k ≤ 2 ^ 63 := pow_le_pow_right₀ (by norm_num) (by omega)
  have weight0 : (0 : Int) < 2 ^ k := by positivity
  have x1 : (a : Int) * x ≤ 65535 * 2 ^ 32 := by nlinarith
  have x0 : -(65535 * 2 ^ 31) ≤ (a : Int) * x := by nlinarith
  have q1 : (a : Int) * q ≤ 65535 * 2 ^ 32 := by nlinarith
  have q0 : -(65535 * 2 ^ 31) ≤ (a : Int) * q := by nlinarith
  have noWrap : m = 0 := by
    rcases he with rfl | rfl <;> omega
  refine codeConstant_not_dvd ha k ?_
  rw [noWrap] at hflip
  rcases he with rfl | rfl
  · exact ⟨q - x, by rw [Int.mul_sub]; omega⟩
  · exact ⟨x - q, by rw [Int.mul_sub]; omega⟩

/-! ### Typed coded words (R186, R189) -/

theorem wordValue_bounds (t : WordType) (w : BitVec 32) (hb : t = .bool → w.toNat ≤ 1) :
    (quotientRange t).1 ≤ wordValue t w ∧ wordValue t w < (quotientRange t).1 + (quotientRange t).2 := by
  have := w.isLt
  have := BitVec.toInt_lt (x := w)
  have := BitVec.le_toInt (x := w)
  cases t <;> simp only [quotientRange, wordValue] <;> simp at hb <;> omega

theorem wordValue_range (t : WordType) (w : BitVec 32) : -(2 ^ 31) ≤ wordValue t w ∧ wordValue t w < 2 ^ 32 := by
  have := w.isLt
  have := BitVec.toInt_lt (x := w)
  have := BitVec.le_toInt (x := w)
  cases t <;> simp only [wordValue] <;> omega

theorem encodeWord_toInt {a : Nat} (ha : codeConstantValid a = true) (t : WordType) (w : BitVec 32) :
    (encodeWord a t w).toInt = a * wordValue t w :=
  codeWord_toInt ha (wordValue_range t w).1 (wordValue_range t w).2

theorem readCoded_encodeWord {a : Nat} (ha : codeConstantValid a = true) (t : WordType) (w : BitVec 32) (hb : t = .bool → w.toNat ≤ 1) :
    readCoded a t (encodeWord a t w) = some (wordValue t w) := by
  obtain ⟨lo, hi⟩ := wordValue_range t w
  simp only [readCoded, encodeWord, codedQuotient_codeWord ha lo hi]
  exact if_pos (wordValue_bounds t w hb)

theorem nativeOf_wordValue (t : WordType) (w : BitVec 32) : nativeOf (wordValue t w) = w := by
  cases t
  case signed => exact BitVec.ofInt_toInt
  all_goals simp [nativeOf, wordValue]

/-- What the coded word decodes to when an operation takes the quotient itself (R188). -/
theorem nativeOf_encodeWord {a : Nat} (ha : codeConstantValid a = true) (t : WordType) (w : BitVec 32) :
    nativeOf ((encodeWord a t w).toInt / a) = w := by
  rw [encodeWord_toInt ha, codeWord_ediv ha, nativeOf_wordValue]

/-! ### Range reduction -/

/-- A value taken modulo 2^32 into a type's range is the value of its low 32 bits. -/
theorem wordValue_nativeOf (t : WordType) (q : Int) :
    wordValue t (nativeOf q) = q - 2 ^ 32 * ((q - (quotientRange t).1).fdiv (2 ^ 32)) := by
  rw [Int.fdiv_eq_ediv_of_nonneg _ (by norm_num)]
  cases t <;> simp only [wordValue, nativeOf, quotientRange, BitVec.toInt_ofInt, BitVec.toNat_ofInt, Int.bmod] <;> omega

theorem reduceRange_mul {a : Nat} (ha : codeConstantValid a = true) (t : WordType) (q : Int) :
    BitVec.ofInt 64 (reduceRange a t (a * q)) = encodeWord a t (nativeOf q) := by
  have quotient : ((a : Int) * q).fdiv a = q := by rw [Int.fdiv_eq_ediv_of_nonneg _ (by omega), codeWord_ediv ha]
  rw [encodeWord, codeWord, wordValue_nativeOf, reduceRange, quotient, Int.mul_sub, Int.mul_assoc]

/-! ### The operations of Table 6-2 -/

theorem nativeOf_add (t : WordType) (x y : BitVec 32) : nativeOf (wordValue t x + wordValue t y) = x + y := by
  rw [nativeOf, BitVec.ofInt_add, ← nativeOf, ← nativeOf, nativeOf_wordValue, nativeOf_wordValue]

theorem nativeOf_sub (t : WordType) (x y : BitVec 32) : nativeOf (wordValue t x - wordValue t y) = x - y := by
  rw [nativeOf, Int.sub_eq_add_neg, BitVec.ofInt_add, BitVec.ofInt_neg, ← nativeOf, ← nativeOf, nativeOf_wordValue, nativeOf_wordValue,
    BitVec.sub_eq_add_neg]

theorem nativeOf_mul (t : WordType) (x y : BitVec 32) : nativeOf (wordValue t x * wordValue t y) = x * y := by
  rw [nativeOf, BitVec.ofInt_mul, ← nativeOf, ← nativeOf, nativeOf_wordValue, nativeOf_wordValue]

/-- A comparison's result is the coded BOOL of the comparison. -/
theorem codeWord_bit (a : Nat) (b : Bool) : codeWord a (bit b : Nat) = encodeWord a .bool (boolWord b) := by
  cases b <;> rfl

/-- A native BOOL is 0 or 1. -/
theorem exists_boolWord {x : BitVec 32} (h : x.toNat ≤ 1) : ∃ b, x = boolWord b := by
  rcases Nat.le_one_iff_eq_zero_or_eq_one.mp h with h | h
  · exact ⟨false, BitVec.eq_of_toNat_eq h⟩
  · exact ⟨true, BitVec.eq_of_toNat_eq h⟩

theorem encodeWord_boolWord (a : Nat) (b : Bool) : encodeWord a .bool (boolWord b) = BitVec.ofInt 64 (a * (bit b : Nat)) := by
  cases b <;> rfl

theorem encodeWord_boolWord_toInt {a : Nat} (ha : codeConstantValid a = true) (b : Bool) :
    (encodeWord a .bool (boolWord b)).toInt = a * (bit b : Nat) := by
  rw [encodeWord_toInt ha]; cases b <;> rfl

/-- The condition of a Select: its coded twin is A exactly where it is 1. -/
theorem encodeWord_bool_eq_constant {a : Nat} (ha : codeConstantValid a = true) {x : BitVec 32} (h : x.toNat ≤ 1) :
    (encodeWord a .bool x).toInt = a ↔ x = 1 := by
  obtain ⟨-, hge, -⟩ := (codeConstantValid_iff a).mp ha
  obtain ⟨b, rfl⟩ := exists_boolWord h
  rw [encodeWord_boolWord_toInt ha]
  cases b <;> simp [bit, boolWord]; omega

/-- R188: the coded computation gives the coded word of the native result. -/
theorem codedOp_encodeWord {a : Nat} (ha : codeConstantValid a = true) (op : LogicOp) (ty : WordType) (const x y z : BitVec 32)
    (hx : (operandTypes op ty).1.getD ty = .bool → x.toNat ≤ 1) (hy : (operandTypes op ty).2.1.getD ty = .bool → y.toNat ≤ 1) :
    codedOp a op ty const (encodeWord a ((operandTypes op ty).1.getD ty) x) (encodeWord a ((operandTypes op ty).2.1.getD ty) y)
      (encodeWord a ty z) = encodeWord a (resultType op ty) (nativeOp op ty const x y z) := by
  have apos : (0 : Int) < a := by have := (codeConstantValid_iff a).mp ha; omega
  cases op
  case add => 
    simp only [codedOp, operandTypes, resultType, nativeOp, Option.getD_some, encodeWord_toInt ha]
    rw [← Int.mul_add, reduceRange_mul ha, nativeOf_add]
  case sub =>
    simp only [codedOp, operandTypes, resultType, nativeOp, Option.getD_some, encodeWord_toInt ha]
    rw [← Int.mul_sub, reduceRange_mul ha, nativeOf_sub]
  case mul =>
    simp only [codedOp, operandTypes, resultType, nativeOp, Option.getD_some, encodeWord_toInt ha]
    rw [codeWord_ediv ha, Int.mul_assoc, reduceRange_mul ha, nativeOf_mul]
  case eq | ne | lt | le | gt | ge =>
    simp only [codedOp, operandTypes, resultType, nativeOp, Option.getD_some, encodeWord_toInt ha, codeWord_bit]
    congr 2
    simp only [bne, BEq.beq, Int.mul_lt_mul_left apos, Int.mul_le_mul_left apos, Int.mul_eq_mul_left_iff apos.ne']
  case and | or =>
    obtain ⟨b, rfl⟩ := exists_boolWord (hx rfl)
    obtain ⟨c, rfl⟩ := exists_boolWord (hy rfl)
    simp only [codedOp, operandTypes, resultType, nativeOp, Option.getD_some, encodeWord_boolWord_toInt ha]
    cases b <;> cases c <;> simp [bit, boolWord, codeWord_ediv ha, encodeWord, codeWord, wordValue]
  case not =>
    obtain ⟨b, rfl⟩ := exists_boolWord (hx rfl)
    simp only [codedOp, operandTypes, resultType, nativeOp, Option.getD_some, encodeWord_boolWord_toInt ha]
    cases b <;> simp [bit, boolWord, encodeWord, codeWord, wordValue]
  case select =>
    simp only [codedOp, operandTypes, resultType, nativeOp, Option.getD_some, encodeWord_bool_eq_constant ha (hx rfl)]
    split <;> rfl
  case const => rfl
  all_goals simp only [codedOp, operandTypes, resultType, nativeOp, Option.getD_some, nativeOf_encodeWord ha]

end Sys2Proof.Machine

namespace Sys2Proof.Machine

theorem State.pendCause_eq (c : Nat) (s : State) : s.pendCause c = { s with boot := (s.pendCause c).boot } := by
  unfold State.pendCause
  split <;> rfl

@[simp] theorem State.pendCause_step (c : Nat) (s : State) : (s.pendCause c).boot.step = s.boot.step := by
  unfold State.pendCause
  split <;> rfl

@[simp] theorem State.pendCause_cause (c : Nat) (s : State) :
    (s.pendCause c).boot.retained.cause = some (s.boot.retained.cause.getD c) := by
  unfold State.pendCause
  cases h : s.boot.retained.cause <;> simp [h]

theorem exec_leAliveWrite (dt : Nat) (s : State) : exec (.leAliveWrite dt) s = .next (s.elapse dt).aliveMark := rfl
theorem exec_leStall (dt : Nat) (s : State) : exec (.leStall dt) s = .next (s.elapse dt).leStall := rfl
theorem exec_runEncodingComplete (dt : Nat) (differs : Option Nat) (s : State) :
    exec (.runEncodingComplete dt differs) s = .next ((s.elapse dt).encodingComplete differs) := rfl

theorem State.aliveMark_eq (s : State) :
    s.aliveMark = if s.rt.cycling then { s with rt := { s.rt with leMark := true, stallCount := 0 } } else s := rfl

theorem State.leStall_held (s : State) (hc : s.rt.cycling = true) (h : 256 ≤ s.rt.stallCount) (hl : s.power.logicOn = true)
    (hs : s.boot.step ≠ .resetHeld) :
    State.heldInReset 4 s s.leStall ∧ s.leStall.boot.retained.cause = some (s.boot.retained.cause.getD 0x0D01) := by
  have he : s.leStall = (s.pendCause 0x0D01).assertWarmReset 4 := by simp [State.leStall, State.resetSource, hc, h]
  rw [he]
  constructor
  · rw [State.pendCause_eq]
    exact s.assertWarmReset_held 4 (by decide) _ hl (by simpa using hs)
  · rw [State.assertWarmReset_cause 4 (by decide) _ (by simpa using hl) (by simpa using hs), State.pendCause_cause]

theorem State.leStall_early (s : State) (h : s.rt.cycling = false ∨ s.rt.stallCount < 256) : s.leStall = s := by
  unfold State.leStall
  rw [if_neg (by rcases h with h | h <;> simp [h])]

theorem State.encodingComplete_idle (differs : Option Nat) (s : State) (h : s.rt.encoding = none ∨ s.rt.encodingDone = true) :
    s.encodingComplete differs = s := by
  unfold State.encodingComplete
  rw [if_pos (by rcases h with h | h <;> simp [h])]

/-! ### The fault line -/

/-- From release on a pass fault of the comparator is detected and takes the fault line (R192, R198). -/
theorem State.lineFault_released (cause : Nat) (data : List Byte) (s : State) (h : s.rt.cycling = true) :
    s.lineFault cause data = (s.detectAt cause .nonRecoverable s.now data).faultLine := by
  unfold State.lineFault
  rw [if_pos h]

theorem State.iosSafeState_faultLine (s : State) : s.iosSafeState.field.faultLine = s.field.faultLine := by
  have hp (t : State) : t.placeSafe.field.faultLine = t.field.faultLine := by
    unfold State.placeSafe
    exact foldl_preserves (·.field.faultLine) _ (fun t n => by dsimp only; (repeat' split) <;> rfl) _ _
  have hb (t : State) : t.openSafetyBanks.field.faultLine = t.field.faultLine := by
    unfold State.openSafetyBanks
    exact foldl_preserves (·.field.faultLine) _ (fun t n => by split <;> rfl) _ _
  unfold State.iosSafeState
  refine iteInduction (motive := fun t : State => t.field.faultLine = s.field.faultLine) (fun _ => rfl) (fun _ => ?_)
  simp only [State.breakPulse, State.stopToken, State.refreshDrivers, hp, hb]

theorem State.openAllBanks_faultLine (s : State) : s.openAllBanks.field.faultLine = s.field.faultLine :=
  foldl_preserves (·.field.faultLine) (fun t b => t.openBank b) (fun _ _ => rfl) _ _

@[simp] theorem State.faultLine_asserted (s : State) : s.faultLine.field.faultLine = true := by
  simp [State.faultLine, State.refreshDrivers, State.openAllBanks_faultLine, State.iosSafeState_faultLine]

@[simp] theorem State.faultLine_rt (s : State) : s.faultLine.rt = { s.rt with passesRunning := false } := by
  simp [State.faultLine]

theorem State.runEncodingComplete_differs (off : Nat) (s : State) (hc : s.rt.cycling = true) (he : s.rt.encoding ≠ none)
    (hd : s.rt.encodingDone = false) :
    let t := s.encodingComplete (some off)
    t.rt.encoding = none ∧ t.passes.codedTrap = true ∧ t.waits 0x0403 .nonRecoverable ∧ t.field.faultLine = true ∧
      State.keeps [.rt, .passes, .field, .glint, .mirror, .ledger] s t := by
  have ht : s.encodingComplete (some off) = State.passFault 0x0403 off { s with rt.encoding := none } := by
    unfold State.encodingComplete
    rw [if_neg (by simp [hd, Option.isNone_iff_eq_none, he])]
  have hb : (s.encodingComplete (some off)).boot = s.boot := by
    rw [ht, State.passFault, State.lineFault_released _ _ _ (by exact hc)]
    simp [State.detectAt]
  refine ⟨?_, ?_, ?_, ?_, fun p hp => ?_⟩
  · simp [ht]
  · rw [ht, State.passFault, State.lineFault_released _ _ _ (by exact hc)]
    simp [Passes.mark]
    split <;> rfl
  · rw [ht, State.passFault, State.lineFault_released _ _ _ (by exact hc)]
    simp [State.waits]
  · rw [ht, State.passFault, State.lineFault_released _ _ _ (by exact hc)]
    simp
  · cases p <;> simp_all [State.agrees]

/-- Settles O21: the mark, the stall and the encoding by the lemmas above, the last three clauses by the AN code. -/
theorem markStallAndEncoding : Obligations.MarkStallAndEncoding := by
  unfold Obligations.MarkStallAndEncoding
  refine ⟨fun dt s => ?_, fun dt s => ⟨fun hc h hl hs => ?_, fun h => ?_⟩, fun dt differs s => ⟨fun h => ?_, fun he hd => ⟨?_, fun hc off => ?_⟩⟩,
    fun a x ha lo hi => ⟨codedQuotient_codeWord ha lo hi, codedQuotient_flip ha lo hi⟩, fun a ty w ha hb => readCoded_encodeWord ha ty w hb,
    fun a op ty const x y z ha hx hy => codedOp_encodeWord ha op ty const x y z hx hy⟩
  · rw [exec_leAliveWrite, State.aliveMark_eq]
    rfl
  · exact ⟨_, exec_leStall dt s, State.leStall_held (s.elapse dt) (by simpa using hc) (by simpa using h) (by simpa using hl) (by simpa using hs)⟩
  · rw [exec_leStall, State.leStall_early _ (by simpa using h)]
  · rw [exec_runEncodingComplete, State.encodingComplete_idle _ _ (by simpa using h)]
  · rw [exec_runEncodingComplete]
    simp [State.encodingComplete, he, hd]
  · exact ⟨_, exec_runEncodingComplete dt (some off) s,
      State.runEncodingComplete_differs off (s.elapse dt) (by simpa using hc) (by simpa using he) (by simpa using hd)⟩

end Sys2Proof.Machine

namespace Sys2Proof.Machine

/-! ### Where the boot sequence may stand in each runtime state (R38, Tables 1-5 and 4-3) -/

/-- The boot sequence may stand at `b` in runtime state `r`. -/
def RunState.allows : RunState → BootStep → Bool
  | .off, .idle => true
  | .boot, .resetHeld | .boot, .waitLock | .boot, .lockRetry | .boot, .locked | .boot, .stopped => true
  | .test, .bist _ | .test, .comparator | .test, .mpuSeal | .test, .recovery | .test, .release | .test, .stopped => true
  | .hold, .idle | .run, .idle | .service, .idle | .safeStop, .idle | .lockout, .idle => true
  | _, _ => false

/-- An encoding may be under way in runtime state `r`. -/
def RunState.encodes (r : RunState) : Bool := r == .hold || r == .run || r == .service

theorem State.startConsistent_iff (s : State) : s.startConsistent = true ↔
    s.rt.state.allows s.boot.step = true ∧ s.power.logicOn = (s.rt.state != .off) ∧ s.rt.cycling = s.released ∧
      (s.rt.encoding = none ∨ s.rt.state.encodes = true) := by
  unfold State.startConsistent RunState.encodes
  simp only [Bool.and_eq_true, beq_iff_eq, Bool.or_eq_true, Option.isNone_iff_eq_none, or_assoc, and_assoc]
  refine and_congr_left fun _ => ?_
  cases s.rt.state <;> cases s.boot.step <;> simp [RunState.allows]

theorem RunState.allows_stopped {r : RunState} {b : BootStep} (h : r.allows b = true) (hb : b.firmware = true) : r.allows .stopped = true := by
  cases r <;> cases b <;> simp_all [RunState.allows, BootStep.firmware]

/-- What a command other than a cycle boundary may do to the runtime state: keep it, reset the unit, lose or start the supply, or end Boot or
Test. -/
def RunState.stepsTo (r r' : RunState) : Prop :=
  r' = r ∨ r' = .boot ∨ r' = .off ∨ (r = .boot ∧ r' = .test) ∨ (r = .test ∧ (r' = .hold ∨ r' = .lockout))

theorem RunState.stepsTo.mayBecome {r r' : RunState} (h : r.stepsTo r') : r.mayBecome r' = true := by
  cases r <;> cases r' <;> simp_all [RunState.stepsTo, RunState.mayBecome]

/-- A transition of Table 1-6 that needs no boundary, from a consistent state to a consistent state. -/
def State.Steady (s t : State) : Prop := s.startConsistent = true → t.startConsistent = true ∧ s.rt.state.stepsTo t.rt.state

theorem State.Steady.refl (s : State) : s.Steady s := fun h => ⟨h, .inl rfl⟩

/-- Nothing happens to the runtime state, and the boot sequence at most stops. -/
def State.Quiet (s t : State) : Prop :=
  t.rt.state = s.rt.state ∧ t.rt.cycling = s.rt.cycling ∧ t.power.logicOn = s.power.logicOn ∧
    (t.rt.encoding = s.rt.encoding ∨ t.rt.encoding = none) ∧ (t.boot.step = s.boot.step ∨ t.boot.MayBe s.boot s.rt.cycling)

/-- The runtime state stays while the boot sequence moves on within it. -/
theorem State.Steady.of_step {s t : State} (hs : t.rt.state = s.rt.state) (hc : t.rt.cycling = s.rt.cycling)
    (hl : t.power.logicOn = s.power.logicOn) (he : t.rt.encoding = s.rt.encoding ∨ t.rt.encoding = none)
    (hb : s.rt.state.allows s.boot.step = true → s.rt.state.allows t.boot.step = true) : s.Steady t := by
  intro h
  rw [State.startConsistent_iff] at h ⊢
  obtain ⟨ha, hl', hc', he'⟩ := h
  refine ⟨⟨by rw [hs]; exact hb ha, by rw [hl, hl', hs], by rw [hc, hc', State.released, State.released, hs], ?_⟩, .inl hs⟩
  rw [hs]
  rcases he with he | he
  · rwa [he]
  · exact .inl he

theorem State.Quiet.steady {s t : State} (h : s.Quiet t) : s.Steady t := by
  obtain ⟨hs, hc, hl, he, hb⟩ := h
  refine .of_step hs hc hl he fun ha => ?_
  rcases hb with hb | ⟨-, hb | ⟨hb, hf⟩⟩
  · rwa [hb]
  · rwa [hb]
  · rw [hb]
    exact RunState.allows_stopped ha hf

theorem State.Steady.ite {s : State} {c : Prop} [Decidable c] {a b : State} (ha : c → s.Steady a) (hb : ¬c → s.Steady b) :
    s.Steady (if c then a else b) := by
  split
  · exact ha ‹_›
  · exact hb ‹_›

theorem State.Quiet.steady_trans {s t u : State} (h : s.Quiet t) (k : t.Steady u) : s.Steady u := by
  intro hs
  obtain ⟨ht, -⟩ := h.steady hs
  obtain ⟨hu, hr⟩ := k ht
  exact ⟨hu, h.1 ▸ hr⟩

theorem State.Quiet.ite {s : State} {c : Prop} [Decidable c] {a b : State} (ha : c → s.Quiet a) (hb : ¬c → s.Quiet b) :
    s.Quiet (if c then a else b) := by
  split
  · exact ha ‹_›
  · exact hb ‹_›

theorem State.Quiet.refl (s : State) : s.Quiet s := by simp [State.Quiet]

/-! ### Resets and the loss of supply -/

theorem State.assertWarmReset_steady (k : Nat) (s : State) : s.Steady (s.assertWarmReset k) := by
  unfold State.assertWarmReset
  refine .ite (fun _ => .refl s) fun hl => .ite (fun _ => .of_step rfl rfl rfl (.inl rfl) id) fun _ _ => ?_
  rw [State.startConsistent_iff]
  refine ⟨?_, .inr (.inl rfl)⟩
  split <;> simp_all [RunState.allows, State.released, RunState.code]

theorem State.pendCause_quiet (c : Nat) (s : State) : s.Quiet (s.pendCause c) := by simp [State.Quiet]

theorem State.clockFault_steady (c : Nat) (s : State) : s.Steady (s.clockFault c) :=
  (s.pendCause_quiet c).steady_trans (State.assertWarmReset_steady 2 _)

theorem State.bootFailure_steady (k : Nat) (s : State) : s.Steady (s.bootFailure k) :=
  State.Quiet.steady_trans (t := { s with boot.retained.bootFailures := s.boot.retained.bootFailures + 1 }) (by simp [State.Quiet])
    (State.assertWarmReset_steady k _)

theorem State.resetSource_steady (k : Nat) (s : State) : s.Steady (s.resetSource k) := by
  unfold State.resetSource
  split
  · exact s.clockFault_steady _
  · exact (s.pendCause_quiet _).steady_trans (State.assertWarmReset_steady 3 _)
  · exact (s.pendCause_quiet _).steady_trans (State.assertWarmReset_steady 4 _)
  · refine .ite (fun _ => s.assertWarmReset_steady 5) fun _ => ?_
    exact State.Quiet.steady_trans (t := { s with boot.retained.watchdogExpiry := true }) (by simp [State.Quiet])
      (State.bootFailure_steady 5 _)
  · exact s.assertWarmReset_steady 6
  · exact s.assertWarmReset_steady 7
  · exact .refl s

theorem State.monitorWindow_steady (c : ClockCounts) (s : State) : s.Steady (s.monitorWindow c) := by
  unfold State.monitorWindow
  refine .ite (fun _ => ?_) fun _ => .refl s
  exact State.Quiet.steady_trans (t := s.noteCounts c _) (by simp [State.Quiet])
    (.ite (fun _ => .refl _) fun _ => State.clockFault_steady _ _)

theorem State.lockLoss_steady (s : State) : s.Steady s.lockLoss := by
  unfold State.lockLoss
  refine .ite (fun _ => ?_) fun _ => .refl s
  exact State.Quiet.steady_trans (t := { s with clock.pllLock := false }) (by simp [State.Quiet]) (State.clockFault_steady _ _)

theorem State.railFault_steady (s : State) : s.Steady s.railFault :=
  .ite (fun _ => (s.pendCause_quiet _).steady_trans (State.assertWarmReset_steady 3 _)) fun _ => .refl s

theorem State.watchdogExpires_steady (s : State) : s.Steady s.watchdogExpires :=
  .ite (fun _ => s.resetSource_steady 5) fun _ => .refl s

theorem State.leStall_steady (s : State) : s.Steady s.leStall :=
  .ite (fun _ => s.resetSource_steady 4) fun _ => .refl s

theorem State.resetReq_steady (low : Bool) (s : State) : s.Steady (s.resetReq low) := by
  unfold State.resetReq
  refine .ite (fun _ => ?_) fun _ => .ite (fun _ => ?_) fun _ => ?_
  · exact State.Quiet.steady_trans (t := { s with service.resetEventDue := true, service.resetLowAt := none }) (by simp [State.Quiet])
      (State.resetSource_steady 6 _)
  · exact State.Quiet.steady (by simp [State.Quiet])
  · split <;> exact State.Quiet.steady (by simp [State.Quiet])

theorem State.rideThroughEnd_steady (mv : Nat) (s : State) : s.Steady (s.rideThroughEnd mv) := by
  unfold State.rideThroughEnd
  refine .ite (fun _ _ => ?_) fun _ => .refl s
  rw [State.startConsistent_iff]
  exact ⟨by simp [State.powerFailShutdown, State.charge, RunState.allows, State.released, RunState.code], .inr (.inr (.inl rfl))⟩

/-! ### The boot sequence -/

theorem State.supplyStart_steady (mv : Nat) (s : State) : s.Steady (s.supplyStart mv) := by
  unfold State.supplyStart
  refine .ite (fun hc h => ?_) fun _ => State.Quiet.steady (by simp [State.Quiet])
  rw [State.startConsistent_iff] at h ⊢
  obtain ⟨-, hl, hcyc, he⟩ := h
  have hoff : s.rt.state = .off := by simp_all
  refine ⟨?_, .inr (.inl rfl)⟩
  simp_all [RunState.allows, State.released, RunState.code, RunState.encodes]

/-- The steps of Boot from which the sequence goes on without a change of state, and those it may go on to. -/
theorem RunState.allows_boot {r : RunState} {b b' : BootStep} (h : r.allows b = true)
    (hb : b = .waitLock ∨ b = .lockRetry ∨ b = .resetHeld) (hb' : b' = .waitLock ∨ b' = .lockRetry ∨ b' = .locked ∨ b' = .stopped) :
    r.allows b' = true := by
  have hr : r = .boot := by cases r <;> rcases hb with rfl | rfl | rfl <;> simp_all [RunState.allows]
  rcases hb' with rfl | rfl | rfl | rfl <;> simp [hr, RunState.allows]

@[simp] theorem State.lockFails_step (c : Nat) (s : State) : (s.lockFails c).boot.step = .lockRetry := rfl

@[simp] theorem State.resumeWatchdog_step (s : State) : s.resumeWatchdog.boot.step = s.boot.step := by simp

theorem State.pllLocks_step (us : Nat) (c : ClockCounts) (s : State) :
    (s.pllLocks us c).boot.step = s.boot.step ∨
      s.boot.step = .waitLock ∧ ((s.pllLocks us c).boot.step = .lockRetry ∨ (s.pllLocks us c).boot.step = .locked) := by
  unfold State.pllLocks
  dsimp only
  split
  · refine .inr ⟨by simp_all, ?_⟩
    split
    · exact .inl rfl
    · split
      · exact .inr (by simp)
      · exact .inl rfl
  · exact .inl (by simp)

theorem State.pllLocks_steady (us : Nat) (c : ClockCounts) (s : State) : s.Steady (s.pllLocks us c) := by
  refine .of_step (by simp) (by simp) (by simp) (by simp) fun h => ?_
  rcases s.pllLocks_step us c with hs | ⟨hs, hs'⟩
  · rwa [hs]
  · exact RunState.allows_boot h (.inl hs) (by tauto)

theorem State.lockTimeout_steady (s : State) : s.Steady s.lockTimeout := by
  refine .of_step (by simp) (by simp) (by simp) (by simp) fun h => ?_
  unfold State.lockTimeout
  dsimp only
  split
  · exact RunState.allows_boot h (.inl (by simp_all)) (by simp)
  · simpa using h

theorem State.lockRetry_steady (s : State) : s.Steady s.lockRetry := by
  refine .of_step (by simp) (by simp) (by simp) (by simp) fun h => ?_
  unfold State.lockRetry
  dsimp only
  split
  · exact RunState.allows_boot h (.inr (.inl (by simp_all))) (by simp)
  · simpa using h

theorem State.releaseReset_steady (ok : Bool) (s : State) : s.Steady (s.releaseReset ok) := by
  refine .of_step (by simp) (by simp) (by simp) (by simp) fun h => ?_
  unfold State.releaseReset
  dsimp only
  split
  · have hs : s.boot.step = .resetHeld := by simp_all
    split
    · exact RunState.allows_boot h (.inr (.inr hs)) (by simp)
    · exact RunState.allows_boot h (.inr (.inr hs)) (by simp)
  · exact h

/-- The steps of Test. -/
def BootStep.tests : BootStep → Bool
  | .bist _ | .comparator | .mpuSeal | .recovery | .release => true
  | _ => false

theorem RunState.allows_test {r : RunState} {b : BootStep} (h : r.allows b = true) (hb : b.tests = true) : r = .test := by
  cases r <;> cases b <;> simp_all [RunState.allows, BootStep.tests]

theorem RunState.allows_tests {r : RunState} {b b' : BootStep} (h : r.allows b = true) (hb : b.tests = true) (hb' : b'.tests = true) :
    r.allows b' = true := by
  rw [RunState.allows_test h hb]
  cases b' <;> simp_all [RunState.allows, BootStep.tests]

theorem State.groupComplete_steady (g : Nat) (raw : List (BitVec 64)) (place element : Nat) (s : State) :
    s.Steady (s.groupComplete g raw place element) := by
  refine .of_step (by simp) (by simp) (by simp) (by simp) fun h => ?_
  unfold State.groupComplete
  dsimp only
  split
  · have hs : s.boot.step.tests = true := by simp_all [BootStep.tests]
    split
    · exact RunState.allows_tests h hs rfl
    · exact RunState.allows_tests h hs rfl
  · exact h

theorem State.comparatorTest_steady (f : BitVec 7) (s : State) : s.Steady (s.comparatorTest f) := by
  refine .of_step (by simp) (by simp) (by simp) (by simp) fun h => ?_
  unfold State.comparatorTest
  split
  · exact RunState.allows_tests h (by simp_all [BootStep.tests]) rfl
  · exact h

theorem State.seal_steady (differs fails : Bool) (s : State) : s.Steady (s.seal differs fails) := by
  unfold State.seal
  refine .ite (fun hc => ?_) fun _ => .refl s
  refine State.Quiet.steady_trans (t := s.writeSets.bootCauseIf (s.writeSets.le.denyAll && !s.writeSets.otp.protectionFallback) 0x0C05 true)
    (by simp [State.Quiet]) (.ite (fun _ => ?_) fun _ => ?_)
  · exact State.Quiet.steady_trans (by simp [State.Quiet]) (State.bootFailure_steady 0 _)
  · refine .of_step rfl rfl rfl (.inl rfl) fun h => RunState.allows_tests h ?_ rfl
    simp_all [BootStep.tests]

theorem State.loadLatch_phase (s : State) :
    s.loadLatch.rt.state = s.rt.state ∧ s.loadLatch.rt.cycling = s.rt.cycling ∧ s.loadLatch.rt.encoding = s.rt.encoding := by
  unfold State.loadLatch
  (repeat' split) <;> simp

theorem State.initialiseStore_phase (s : State) :
    s.initialiseStore.rt.state = s.rt.state ∧ s.initialiseStore.rt.cycling = s.rt.cycling ∧
      s.initialiseStore.rt.encoding = s.rt.encoding := by
  simp [State.initialiseStore]

theorem State.recoverStore_phase (us : Nat) (s : State) :
    (s.recoverStore us).rt.state = s.rt.state ∧ (s.recoverStore us).rt.cycling = s.rt.cycling ∧
      (s.recoverStore us).rt.encoding = s.rt.encoding ∧ (s.recoverStore us).boot.step = .release := by
  simp [State.recoverStore, State.loadLatch_phase, State.initialiseStore_phase]

theorem State.recoverStore_steady (us : Nat) (s : State) (hs : s.boot.step = .recovery) : s.Steady (s.recoverStore us) := by
  obtain ⟨hst, hcy, hen, hstep⟩ := s.recoverStore_phase us
  refine .of_step hst hcy (by simp) (.inl hen) fun h => ?_
  rw [hstep]
  exact RunState.allows_tests h (by simp [hs, BootStep.tests]) rfl

theorem State.bootEntry_steady (s : State) : s.Steady s.bootEntry := by
  unfold State.bootEntry
  refine .ite (fun hc h => ?_) fun _ => .refl s
  rw [State.startConsistent_iff] at h
  obtain ⟨ha, hl, hcy, he⟩ := h
  have hs : s.boot.step = .locked := by simp_all
  have hb : s.rt.state = .boot := by
    revert ha
    cases s.rt.state <;> simp [hs, RunState.allows]
  have he : s.rt.encoding = none := by simpa [hb, RunState.encodes] using he
  rw [State.startConsistent_iff]
  have hl : s.power.logicOn = true := by rw [hl, hb]; rfl
  cases s.le.fwSelect <;> simp_all [RunState.allows, State.released, RunState.code, RunState.stepsTo]

/-! ### Release (R51, R52) -/

theorem State.releaseState_phase (causes : List Nat) (s : State) :
    ((s.releaseState causes).rt.state = .hold ∨ (s.releaseState causes).rt.state = .lockout) ∧
      (s.releaseState causes).rt.cycling = s.rt.cycling ∧ (s.releaseState causes).rt.encoding = s.rt.encoding := by
  unfold State.releaseState
  (repeat' split) <;> simp

/-- Nothing happened, or the unit was released in Hold or in Lockout. -/
def State.ReleasedTo (s t : State) : Prop :=
  t = s ∨ s.boot.step = .release ∧ (t.rt.state = .hold ∨ t.rt.state = .lockout) ∧ t.rt.cycling = true ∧
    t.rt.encoding = s.rt.encoding ∧ t.power.logicOn = s.power.logicOn ∧ t.boot.step = .idle

set_option maxRecDepth 4000 in
theorem State.release_releasedTo (s : State) : s.ReleasedTo s.release := by
  unfold State.release
  refine iteInduction (motive := s.ReleasedTo) (fun hc => ?_) fun _ => .inl rfl
  refine .inr ⟨by simp_all, ?_⟩
  simp [State.releaseState_phase]

theorem State.release_steady (s : State) : s.Steady s.release := by
  intro h
  rcases s.release_releasedTo with hr | ⟨hs, hst, hcy, hen, hl, hstep⟩
  · rw [hr]
    exact ⟨h, .inl rfl⟩
  rw [State.startConsistent_iff] at h ⊢
  obtain ⟨ha, hlog, -, he⟩ := h
  have ht : s.rt.state = .test := RunState.allows_test ha (by simp [hs, BootStep.tests])
  have he : s.rt.encoding = none := by simpa [ht, RunState.encodes] using he
  have hlog : s.power.logicOn = true := by rw [hlog, ht]; rfl
  rcases hst with hst | hst <;>
    simp [hst, hcy, hen, hl, hstep, ht, he, hlog, RunState.allows, State.released, RunState.code, RunState.stepsTo]

/-! ### Commands that begin or end an encoding -/

@[simp] theorem Boot.noteFailures_step (g : Nat) (fs : List (BitVec 64)) (b : Boot) : (b.noteFailures g fs).step = b.step := rfl

theorem State.bistResults_step (raw : List (BitVec 64)) (late place : Nat) (s : State) :
    (s.bistResults raw late place).boot.step = s.boot.step := by
  unfold State.bistResults
  simp only [List.foldl_cons, List.foldl_nil, Boot.noteFailures_step]

theorem State.bistDone_steady (raw : List (BitVec 64)) (late place : Nat) (s : State) : s.Steady (s.bistDone raw late place) := by
  have hstep := s.bistResults_step raw late place
  unfold State.bistDone
  split
  · exact .refl s
  refine .ite (fun _ => .refl s) fun _ => ?_
  refine .ite (fun _ => State.Quiet.steady (by simp [State.Quiet, hstep])) fun _ => .ite (fun hst h => ?_) fun _ =>
    State.Quiet.steady (by simp [State.Quiet, hstep])
  have hsv : s.rt.state = .service := by simpa using hst
  rw [State.startConsistent_iff] at h ⊢
  obtain ⟨ha, hl, hc, -⟩ := h
  exact ⟨⟨by simpa [hstep] using ha, by simpa using hl, by simpa [State.released] using hc, .inr (by simp [hsv, RunState.encodes])⟩,
    .inl (by simp)⟩

theorem State.encodingComplete_quiet (differs : Option Nat) (s : State) : s.Quiet (s.encodingComplete differs) := by
  unfold State.encodingComplete
  refine .ite (fun _ => .refl s) fun _ => ?_
  split
  · simp [State.Quiet]
  · simp [State.Quiet]

theorem State.dieSample_quiet (tenths : Int) (s : State) : s.Quiet (s.dieSample tenths) := by
  unfold State.dieSample
  refine .ite (fun _ => ?_) fun _ => .refl s
  refine .ite (fun _ => .ite (fun _ => ?_) fun _ => ?_) fun _ => ?_ <;> simp [State.Quiet]

/-! ### Requests -/

theorem State.request_quiet (effect : State → State) (he : ∀ t : State, t.Quiet (effect t)) (s : State) : s.Quiet (s.request effect) :=
  .ite (fun _ => he { s with dict.response := none }) fun _ => .refl s

theorem State.modbusFrame_quiet (serve : State → State) (he : ∀ t : State, t.Quiet (serve t)) (s : State) : s.Quiet (s.modbusFrame serve) :=
  .ite (fun _ => he s) fun _ => .refl s

theorem State.loaderCommand_quiet (effect : State → State) (he : ∀ t : State, t.Quiet (effect t)) (s : State) :
    s.Quiet (s.loaderCommand effect) := by
  refine .ite (fun _ => .refl s) fun _ => .ite (fun _ => by simp [State.Quiet]) fun _ => ?_
  simpa [State.Quiet] using he { s.bootPower with service.status := 0, service.data := [] }

end Sys2Proof.Machine

namespace Sys2Proof.Machine

/-! ### Entry to a runtime state (Table 1-10) -/

@[simp] theorem State.startPasses_rt (s : State) :
    s.startPasses.rt = { s.rt with runSince := s.rt.boundary, encoding := none, encodingDone := false } := by
  unfold State.startPasses
  dsimp only
  split <;> simp

@[simp] theorem State.beginRun_rt (s : State) :
    s.beginRun.rt = { s.rt with cycleUs := s.safeCycle, runSince := s.rt.boundary, encoding := none, encodingDone := false } := by
  simp [State.beginRun]

/-- What the entry to a state sets and what it leaves of the runtime. -/
theorem State.enterState_entered (st : RunState) (s : State) :
    (s.enterState st).rt.state = st ∧ (s.enterState st).rt.entryTime = s.rt.boundary ∧ (s.enterState st).rt.cycling = s.rt.cycling ∧
      (s.enterState st).rt.encoding = none ∧ (s.enterState st).rt.encodingDone = false ∧
      (s.enterState st).rt.stateCause = s.rt.stateCause ∧ (s.enterState st).rt.lockoutLatch = s.rt.lockoutLatch ∧
      (s.enterState st).rt.ackArmed = s.rt.ackArmed ∧ (s.enterState st).rt.boundary = s.rt.boundary := by
  unfold State.enterState
  cases st <;> simp

/-! ### What no part of a boundary does -/

/-- The encoding under way is one of a state that encodes. -/
def State.EncodingFits (s : State) : Prop := s.rt.encoding = none ∨ s.rt.state.encodes = true

/-- From release on no part of a boundary touches the supply, the boot sequence or the cycling of the unit, and each leaves an encoding only
where one may be. -/
def State.Within (s t : State) : Prop :=
  s.rt.cycling = true → s.EncodingFits →
    t.rt.cycling = true ∧ t.power.logicOn = s.power.logicOn ∧ t.boot.step = s.boot.step ∧ t.EncodingFits

theorem State.Within.trans {s t u : State} (h : s.Within t) (k : t.Within u) : s.Within u := by
  intro hc he
  obtain ⟨hc', hl, hb, he'⟩ := h hc he
  obtain ⟨hc'', hl', hb', he''⟩ := k hc' he'
  exact ⟨hc'', hl'.trans hl, hb'.trans hb, he''⟩

theorem State.Within.of_same {s t : State} (hs : t.rt.state = s.rt.state) (hc : t.rt.cycling = s.rt.cycling)
    (he : t.rt.encoding = s.rt.encoding) (hl : t.power.logicOn = s.power.logicOn)
    (hb : t.boot.step = s.boot.step ∨ t.boot.MayBe s.boot s.rt.cycling) : s.Within t := by
  intro h hf
  refine ⟨hc.trans h, hl, ?_, by rwa [State.EncodingFits, he, hs]⟩
  rcases hb with hb | hb
  · exact hb
  · rw [hb.1 h]

theorem State.Within.refl (s : State) : s.Within s := .of_same rfl rfl rfl rfl (.inl rfl)

theorem State.Within.ite {s : State} {c : Prop} [Decidable c] {a b : State} (ha : c → s.Within a) (hb : ¬c → s.Within b) :
    s.Within (if c then a else b) := by
  split
  · exact ha ‹_›
  · exact hb ‹_›

theorem State.enterState_within (st : RunState) (s : State) : s.Within (s.enterState st) := by
  obtain ⟨-, -, hc, he, -⟩ := s.enterState_entered st
  exact fun h _ => ⟨hc.trans h, by simp, by simp, .inl he⟩

theorem State.enterByFault_within (st : RunState) (cause : Nat) (s : State) : s.Within (s.enterByFault st cause) := by
  refine (s.enterState_within st).trans ?_
  unfold State.enterByFault
  refine .of_same ?_ ?_ ?_ ?_ (.inl ?_) <;> simp

theorem State.evaluateFaults_within (l : List Detected) (s : State) : s.Within (s.evaluateFaults l) := by
  unfold State.evaluateFaults
  split
  · refine State.Within.trans (.of_same ?_ ?_ ?_ ?_ (.inl ?_)) (State.enterByFault_within _ _ _) <;> simp
  · refine State.Within.trans (.of_same ?_ ?_ ?_ ?_ (.inl ?_)) (State.enterByFault_within _ _ _) <;> simp
  · refine .of_same ?_ ?_ ?_ ?_ (.inl ?_) <;> simp

theorem State.judgeRun_within (s : State) : s.Within s.judgeRun.1 := by
  unfold State.judgeRun
  split
  · dsimp only
    refine .ite (fun _ => ?_) fun _ => .refl s
    refine .of_same ?_ ?_ ?_ ?_ (.inl ?_) <;> simp
  next hh =>
  split
  · exact .refl s
  dsimp only
  split
  · exact fun h _ => ⟨h, rfl, rfl, .inr (by simp_all [RunState.encodes])⟩
  · refine .of_same ?_ ?_ ?_ ?_ (.inl ?_) <;> simp

theorem State.judgeService_within (s : State) : s.Within s.judgeService.1 := by
  unfold State.judgeService
  split
  · exact fun h _ => ⟨h, rfl, rfl, .inr (by simp_all [RunState.encodes])⟩
  · exact .refl s

theorem State.judgeHold_within (s : State) : s.Within s.judgeHold.1 := by
  unfold State.judgeHold
  split
  · refine (s.enterState_within .hold).trans ?_
    dsimp only
    refine .of_same ?_ ?_ ?_ ?_ (.inl ?_) <;> simp
  split
  · exact fun h _ => ⟨h, rfl, rfl, .inl rfl⟩
  · exact .refl s

theorem State.judgeAck_within (s : State) : s.Within s.judgeAck.1 := by
  unfold State.judgeAck
  split
  · refine State.Within.trans (t := State.persistLatch { s with rt.lockoutLatch := false, boot.retained.latch := false })
      (.of_same ?_ ?_ ?_ ?_ (.inl ?_)) (State.enterState_within .hold _) <;> simp
  · exact .refl s

theorem State.judgeSafeStopAck_within (s : State) : s.Within s.judgeSafeStopAck.1 := by
  unfold State.judgeSafeStopAck
  split
  · exact s.enterState_within .hold
  · exact .refl s

theorem State.judgeRequest_within (q : QueuedWrite) (s : State) : s.Within (s.judgeRequest q).1 := by
  unfold State.judgeRequest
  split
  · exact s.judgeSafeStopAck_within
  split
  · exact s.judgeRun_within
  · exact s.judgeService_within
  · exact s.judgeHold_within
  · exact s.judgeAck_within
  · exact .refl s

theorem State.evaluateRequests_within (qs : List QueuedWrite) (faulted : Bool) (s : State) : s.Within (s.evaluateRequests qs faulted) := by
  unfold State.evaluateRequests
  split
  · exact .refl s
  next q _ =>
  dsimp only
  refine State.Within.trans (t := qs.dropLast.foldl State.discardRequest { s with rt.autoStart := s.rt.autoStart && faulted })
    (.of_same ?_ ?_ ?_ ?_ (.inl ?_)) (.ite (fun _ => .of_same ?_ ?_ ?_ ?_ (.inl ?_)) fun _ =>
      (State.judgeRequest_within q _).trans (.of_same ?_ ?_ ?_ ?_ (.inl ?_))) <;> simp

theorem State.followPairStop_within (s : State) : s.Within s.followPairStop := by
  unfold State.followPairStop
  split
  · split
    · exact s.enterState_within _
    · exact s.enterState_within _
    · exact .refl s
  · exact .refl s

theorem State.automaticStart_within (s : State) : s.Within s.automaticStart :=
  .ite (fun _ => State.Within.trans (t := { s with rt.autoStart := false }) (.of_same rfl rfl rfl rfl (.inl rfl))
    (State.judgeRun_within _)) fun _ => .refl s

theorem State.finishEncoding_within (s : State) : s.Within s.finishEncoding := by
  have hnone (t : State) : t.Within { t with rt.encoding := none, rt.encodingDone := false } := fun h _ => ⟨h, rfl, rfl, .inl rfl⟩
  unfold State.finishEncoding
  split
  · exact .refl s
  split
  · dsimp only
    split
    · exact hnone s
    split
    · refine (hnone s).trans (.of_same ?_ ?_ ?_ ?_ (.inl ?_)) <;> simp
    split
    · exact s.enterState_within _
    · exact .refl s
  · dsimp only
    split
    · exact fun h _ => ⟨by simpa using h, by simp, by simp, .inl (by simp)⟩
    · refine (s.enterState_within .service).trans (.of_same ?_ ?_ ?_ ?_ (.inl ?_)) <;> simp
  · exact hnone s

theorem State.takeDebug_within (p : DebugPending) (s : State) : s.Within (s.takeDebug p) := by
  unfold State.takeDebug
  dsimp only
  cases p with
  | halt => exact .ite (fun _ => .of_same rfl rfl rfl rfl (.inl rfl)) fun _ => .refl s
  | step i => exact .ite (fun _ => by refine .of_same ?_ ?_ ?_ ?_ (.inr ?_) <;> simp) fun _ => .refl s
  | _ => exact .ite (fun _ => by refine .of_same ?_ ?_ ?_ ?_ (.inl ?_) <;> simp) fun _ => .refl s

/-! ### The stages of a boundary after its faults (R49, R443, R454, R576) -/

/-- The state requests that wait leave the queue and are judged. -/
def State.answerRequests (faulted : Bool) (s : State) : State :=
  State.evaluateRequests (s.dict.queued.filter QueuedWrite.isStateRequest) faulted
    { s with dict.queued := s.dict.queued.filter (fun q => !q.isStateRequest) }

/-- Unless a fault decided, the unit follows its twin, starts by itself or ends an encoding. -/
def State.moveOn (faulted : Bool) (s : State) : State := if faulted then s else (s.followPairStop.automaticStart).finishEncoding

/-- The other writes and the debug requests take effect; `old` is the state before the boundary. -/
def State.takeWrites (old : RunState) (s : State) : State := (s.applyWrites (s.rt.state != old)).debugBoundary

theorem State.evaluateBoundary_eq (l : List Detected) (s : State) :
    s.evaluateBoundary l =
      let f := s.evaluateFaults l
      let faulted := f.rt.state != s.rt.state
      if f.service.bistFrom.isSome then f else ((f.answerRequests faulted).moveOn faulted).takeWrites s.rt.state := rfl

theorem State.answerRequests_within (faulted : Bool) (s : State) : s.Within (s.answerRequests faulted) :=
  .trans (t := { s with dict.queued := s.dict.queued.filter (fun q => !q.isStateRequest) }) (.of_same rfl rfl rfl rfl (.inl rfl))
    (State.evaluateRequests_within _ _ _)

theorem State.moveOn_within (faulted : Bool) (s : State) : s.Within (s.moveOn faulted) :=
  .ite (fun _ => .refl s) fun _ => (s.followPairStop_within).trans ((State.automaticStart_within _).trans (State.finishEncoding_within _))

theorem State.takeWrites_within (old : RunState) (s : State) : s.Within (s.takeWrites old) := by
  have hdebug (t : State) : t.Within t.debugBoundary :=
    State.Within.trans (t := { t with service.pending := [] }) (.of_same rfl rfl rfl rfl (.inl rfl))
      (foldl_frame State.Within .refl (fun _ _ _ => .trans) (fun t p => State.takeDebug p t) (fun t p => t.takeDebug_within p) _ _)
  refine State.Within.trans (t := s.applyWrites (s.rt.state != old)) ?_ (hdebug _)
  refine .of_same ?_ ?_ ?_ ?_ (.inl ?_) <;> simp

theorem State.evaluateBoundary_within (l : List Detected) (s : State) : s.Within (s.evaluateBoundary l) := by
  rw [State.evaluateBoundary_eq]
  exact (s.evaluateFaults_within l).trans (.ite (fun _ => .refl _) fun _ =>
    (State.answerRequests_within _ _).trans ((State.moveOn_within _ _).trans (State.takeWrites_within _ _)))

/-! ### The moves of Table 1-6 at a boundary -/

@[simp] theorem State.enterByFault_state (st : RunState) (cause : Nat) (s : State) : (s.enterByFault st cause).rt.state = st := by
  simp [State.enterByFault, State.enterState_entered]

/-- A fault takes a state that can be locked to Lockout, and Run to SafeStop (R38, R49). -/
theorem State.evaluateFaults_state (l : List Detected) (s : State) :
    (s.evaluateFaults l).rt.state = s.rt.state ∨
      (s.evaluateFaults l).rt.state = .lockout ∧ (s.rt.state = .hold ∨ s.rt.state = .run ∨ s.rt.state = .service ∨ s.rt.state = .safeStop) ∨
      (s.evaluateFaults l).rt.state = .safeStop ∧ s.rt.state = .run := by
  have hout (st : RunState) (c : Nat) (h : s.faultOutcome l = some (st, c)) :
      st = .lockout ∧ (s.rt.state = .hold ∨ s.rt.state = .run ∨ s.rt.state = .service ∨ s.rt.state = .safeStop) ∨
        st = .safeStop ∧ s.rt.state = .run := by
    simp only [State.faultOutcome, State.logicState] at h
    split at h <;> grind
  unfold State.evaluateFaults
  split <;> rename_i h
  · have := hout _ _ h
    simp_all
  · have := hout _ _ h
    simp_all
  · exact .inl (by simp)

theorem State.judgeRun_state (s : State) : s.judgeRun.1.rt.state = s.rt.state ∧
    (s.judgeRun.1.rt.encodingDone = s.rt.encodingDone ∨ s.judgeRun.1.rt.encodingDone = false) := by
  unfold State.judgeRun
  dsimp only
  (repeat' split) <;> simp

/-- A request keeps the runtime state or takes it to Hold, from where nothing is encoded yet (R38, R50, R53). -/
theorem State.judgeRequest_state (q : QueuedWrite) (s : State) :
    (s.judgeRequest q).1.rt.state = s.rt.state ∨
      (s.judgeRequest q).1.rt.state = .hold ∧ (s.judgeRequest q).1.rt.encodingDone = false ∧
        (s.rt.state = .run ∨ s.rt.state = .service ∨ s.rt.state = .lockout ∨ s.rt.state = .safeStop) := by
  unfold State.judgeRequest
  split
  · unfold State.judgeSafeStopAck
    split
    · exact .inr (by simp_all [State.enterState_entered])
    · exact .inl rfl
  split
  · exact .inl s.judgeRun_state.1
  · unfold State.judgeService
    split <;> exact .inl rfl
  · unfold State.judgeHold
    split
    · refine .inr ?_
      simp_all [State.enterState_entered, State.logicState]
      tauto
    · split <;> exact .inl rfl
  · unfold State.judgeAck
    split
    · exact .inr (by simp_all [State.enterState_entered])
    · exact .inl rfl
  · exact .inl rfl

theorem State.answerRequests_state (faulted : Bool) (s : State) :
    (s.answerRequests faulted).rt.state = s.rt.state ∨
      faulted = false ∧ (s.answerRequests faulted).rt.state = .hold ∧ (s.answerRequests faulted).rt.encodingDone = false ∧
        (s.rt.state = .run ∨ s.rt.state = .service ∨ s.rt.state = .lockout ∨ s.rt.state = .safeStop) := by
  unfold State.answerRequests State.evaluateRequests
  split
  · exact .inl rfl
  next q _ =>
  dsimp only
  split
  · exact .inl (by simp)
  · rename_i hf
    rcases State.judgeRequest_state q (((s.dict.queued.filter QueuedWrite.isStateRequest).dropLast).foldl State.discardRequest
      { s with dict.queued := s.dict.queued.filter (fun q => !q.isStateRequest), rt.autoStart := s.rt.autoStart && faulted }) with h | h
    · exact .inl (by simpa using h)
    · exact .inr ⟨by simpa using hf, by simpa using h⟩

theorem State.followPairStop_state (s : State) : s.followPairStop = s ∨ s.rt.state = .run ∧
    (s.followPairStop.rt.state = .service ∨ s.followPairStop.rt.state = .hold) ∧ s.followPairStop.rt.encodingDone = false := by
  unfold State.followPairStop
  split
  · have hr : s.rt.state = .run := by simp_all
    split
    · exact .inr (by simp [State.enterState_entered, hr])
    · exact .inr (by simp [State.enterState_entered, hr])
    · exact .inl rfl
  · exact .inl rfl

theorem State.automaticStart_state (s : State) : s.automaticStart.rt.state = s.rt.state ∧
    (s.automaticStart.rt.encodingDone = s.rt.encodingDone ∨ s.automaticStart.rt.encodingDone = false) := by
  unfold State.automaticStart
  split
  · exact State.judgeRun_state { s with rt.autoStart := false }
  · exact ⟨rfl, .inl rfl⟩

theorem State.finishEncoding_state (s : State) (hf : s.EncodingFits) : s.finishEncoding.rt.state = s.rt.state ∨ s.rt.encodingDone = true ∧
    (s.rt.state = .hold ∧ s.finishEncoding.rt.state = .run ∨
      (s.rt.state = .hold ∨ s.rt.state = .run) ∧ s.finishEncoding.rt.state = .service) := by
  unfold State.finishEncoding
  split
  · exact .inl rfl
  have hd : s.rt.encodingDone = true := by simp_all
  split
  · dsimp only
    split
    · exact .inl rfl
    split
    · exact .inl (by simp)
    split
    · exact .inr (by simp_all [State.enterState_entered])
    · exact .inl rfl
  · next he =>
    have hr : s.rt.state.encodes = true := by simpa [State.EncodingFits, he] using hf
    dsimp only
    split
    · exact .inl (by simp)
    · refine .inr ⟨hd, .inr ⟨?_, by simp [State.enterState_entered]⟩⟩
      simp_all [RunState.encodes]
  · exact .inl rfl

/-- From Run the unit moves on to Service and Hold, from Hold to Run and Service once an encoding is complete (R38, R209, R523). -/
theorem State.moveOn_state (s : State) (hc : s.rt.cycling = true) (hf : s.EncodingFits) :
    (s.moveOn false).rt.state = s.rt.state ∨ s.rt.state = .run ∧ ((s.moveOn false).rt.state = .service ∨ (s.moveOn false).rt.state = .hold) ∨
      s.rt.state = .hold ∧ s.rt.encodingDone = true ∧ ((s.moveOn false).rt.state = .run ∨ (s.moveOn false).rt.state = .service) := by
  obtain ⟨-, -, -, hf'⟩ := ((s.followPairStop_within).trans (State.automaticStart_within _)) hc hf
  obtain ⟨hst, hdn⟩ := s.followPairStop.automaticStart_state
  have hfin := State.finishEncoding_state _ hf'
  rw [show s.moveOn false = (s.followPairStop.automaticStart).finishEncoding from rfl]
  rw [hst] at hfin
  rcases s.followPairStop_state with hp | ⟨hr, hp, hpd⟩
  · rw [hp] at hfin hdn ⊢
    rcases hfin with hfin | ⟨hd, hfin⟩
    · exact .inl hfin
    · have hd' : s.rt.encodingDone = true := by
        rcases hdn with h | h
        · rwa [← h]
        · simp [h] at hd
      tauto
  · have hd : s.followPairStop.automaticStart.rt.encodingDone = false := by
      rcases hdn with h | h
      · rw [h, hpd]
      · exact h
    rcases hfin with hfin | ⟨hd', -⟩
    · exact .inr (.inl ⟨hr, by rwa [hfin]⟩)
    · simp [hd] at hd'

theorem State.takeWrites_state (old : RunState) (s : State) : (s.takeWrites old).rt.state = s.rt.state := by
  simp [State.takeWrites]

/-- What a boundary may do to the runtime state: keep it, or take it along Table 1-6 to another state past release. -/
def RunState.movesTo (r r' : RunState) : Prop := r' = r ∨ 3 ≤ r'.code ∧ r.mayBecome r' = true

theorem RunState.movesTo.mayBecome {r r' : RunState} (h : r.movesTo r') : r.mayBecome r' = true := by
  rcases h with rfl | ⟨-, h⟩
  · cases r' <;> rfl
  · exact h

theorem State.evaluateBoundary_movesTo (l : List Detected) (s : State) (hc : s.rt.cycling = true) (hf : s.EncodingFits) :
    s.rt.state.movesTo (s.evaluateBoundary l).rt.state := by
  obtain ⟨hc', -, -, hf'⟩ := s.evaluateFaults_within l hc hf
  rw [State.evaluateBoundary_eq]
  dsimp only
  by_cases hch : (s.evaluateFaults l).rt.state = s.rt.state
  · split
    · rw [hch]
      exact .inl rfl
    rw [State.takeWrites_state, show ((s.evaluateFaults l).rt.state != s.rt.state) = false by simp [hch]]
    have hreq := (s.evaluateFaults l).answerRequests_state false
    obtain ⟨hc'', -, -, hf''⟩ := (s.evaluateFaults l).answerRequests_within false hc' hf'
    have hmove := State.moveOn_state _ hc'' hf''
    rw [hch] at hreq
    rcases hreq with hreq | ⟨-, hreq, hdone, hold⟩
    · rw [hreq] at hmove
      rcases hmove with hm | ⟨hr, hm | hm⟩ | ⟨hh, -, hm | hm⟩
      · rw [hm]
        exact .inl rfl
      all_goals simp_all [RunState.movesTo, RunState.mayBecome, RunState.code]
    · rcases hmove with hm | ⟨hr, -⟩ | ⟨-, hd, -⟩
      · rw [hm, hreq]
        rcases hold with h | h | h | h <;> rw [h] <;> exact .inr (by decide)
      · simp [hreq] at hr
      · simp [hdone] at hd
  · have hm : s.rt.state.movesTo (s.evaluateFaults l).rt.state := by
      rcases s.evaluateFaults_state l with h | ⟨h, h' | h' | h' | h'⟩ | ⟨h, h'⟩
      · exact absurd h hch
      all_goals rw [h, h']; exact .inr (by decide)
    split
    · exact hm
    rw [State.takeWrites_state, show ((s.evaluateFaults l).rt.state != s.rt.state) = true by simp [hch]]
    have hreq := (s.evaluateFaults l).answerRequests_state true
    rw [show State.moveOn true ((s.evaluateFaults l).answerRequests true) = (s.evaluateFaults l).answerRequests true from rfl]
    simp_all
end Sys2Proof.Machine

namespace Sys2Proof.Machine

/-! ### A whole cycle boundary -/

theorem RunState.allows_idle {r : RunState} (h : 3 ≤ r.code) : r.allows .idle = true := by
  revert h
  cases r <;> simp [RunState.code, RunState.allows]

theorem RunState.allows_released {r : RunState} {b : BootStep} (h : r.allows b = true) (hr : 3 ≤ r.code) : b = .idle := by
  cases r <;> cases b <;> simp_all [RunState.code, RunState.allows]

theorem RunState.on_of_released {r : RunState} (hr : 3 ≤ r.code) : (r != .off) = true := by
  cases r <;> simp_all [RunState.code]

/-- A part of a boundary keeps the boot sequence in step with the runtime state. -/
theorem State.Within.startConsistent {s t : State} (hw : s.Within t) (h : s.startConsistent = true) (hc : s.rt.cycling = true)
    (hm : s.rt.state.movesTo t.rt.state) : t.startConsistent = true := by
  rw [State.startConsistent_iff] at h ⊢
  obtain ⟨ha, hl, hcy, hf⟩ := h
  obtain ⟨hc', hl', hb, hf'⟩ := hw hc hf
  have hs : 3 ≤ s.rt.state.code := by simpa [hc, State.released] using hcy
  have ht : 3 ≤ t.rt.state.code := by
    rcases hm with hm | ⟨hm, -⟩
    · rwa [hm]
    · exact hm
  refine ⟨?_, ?_, by simp [hc', State.released, ht], hf'⟩
  · rw [hb, RunState.allows_released ha hs]
    exact RunState.allows_idle ht
  · rw [hl', hl, RunState.on_of_released hs, RunState.on_of_released ht]

theorem State.passedBoundary_quiet (x : Sensors) (s : State) : s.Quiet (s.passedBoundary x) := by simp [State.Quiet]

theorem State.stepAtBoundary_quiet (s : State) : s.Quiet s.stepAtBoundary := by simp [State.Quiet]

/-- The LE's queues are read for the last time in the cycle that ends (R183, R484). -/
def State.popAtBoundary (s : State) : State := if s.rt.popped || s.service.bistFrom.isSome then s else s.popInbound

/-- The new cycle begins with its freeze. -/
def State.openCycle (x : Sensors) (s : State) : State :=
  (State.newCycle x { s with rt.detected := [], glint.carried := [], analog.carried := [] }).takeImage

/-- A boundary at which the LE works, up to the reset that a write to RESET_REQUEST asks for. -/
def State.judgedBoundary (x : Sensors) (s : State) : State :=
  let u := s.popAtBoundary
  (((u.openCycle x).evaluateBoundary u.pendingFaults).boundaryWork u.rt.state u.rt.stateCause).launchPasses

theorem State.fullBoundary_eq (x : Sensors) (s : State) :
    s.fullBoundary x = if (s.judgedBoundary x).rt.resetAtBoundary then (s.judgedBoundary x).resetSource 7 else s.judgedBoundary x := by
  exact rfl

theorem State.popAtBoundary_within (s : State) : s.Within s.popAtBoundary :=
  .ite (fun _ => .refl s) fun _ => by refine .of_same ?_ ?_ ?_ ?_ (.inl ?_) <;> simp

@[simp] theorem State.popAtBoundary_state (s : State) : s.popAtBoundary.rt.state = s.rt.state := by simp [State.popAtBoundary]

theorem State.openCycle_within (x : Sensors) (s : State) : s.Within (s.openCycle x) := by
  refine .of_same ?_ ?_ ?_ ?_ (.inl ?_) <;> simp [State.openCycle]

@[simp] theorem State.openCycle_state (x : Sensors) (s : State) : (s.openCycle x).rt.state = s.rt.state := by simp [State.openCycle]

theorem State.boundaryEnd_within (old : RunState) (cause : Nat) (s : State) : s.Within (s.boundaryWork old cause).launchPasses := by
  refine .of_same ?_ ?_ ?_ ?_ (.inl ?_) <;> simp

theorem State.judgedBoundary_moves (x : Sensors) (s : State) (hc : s.rt.cycling = true) (hf : s.EncodingFits) :
    s.Within (s.judgedBoundary x) ∧ s.rt.state.movesTo (s.judgedBoundary x).rt.state := by
  have hw := (s.popAtBoundary_within).trans (s.popAtBoundary.openCycle_within x)
  obtain ⟨hc', -, -, hf'⟩ := hw hc hf
  have hm := State.evaluateBoundary_movesTo s.popAtBoundary.pendingFaults _ hc' hf'
  unfold State.judgedBoundary
  refine ⟨hw.trans ((State.evaluateBoundary_within _ _).trans (State.boundaryEnd_within _ _ _)), ?_⟩
  simpa using hm

theorem RunState.stepsTo.of_released {r r' : RunState} (h : r.stepsTo r') (hr : 3 ≤ r.code) : r' = r ∨ r' = .boot ∨ r' = .off := by
  cases r <;> simp_all [RunState.stepsTo, RunState.code]

/-- What a boundary leads to, from release on. -/
theorem State.cycleBoundary_mayBecome (x : Sensors) (s : State) (h : s.startConsistent = true) :
    (s.cycleBoundary x).startConsistent = true ∧ s.rt.state.mayBecome (s.cycleBoundary x).rt.state = true := by
  unfold State.cycleBoundary
  split
  · exact ⟨h, RunState.movesTo.mayBecome (.inl rfl)⟩
  rename_i hdue
  have hc : s.rt.cycling = true := by
    simp [State.boundaryDue] at hdue
    exact hdue.1
  have h' := (s.stepAtBoundary_quiet).steady h
  have hst : s.stepAtBoundary.rt.state = s.rt.state := by simp
  have hc' : s.stepAtBoundary.rt.cycling = true := by simpa using hc
  rw [← hst]
  generalize s.stepAtBoundary = t at *
  dsimp only
  split
  · obtain ⟨hp, hs⟩ := (t.passedBoundary_quiet x).steady h'.1
    exact ⟨hp, hs.mayBecome⟩
  have hf : t.EncodingFits := ((State.startConsistent_iff t).mp h'.1).2.2.2
  obtain ⟨hw, hm⟩ := t.judgedBoundary_moves x hc' hf
  have hj := hw.startConsistent h'.1 hc' hm
  rw [State.fullBoundary_eq]
  split
  · obtain ⟨hr, hs⟩ := (t.judgedBoundary x).resetSource_steady 7 hj
    refine ⟨hr, ?_⟩
    have hrel : 3 ≤ (t.judgedBoundary x).rt.state.code := by
      have := ((State.startConsistent_iff _).mp hj).2.2.1
      rw [(hw hc' hf).1] at this
      simpa [State.released] using this.symm
    rcases hs.of_released hrel with hs | hs | hs <;> rw [hs]
    · exact hm.mayBecome
    · cases t.rt.state <;> rfl
    · cases t.rt.state <;> rfl
  · exact ⟨hj, hm.mayBecome⟩

end Sys2Proof.Machine

namespace Sys2Proof.Machine

/-! ### Every command (R38) -/

theorem State.elapse_quiet (dt : Nat) (s : State) : s.Quiet (s.elapse dt) := by simp [State.Quiet]

theorem exec_steady (i : Instr) (s t : State) (hi : ∀ dt x, i ≠ .cycleBoundary dt x) (h : exec i s = .next t) : s.Steady t := by
  cases i
  case cycleBoundary dt x => exact absurd rfl (hi dt x)
  all_goals
    obtain rfl := Host.Outcome.next.inj h
    clear hi h
    generalize hu : State.elapse _ s = u
    refine State.Quiet.steady_trans (hu ▸ s.elapse_quiet _ : s.Quiet u) ?_
    clear hu
  case clockMonitorWindow => exact u.monitorWindow_steady _
  case pllLockLoss => exact u.lockLoss_steady
  case pllLock => exact u.pllLocks_steady _ _
  case pllLockTimeout => exact u.lockTimeout_steady
  case pllLockRetry => exact u.lockRetry_steady
  case rideThroughEnd => exact u.rideThroughEnd_steady _
  case logicSupplyStart => exact u.supplyStart_steady _
  case railFault => exact u.railFault_steady
  case storeRecovery => exact .ite (fun hs => u.recoverStore_steady _ (by simp_all)) fun _ => .refl u
  case warmReset => exact .ite (fun _ => u.resetSource_steady _) fun _ => .refl u
  case resetRelease => exact u.releaseReset_steady _
  case bootEntry => exact u.bootEntry_steady
  case bistGroupComplete => exact u.groupComplete_steady _ _ _ _
  case comparatorInjectionTest => exact u.comparatorTest_steady _
  case mpuSeal => exact u.seal_steady _ _
  case release => exact u.release_steady
  case bootWatchdogExpiry => exact u.watchdogExpires_steady
  case serviceBistComplete => exact u.bistDone_steady _ _ _
  case resetReq => exact u.resetReq_steady _
  case leStall => exact u.leStall_steady
  all_goals refine State.Quiet.steady ?_
  case runEncodingComplete => exact u.encodingComplete_quiet _
  case dieTempSample => exact u.dieSample_quiet _
  case read | prepare | confirm => exact u.request_quiet _ fun t => by simp [State.Quiet]
  case write => exact u.request_quiet _ fun t => by simp [State.Quiet]
  case serviceDictFrame => exact .ite (fun _ => u.request_quiet _ fun t => by simp [State.Quiet]) fun _ => .refl u
  case modbusReadHoldingRegisters | modbusReadInputRegisters | readDeviceIdentification | illegalFunction =>
    exact u.modbusFrame_quiet _ fun t => by simp [State.Quiet]
  case loaderErase | loaderWrite | loaderStatus => exact u.loaderCommand_quiet _ fun t => by simp [State.Quiet]
  all_goals simp [State.Quiet]

theorem exec_cycleBoundary (dt : Nat) (x : Sensors) (s : State) : exec (.cycleBoundary dt x) s = .next ((s.elapse dt).cycleBoundary x) := by
  exact rfl

theorem State.Steady.mayBecome {s t : State} (h : s.Steady t) (hs : s.startConsistent = true) :
    t.startConsistent = true ∧ RunState.mayBecome s.rt.state t.rt.state = true ∧ s.rt.state.stepsTo t.rt.state :=
  ⟨(h hs).1, (h hs).2.mayBecome, (h hs).2⟩

/-- Settles O60: a command at the head of the queue other than a boundary by `exec_steady`, a boundary by `State.cycleBoundary_mayBecome`. -/
theorem stateChangesByTheTable : Obligations.StateChangesByTheTable := by
  unfold Obligations.StateChangesByTheTable
  intro s t hs h
  cases hp : s.pending with
  | nil =>
    obtain rfl : s.transmitOne = t := by simpa [Machine.step, hp] using h
    obtain ⟨ht, hm, hst⟩ := State.Steady.mayBecome (t := s.transmitOne) (State.Quiet.steady (by simp [State.Quiet])) hs
    exact ⟨ht, hm, fun _ => hst⟩
  | cons c rest =>
    have hx : exec c { s with pending := rest } = .next t := by simpa [Machine.step, hp] using h
    by_cases hc : ∃ dt x, c = .cycleBoundary dt x
    · obtain ⟨dt, x, rfl⟩ := hc
      obtain rfl := Host.Outcome.next.inj ((exec_cycleBoundary dt x { s with pending := rest }).symm.trans hx)
      have hu : (State.elapse dt { s with pending := rest }).startConsistent = true :=
        ((State.elapse_quiet dt { s with pending := rest }).steady hs).1
      obtain ⟨ht, hm⟩ := State.cycleBoundary_mayBecome x _ hu
      exact ⟨ht, by simpa using hm, fun hno => absurd rfl (hno dt x rest)⟩
    · obtain ⟨ht, hm, hst⟩ := State.Steady.mayBecome (exec_steady c _ t (fun dt x hc' => hc ⟨dt, x, hc'⟩) hx) hs
      exact ⟨ht, hm, fun _ => hst⟩

end Sys2Proof.Machine

namespace Sys2Proof.Machine

/-! ### A Run request in SafeStop that finds a completed encoding -/

/-- SafeStop at a boundary with a Run request waiting and an encoding for Service complete. No step leads here (`State.startConsistent` keeps
encodings to Hold, Run and Service), but nothing in the statement of O17 excludes it. -/
def strayEncoding : State :=
  { State.reset with
    rt.state := .safeStop
    rt.cycling := true
    rt.popped := true
    rt.encoding := some .service
    rt.encodingDone := true
    power.logicOn := true
    clock.net := 100000 * 2 ^ 32
    dict.queued := [{ requester := 1, channel := .zops, confirmed := true, index := 0x2200, sub := 2, type := 2, value := 1, len := 1 }] }

/-- Both field supplies in range, every input at rest. -/
def restingSensors : Sensors :=
  { fs1Mv := 24000, fs2Mv := 24000, domainGood := 0, pinMv := [], railHigh := 0, railLow := 0, ref1 := 0, ref2 := 0, bandgap := 0 }

/-- The request is refused, and the same boundary ends the encoding with the entry to Service. -/
theorem strayEncoding_enters_service :
    (match exec (.cycleBoundary 0 restingSensors) strayEncoding with
      | .next t => t.rt.state == .service
      | _ => false) = true := by
  decide +kernel

theorem strayEncoding_boundaryDue : (State.elapse 0 strayEncoding).boundaryDue = true := by
  decide +kernel

/-- Refutes O17: the statement does not ask that no encoding is under way, and one that is complete takes SafeStop to Service although the
Run request is rejected. -/
theorem not_rejectedRequestsLeaveTheState : ¬ Obligations.RejectedRequestsLeaveTheState := by
  unfold Obligations.RejectedRequestsLeaveTheState
  intro h
  obtain ⟨t, ht, -, hkept⟩ := h 0 restingSensors _ strayEncoding strayEncoding_boundaryDue rfl rfl rfl rfl rfl rfl rfl rfl rfl rfl rfl
  have hstate := (hkept (.inr ⟨rfl, rfl, .inl rfl⟩)).1
  have hservice := strayEncoding_enters_service
  rw [ht] at hservice
  simp [hstate, strayEncoding] at hservice

end Sys2Proof.Machine

namespace Sys2Proof.Machine

/-! ### The queue of writes through the parts of a boundary -/

@[simp] theorem Dict.queued_ite {c : Prop} [Decidable c] (d e : Dict) :
    (if c then d else e).queued = if c then d.queued else e.queued := by
  split <;> rfl

@[simp] theorem State.answerQueued_queued (q : QueuedWrite) (s : State) : (s.answerQueued q).dict.queued = s.dict.queued := by
  have htoken : (s.withToken q.token q.code).dict.queued = s.dict.queued := rfl
  unfold State.answerQueued
  dsimp only
  split <;> split <;> simp [htoken]

@[simp] theorem State.answerRequest_queued (q : QueuedWrite) (code detail : Nat) (s : State) :
    (s.answerRequest q code detail).dict.queued = s.dict.queued := by
  unfold State.answerRequest
  dsimp only
  rw [State.answerQueued_queued]
  split
  · unfold State.noteApplied
    split <;> simp [State.accept]
  · simp [State.reject]

@[simp] theorem State.storeSelect_queued (bank : Nat) (s : State) : (s.storeSelect bank).dict.queued = s.dict.queued := by
  simp [State.storeSelect]

@[simp] theorem State.writeSnapshot_queued (f : SnapshotFrame) (s : State) : (s.writeSnapshot f).dict.queued = s.dict.queued := by
  unfold State.writeSnapshot
  dsimp only
  split <;> split <;> simp

@[simp] theorem State.commitBoundary_queued (s : State) : s.commitBoundary.dict.queued = s.dict.queued := by
  unfold State.commitBoundary
  dsimp only
  split
  · rfl
  split <;> simp

@[simp] theorem State.selectCopied_queued (s : State) : s.selectCopied.dict.queued = s.dict.queued := by
  unfold State.selectCopied
  dsimp only
  split
  · split
    · split <;> simp [State.selectImage]
    · rfl
  · rfl

@[simp] theorem State.boundaryWork_queued (old : RunState) (cause : Nat) (s : State) :
    (s.boundaryWork old cause).dict.queued = s.dict.queued := by
  simp [State.boundaryWork, State.freezeLibrary, State.useTrim, State.countMissed]

@[simp] theorem State.enterState_queued (st : RunState) (s : State) : (s.enterState st).dict.queued = s.dict.queued := by
  unfold State.enterState
  cases st <;> simp

@[simp] theorem State.enterState_resetAtBoundary (st : RunState) (s : State) :
    (s.enterState st).rt.resetAtBoundary = s.rt.resetAtBoundary := by
  unfold State.enterState
  cases st <;> simp

@[simp] theorem State.startPasses_service (s : State) : s.startPasses.service = { s.service with resuming := false } := by
  unfold State.startPasses
  dsimp only
  split <;> simp

@[simp] theorem Service.pending_ite {c : Prop} [Decidable c] (u v : Service) :
    (if c then u else v).pending = if c then u.pending else v.pending := by
  split <;> rfl

@[simp] theorem State.setSim_debugPending (on : Bool) (s : State) : (s.setSim on).service.pending = s.service.pending := by
  simp [State.setSim]

theorem State.enterState_debugPending (st : RunState) (s : State) (h : s.service.pending = []) :
    (s.enterState st).service.pending = [] := by
  have hleave : s.leaveState.service.pending = [] := by
    unfold State.leaveState
    split <;> simp [State.leaveService, h]
  unfold State.enterState
  cases st <;> simp [State.beginRun, hleave]

@[simp] theorem State.launchPasses_rt (s : State) :
    s.launchPasses.rt = { s.rt with
      passesRunning := s.passesActive
      passTag := if s.service.resuming then s.service.haltedTag else s.rt.boundary
      libDone := s.service.resuming } := rfl

/-! ### A boundary after whose request nothing waits -/

/-- No write waits, no debug command, no reset, and no encoding is complete. -/
def State.NothingWaits (s : State) : Prop :=
  s.dict.queued = [] ∧ s.service.pending = [] ∧ s.rt.resetAtBoundary = false ∧ (s.rt.encoding = none ∨ s.rt.encodingDone = false)

theorem State.NothingWaits.enterState {s : State} (h : s.NothingWaits) (st : RunState) : (s.enterState st).NothingWaits := by
  obtain ⟨hq, hp, hr, -⟩ := h
  exact ⟨by simp [hq], State.enterState_debugPending st s hp, by simp [hr], .inl (State.enterState_entered st s).2.2.2.1⟩

theorem State.NothingWaits.answerRequest {s : State} (h : s.NothingWaits) (q : QueuedWrite) (code detail : Nat) :
    (s.answerRequest q code detail).NothingWaits := by
  simpa [State.NothingWaits] using h

theorem State.judgeRun_nothingWaits {s : State} (h : s.NothingWaits) : s.judgeRun.1.NothingWaits := by
  unfold State.judgeRun
  dsimp only
  (repeat' split) <;> simp_all [State.NothingWaits]

theorem State.judgeRequest_nothingWaits (q : QueuedWrite) {s : State} (h : s.NothingWaits) : (s.judgeRequest q).1.NothingWaits := by
  unfold State.judgeRequest
  split
  · unfold State.judgeSafeStopAck
    split
    · exact h.enterState _
    · exact h
  split
  · exact State.judgeRun_nothingWaits h
  · unfold State.judgeService
    split <;> simp_all [State.NothingWaits]
  · unfold State.judgeHold
    dsimp only
    split
    · have he := h.enterState .hold
      split <;> exact he
    · split <;> simp_all [State.NothingWaits]
  · unfold State.judgeAck
    dsimp only
    split
    · exact State.NothingWaits.enterState (by simp_all [State.NothingWaits]) .hold
    · exact h
  · exact h

theorem State.finishEncoding_nothingWaits {s : State} (h : s.NothingWaits) :
    s.finishEncoding = { s with rt.encodingDone := false } := by
  obtain ⟨-, -, -, hidle⟩ := h
  unfold State.finishEncoding
  by_cases hd : s.rt.encodingDone = false
  · have hs : { s with rt.encodingDone := s.rt.encodingDone } = s := rfl
    rw [hd] at hs
    simp [hd, hs]
  · have he : s.rt.encoding = none := by simpa [hd] using hidle
    simp [hd, he]

/-- One state request judged, and the automatic start gone (R48, R53). -/
def State.requested (q : QueuedWrite) (s : State) : State × Bool :=
  State.judgeRequest q { s with dict.queued := [], rt.autoStart := false }

theorem State.moveOn_nothingWaits {s : State} (h : s.NothingWaits) : (s.moveOn false).NothingWaits ∧
    (s.moveOn false).rt.encoding = s.followPairStop.automaticStart.rt.encoding := by
  have hpair : s.followPairStop.NothingWaits := by
    unfold State.followPairStop
    split
    · split
      · exact h.enterState _
      · exact h.enterState _
      · exact h
    · exact h
  have hauto : s.followPairStop.automaticStart.NothingWaits := by
    unfold State.automaticStart
    split
    · exact State.judgeRun_nothingWaits hpair
    · exact hpair
  have hfin := State.finishEncoding_nothingWaits hauto
  rw [show s.moveOn false = (s.followPairStop.automaticStart).finishEncoding from rfl, hfin]
  exact ⟨⟨hauto.1, hauto.2.1, hauto.2.2.1, .inr rfl⟩, rfl⟩

theorem State.takeWrites_nothingWaits (old : RunState) {s : State} (h : s.NothingWaits) : s.takeWrites old = s := by
  obtain ⟨hq, hp, -, -⟩ := h
  have hqs : { s with dict.queued := s.dict.queued } = s := rfl
  have hps : { s with service.pending := s.service.pending } = s := rfl
  rw [hq] at hqs
  rw [hp] at hps
  simp [State.takeWrites, State.applyWrites, State.debugBoundary, State.applyInOrder, hq, hp, hqs, hps]

theorem State.answerRequests_single {q : QueuedWrite} {s : State} (hq : s.dict.queued = [q]) (hs : q.isStateRequest = true) :
    s.answerRequests false =
      (s.requested q).1.answerRequest q (if (s.requested q).2 then 0 else 0x800E) (if (s.requested q).2 then 0 else s.rt.state.code) := by
  unfold State.answerRequests State.evaluateRequests State.requested
  simp only [hq, List.filter_cons, hs, List.filter_nil]
  simp

/-! ### Up to the judgement of the requests -/

theorem State.applyStep_keeps (s : State) :
    s.applyStep.rt.popped = s.rt.popped ∧ s.applyStep.rt.passesRunning = s.rt.passesRunning ∧
      s.applyStep.rt.resetAtBoundary = s.rt.resetAtBoundary ∧ s.applyStep.rt.splitSinceReset = s.rt.splitSinceReset ∧
      s.applyStep.rt.autoStart = s.rt.autoStart ∧ s.applyStep.rt.active = s.rt.active ∧ s.applyStep.service.bistFrom = s.service.bistFrom ∧
      s.applyStep.service.pending = s.service.pending ∧ s.applyStep.mirror.pairStop = s.mirror.pairStop ∧
      s.applyStep.zop.session = s.zop.session := by
  unfold State.applyStep
  split
  · simp
  · dsimp only
    split <;> simp [State.moveTimes, State.moveInputs]

theorem State.stepAtBoundary_keeps (s : State) :
    s.stepAtBoundary.rt.popped = s.rt.popped ∧ s.stepAtBoundary.rt.passesRunning = s.rt.passesRunning ∧
      s.stepAtBoundary.rt.resetAtBoundary = s.rt.resetAtBoundary ∧ s.stepAtBoundary.rt.splitSinceReset = s.rt.splitSinceReset ∧
      s.stepAtBoundary.rt.autoStart = s.rt.autoStart ∧ s.stepAtBoundary.service.bistFrom = s.service.bistFrom ∧
      s.stepAtBoundary.service.pending = s.service.pending ∧ s.stepAtBoundary.mirror.pairStop = s.mirror.pairStop ∧
      s.stepAtBoundary.zop.session = s.zop.session := by
  have h := s.applyStep_keeps
  unfold State.stepAtBoundary
  split
  · simp
  · dsimp only
    split <;> simp [h]

theorem State.pendingFaults_stepAtBoundary (s : State) (hd : s.rt.detected = []) (hg : s.glint.carried = []) (ha : s.analog.carried = []) :
   s.stepAtBoundary.pendingFaults = [] := by
  have h : s.applyStep.pendingFaults = [] := by
    unfold State.applyStep
    split
    · simp [State.pendingFaults, *]
    · dsimp only
      split <;> simp [State.pendingFaults, State.moveTimes, State.moveInputs, State.syncAfterStep, *]
  unfold State.stepAtBoundary
  split
  · simp [State.pendingFaults, *]
  · dsimp only
    split <;> simpa [State.pendingFaults, *] using h

@[simp] theorem State.iosSafeState_pairStop (s : State) : s.iosSafeState.mirror.pairStop = s.mirror.pairStop := by
  unfold State.iosSafeState
  split <;> simp [State.stopToken]

@[simp] theorem State.freezePair_pairStop (refBad : BitVec 2) (p : Nat) (s : State) :
    (s.freezePair refBad p).mirror.pairStop = s.mirror.pairStop := by
  unfold State.freezePair
  dsimp only
  (repeat' split) <;> simp

@[simp] theorem State.freeze_pairStop (tk : Nat) (x : Sensors) (s : State) : (s.freeze tk x).mirror.pairStop = s.mirror.pairStop := by
  have hpairs (l : List Nat) (bad : BitVec 2) (t : State) :
      (l.foldl (fun t p => t.freezePair bad p) t).mirror.pairStop = t.mirror.pairStop :=
    foldl_preserves (·.mirror.pairStop) _ (fun t p => t.freezePair_pairStop bad p) l t
  simp [State.freeze, State.freezeAnalog, hpairs]

@[simp] theorem State.postHeld_session (s : State) : s.postHeld.zop.session = s.zop.session := by
  refine foldl_preserves (·.zop.session) _ (fun t p => ?_) _ _
  unfold State.postDict
  split <;> simp

theorem State.newCycle_keeps (x : Sensors) (s : State) :
    (s.newCycle x).rt.resetAtBoundary = s.rt.resetAtBoundary ∧
      (s.newCycle x).rt.splitSinceReset = s.rt.splitSinceReset ∧ (s.newCycle x).mirror.pairStop = s.mirror.pairStop ∧
      (s.newCycle x).rt.autoStart = s.rt.autoStart ∧ (s.newCycle x).zop.session = s.zop.session ∧ (s.newCycle x).images.image = s.images.image := by
  simp [State.newCycle, State.countStall]

theorem State.openCycle_keeps (x : Sensors) (s : State) :
    (s.openCycle x).rt.resetAtBoundary = s.rt.resetAtBoundary ∧ (s.openCycle x).rt.splitSinceReset = s.rt.splitSinceReset ∧
      (s.openCycle x).rt.encoding = s.rt.encoding ∧ (s.openCycle x).rt.ackArmed = s.rt.ackArmed ∧
      (s.openCycle x).rt.lockoutLatch = s.rt.lockoutLatch ∧ (s.openCycle x).dict = s.dict ∧ (s.openCycle x).otp = s.otp ∧
      (s.openCycle x).service = s.service ∧ (s.openCycle x).mirror.pairStop = s.mirror.pairStop ∧
      (s.openCycle x).zop.session = s.zop.session ∧ (s.openCycle x).images.image = s.images.image := by
  simp [State.openCycle, State.newCycle_keeps]

theorem State.evaluateBoundary_nil (s : State) (hb : s.service.bistFrom = none) :
    s.evaluateBoundary [] = ((s.answerRequests false).moveOn false).takeWrites s.rt.state := by
  have hnil : s.evaluateFaults [] = s := rfl
  rw [State.evaluateBoundary_eq, hnil]
  simp [hb]

theorem State.judgedBoundary_nothingWaits (x : Sensors) (s : State) (hp : s.rt.popped = true) (hb : s.service.bistFrom = none)
    (hf : s.pendingFaults = []) (hw : ((s.openCycle x).answerRequests false).NothingWaits) :
    s.judgedBoundary x =
      ((((s.openCycle x).answerRequests false).moveOn false).boundaryWork s.rt.state s.rt.stateCause).launchPasses := by
  have hpop : s.popAtBoundary = s := by simp [State.popAtBoundary, hp]
  have hb' : (s.openCycle x).service.bistFrom = none := by simp [s.openCycle_keeps x, hb]
  unfold State.judgedBoundary
  rw [hpop]
  dsimp only
  rw [hf, State.evaluateBoundary_nil _ hb', State.takeWrites_nothingWaits _ (State.moveOn_nothingWaits hw).1]

/-- A boundary with one state request, no fault and nothing else that waits (R48, R49). -/
theorem State.fullBoundary_request (x : Sensors) (q : QueuedWrite) (s : State) (hp : s.rt.popped = true) (hb : s.service.bistFrom = none)
    (hr : s.rt.resetAtBoundary = false) (hd : s.service.pending = []) (hf : s.pendingFaults = []) (hq : s.dict.queued = [q])
    (hs : q.isStateRequest = true) (he : s.rt.encoding = none) :
    ((s.openCycle x).answerRequests false).NothingWaits ∧
      s.fullBoundary x = ((((s.openCycle x).answerRequests false).moveOn false).boundaryWork s.rt.state s.rt.stateCause).launchPasses := by
  obtain ⟨hr', -, he', -, -, hdict, -, hserv, -⟩ := s.openCycle_keeps x
  have hj : State.NothingWaits { s.openCycle x with dict.queued := [], rt.autoStart := false } :=
    ⟨rfl, by simp [hserv, hd], by simp [hr', hr], .inl (by simp [he', he])⟩
  have hw : ((s.openCycle x).answerRequests false).NothingWaits := by
    rw [State.answerRequests_single (by rw [hdict, hq]) hs]
    exact State.NothingWaits.answerRequest (State.judgeRequest_nothingWaits q hj) q _ _
  have heq := s.judgedBoundary_nothingWaits x hp hb hf hw
  have hreset : (s.judgedBoundary x).rt.resetAtBoundary = false := by
    rw [heq]
    generalize (s.openCycle x).answerRequests false = a at hw
    simp [(State.moveOn_nothingWaits hw).1.2.2.1]
  rw [State.fullBoundary_eq, if_neg (by rw [hreset]; decide)]
  exact ⟨hw, heq⟩

theorem State.followPairStop_eq {s : State} (h : s.rt.state ≠ .run ∨ s.mirror.pairStop = none) : s.followPairStop = s := by
  unfold State.followPairStop
  rcases h with h | h
  · simp [h]
  · simp [h]

theorem State.judgeRun_rt (s : State) :
    s.judgeRun.1.rt = s.rt ∨ s.judgeRun.1.rt = { s.rt with encoding := some .run, encodingDone := false } := by
  unfold State.judgeRun
  dsimp only
  (repeat' split) <;> simp

/-- The runtime at the end of the boundary: but for an automatic start in Hold and for the mark of a completed encoding it stands as after
the answer to the request. -/
theorem State.boundaryEnd_rt {s : State} (h : s.NothingWaits) (hp : s.rt.state ≠ .run ∨ s.mirror.pairStop = none) (old : RunState) (cause : Nat) :
    let t := ((s.moveOn false).boundaryWork old cause).launchPasses
    t.dict.queued = [] ∧ t.rt.encodingDone = false ∧ t.rt.state = s.rt.state ∧ t.rt.entryTime = s.rt.entryTime ∧ t.rt.boundary = s.rt.boundary ∧
      t.rt.lockoutLatch = s.rt.lockoutLatch ∧ t.rt.active = s.rt.active ∧ (s.rt.autoStart = false → t.rt.encoding = s.rt.encoding) := by
  obtain ⟨⟨hq, -⟩, -⟩ := State.moveOn_nothingWaits h
  have hfin : s.moveOn false = { s.automaticStart with rt.encodingDone := false } := by
    have hauto : s.automaticStart.NothingWaits := by
      unfold State.automaticStart
      split
      · exact State.judgeRun_nothingWaits (by simpa [State.NothingWaits] using h)
      · exact h
    rw [← State.finishEncoding_nothingWaits hauto, show s.moveOn false = (s.followPairStop.automaticStart).finishEncoding from rfl,
      State.followPairStop_eq hp]
  have hrt : (s.moveOn false).rt = { s.automaticStart.rt with encodingDone := false } := by rw [hfin]
  have hauto : s.automaticStart = s ∨ s.rt.autoStart = true ∧ s.automaticStart = (State.judgeRun { s with rt.autoStart := false }).1 := by
    unfold State.automaticStart
    split
    · exact .inr ⟨by simp_all, rfl⟩
    · exact .inl rfl
  generalize s.moveOn false = m at *
  dsimp only
  refine ⟨by simp [hq], ?_⟩
  simp only [State.launchPasses_rt, (State.boundaryWork_frame old cause m).1, hrt]
  rcases hauto with ha | ⟨hs, ha⟩
  · simp [ha]
  · rw [ha]
    rcases State.judgeRun_rt { s with rt.autoStart := false } with hr | hr <;> simp [hr, hs]

/-! ### What each request does (R40, R41, R53, R54) -/

theorem State.requested_hold (q : QueuedWrite) (s : State) (hs : q.sub = 2) (hv : q.value = 3)
    (h : s.rt.state = .run ∨ s.rt.state = .service) :
    (s.requested q).1.rt.state = .hold ∧ (s.requested q).1.rt.entryTime = (s.requested q).1.rt.boundary := by
  have hlogic : s.logicState = true := by rcases h with h | h <;> simp [State.logicState, h]
  have hjudge : (s.requested q).1.rt = (State.enterState .hold { s with dict.queued := [], rt.autoStart := false }).rt := by
    simp [State.requested, State.judgeRequest, State.judgeHold, State.logicState, hs, hv] at hlogic ⊢
    simp [hlogic]
  simp [hjudge, State.enterState_entered]

theorem State.requested_acknowledge (q : QueuedWrite) (s : State) (hs : q.sub = 2) (hv : q.value = 5) (h : s.rt.state = .lockout) :
    (s.requested q).1.rt.state = (if s.rt.ackArmed then .hold else .lockout) ∧
      (s.requested q).1.rt.lockoutLatch = (!s.rt.ackArmed && s.rt.lockoutLatch) := by
  cases ha : s.rt.ackArmed <;> simp [State.requested, State.judgeRequest, State.judgeAck, State.enterState_entered, hs, hv, h, ha]

theorem State.requested_service (q : QueuedWrite) (s : State) (hs : q.sub = 2) (hv : q.value = 2)
    (h : s.rt.state = .hold ∨ s.rt.state = .run) (h₁ : s.otp.lifecycle ≠ 1) (h₆ : s.otp.lifecycle ≠ 6) :
    (s.requested q).1.rt = { s.rt with autoStart := false, encoding := some .service, encodingDone := false } := by
  rcases h with h | h <;>
    simp [State.requested, State.judgeRequest, State.judgeService, State.serviceReachable, hs, hv, h, h₁, h₆]

theorem State.requested_service_barred (q : QueuedWrite) (s : State) (hs : q.sub = 2) (hv : q.value = 2)
    (h : s.otp.lifecycle = 1 ∨ s.otp.lifecycle = 6) :
    (s.requested q).1 = { s with dict.queued := [], rt.autoStart := false } := by
  rcases h with h | h <;>
    simp [State.requested, State.judgeRequest, State.judgeService, State.serviceReachable, hs, hv, h]

theorem State.judgeRun_started (s : State) (he : s.rt.encoding = none) :
    s.judgeRun.1.rt = s.rt ∨
      s.judgeRun.1.rt = { s.rt with encoding := some .run, encodingDone := false } ∧ s.runReachable = true ∧ s.runBarred = false := by
  unfold State.judgeRun
  dsimp only
  (repeat' split) <;> simp_all

/-- A Run request starts the encoding or leaves the unit as it is; it starts none where one of the conditions of R54 and R487 fails. -/
theorem State.requested_run (q : QueuedWrite) (s : State) (hs : q.sub = 2) (hv : q.value = 1) (he : s.rt.encoding = none) :
    (s.requested q).1.rt = { s.rt with autoStart := false } ∨
      (s.requested q).1.rt = { s.rt with autoStart := false, encoding := some .run, encodingDone := false } ∧
        s.otp.lifecycle ≠ 1 ∧ s.otp.lifecycle ≠ 6 ∧ s.rt.splitSinceReset = false ∧ s.rt.active = [] ∧ s.images.image ≠ none ∧
        s.zop.session = 1 := by
  have hjudge : s.requested q = State.judgeRun { s with dict.queued := [], rt.autoStart := false } := by
    simp [State.requested, State.judgeRequest, hs, hv]
  rw [hjudge]
  refine (State.judgeRun_started { s with dict.queued := [], rt.autoStart := false } he).imp_right fun ⟨hrt, hreach, hbar⟩ => ⟨hrt, ?_⟩
  simp [State.runReachable, State.runBarred] at hreach hbar
  refine ⟨by omega, by omega, ?_⟩
  simp [hbar, ← Option.isSome_iff_ne_none]

theorem State.judgeRequest_pairStop (q : QueuedWrite) (s : State) :
    (s.judgeRequest q).1.rt.state ≠ .run ∨ (s.judgeRequest q).1.mirror = s.mirror := by
  unfold State.judgeRequest
  split
  · unfold State.judgeSafeStopAck
    split
    · exact .inl (by simp [State.enterState_entered])
    · exact .inr rfl
  split
  · refine .inr ?_
    unfold State.judgeRun
    dsimp only
    (repeat' split) <;> simp
  · unfold State.judgeService
    split <;> exact .inr rfl
  · unfold State.judgeHold
    dsimp only
    split
    · exact .inl (by simp [State.enterState_entered])
    · split <;> exact .inr rfl
  · unfold State.judgeAck
    dsimp only
    split
    · exact .inl (by simp [State.enterState_entered])
    · exact .inr rfl
  · exact .inr rfl

/-- Settles O18: the boundary up to the judgement by `State.fullBoundary_request`, the request by its own lemma, and the rest of the boundary by
`State.boundaryEnd_rt`. -/
theorem requestsTakeEffectAtTheBoundary : Obligations.RequestsTakeEffectAtTheBoundary := by
  unfold Obligations.RequestsTakeEffectAtTheBoundary
  intro dt x q s
  dsimp only
  intro hdue hpr hp hr hb he hps hd hdet hgl han hq hidx hsub
  have hreq : q.isStateRequest = true := by simp [QueuedWrite.isStateRequest, hidx, hsub]
  obtain ⟨hp', -, hr', hsplit, -, hb', hd', hps', hsess⟩ := (s.elapse dt).stepAtBoundary_keeps
  have hf := (s.elapse dt).pendingFaults_stepAtBoundary (by simpa using hdet) (by simpa using hgl) (by simpa using han)
  have hv : (s.elapse dt).stepAtBoundary.rt.state = s.rt.state ∧ (s.elapse dt).stepAtBoundary.rt.ackArmed = s.rt.ackArmed ∧
      (s.elapse dt).stepAtBoundary.rt.lockoutLatch = s.rt.lockoutLatch ∧ (s.elapse dt).stepAtBoundary.rt.encoding = s.rt.encoding ∧
      (s.elapse dt).stepAtBoundary.dict = s.dict ∧ (s.elapse dt).stepAtBoundary.otp = s.otp ∧
      (s.elapse dt).stepAtBoundary.images = s.images := by simp
  have hexec : exec (.cycleBoundary dt x) s = .next ((s.elapse dt).stepAtBoundary.fullBoundary x) := by
    rw [exec_cycleBoundary]
    unfold State.cycleBoundary
    simp [hdue, hpr]
  refine ⟨_, hexec, ?_⟩
  generalize (s.elapse dt).stepAtBoundary = v at *
  obtain ⟨hst, hack, hlatch, henc, hdict, hotp, himg⟩ := hv
  obtain ⟨hw, hfull⟩ := State.fullBoundary_request x q v (by simpa [hp'] using hp) (by simpa [hb'] using hb) (by simpa [hr'] using hr)
    (by simpa [hd'] using hd) hf (by rw [hdict, hq]) hreq (by rw [henc, he])
  obtain ⟨-, hsplit', henc', hack', hlatch', hdict', hotp', -, hps'', hsess', himg'⟩ := v.openCycle_keeps x
  have hst' := State.openCycle_state x v
  generalize v.openCycle x = j at *
  have hans := State.answerRequests_single (s := j) (by rw [hdict', hdict, hq]) hreq
  have hrt : (j.answerRequests false).rt = (j.requested q).1.rt := by simp [hans]
  have hpair : (j.answerRequests false).rt.state ≠ .run ∨ (j.answerRequests false).mirror.pairStop = none := by
    refine (State.judgeRequest_pairStop q { j with dict.queued := [], rt.autoStart := false }).imp (by rw [hrt]; exact id) fun hm => ?_
    have hsame : (j.answerRequests false).mirror = j.mirror := by
      have hkeep (c d : Nat) (u : State) : (u.answerRequest q c d).mirror = u.mirror := by simp
      rw [hans, hkeep]
      exact hm
    simp [hsame, hps'', hps', hps]
  obtain ⟨hqueue, hdone, hend⟩ := State.boundaryEnd_rt hw hpair v.rt.state v.rt.stateCause
  rw [hfull]
  generalize (((j.answerRequests false).moveOn false).boundaryWork v.rt.state v.rt.stateCause).launchPasses = t at *
  rw [hrt] at hend
  refine ⟨hqueue, ?_, ?_, ?_, ?_, ?_⟩
  · intro hval hstate
    obtain ⟨hs, ht⟩ := j.requested_hold q hsub hval (by rwa [hst', hst])
    simp [hend, hs, ht]
  · intro hval hstate
    obtain ⟨hs, hl⟩ := j.requested_acknowledge q hsub hval (by rw [hst', hst, hstate])
    simp [hend, hs, hl, hack', hack, hlatch', hlatch]
  · intro hval hstate hauto h₁ h₆
    have hs := j.requested_service q hsub hval (by rwa [hst', hst]) (by rwa [hotp', hotp]) (by rwa [hotp', hotp])
    simp [hend, hs, hst', hst, hdone]
  · intro hval hlife
    have hs := j.requested_service_barred q hsub hval (by rwa [hotp', hotp])
    simp [hend, hs, henc', henc, he]
  · intro hval hstate
    rcases j.requested_run q hsub hval (by rw [henc', henc, he]) with hs | ⟨hs, h₁, h₆, hsp, hact, himage, hsession⟩
    · simp [hend, hs, hst', hst, hstate, henc', henc, he]
    · refine ⟨by simp [hend, hs, hst', hst, hstate], .inr (by simp [hend, hs]), fun hbar => absurd hbar ?_⟩
      simp_all

end Sys2Proof.Machine

namespace Sys2Proof.Machine

/-! ### Channels and banks through the operations of the IOS -/

/-- A loop whose pass at `n` treats `n` alone treats each `n` of its list once. -/
theorem foldl_pointwise {β : Type} (p : Nat → State → β) (g : Nat → β → β) (f : State → Nat → State)
    (hsame : ∀ t n, p n (f t n) = g n (p n t)) (hother : ∀ t m n, m ≠ n → p n (f t m) = p n t) (l : List Nat) (hl : l.Nodup) (s : State)
    (n : Nat) : p n (l.foldl f s) = if n ∈ l then g n (p n s) else p n s := by
  induction l generalizing s with
  | nil => rfl
  | cons m l ih =>
    obtain ⟨hm, hl⟩ := List.nodup_cons.mp hl
    rw [List.foldl_cons, ih hl]
    by_cases hn : n = m
    · subst hn
      simp [hm, hsame]
    · simp [hn, hother s m n (Ne.symm hn)]

theorem State.ch_modCh_same (n : Nat) (f : Channel → Channel) (s : State) (h : n < s.field.channels.length) :
    (s.modCh n f).ch n = f (s.ch n) := by
  simp [State.modCh, State.ch, h]

theorem State.ch_modCh_beyond (n : Nat) (f : Channel → Channel) (s : State) (h : s.field.channels.length ≤ n) : s.modCh n f = s := by
  simp [State.modCh, h, List.modify_eq_self]

theorem State.ch_modCh_other {m n : Nat} (hmn : m ≠ n) (f : Channel → Channel) (s : State) : (s.modCh m f).ch n = s.ch n := by
  simp [State.modCh, State.ch, hmn]

theorem State.command_other {m n : Nat} (hmn : m ≠ n) (v : Bool) (s : State) : (s.command m v).ch n = s.ch n := State.ch_modCh_other hmn _ s

@[simp] theorem State.command_length (n : Nat) (v : Bool) (s : State) : (s.command n v).field.channels.length = s.field.channels.length := by
  simp [State.command, State.modCh]

theorem State.command_mode (n m : Nat) (v : Bool) (s : State) : ((s.command n v).ch m).mode = (s.ch m).mode := by
  by_cases hmn : n = m
  · subst hmn
    by_cases h : n < s.field.channels.length
    · rw [State.command, State.ch_modCh_same _ _ _ h]
      split <;> rfl
    · rw [State.command, State.ch_modCh_beyond _ _ _ (by omega)]
  · rw [State.command_other hmn]

theorem State.command_same (n : Nat) (v : Bool) (s : State) (h : n < s.field.channels.length) : ((s.command n v).ch n).command = v := by
  rw [State.command, State.ch_modCh_same _ _ _ h]
  split
  · simp_all
  · rfl

theorem getD_mapIdx_proj {α β : Type} (f : Nat → α → α) (p : α → β) (hf : ∀ n a, p (f n a) = p a) (l : List α) (n : Nat) (d : α) :
    p ((l.mapIdx f).getD n d) = p (l.getD n d) := by
  rw [List.getD_eq_getElem?_getD, List.getD_eq_getElem?_getD, List.getElem?_mapIdx]
  cases l[n]? <;> simp [hf]

@[simp] theorem State.refreshDrivers_mode (l : List Nat) (s : State) (n : Nat) : ((s.refreshDrivers l).ch n).mode = (s.ch n).mode := by
  refine getD_mapIdx_proj _ Channel.mode ?_ s.field.channels n {}
  exact fun _ _ => rfl

@[simp] theorem State.refreshDrivers_command (l : List Nat) (s : State) (n : Nat) : ((s.refreshDrivers l).ch n).command = (s.ch n).command := by
  refine getD_mapIdx_proj _ Channel.command ?_ s.field.channels n {}
  exact fun _ _ => rfl

@[simp] theorem State.refreshDrivers_bank (l : List Nat) (s : State) (b : Nat) : (s.refreshDrivers l).bank b = s.bank b := rfl

/-- What a loop over the channels' commands sees of one of them. -/
def State.outputAt (n : Nat) (s : State) : Nat × Bool × Nat := ((s.ch n).mode, (s.ch n).command, s.field.channels.length)

theorem State.outputAt_command_other {m n : Nat} (hmn : m ≠ n) (v : Bool) (s : State) : (s.command m v).outputAt n = s.outputAt n := by
  simp [State.outputAt, State.command_other hmn]

theorem State.outputAt_command_same (n : Nat) (v : Bool) (s : State) :
    (s.command n v).outputAt n = if n < s.field.channels.length then ((s.ch n).mode, v, s.field.channels.length) else s.outputAt n := by
  split
  · simp [State.outputAt, State.command_mode, State.command_same, *]
  · rw [State.command, State.ch_modCh_beyond _ _ _ (by omega)]

/-- A loop that commands each channel whose mode asks for it. -/
theorem State.commandLoop_command (c : Nat → Nat → Bool) (v : Nat → Bool) (s : State) (n : Nat) (hn : n < 32)
    (hl : n < s.field.channels.length) :
    (((List.range 32).foldl (fun t m => if c m (t.ch m).mode then t.command m (v m) else t) s).ch n).command =
      if c n (s.ch n).mode then v n else (s.ch n).command := by
  have hloop := foldl_pointwise State.outputAt (fun m o => if c m o.1 = true ∧ m < o.2.2 then (o.1, v m, o.2.2) else o)
    (fun t m => if c m (t.ch m).mode then t.command m (v m) else t)
    (fun t m => by
      by_cases hc : c m (t.ch m).mode = true
      · simp only [hc, if_true, State.outputAt_command_same]
        simp [State.outputAt, hc]
      · simp [hc, State.outputAt])
    (fun t m n hmn => by
      by_cases hc : c m (t.ch m).mode = true
      · simp [hc, State.outputAt_command_other hmn]
      · simp [hc])
    (List.range 32) List.nodup_range s n
  have hcommand := congrArg (fun o => o.2.1) hloop
  refine Eq.trans hcommand ?_
  by_cases hc : c n (s.ch n).mode = true <;> simp [State.outputAt, hn, hl, hc]

theorem State.placeImages_command (i : OutImages) (s : State) (n : Nat) (hn : n < 32) (hl : n < s.field.channels.length)
    (hm : isOutputMode (s.ch n).mode = true) :
    ((s.placeImages i (fun c => isOutputMode c.mode)).ch n).command =
      if s.sensorSupply n then (s.ch n).command else s.takesCommand i n && s.imageCommand i n := by
  have hloop := State.commandLoop_command (fun m mode => isOutputMode mode && !s.sensorSupply m)
    (fun m => s.takesCommand i m && s.imageCommand i m) { s with field.placed := true } n hn hl
  refine Eq.trans hloop ?_
  have hch : State.ch { s with field.placed := true } n = s.ch n := rfl
  rw [hch, hm]
  cases s.sensorSupply n <;> rfl

/-! ### The safe state of the IOS -/

/-- Command of a safety output; off for any other channel. -/
def State.safetyCommand (n : Nat) (s : State) : Bool := isSafetyMode (s.ch n).mode && (s.ch n).command

theorem State.placeSafe_safetyCommand (s : State) (n : Nat) (hn : n < 32) : s.placeSafe.safetyCommand n = false := by
  have hloop := foldl_pointwise State.safetyCommand (fun _ _ => false)
    (fun t n =>
      let m := (t.ch n).mode
      if isSafetyMode m then t.command n false
      else if m == 3 then t.command n (t.safeValue n)
      else t)
    (fun t m => by
      dsimp only
      split
      · by_cases hm : m < t.field.channels.length
        · simp [State.safetyCommand, State.command_same, hm]
        · have hdef : t.ch m = {} := by simp [State.ch, Nat.le_of_not_lt hm]
          simp_all [isSafetyMode]
      · split <;> simp_all [State.safetyCommand, State.command_mode])
    (fun t m n hmn => by
      dsimp only
      (repeat' split) <;> simp [State.safetyCommand, State.command_other hmn])
    (List.range 32) List.nodup_range s n
  exact hloop.trans (by simp [hn])

/-- The safety banks that are closed. -/
def State.safetyBankClosed (b : Nat) (s : State) : Bool := s.safetyBank b && (s.bank b).closed

theorem State.openBank_closed (b : Nat) (s : State) : ((s.openBank b).bank b).closed = false := by
  unfold State.openBank State.modBank State.bank
  rw [List.getD_eq_getElem?_getD, List.getElem?_modify_eq]
  cases s.field.banks[b]? with
  | none => rfl
  | some k => cases hk : k.closed <;> simp [hk]

theorem State.openBank_other {a b : Nat} (h : a ≠ b) (s : State) : (s.openBank a).bank b = s.bank b := by
  simp [State.openBank, State.modBank, State.bank, h]

theorem State.openSafetyBanks_closed (s : State) (b : Nat) (hb : b < 4) : s.openSafetyBanks.safetyBankClosed b = false := by
  have hmodes (t : State) (a : Nat) : (t.openBank a).safetyBank b = t.safetyBank b := rfl
  have hloop := foldl_pointwise State.safetyBankClosed (fun _ _ => false) (fun t a => if t.safetyBank a then t.openBank a else t)
    (fun t a => by
      by_cases ha : t.safetyBank a = true <;> simp [State.safetyBankClosed, State.openBank_closed, ha])
    (fun t a b hab => by
      by_cases ha : t.safetyBank a = true
      · simp only [ha, if_true, State.safetyBankClosed, State.openBank_other hab]
        rfl
      · simp [ha])
    (List.range 4) List.nodup_range s b
  exact hloop.trans (by simp [hb])

theorem Field.eq_of_banks (a b : Field) (h : { a with banks := [] } = { b with banks := [] }) : a = { b with banks := a.banks } :=
  congrArg (fun f : Field => { f with banks := a.banks }) h

theorem Field.eq_of_channels (a b : Field) (h : { a with channels := [] } = { b with channels := [] }) :
    a = { b with channels := a.channels } :=
  congrArg (fun f : Field => { f with channels := a.channels }) h

theorem State.openSafetyBanks_field (s : State) :
    s.openSafetyBanks.field = { s.field with banks := s.openSafetyBanks.field.banks } := by
  refine Field.eq_of_banks _ _ ?_
  unfold State.openSafetyBanks
  refine foldl_preserves (fun t : State => { t.field with banks := [] }) _ (fun t a => ?_) _ _
  split <;> rfl

theorem State.placeSafe_field (s : State) : s.placeSafe.field = { s.field with channels := s.placeSafe.field.channels } := by
  refine Field.eq_of_channels _ _ ?_
  unfold State.placeSafe
  refine foldl_preserves (fun t : State => { t.field with channels := [] }) _ (fun t a => ?_) _ _
  dsimp only
  (repeat' split) <;> rfl

theorem State.placeSafe_banks (s : State) : s.placeSafe.field.banks = s.field.banks := by
  rw [State.placeSafe_field]

theorem State.openSafetyBanks_channels (s : State) : s.openSafetyBanks.field.channels = s.field.channels := by
  rw [State.openSafetyBanks_field]

theorem State.safetyOutputsOff_iff (s : State) :
    s.safetyOutputsOff ↔ (∀ n, n < 32 → s.safetyCommand n = false) ∧ ∀ b, b < 4 → s.safetyBankClosed b = false := by
  simp [State.safetyOutputsOff, State.safetyCommand, State.safetyBankClosed]

@[simp] theorem State.refreshDrivers_safetyOutputsOff (l : List Nat) (s : State) :
    (s.refreshDrivers l).safetyOutputsOff ↔ s.safetyOutputsOff := by
  simp [State.safetyOutputsOff, State.safetyBank]

theorem State.openSafetyBanks_safetyOutputsOff (s : State) (h : ∀ n, n < 32 → s.safetyCommand n = false) :
    s.openSafetyBanks.safetyOutputsOff := by
  refine (State.safetyOutputsOff_iff _).mpr ⟨fun n hn => ?_, s.openSafetyBanks_closed⟩
  rw [← h n hn]
  simp [State.safetyCommand, State.ch, State.openSafetyBanks_channels]

/-- The safe state of the IOS, entered (R282, R283). -/
theorem State.iosSafeState_entered (s : State) (h : s.field.safeState = false) :
    s.iosSafeState.field.safeState = true ∧ s.iosSafeState.safetyOutputsOff ∧ s.iosSafeState.field.images = [] ∧
      s.iosSafeState.mirror.token = false ∧ s.iosSafeState.field.wdExpiries = s.field.wdExpiries := by
  have heq : s.iosSafeState =
      (State.openSafetyBanks (State.placeSafe { s with field.safeState := true, field.images := [] })).stopToken.breakPulse.refreshDrivers [] := by
    simp [State.iosSafeState, h]
  have hsafe := State.openSafetyBanks_safetyOutputsOff _
    (State.placeSafe_safetyCommand { s with field.safeState := true, field.images := [] })
  have hfield := State.openSafetyBanks_field (State.placeSafe { s with field.safeState := true, field.images := [] })
  rw [State.placeSafe_field] at hfield
  rw [heq]
  generalize State.openSafetyBanks _ = o at hsafe hfield
  have hstate : o.field.safeState = true := by rw [hfield]
  have himages : o.field.images = [] := by rw [hfield]
  have hexpiries : o.field.wdExpiries = s.field.wdExpiries := by rw [hfield]
  exact ⟨hstate, (State.refreshDrivers_safetyOutputsOff _ _).mpr hsafe, himages, rfl, hexpiries⟩

/-! ### The output watchdog and the placement (R282, R283, R291, R528) -/

theorem State.recoverable_raised (c : Nat) (data : List Byte) (s : State) :
    c ∈ (s.recoverable c data).rt.active ∧ (c ∉ s.rt.active → (s.recoverable c data).waits c .recoverable) := by
  unfold State.recoverable
  by_cases h : c ∈ s.rt.active
  · simp [h]
  · simp [h, State.detectAt, State.raise, State.waits]

theorem State.watchdogExpiry_entered (s : State) (ha : s.field.wdArmed = true) (hs : s.field.safeState = false)
    (hm : s.outputWdCycles ≤ s.field.wdMissed) :
    let t := s.watchdogExpiry
    t.field.safeState = true ∧ t.safetyOutputsOff ∧ t.field.images = [] ∧ t.mirror.token = false ∧ 0x0703 ∈ t.rt.active ∧
      (0x0703 ∉ s.rt.active → t.waits 0x0703 .recoverable) ∧ t.field.wdExpiries = sat32 (s.field.wdExpiries + 1) ∧
      t.service = { s.service with haltExpiry := s.service.haltExpiry || s.passes.halted } ∧
      State.keeps [.rt, .field, .glint, .mirror, .service, .ledger] s t := by
  have heq : s.watchdogExpiry = State.recoverable 0x0703 [] { s.iosSafeState with
      field.wdExpiries := sat32 (s.iosSafeState.field.wdExpiries + 1)
      service.haltExpiry := s.iosSafeState.service.haltExpiry || s.iosSafeState.passes.halted } := by
    unfold State.watchdogExpiry
    simp only [ha, hs, hm]
    simp
  obtain ⟨hsafe, hoff, himg, htok, hexp⟩ := s.iosSafeState_entered hs
  have hkeep : State.keeps [.rt, .field, .glint, .mirror, .service, .ledger] s s.watchdogExpiry :=
    fun p hp => by cases p <;> simp_all [State.agrees]
  dsimp only
  refine ⟨?_, ?_, ?_, ?_, ?_, ?_, ?_, ?_, hkeep⟩ <;> rw [heq]
  · simp [hsafe]
  · simpa [State.safetyOutputsOff, State.safetyBank, State.ch, State.bank] using hoff
  · simp [himg]
  · simp [htok]
  · exact (State.recoverable_raised _ _ _).1
  · exact fun hn => (State.recoverable_raised _ _ _).2 (by simpa using hn)
  · simp [hexp]
  · simp

theorem State.placeOutputs_eq_self (s : State)
    (h : s.rt.cycling = false ∨ s.field.placementDue = false ∨ s.now < s.rt.boundary + 10000) : s.placeOutputs = s := by
  have hus : us 100 = 10000 := rfl
  unfold State.placeOutputs
  rw [if_pos]
  simpa [hus, or_assoc] using h

/-- The unit at the instant of a placement: the watchdog armed where it is due, old images gone, and the fresh one counted. -/
def State.placing (s : State) : State :=
  let a := State.armWatchdog { s with field.placementDue := false, field.outputsLive := true }
  { a with
    field.images := a.field.images.filter (fun i => decide (a.rt.boundary ≤ i.tag))
    field.wdMissed := match s.freshImage with
      | some _ => 0
      | none => satAt 255 (s.field.wdMissed + 1) }

theorem State.armWatchdog_field (s : State) :
    s.armWatchdog.field = { s.field with wdArmed := s.armWatchdog.field.wdArmed, wdArmAt := s.armWatchdog.field.wdArmAt } := by
  unfold State.armWatchdog
  (repeat' split) <;> rfl

theorem State.placing_field (s : State) :
    s.placing.field.placementDue = false ∧ s.placing.field.outputsLive = true ∧ s.placing.field.channels = s.field.channels ∧
      s.placing.field.safeState = s.field.safeState ∧
      s.placing.field.wdMissed = (match s.freshImage with | some _ => 0 | none => satAt 255 (s.field.wdMissed + 1)) := by
  have h := State.armWatchdog_field { s with field.placementDue := false, field.outputsLive := true }
  unfold State.placing
  dsimp only
  refine ⟨?_, ?_, ?_, ?_, rfl⟩ <;> rw [h]

theorem State.placeOutputs_eq (s : State) (hc : s.rt.cycling = true) (hd : s.field.placementDue = true)
    (hn : s.rt.boundary + 10000 ≤ s.now) (ha : s.field.applyState = false) (hs : s.service.simActive = false) :
    s.placeOutputs =
      ((((match s.freshImage with | some i => s.placing.placeFresh i | none => s.placing).countSwitches
        ((List.range 32).map (fun n => (s.ch n).command))).refreshDrivers s.plannedChannels).tryToken) := by
  have hus : us 100 = 10000 := rfl
  have h := State.armWatchdog_field { s with field.placementDue := false, field.outputsLive := true }
  have happly : (State.armWatchdog { s with field.placementDue := false, field.outputsLive := true }).field.applyState = false := by
    rw [h]
    exact ha
  have hsim : (State.armWatchdog { s with field.placementDue := false, field.outputsLive := true }).service.simActive = false := by simp [hs]
  have hfresh : (State.armWatchdog { s with field.placementDue := false, field.outputsLive := true }).freshImage = s.freshImage := by
    unfold State.freshImage
    rw [h]
    simp
  have hmissed : (State.armWatchdog { s with field.placementDue := false, field.outputsLive := true }).field.wdMissed = s.field.wdMissed := by
    rw [h]
  unfold State.placeOutputs
  rw [if_neg (by simp [hc, hd, hus]; omega)]
  simp only [happly, hsim, hfresh, hmissed, Bool.false_eq_true, if_false, State.placing] <;>
    cases s.freshImage <;> rfl

theorem State.placeImages_field (i : OutImages) (which : Channel → Bool) (s : State) :
    (s.placeImages i which).field = { s.field with placed := true, channels := (s.placeImages i which).field.channels } := by
  refine Field.eq_of_channels _ { s.field with placed := true } ?_
  unfold State.placeImages
  refine foldl_preserves (fun t : State => { t.field with channels := [] }) _ (fun t a => ?_) _ _
  split <;> rfl

/-- The end of a placement leaves the commands, the counts and the flags of the IOS as they are. -/
theorem State.placementEnd_field (old : List Bool) (l : List Nat) (s : State) :
    let t := ((s.countSwitches old).refreshDrivers l).tryToken
    t.field.placementDue = s.field.placementDue ∧ t.field.outputsLive = s.field.outputsLive ∧ t.field.wdMissed = s.field.wdMissed ∧
      ∀ n, (t.ch n).command = (s.ch n).command := by
  dsimp only
  unfold State.tryToken
  split
  · exact ⟨rfl, rfl, rfl, fun n => (State.refreshDrivers_command [] _ n).trans (State.refreshDrivers_command l _ n)⟩
  · exact ⟨rfl, rfl, rfl, fun n => State.refreshDrivers_command _ _ n⟩

theorem State.placeFresh_field (i : OutImages) (s : State) :
    (s.placeFresh i).field.placementDue = s.field.placementDue ∧ (s.placeFresh i).field.outputsLive = s.field.outputsLive ∧
      (s.placeFresh i).field.wdMissed = s.field.wdMissed := by
  have himages (which : Channel → Bool) : (s.placeImages i which).field.placementDue = s.field.placementDue ∧
      (s.placeImages i which).field.outputsLive = s.field.outputsLive ∧ (s.placeImages i which).field.wdMissed = s.field.wdMissed := by
    rw [State.placeImages_field]
    exact ⟨rfl, rfl, rfl⟩
  unfold State.placeFresh
  split
  · exact ⟨rfl, rfl, rfl⟩
  split
  · exact himages _
  split
  · exact himages _
  · exact ⟨rfl, rfl, rfl⟩

theorem State.imageCommand_eq (s : State) (i : OutImages) (n : Nat) : s.imageCommand i n =
    let p := i.plain.getLsbD (s.leader n)
    let q := i.shadow.getLsbD (s.leader n)
    if (s.ch n).mode = 3 ∨ s.chSource (s.leader n) = 1 then p else if s.chSource (s.leader n) = 2 then q else p && q := by
  unfold State.imageCommand
  by_cases hm : (s.ch n).mode = 3
  · simp [hm]
  · simp only [hm, if_false, false_or]
    split <;> simp_all


theorem State.placeOutputs_placed (s : State) (hc : s.rt.cycling = true) (hd : s.field.placementDue = true)
    (hn : s.rt.boundary + 10000 ≤ s.now) (hsafe : s.field.safeState = false) (ha : s.field.applyState = false)
    (hs : s.service.simActive = false) :
    let t := s.placeOutputs
    t.field.placementDue = false ∧ t.field.outputsLive = true ∧
      (∀ i, s.freshImage = some i → t.field.wdMissed = 0 ∧
        (s.rt.state = .run → ∀ n, n < 32 → n < s.field.channels.length → isOutputMode (s.ch n).mode = true →
          (t.ch n).command = if s.sensorSupply n then (s.ch n).command else s.takesCommand i n && s.imageCommand i n)) ∧
      (s.freshImage = none → t.field.wdMissed = min 255 (s.field.wdMissed + 1) ∧ ∀ n, (t.ch n).command = (s.ch n).command) := by
  obtain ⟨hdue, hlive, hchan, hsafe', hmissed⟩ := s.placing_field
  have hch (n : Nat) : s.placing.ch n = s.ch n := by rw [State.ch, hchan]; rfl
  have hrt : s.placing.rt = s.rt := by simp [State.placing]
  have hdict : s.placing.dict = s.dict := by simp [State.placing]
  have hmirror : s.placing.mirror = s.mirror := by simp [State.placing]
  have himages : s.placing.images = s.images := by simp [State.placing]
  rw [State.placeOutputs_eq s hc hd hn ha hs]
  cases hf : s.freshImage with
  | none =>
    obtain ⟨h₁, h₂, h₃, h₄⟩ := State.placementEnd_field ((List.range 32).map (fun n => (s.ch n).command)) s.plannedChannels s.placing
    dsimp only at h₁ h₂ h₃ h₄ ⊢
    refine ⟨h₁.trans hdue, h₂.trans hlive, fun i hi => by simp at hi, fun _ => ⟨h₃.trans ?_, fun n => (h₄ n).trans (by rw [hch])⟩⟩
    rw [hmissed, hf]
    exact Nat.min_comm _ _
  | some i =>
    obtain ⟨h₁, h₂, h₃, h₄⟩ := State.placementEnd_field ((List.range 32).map (fun n => (s.ch n).command)) s.plannedChannels
      (s.placing.placeFresh i)
    obtain ⟨g₁, g₂, g₃⟩ := s.placing.placeFresh_field i
    dsimp only at h₁ h₂ h₃ h₄ ⊢
    refine ⟨h₁.trans (g₁.trans hdue), h₂.trans (g₂.trans hlive), fun j hj => ⟨h₃.trans (g₃.trans (by rw [hmissed, hf])), ?_⟩,
      fun hno => by simp at hno⟩
    obtain rfl : i = j := by simpa using hj
    intro hrun n hn32 hlen hmode
    have hpf : s.placing.placeFresh i = s.placing.placeImages i (fun c => isOutputMode c.mode) := by
      simp [State.placeFresh, hsafe', hsafe, hrt, hrun]
    rw [h₄, hpf, State.placeImages_command i s.placing n hn32 (by rw [hchan]; exact hlen) (by rw [hch]; exact hmode), hch]
    have hsupply : s.placing.sensorSupply n = s.sensorSupply n := by
      simp [State.sensorSupply, State.glintRole, State.glintAssign, State.leader, State.chParallel, State.setting, hch, hdict]
    have htakes : s.placing.takesCommand i n = s.takesCommand i n := by
      simp [State.takesCommand, State.mirrored, State.pairMember, State.mirrorEnable, State.use, State.setting, hmirror, hdict, himages]
    have hcommand : s.placing.imageCommand i n = s.imageCommand i n := by
      simp [State.imageCommand, State.chSource, State.leader, State.chParallel, State.setting, hch, hdict]
    rw [hsupply, htakes, hcommand]

/-- Settles O20: the placement by `State.placeOutputs_placed` and the watchdog by `State.watchdogExpiry_entered`. -/
theorem placementAndWatchdog : Obligations.PlacementAndWatchdog := by
  unfold Obligations.PlacementAndWatchdog
  refine ⟨fun dt s h => congrArg Host.Outcome.next (State.placeOutputs_eq_self _ h), fun dt s hc hd hn hsafe ha hs => ?_,
    State.imageCommand_eq, fun dt s => ⟨fun ha hs hm => ⟨_, rfl, State.watchdogExpiry_entered _ ha hs hm⟩, fun h => ?_⟩⟩
  · have hplaced := State.placeOutputs_placed (s.elapse dt) hc hd hn hsafe ha hs
    refine ⟨_, rfl, hplaced.1, hplaced.2.1, hplaced.2.2.1, hplaced.2.2.2, fun p hp => ?_⟩
    cases p <;> simp_all [State.agrees]
  · refine congrArg Host.Outcome.next (if_neg ?_)
    rcases h with h | h | h
    · simp [h]
    · simp [h]
    · have hcycles : (s.elapse dt).outputWdCycles = s.outputWdCycles := rfl
      simp [hcycles]
      omega

end Sys2Proof.Machine

namespace Sys2Proof.Machine

/-! ### The exchange by its parts (R247 to R250) -/

@[simp] theorem Exchange.tasks_setTasks {p : Owner} (hp : p ≠ .free) (l : List XchTask) (x : Exchange) : (x.setTasks p l).tasks p = l := by
  cases p <;> simp_all [Exchange.setTasks, Exchange.tasks]

@[simp] theorem Exchange.setTasks_setTasks (p : Owner) (l l' : List XchTask) (x : Exchange) :
    (x.setTasks p l).setTasks p l' = x.setTasks p l' := by
  cases p <;> rfl

@[simp] theorem Exchange.setTasks_own (p : Owner) (x : Exchange) : x.setTasks p (x.tasks p) = x := by
  cases p <;> rfl

@[simp] theorem Exchange.queue_setQueue {p : Owner} (hp : p ≠ .free) (q : List Nat) (x : Exchange) : (x.setQueue p q).queue p = q := by
  cases p <;> simp_all [Exchange.setQueue, Exchange.queue]

@[simp] theorem Exchange.returned_setReturn {p : Owner} (hp : p ≠ .free) (n : Nat) (x : Exchange) : (x.setReturn p n).returned p = n := by
  cases p <;> simp_all [Exchange.setReturn, Exchange.returned]

theorem Exchange.setReturn_eq_self {p : Owner} (hp : p ≠ .free) (n : Nat) (x : Exchange) : x = x.setReturn p n ↔ x.returned p = n := by
  constructor
  · intro h
    exact (congrArg (fun y => y.returned p) h).trans (Exchange.returned_setReturn hp n x)
  · rintro rfl
    cases p <;> rfl

theorem Exchange.setResult_setResult (p : Owner) (c : Nat) (x : Exchange) : x.setResult p c = (x.setResult p c).setResult p c := by
  cases p <;> rfl

/-- What neither the firmware's tasks nor the results of the ports have to do with. -/
def Exchange.held (x : Exchange) (p : Owner) : List Nat × Nat × List Buffer × Nat × Option Coincident :=
  (x.queue p, x.returned p, x.buffers, x.lePops, x.coincident)

@[simp] theorem Exchange.held_setTasks (p o : Owner) (l : List XchTask) (x : Exchange) : (x.setTasks o l).held p = x.held p := by
  cases o <;> cases p <;> rfl

@[simp] theorem Exchange.held_setResult (p o : Owner) (c : Nat) (x : Exchange) : (x.setResult o c).held p = x.held p := by
  cases o <;> cases p <;> rfl

@[simp] theorem Exchange.active_setTasks (o : Owner) (l : List XchTask) (x : Exchange) : (x.setTasks o l).active = x.active := by
  cases o <;> rfl

@[simp] theorem Exchange.waiting_setTasks (o : Owner) (l : List XchTask) (x : Exchange) : (x.setTasks o l).waiting = x.waiting := by
  cases o <;> rfl

@[simp] theorem Exchange.active_setResult (o : Owner) (c : Nat) (x : Exchange) : (x.setResult o c).active = x.active := by
  cases o <;> rfl

@[simp] theorem Exchange.waiting_setResult (o : Owner) (c : Nat) (x : Exchange) : (x.setResult o c).waiting = x.waiting := by
  cases o <;> rfl

@[simp] theorem Exchange.portBusy_setTasks (p o : Owner) (l : List XchTask) (x : Exchange) :
    (x.setTasks o l).portBusy p = x.portBusy p := by
  simp [Exchange.portBusy]

/-! ### An engine's firmware while its port is busy, and at an idle controller -/

theorem State.portTask_stays {p : Owner} {s : State} (h : s.xch.portBusy p = true ∨ s.startingUp 48 = true) : s.portTask p = s := by
  unfold State.portTask
  split
  · rfl
  · rw [if_pos (by rcases h with h | h <;> simp [h])]

theorem State.runTasks_stays {p : Owner} {s : State} (h : s.xch.portBusy p = true ∨ s.startingUp 48 = true) : s.runTasks p = s :=
  List.foldl_fixed' (fun _ => State.portTask_stays h) _

/-- An engine that has no task does nothing. -/
theorem State.runTasks_none {p : Owner} {s : State} (h : s.xch.tasks p = []) : s.runTasks p = s := by
  simp [State.runTasks, h]

/-- The first task begins; with its command on the port the others wait. -/
theorem State.runTasks_first {p : Owner} (hp : p ≠ .free) (t : XchTask) (r : List XchTask) {s : State} (hb : s.xch.portBusy p = false)
    (hu : s.startingUp 48 = false) (ht : ∀ x, t ≠ .deliver x) :
    let first := State.issue (s.taskCommand p t) { s with xch := s.xch.setTasks p r }
    State.runTasks p { s with xch := s.xch.setTasks p (t :: r) } = r.foldl (fun u _ => u.portTask p) first := by
  have hu' (l : List XchTask) : State.startingUp { s with xch := s.xch.setTasks p l } 48 = false := hu
  have hfirst : State.portTask p { s with xch := s.xch.setTasks p (t :: r) } =
      State.issue (s.taskCommand p t) { s with xch := s.xch.setTasks p r } := by
    unfold State.portTask
    simp only [Exchange.tasks_setTasks hp, Exchange.portBusy_setTasks, hb, hu', Exchange.setTasks_setTasks]
    cases t <;> simp_all [State.taskCommand]
    all_goals rfl
  simp [State.runTasks, hp, hfirst]


@[simp] theorem Exchange.portBusy_setResult (p o : Owner) (c : Nat) (x : Exchange) :
    (x.setResult o c).portBusy p = x.portBusy p := by
  simp [Exchange.portBusy]

/-- The release of a buffer that engine `p` has read. -/
def State.releaseCommand (p : Owner) (n : Nat) (s : State) : XchWaiting := s.taskCommand p (.release n)

/-- An idle controller takes the release at once. -/
theorem State.processCommand_release (p : Owner) (n : Nat) (s : State) (ho : (s.buffer n).owner = p) :
    (s.processCommand (s.releaseCommand p n)).1 = s.accepted (s.releaseCommand p n) n .toFree := by
  simp [State.processCommand, State.judgeCommand, State.releaseCommand, State.taskCommand, ho]

theorem State.releaseRead_stays {p : Owner} (n : Nat) {s : State} (h : s.xch.portBusy p = true ∨ s.startingUp 48 = true) :
    s.releaseRead p n = { s with xch := s.xch.setTasks p (.release n :: s.xch.tasks p) } :=
  State.runTasks_stays (h.imp (by simp) id)

theorem State.releaseRead_issues {p : Owner} (hp : p ≠ .free) (n : Nat) {s : State} (hb : s.xch.portBusy p = false)
    (hu : s.startingUp 48 = false) (hbusy : (s.issue (s.releaseCommand p n)).xch.portBusy p = true) :
    s.releaseRead p n = s.issue (s.releaseCommand p n) := by
  have h := State.runTasks_first hp (.release n) (s.xch.tasks p) hb hu (fun _ => nofun)
  dsimp only at h
  rw [Exchange.setTasks_own] at h
  exact h.trans (List.foldl_fixed' (fun _ => State.portTask_stays (.inl hbusy)) _)

theorem State.issue_alone (w : XchWaiting) (s : State) (hc : s.rt.cycling = true) (hu : s.startingUp 48 = false) (hp : w.port ≠ .free)
    (hb : s.xch.portBusy w.port = false) (hco : s.coincides w.port = none) :
    s.issue w = State.takeCommand w { s with xch := s.xch.setResult w.port 1 } := by
  have hco' : State.coincides w.port { s with xch := s.xch.setResult w.port 1 } = none := by
    refine Eq.trans ?_ hco
    cases w.port <;> rfl
  simp [State.issue, hc, hu, hp, hb, hco']

theorem Exchange.portBusy_active {p : Owner} {x : Exchange} {n at_ : Nat} (h : x.active = some (n, p, at_)) : x.portBusy p = true := by
  simp [Exchange.portBusy, h]

theorem Exchange.portBusy_waiting {p : Owner} {x : Exchange} {w : XchWaiting} (h : w ∈ x.waiting) (hw : w.port = p) : x.portBusy p = true := by
  simp only [Exchange.portBusy, Bool.or_eq_true, List.any_eq_true]
  exact .inr ⟨w, h, by simp [hw]⟩

/-- What the release through the port of a buffer that engine `p` owns does to the exchange (R250, log entry 33). -/
structure State.Released (p : Owner) (n : Nat) (s t : State) : Prop where
  queue : t.xch.queue p = s.xch.queue p
  returned : t.xch.returned p = s.xch.returned p
  lePops : t.xch.lePops = s.xch.lePops
  others : ∀ m, m ≠ n → t.buffer m = s.buffer m
  later : s.xch.portBusy p = true → XchTask.release n ∈ t.xch.tasks p ∧ (t.buffer n).owner = p
  now : s.xch.active = none → s.xch.waiting = [] → s.startingUp 48 = false →
    t.xch.active = some (n, p, s.localNow) ∧ (t.buffer n).busy = some .toFree
  rest : State.keeps [.xch] s t

theorem State.accepted_release_xch (p : Owner) (n : Nat) (s : State) :
    (s.accepted (s.releaseCommand p n) n .toFree).xch =
      { s.xch with
        buffers := s.xch.buffers.modify n (fun b => { b with owner := .free, busy := some .toFree, ue := false, popped := false })
        active := some (n, p, s.localNow)
        lastServed := p } := by
  simp [State.accepted, State.modBuffer, State.releaseCommand, State.taskCommand]
  rfl

theorem Exchange.queue_of_accepted (p : Owner) (bs : List Buffer) (a : Option (Nat × Owner × Nat)) (l : Owner) (c : Option Coincident)
    (x : Exchange) : ({ x with buffers := bs, active := a, lastServed := l, coincident := c } : Exchange).queue p = x.queue p ∧
      ({ x with buffers := bs, active := a, lastServed := l, coincident := c } : Exchange).returned p = x.returned p := by
  cases p <;> exact ⟨rfl, rfl⟩

theorem State.takeCommand_released {p : Owner} {n : Nat} {s : State} (hn : n < s.xch.buffers.length) (ho : (s.buffer n).owner = p)
    (hb : s.xch.portBusy p = false) :
    s.Released p n (s.takeCommand (s.releaseCommand p n)) ∧ (s.takeCommand (s.releaseCommand p n)).xch.portBusy p = true := by
  have hkeep : State.keeps [.xch] s (s.takeCommand (s.releaseCommand p n)) := fun q hq => by cases q <;> simp_all [State.agrees]
  have hlater : s.xch.portBusy p = true → XchTask.release n ∈ (s.takeCommand (s.releaseCommand p n)).xch.tasks p ∧
      ((s.takeCommand (s.releaseCommand p n)).buffer n).owner = p := fun h => by simp [hb] at h
  by_cases hact : s.xch.active.isSome = true
  · have ht : s.takeCommand (s.releaseCommand p n) = { s with xch.waiting := s.xch.waiting ++ [s.releaseCommand p n] } := by
      simp [State.takeCommand, hact]
    rw [ht] at hkeep hlater ⊢
    refine ⟨⟨?_, ?_, rfl, fun m _ => rfl, hlater, fun ha => ?_, hkeep⟩,
      Exchange.portBusy_waiting (w := s.releaseCommand p n) (by simp) rfl⟩
    · cases p <;> rfl
    · cases p <;> rfl
    · simp [ha] at hact
  · have ht : (s.takeCommand (s.releaseCommand p n)).xch =
        { s.xch with
          buffers := s.xch.buffers.modify n (fun b => { b with owner := .free, busy := some .toFree, ue := false, popped := false })
          active := some (n, p, s.localNow)
          lastServed := p
          coincident := (s.takeCommand (s.releaseCommand p n)).xch.coincident } := by
      unfold State.takeCommand
      rw [if_neg hact, State.processCommand_release p n s ho]
      dsimp only
      rw [State.accepted_release_xch]
    generalize s.takeCommand (s.releaseCommand p n) = t at *
    refine ⟨⟨?_, ?_, ?_, fun m hm => ?_, hlater, fun _ _ _ => ⟨?_, ?_⟩, hkeep⟩, Exchange.portBusy_active (n := n) (at_ := s.localNow) ?_⟩
    · rw [ht]
      exact (Exchange.queue_of_accepted p _ _ _ _ _).1
    · rw [ht]
      exact (Exchange.queue_of_accepted p _ _ _ _ _).2
    · rw [ht]
    · rw [State.buffer, ht]
      simp [State.buffer, hm.symm]
    · rw [ht]
    · rw [State.buffer, ht]
      simp [hn]
    · rw [ht]

theorem State.releaseRead_released {p : Owner} (hp : p ≠ .free) (n : Nat) (s : State) (hc : s.rt.cycling = true)
    (ho : (s.buffer n).owner = p) (hn : n < s.xch.buffers.length) (hco : s.coincides p = none) :
    s.Released p n (s.releaseRead p n) := by
  by_cases h : s.xch.portBusy p = true ∨ s.startingUp 48 = true
  · rw [State.releaseRead_stays n h]
    have hheld := Exchange.held_setTasks p p (.release n :: s.xch.tasks p) s.xch
    simp only [Exchange.held, Prod.mk.injEq] at hheld
    obtain ⟨hq, hr, hbuf, hpops, -⟩ := hheld
    refine ⟨hq, hr, hpops, fun m _ => by simp [State.buffer, hbuf], fun _ => ⟨by simp [hp], by simpa [State.buffer, hbuf] using ho⟩, ?_,
      fun q hq => by cases q <;> simp_all [State.agrees]⟩
    intro ha hw hu
    simp [ha, hw, hu, Exchange.portBusy] at h
  · obtain ⟨hb, hu⟩ := not_or.mp h
    simp only [Bool.not_eq_true] at hb hu
    have hheld := Exchange.held_setResult p p 1 s.xch
    simp only [Exchange.held, Prod.mk.injEq] at hheld
    obtain ⟨hq, hr, hbuf, hpops, -⟩ := hheld
    obtain ⟨hrel, hbusy⟩ := State.takeCommand_released (p := p) (n := n) (s := { s with xch := s.xch.setResult p 1 }) (by simpa [hbuf] using hn)
      (by simpa [State.buffer, hbuf] using ho) (by simpa using hb)
    have hissue := State.issue_alone (s.releaseCommand p n) s hc hu hp hb hco
    have hissue' : s.issue (s.releaseCommand p n) =
        State.takeCommand (State.releaseCommand p n { s with xch := s.xch.setResult p 1 }) { s with xch := s.xch.setResult p 1 } := hissue
    rw [← hissue'] at hrel hbusy
    rw [State.releaseRead_issues hp n hb hu hbusy]
    refine ⟨hrel.queue.trans hq, hrel.returned.trans hr, hrel.lePops.trans hpops, fun m hm => (hrel.others m hm).trans ?_,
      fun h => by simp [hb] at h, fun ha hw hu => hrel.now (by simpa using ha) (by simpa using hw) hu, fun q hq => by cases q <;> simp_all [State.agrees]⟩
    simp [State.buffer, hbuf]

end Sys2Proof.Machine

namespace Sys2Proof.Machine

/-! ### A port takes the oldest entry of its queue (R249, R250) -/

theorem State.popQueue_empty {p : Owner} (s : State) (hc : s.rt.cycling = true) (hl : p ≠ .le ∨ s.xch.lePops < 16)
    (hq : s.xch.queue p = []) : s.popQueue p = { s with xch := s.xch.returnPop p 0xFF } := by
  have hlim : (p == .le && decide (16 ≤ s.xch.lePops)) = false := by
    rcases hl with h | h <;> simp [h]
  simp [State.popQueue, hc, hlim, hq]

theorem Exchange.instants_returnPop (p : Owner) (n : Nat) (x : Exchange) :
    (x.returnPop p n).coincident.map (·.at_) = x.coincident.map (·.at_) := by
  simp [Exchange.returnPop, Function.comp_def]

/-- What a POP that takes entry `n` does, before the engine reads the buffer. -/
structure State.Took (p : Owner) (n : Nat) (q : List Nat) (s t : State) : Prop where
  queue : t.xch.queue p = q
  returned : t.xch.returned p = n
  lePops : p = .le → t.xch.lePops = s.xch.lePops + 1
  others : ∀ m, m ≠ n → t.buffer m = s.buffer m
  taken : ∃ popped, t.buffer n = { s.buffer n with queued := false, popped := popped }
  length : t.xch.buffers.length = s.xch.buffers.length
  active : t.xch.active = s.xch.active
  waiting : t.xch.waiting = s.xch.waiting
  coincides : (∀ x, s.xch.coincident = some x → x.at_ ≠ s.localNow) → t.coincides p = none
  rest : State.keeps [.xch] s t

theorem State.popQueue_took {p : Owner} (hp : p ≠ .free) (n : Nat) (q : List Nat) (s : State) (hc : s.rt.cycling = true)
    (hl : p ≠ .le ∨ s.xch.lePops < 16) (hq : s.xch.queue p = n :: q) (hn : n < s.xch.buffers.length) :
    s.Took p n q (s.popQueue p) := by
  have hlim : (p == .le && decide (16 ≤ s.xch.lePops)) = false := by
    rcases hl with h | h <;> simp [h]
  have hkeep : State.keeps [.xch] s (s.popQueue p) := fun q hq => by cases q <;> simp_all [State.agrees]
  have ht : (s.popQueue p).xch =
      let y := (s.xch.setQueue p q).returnPop p n
      let z := { y with buffers := y.buffers.modify n (fun b => { b with queued := false, popped := p == .le }) }
      if p == .le then { z with lePops := z.lePops + 1 } else z := by
    simp only [State.popQueue, hc, hlim, hq]
    cases p <;> rfl
  have hco : (s.popQueue p).xch.coincident.map (·.at_) = s.xch.coincident.map (·.at_) := by
    have hset : (s.xch.setQueue p q).coincident = s.xch.coincident := by cases p <;> rfl
    refine Eq.trans ?_ ((Exchange.instants_returnPop p n (s.xch.setQueue p q)).trans (by rw [hset]))
    rw [ht]
    cases p <;> rfl
  have hnow : (s.popQueue p).localNow = s.localNow := by simp [State.localNow]
  generalize s.popQueue p = t at *
  refine ⟨?_, ?_, ?_, fun m hm => ?_, ⟨p == .le, ?_⟩, ?_, ?_, ?_, fun h => ?_, hkeep⟩
  · rw [ht]
    cases p <;> simp_all [Exchange.setQueue, Exchange.returnPop, Exchange.setReturn, Exchange.queue]
  · rw [ht]
    cases p <;> simp_all [Exchange.setQueue, Exchange.returnPop, Exchange.setReturn, Exchange.returned]
  · rintro rfl
    rw [ht]
    rfl
  · rw [State.buffer, ht]
    cases p <;> simp [State.buffer, Exchange.setQueue, Exchange.returnPop, Exchange.setReturn, hm.symm]
  · rw [State.buffer, ht]
    cases p <;> simp [State.buffer, Exchange.setQueue, Exchange.returnPop, Exchange.setReturn, hn]
  · rw [ht]
    cases p <;> simp [Exchange.setQueue, Exchange.returnPop, Exchange.setReturn]
  · rw [ht]
    cases p <;> rfl
  · rw [ht]
    cases p <;> rfl
  · unfold State.coincides
    rw [Option.filter_eq_none_iff]
    intro c hc
    have hat : c.at_ ≠ s.localNow := by
      rw [hc] at hco
      obtain ⟨x, hx, hxc⟩ := Option.map_eq_some_iff.mp hco.symm
      have hxc' : x.at_ = c.at_ := hxc
      exact hxc'.symm.trans_ne (h x hx)
    simp [hnow, hat]

/-- A POP that takes entry `n`, the reading of the buffer with no effect on the exchange, and the release (R249, R250, log entry 33). -/
theorem State.Took.releaseRead {p : Owner} {n : Nat} {q : List Nat} {s t v : State} (h : s.Took p n q t) (hp : p ≠ .free)
    (hc : s.rt.cycling = true) (ho : (s.buffer n).owner = p) (hn : n < s.xch.buffers.length)
    (hco : ∀ x, s.xch.coincident = some x → x.at_ ≠ s.localNow) (hx : v.xch = t.xch) (hr : v.rt.cycling = s.rt.cycling)
    (hw : v.power = s.power) (hk : v.clock = s.clock) :
    let z := v.releaseRead p n
    (z.xch.queue p = q ∧ z.xch = z.xch.setReturn p n ∧ (∀ m, m ≠ n → z.buffer m = s.buffer m) ∧
      (p = .le → z.xch.lePops = s.xch.lePops + 1) ∧
      (s.xch.portBusy p = true → XchTask.release n ∈ z.xch.tasks p ∧ (z.buffer n).owner = p) ∧
      (s.xch.active = none → s.xch.waiting = [] → s.startingUp 48 = false →
        z.xch.active = some (n, p, s.localNow) ∧ (z.buffer n).busy = some .toFree)) ∧ State.keeps [.xch] v z := by
  have hbuf (m : Nat) : v.buffer m = t.buffer m := by simp [State.buffer, hx]
  have hnow : v.localNow = s.localNow := by simp [State.localNow, hk]
  have hup : v.startingUp 48 = s.startingUp 48 := by simp [State.startingUp, hw, hnow]
  have hbusy : v.xch.portBusy p = s.xch.portBusy p := by simp [Exchange.portBusy, hx, h.active, h.waiting]
  have hown : (v.buffer n).owner = p := by
    obtain ⟨f, hf⟩ := h.taken
    rw [hbuf, hf]
    exact ho
  have hcoin : v.coincides p = none := by
    have hsame : v.coincides p = t.coincides p := by
      have hnow' : t.localNow = s.localNow := by
        have hclock := h.rest .clock (by simp)
        simp [State.agrees] at hclock
        simp [State.localNow, hclock]
      simp [State.coincides, hx, hnow, hnow']
    rw [hsame]
    exact h.coincides hco
  have hrel := State.releaseRead_released hp n v (by rw [hr, hc]) hown (by rw [hx, h.length]; exact hn) hcoin
  dsimp only
  generalize v.releaseRead p n = z at *
  refine ⟨⟨?_, ?_, fun m hm => ?_, fun hle => ?_, fun hb => hrel.later (hbusy.trans hb), fun ha hwt hu => ?_⟩, hrel.rest⟩
  · rw [hrel.queue, hx, h.queue]
  · rw [Exchange.setReturn_eq_self hp, hrel.returned, hx, h.returned]
  · rw [hrel.others m hm, hbuf, h.others m hm]
  · rw [hrel.lePops, hx, h.lePops hle]
  · rw [← hnow]
    exact hrel.now (by rw [hx, h.active, ha]) (by rw [hx, h.waiting, hwt]) (by rw [hup, hu])

end Sys2Proof.Machine

namespace Sys2Proof.Machine

/-! ### What an engine does with the buffer it took (R483, R519, R586) -/

/-- An engine reads buffer `n`. -/
def State.engineReads (p : Owner) (n : Nat) (s : State) : State :=
  match p with
  | .le => s.readBuffer n
  | .ce => s.ceHandles n
  | .me => s.meHandles n
  | .free => s

theorem State.pop_eq {p : Owner} (hp : p ≠ .free) (n : Nat) (q : List Nat) (s : State) (hc : s.rt.cycling = true)
    (hl : p ≠ .le ∨ s.xch.lePops < 16) (hq : s.xch.queue p = n :: q) :
    s.pop p = (if (s.buffer n).ue then s.popQueue p else (s.popQueue p).engineReads p n).releaseRead p n := by
  have hlim : (p == .le && decide (16 ≤ s.xch.lePops)) = false := by
    rcases hl with h | h <;> simp [h]
  have hpop : s.popped p = some n := by simp [State.popped, hc, hlim, hq]
  cases p with
  | free => exact absurd rfl hp
  | le => simp [State.pop, State.popRead, hpop, State.engineReads]
  | ce => simp [State.pop, hpop, State.engineReads]
  | me => simp [State.pop, hpop, State.engineReads]

theorem State.engineReads_rest {p : Owner} (hp : p ≠ .le) (n : Nat) (s : State) :
    (s.engineReads p n).xch = s.xch ∧ (s.engineReads p n).rt = s.rt ∧ (s.engineReads p n).power = s.power ∧
      (s.engineReads p n).clock = s.clock := by
  cases p <;> simp_all [State.engineReads]

/-- The kinds that an engine does not read. -/
theorem State.engineReads_unread (p : Owner) (n : Nat) (s : State)
    (h : (p = .le ∧ (s.buffer n).kind ≠ 2 ∧ (s.buffer n).kind ≠ 3 ∧ (s.buffer n).kind ≠ 7) ∨
      (p = .ce ∧ (s.buffer n).kind ≠ 1 ∧ (s.buffer n).kind ≠ 4 ∧ (s.buffer n).kind ≠ 5) ∨
      (p = .me ∧ ((s.buffer n).kind ≠ 6 ∨ s.mirror.role ≠ 1))) : s.engineReads p n = s := by
  rcases h with ⟨rfl, h₂, h₃, h₇⟩ | ⟨rfl, h₁, h₄, h₅⟩ | ⟨rfl, h⟩
  · unfold State.engineReads State.readBuffer
    split <;> simp_all
  · unfold State.engineReads State.ceHandles
    split <;> simp_all
  · simp only [State.engineReads, State.meHandles]
    rw [if_neg (by tauto)]

theorem State.sendOn_a (id : Nat) (data : List Byte) (s : State) :
    (s.sendOn .a id data).zop.canB = s.zop.canB ∧ (s.sendOn .a id data).zop.dataRate = s.zop.dataRate ∧
      (s.zop.canA.accepts = true → s.frame id data ∈ (s.sendOn .a id data).zop.canA.queue) := by
  unfold State.sendOn
  by_cases h : s.zop.canA.accepts = true <;> simp [h, enqueue]

theorem State.sendOn_b (id : Nat) (data : List Byte) (s : State) :
    (s.sendOn .b id data).zop.canA = s.zop.canA ∧
      (s.zop.canB.accepts = true → s.frame id data ∈ (s.sendOn .b id data).zop.canB.queue) := by
  unfold State.sendOn
  by_cases h : s.zop.canB.accepts = true <;> simp [h, enqueue]

theorem State.ceHandles_frameSent (n : Nat) (s : State) (hk : (s.buffer n).kind = 1) :
    let d := s.payload n
    let f := s.frame (leAt d 0 2) ((d.drop 4).take (leAt d 3 1))
    (bitOf (leAt d 2 1) 0 = true → s.zop.canA.accepts = true → f ∈ (s.ceHandles n).zop.canA.queue) ∧
      (bitOf (leAt d 2 1) 1 = true → s.zop.canB.accepts = true → f ∈ (s.ceHandles n).zop.canB.queue) ∧
      (bitOf (leAt d 2 1) 0 = false → (s.ceHandles n).zop.canA = s.zop.canA) ∧
      (bitOf (leAt d 2 1) 1 = false → (s.ceHandles n).zop.canB = s.zop.canB) ∧ State.keeps [.zop] s (s.ceHandles n) := by
  dsimp only
  generalize hd : s.payload n = d
  have hce : s.ceHandles n =
      let u := if bitOf (leAt d 2 1) 0 then s.sendOn .a (leAt d 0 2) ((d.drop 4).take (leAt d 3 1)) else s
      if bitOf (leAt d 2 1) 1 then u.sendOn .b (leAt d 0 2) ((d.drop 4).take (leAt d 3 1)) else u := by
    unfold State.ceHandles
    simp [hk, hd]
  obtain ⟨haB, haRate, haSent⟩ := s.sendOn_a (leAt d 0 2) ((d.drop 4).take (leAt d 3 1))
  obtain ⟨hbA, hbSent⟩ := s.sendOn_b (leAt d 0 2) ((d.drop 4).take (leAt d 3 1))
  obtain ⟨habA, habSent⟩ := (s.sendOn .a (leAt d 0 2) ((d.drop 4).take (leAt d 3 1))).sendOn_b (leAt d 0 2) ((d.drop 4).take (leAt d 3 1))
  have hframe : (s.sendOn .a (leAt d 0 2) ((d.drop 4).take (leAt d 3 1))).frame (leAt d 0 2) ((d.drop 4).take (leAt d 3 1)) =
      s.frame (leAt d 0 2) ((d.drop 4).take (leAt d 3 1)) := by
    simp [State.frame, haRate]
  rw [hframe, haB] at habSent
  have hkeep : State.keeps [.zop] s (s.ceHandles n) := by
    rw [hce]
    intro q hq
    cases q <;> simp_all [State.agrees]
  refine ⟨fun h₀ hacc => ?_, fun h₁ hacc => ?_, fun h₀ => ?_, fun h₁ => ?_, hkeep⟩ <;> rw [hce]
  · cases h₁ : bitOf (leAt d 2 1) 1 <;> simp [h₀, habA, haSent hacc]
  · cases h₀ : bitOf (leAt d 2 1) 0 <;> simp [h₁, hbSent hacc, habSent hacc]
  · cases h₁ : bitOf (leAt d 2 1) 1 <;> simp [h₀, hbA]
  · cases h₀ : bitOf (leAt d 2 1) 0 <;> simp [h₁, haB]

theorem State.ceHandles_spooled (n : Nat) (s : State) (hk : (s.buffer n).kind = 5) :
    s.ceHandles n = { s with ledger.spool :=
      (s.ledger.spool ++ tailRecords 20 (s.payload n)).drop ((s.ledger.spool ++ tailRecords 20 (s.payload n)).length - 1024) } := by
  unfold State.ceHandles
  simp [hk]

theorem State.meHandles_tail (n : Nat) (s : State) (hk : (s.buffer n).kind = 6) (hr : s.mirror.role = 1) :
    s.meHandles n = { s with mirror.tail := s.mirror.tail ++ (tailRecords 20 (s.payload n)).map EventRecord.bytes } := by
  simp [State.meHandles, hk, hr]

/-- What an engine that took entry `n` does up to the release of the buffer. -/
def State.readTaken (p : Owner) (n : Nat) (s : State) : State :=
  if (s.buffer n).ue then s.popQueue p else (s.popQueue p).engineReads p n

section
variable {p : Owner} {n : Nat} {q : List Nat} {s : State}

theorem State.Took.buffer_n {t : State} (h : s.Took p n q t) :
    (t.buffer n).kind = (s.buffer n).kind ∧ t.payload n = s.payload n ∧ t.mirror = s.mirror ∧ t.zop = s.zop ∧ t.ledger = s.ledger := by
  obtain ⟨f, hf⟩ := h.taken
  have hle : s.le = t.le := h.rest .le (by simp)
  refine ⟨by rw [hf], by simp [State.payload, ← hle, hf], (h.rest .mirror (by simp)).symm, (h.rest .zop (by simp)).symm,
    (h.rest .ledger (by simp)).symm⟩

/-- The buffer is not used, or another engine than the LE reads it: the exchange RAM sees the POP and the release alone. -/
theorem State.pop_xch (hp : p ≠ .free) (hc : s.rt.cycling = true) (hl : p ≠ .le ∨ s.xch.lePops < 16) (hq : s.xch.queue p = n :: q)
    (ho : (s.buffer n).owner = p) (hn : n < s.xch.buffers.length) (hco : ∀ x, s.xch.coincident = some x → x.at_ ≠ s.localNow)
    (hv : s.readTaken p n = s.popQueue p ∨ p ≠ .le) :
    let t := s.pop p
    (t.xch.queue p = q ∧ t.xch = t.xch.setReturn p n ∧ (∀ m, m ≠ n → t.buffer m = s.buffer m) ∧
      (p = .le → t.xch.lePops = s.xch.lePops + 1) ∧
      (s.xch.portBusy p = true → XchTask.release n ∈ t.xch.tasks p ∧ (t.buffer n).owner = p) ∧
      (s.xch.active = none → s.xch.waiting = [] → s.startingUp 48 = false →
        t.xch.active = some (n, p, s.localNow) ∧ (t.buffer n).busy = some .toFree)) ∧ State.keeps [.xch] (s.readTaken p n) t := by
  have htook := State.popQueue_took hp n q s hc hl hq hn
  have hrest : (s.readTaken p n).xch = (s.popQueue p).xch ∧ (s.readTaken p n).rt.cycling = s.rt.cycling ∧
      (s.readTaken p n).power = s.power ∧ (s.readTaken p n).clock = s.clock := by
    have hpq : (s.popQueue p).rt.cycling = s.rt.cycling ∧ (s.popQueue p).power = s.power ∧ (s.popQueue p).clock = s.clock := by simp
    rcases hv with hv | hv
    · rw [hv]
      exact ⟨rfl, hpq⟩
    · unfold State.readTaken
      split
      · exact ⟨rfl, hpq⟩
      · obtain ⟨hx, hr, hw, hk⟩ := State.engineReads_rest hv n (s.popQueue p)
        simp [hx, hr, hw, hk]
  obtain ⟨hx, hr, hw, hk⟩ := hrest
  rw [State.pop_eq hp n q s hc hl hq]
  exact htook.releaseRead hp hc ho hn hco hx hr hw hk

end

end Sys2Proof.Machine

namespace Sys2Proof.Machine

/-! ### The end of a zeroing (R244, R245, R248) -/

/-- The result that a port shows (Table 8-5). -/
def Exchange.portResult (x : Exchange) : Owner → Nat
  | .le => x.leResult
  | .ce => x.ceResult
  | .me => x.meResult
  | .free => 0

theorem Exchange.setResult_eq_self {p : Owner} (hp : p ≠ .free) (c : Nat) (x : Exchange) : x = x.setResult p c ↔ x.portResult p = c := by
  have hset : (x.setResult p c).portResult p = c := by cases p <;> simp_all [Exchange.setResult, Exchange.portResult]
  constructor
  · intro h
    exact (congrArg (fun y => y.portResult p) h).trans hset
  · rintro rfl
    cases p <;> rfl

@[simp] theorem Exchange.portResult_setResult {p : Owner} (hp : p ≠ .free) (c : Nat) (x : Exchange) : (x.setResult p c).portResult p = c := by
  cases p <;> simp_all [Exchange.setResult, Exchange.portResult]

@[simp] theorem Exchange.tasks_setResult (p o : Owner) (c : Nat) (x : Exchange) : (x.setResult p c).tasks o = x.tasks o := by
  cases p <;> cases o <;> rfl

@[simp] theorem Exchange.buffers_setResult (p : Owner) (c : Nat) (x : Exchange) : (x.setResult p c).buffers = x.buffers := by
  cases p <;> rfl

@[simp] theorem Exchange.coincident_setResult (p : Owner) (c : Nat) (x : Exchange) : (x.setResult p c).coincident = x.coincident := by
  cases p <;> rfl

@[simp] theorem Exchange.buffers_setTasks (p : Owner) (l : List XchTask) (x : Exchange) : (x.setTasks p l).buffers = x.buffers := by
  cases p <;> rfl

@[simp] theorem Exchange.coincident_setTasks (p : Owner) (l : List XchTask) (x : Exchange) :
    (x.setTasks p l).coincident = x.coincident := by
  cases p <;> rfl

theorem Exchange.tasks_setTasks_other {p o : Owner} (h : o ≠ p) (l : List XchTask) (x : Exchange) : (x.setTasks p l).tasks o = x.tasks o := by
  cases p <;> cases o <;> simp_all [Exchange.setTasks, Exchange.tasks]

/-- An engine's firmware has nothing left to do but to post the buffer that it claimed for `x`. -/
structure State.HandsOver (p : Owner) (n : Nat) (x : XchPost) (s : State) : Prop where
  tasks : s.xch.tasks p = [.handOver n x]
  active : s.xch.active = none
  waiting : s.xch.waiting = []
  coincident : s.xch.coincident = none

theorem State.accepted_post_xch (w : XchWaiting) (what : XchPending) (s : State) (hw : w.code = 2) :
    (s.accepted w w.buffer what).xch =
      { s.xch with
        buffers := s.xch.buffers.modify w.buffer (fun b =>
          { b with
            owner := .free
            busy := some what
            ue := false
            popped := false
            postedAt := if w.port == .le then w.at_ else b.postedAt })
        active := some (w.buffer, w.port, s.localNow)
        lastServed := w.port } := by
  simp [State.accepted, State.modBuffer, hw]
  rfl

/-- A POST that reaches an idle controller (R244, R245). -/
theorem State.processCommand_post (w : XchWaiting) (s : State) (hw : w.code = 2) :
    (∀ m, m ≠ w.buffer → (s.processCommand w).1.buffer m = s.buffer m) ∧ (∀ o, (s.processCommand w).1.xch.tasks o = s.xch.tasks o) ∧
      ((s.buffer w.buffer).owner = w.port → w.buffer < s.xch.buffers.length → postPermitted w.port w.target w.kind w.len = true →
        (s.processCommand w).1.xch.active = some (w.buffer, w.port, s.localNow) ∧
          ((s.processCommand w).1.buffer w.buffer).busy = some (.post w.target w.kind w.len) ∧
          (s.processCommand w).1.xch.portResult w.port = s.xch.portResult w.port) := by
  have hjudge : s.judgeCommand w = if (s.buffer w.buffer).owner != w.port then .inl 0x81
      else if !postPermitted w.port w.target w.kind w.len then .inl 0x83 else .inr (w.buffer, .post w.target w.kind w.len) := by
    simp [State.judgeCommand, hw]
  have hrefused (code : Nat) : (∀ m, m ≠ w.buffer → State.buffer { s with xch := { s.xch with lastServed := w.port }.setResult w.port code } m = s.buffer m) ∧
      ∀ o, ({ s.xch with lastServed := w.port }.setResult w.port code : Exchange).tasks o = s.xch.tasks o := by
    constructor
    · intro m _
      cases hp : w.port <;> rfl
    · intro o
      cases w.port <;> cases o <;> rfl
  unfold State.processCommand
  rw [hjudge]
  by_cases ho : (s.buffer w.buffer).owner = w.port
  · by_cases hp : postPermitted w.port w.target w.kind w.len = true
    · simp only [ho, hp, bne_self_eq_false, Bool.false_eq_true, if_false, Bool.not_true]
      have hacc := State.accepted_post_xch w (.post w.target w.kind w.len) s hw
      generalize s.accepted w w.buffer (.post w.target w.kind w.len) = t at *
      refine ⟨fun m hm => ?_, fun o => ?_, fun _ hn _ => ⟨by rw [hacc], ?_, ?_⟩⟩
      · rw [State.buffer, hacc]
        simp [State.buffer, hm.symm]
      · rw [hacc]
        cases o <;> rfl
      · rw [State.buffer, hacc]
        simp [hn]
      · rw [hacc]
        cases w.port <;> rfl
    · simpa [ho, hp] using hrefused 0x83
  · simpa [ho] using hrefused 0x81

theorem State.HandsOver.runTasks {p : Owner} {n : Nat} {x : XchPost} {s : State} (h : s.HandsOver p n x) (hp : p ≠ .free) :
    let t := s.runTasks p
    (∀ m, m ≠ n → t.buffer m = s.buffer m) ∧ (∀ o, o ≠ p → t.xch.tasks o = s.xch.tasks o) ∧
      (s.rt.cycling = true → s.startingUp 48 = false → (s.buffer n).owner = p → n < s.xch.buffers.length →
        postPermitted p x.target x.kind x.payload.length = true →
        t.xch.active = some (n, p, s.localNow) ∧ (t.buffer n).busy = some (.post x.target x.kind x.payload.length) ∧
          t.xch = t.xch.setResult p 1) := by
  have hbusy : s.xch.portBusy p = false := by simp [Exchange.portBusy, h.active, h.waiting]
  have hrun : s.runTasks p = s.portTask p := by simp [State.runTasks, h.tasks]
  dsimp only
  rw [hrun]
  by_cases hu : s.startingUp 48 = true
  · rw [State.portTask_stays (.inr hu)]
    exact ⟨fun _ _ => rfl, fun _ _ => rfl, fun _ h => by simp [hu] at h⟩
  have hport : s.portTask p = State.issue (s.taskCommand p (.handOver n x)) { s with xch := s.xch.setTasks p [] } := by
    unfold State.portTask
    simp [h.tasks, hbusy, hu]
  rw [hport]
  generalize hw : s.taskCommand p (.handOver n x) = w
  obtain ⟨rfl, rfl, hcode, htarget, hkind, hlen⟩ : w.port = p ∧ w.buffer = n ∧ w.code = 2 ∧ w.target = x.target ∧ w.kind = x.kind ∧
      w.len = x.payload.length := by
    subst hw
    exact ⟨rfl, rfl, rfl, rfl, rfl, rfl⟩
  by_cases hc : s.rt.cycling = true
  · have hidle : State.issue w { s with xch := s.xch.setTasks w.port [] } =
        State.takeCommand w { s with xch := (s.xch.setTasks w.port []).setResult w.port 1 } :=
      State.issue_alone w { s with xch := s.xch.setTasks w.port [] } hc (Bool.eq_false_iff.mpr hu) hp (by simpa using hbusy)
        (by simp [State.coincides, h.coincident])
    obtain ⟨hothers, htasks, hpost⟩ := State.processCommand_post w { s with xch := (s.xch.setTasks w.port []).setResult w.port 1 } hcode
    have htake : State.takeCommand w { s with xch := (s.xch.setTasks w.port []).setResult w.port 1 } =
        let r : State := { s with xch := (s.xch.setTasks w.port []).setResult w.port 1 }
        { (r.processCommand w).1 with
          xch.coincident := some { at_ := r.localNow, last := r.xch.lastServed, commands := [w], undo := undoFrom r (r.processCommand w).1 } } := by
      simp [State.takeCommand, h.active]
    rw [hidle, htake]
    have hcoincident (o : Owner) (c : Option Coincident) (y : Exchange) :
        ({ y with coincident := c } : Exchange).tasks o = y.tasks o ∧ ({ y with coincident := c } : Exchange).portResult o = y.portResult o := by
      cases o <;> exact ⟨rfl, rfl⟩
    refine ⟨fun m hm => (hothers m hm).trans (by simp [State.buffer]), fun o ho => ?_, fun _ _ ho hn hperm => ?_⟩
    · rw [(hcoincident o _ _).1, htasks]
      simp [Exchange.tasks_setTasks_other ho]
    · obtain ⟨hact, hbsy, hres⟩ := hpost (by simpa [State.buffer] using ho) (by simpa using hn) (by rw [htarget, hkind, hlen]; exact hperm)
      refine ⟨hact, ?_, (Exchange.setResult_eq_self hp _ _).mpr ?_⟩
      · rw [← htarget, ← hkind, ← hlen]
        exact hbsy
      · rw [(hcoincident _ _ _).2, hres]
        simp [hp]
  · have hnone : State.issue w { s with xch := s.xch.setTasks w.port [] } = { s with xch := s.xch.setTasks w.port [] } := by
      simp [State.issue, hc]
    rw [hnone]
    exact ⟨fun m _ => by simp [State.buffer], fun o ho => Exchange.tasks_setTasks_other ho _ _, fun h => absurd h hc⟩

/-- Where one engine alone has a task, the tasks of every engine are its tasks. -/
theorem State.runPorts_alone (p : Owner) (s : State) (h : ∀ o, o ≠ p → s.xch.tasks o = [])
    (hk : ∀ o, o ≠ p → (s.runTasks p).xch.tasks o = s.xch.tasks o) : s.runPorts = s.runTasks p := by
  have hbefore (o : Owner) (ho : o ≠ p) : s.runTasks o = s := State.runTasks_none (h o ho)
  have hafter (o : Owner) (ho : o ≠ p) : (s.runTasks p).runTasks o = s.runTasks p := State.runTasks_none (by rw [hk o ho, h o ho])
  have hfree : s.runTasks .free = s := rfl
  unfold State.runPorts
  cases s.xch.lastServed <;> cases p <;> simp [nextPort, hbefore, hafter, hfree]

theorem State.runPorts_none (s : State) (h : ∀ o, s.xch.tasks o = []) : s.runPorts = s :=
  State.runPorts_alone .free s (fun o _ => h o) (fun _ _ => rfl)

/-- What follows a command in progress at an otherwise idle controller, once its buffer is done. -/
def State.afterZeroing (port : Owner) (s : State) : State :=
  State.runPorts { s with xch := { s.xch with active := none, coincident := none }.setResult port 0 }

theorem State.serveWaiting_none (k : Nat) (s : State) (h : s.xch.waiting = []) : State.serveWaiting k s = s := by
  cases k with
  | zero => rfl
  | succ k => simp [State.serveWaiting, Exchange.nextWaiting, h]

@[simp] theorem State.finishBuffer_waiting (n : Nat) (what : XchPending) (s : State) :
    (s.finishBuffer n what).xch.waiting = s.xch.waiting := by
  have hfill (who : Owner) (post : Option XchPost) (t : State) : (t.fillBuffer who n post).xch.waiting = t.xch.waiting := by
    cases post <;> simp [State.fillBuffer]
  have hset (o : Owner) (q : List Nat) (x : Exchange) : (x.setQueue o q).waiting = x.waiting := by cases o <;> rfl
  have htake (o : Owner) (x : Exchange) : (x.takeSeq o).2.waiting = x.waiting := by cases o <;> rfl
  cases what with
  | claim who post => simp [State.finishBuffer, hfill, State.modBuffer]
  | toFree => rfl
  | revoke => simp [State.finishBuffer, State.modBuffer]
  | post target kind len =>
    simp [State.finishBuffer, State.modBuffer, State.notePosted, hset, htake]

theorem State.zeroingDone_eq (n at_ : Nat) (port : Owner) (what : XchPending) (s : State) (ha : s.xch.active = some (n, port, at_))
    (hw : s.xch.waiting = []) (hb : (s.buffer n).busy = some what) : s.zeroingDone = (s.finishBuffer n what).afterZeroing port := by
  unfold State.zeroingDone
  rw [ha]
  dsimp only
  rw [hb]
  dsimp only
  rw [State.serveWaiting_none _ _ (by simp [hw])]
  rfl


@[simp] theorem Exchange.buffers_setQueue (o : Owner) (q : List Nat) (x : Exchange) : (x.setQueue o q).buffers = x.buffers := by
  cases o <;> rfl

@[simp] theorem Exchange.buffers_takeSeq (o : Owner) (x : Exchange) : (x.takeSeq o).2.buffers = x.buffers := by
  cases o <;> rfl

@[simp] theorem Exchange.tasks_setQueue (o p : Owner) (q : List Nat) (x : Exchange) : (x.setQueue o q).tasks p = x.tasks p := by
  cases o <;> cases p <;> rfl

@[simp] theorem Exchange.tasks_takeSeq (o p : Owner) (x : Exchange) : (x.takeSeq o).2.tasks p = x.tasks p := by
  cases o <;> cases p <;> rfl

@[simp] theorem State.fillBuffer_buffers (who : Owner) (n : Nat) (post : Option XchPost) (s : State) :
    (s.fillBuffer who n post).xch.buffers = s.xch.buffers := by
  cases post <;> simp [State.fillBuffer]

@[simp] theorem State.notePosted_xch (n : Nat) (s : State) : (s.notePosted n).xch = s.xch := by
  simp [State.notePosted]

/-- What the end of each command makes of its buffer (R248). -/
def XchPending.finished (what : XchPending) (x : Exchange) (b : Buffer) : Buffer :=
  match what with
  | .claim who _ => { b with owner := who, busy := none, kind := 0, len := 0 }
  | .toFree => { b with owner := .free, busy := none, kind := 0, len := 0 }
  | .revoke => { b with owner := .free, busy := none, kind := 0, len := 0 }
  | .post target kind len => { b with owner := target, busy := none, queued := true, kind := kind, seq := (x.takeSeq target).1, len := len }

theorem State.finishBuffer_buffers (n : Nat) (what : XchPending) (s : State) :
    (s.finishBuffer n what).xch.buffers = s.xch.buffers.modify n (what.finished s.xch) := by
  cases what with
  | claim who post =>
    simp only [State.finishBuffer, State.fillBuffer_buffers]
    rfl
  | toFree => rfl
  | revoke =>
    simp only [State.finishBuffer, State.event_frame]
    rfl
  | post target kind len =>
    simp only [State.finishBuffer, State.modBuffer, State.notePosted_xch, Exchange.buffers_setQueue, Exchange.buffers_takeSeq]
    rfl

theorem State.finishBuffer_tasks (n : Nat) (what : XchPending) (s : State) (h : ∀ o x, what ≠ .claim o (some x)) (p : Owner) :
    (s.finishBuffer n what).xch.tasks p = s.xch.tasks p := by
  have hbuffers (bs : List Buffer) (y : Exchange) : ({ y with buffers := bs } : Exchange).tasks p = y.tasks p := by cases p <;> rfl
  cases what with
  | claim who post =>
    cases post with
    | none => exact hbuffers _ _
    | some x => exact absurd rfl (h who x)
  | toFree => exact hbuffers _ _
  | revoke => cases p <;> simp [State.finishBuffer, State.modBuffer, Exchange.tasks]
  | post target kind len => simp [State.finishBuffer, State.modBuffer, hbuffers]

theorem State.finishBuffer_handOver (n : Nat) (o : Owner) (x : XchPost) (s : State) (ho : o ≠ .free) (h : ∀ p, s.xch.tasks p = []) :
    (s.finishBuffer n (.claim o (some x))).xch.tasks o = [.handOver n x] ∧
      ∀ p, p ≠ o → (s.finishBuffer n (.claim o (some x))).xch.tasks p = [] := by
  have hbuffers (p : Owner) (bs : List Buffer) (y : Exchange) : ({ y with buffers := bs } : Exchange).tasks p = y.tasks p := by
    cases p <;> rfl
  constructor
  · simp [State.finishBuffer, State.fillBuffer, State.modBuffer, ho, hbuffers, h]
  · intro p hp
    simp [State.finishBuffer, State.fillBuffer, State.modBuffer, Exchange.tasks_setTasks_other hp, hbuffers, h]

/-- The end of a command after which the engines' firmware has nothing to do. -/
theorem State.afterZeroing_idle (port : Owner) (s : State) (h : ∀ o, s.xch.tasks o = []) :
    s.afterZeroing port = { s with xch := { s.xch with active := none, coincident := none }.setResult port 0 } := by
  refine State.runPorts_none _ fun o => ?_
  rw [← h o]
  cases port <;> cases o <;> rfl

theorem State.zeroingDone_plain (n at_ : Nat) (port : Owner) (what : XchPending) (s : State) (ha : s.xch.active = some (n, port, at_))
    (hw : s.xch.waiting = []) (hb : (s.buffer n).busy = some what) (ht : ∀ o, s.xch.tasks o = []) (hn : n < s.xch.buffers.length)
    (hport : port ≠ .free) (h : ∀ o x, what ≠ .claim o (some x)) :
    let t := s.zeroingDone
    (∀ m, m ≠ n → t.buffer m = s.buffer m) ∧ t.xch.active = none ∧ (t.buffer n).busy = none ∧ t.xch = t.xch.setResult port 0 ∧
      (∀ o, what = .claim o none → (t.buffer n).owner = o) ∧ (what = .toFree → (t.buffer n).owner = .free) ∧
      (what = .revoke → (t.buffer n).owner = .free ∧ t.xch.revokeCount = min (s.xch.revokeCount + 1) u32Max) ∧
      (∀ target kind len, what = .post target kind len → target ≠ .free →
        (t.buffer n).owner = target ∧ (t.buffer n).queued = true ∧ (t.buffer n).seq = (s.xch.takeSeq target).1 ∧
          t.xch.queue target = s.xch.queue target ++ [n] ∧
          (t.xch.takeSeq target).1 = ((s.xch.takeSeq target).1 + 1) % 65536) := by
  have hbufs := s.finishBuffer_buffers n what
  have htasks := fun o => (s.finishBuffer_tasks n what h o).trans (ht o)
  rw [State.zeroingDone_eq n at_ port what s ha hw hb, State.afterZeroing_idle port _ htasks]
  have hbuf (m : Nat) : State.buffer { s.finishBuffer n what with
      xch := { (s.finishBuffer n what).xch with active := none, coincident := none }.setResult port 0 } m =
      if m = n then what.finished s.xch (s.buffer n) else s.buffer m := by
    simp only [State.buffer, Exchange.buffers_setResult, hbufs]
    by_cases hm : m = n
    · subst hm
      simp [hn]
    · simp [hm, Ne.symm hm]
  dsimp only
  refine ⟨fun m hm => by rw [hbuf, if_neg hm], by simp, ?_, ?_, ?_, ?_, ?_, ?_⟩
  · rw [hbuf, if_pos rfl]
    cases what <;> rfl
  · exact Exchange.setResult_setResult port 0 _
  · rintro o rfl
    rw [hbuf, if_pos rfl]
    rfl
  · rintro rfl
    rw [hbuf, if_pos rfl]
    rfl
  · rintro rfl
    rw [hbuf, if_pos rfl]
    refine ⟨rfl, ?_⟩
    have hcount (c : Nat) (y : Exchange) : (y.setResult port c).revokeCount = y.revokeCount := by cases port <;> rfl
    rw [hcount]
    simp [State.finishBuffer, State.modBuffer, sat32, u32Max]
  · rintro target kind len rfl htarget
    rw [hbuf, if_pos rfl]
    refine ⟨rfl, rfl, rfl, ?_, ?_⟩
    · have hqueue (c : Nat) (y : Exchange) : ({ y with active := none, coincident := none }.setResult port c : Exchange).queue target = y.queue target := by
        cases port <;> cases target <;> rfl
      rw [hqueue]
      simp only [State.finishBuffer, State.notePosted_xch, State.modBuffer]
      cases target <;> simp_all [Exchange.takeSeq, Exchange.setQueue, Exchange.queue]
    · simp only [State.finishBuffer, State.notePosted_xch, State.modBuffer]
      cases port <;> cases target <;> simp_all [Exchange.takeSeq, Exchange.setQueue, Exchange.setResult]


/-- The end of the zeroing of a buffer that firmware claimed for a post: the post is in progress at once (R245, log entry 33). -/
theorem State.zeroingDone_claimed (n at_ : Nat) (port o : Owner) (x : XchPost) (s : State) (ha : s.xch.active = some (n, port, at_))
    (hw : s.xch.waiting = []) (hb : (s.buffer n).busy = some (.claim o (some x))) (ht : ∀ o, s.xch.tasks o = [])
    (hn : n < s.xch.buffers.length) :
    let t := s.zeroingDone
    (∀ m, m ≠ n → t.buffer m = s.buffer m) ∧
      (o = port → port ≠ .free → s.rt.cycling = true → s.startingUp 48 = false →
        postPermitted port x.target x.kind x.payload.length = true →
        t.xch.active = some (n, port, s.localNow) ∧ (t.buffer n).busy = some (.post x.target x.kind x.payload.length) ∧
          t.xch = t.xch.setResult port 1) := by
  have hbufs := s.finishBuffer_buffers n (.claim o (some x))
  have hwait := s.finishBuffer_waiting n (.claim o (some x))
  rw [State.zeroingDone_eq n at_ port _ s ha hw hb]
  have hf : (s.finishBuffer n (.claim o (some x))).rt = s.rt ∧ (s.finishBuffer n (.claim o (some x))).power = s.power ∧
      (s.finishBuffer n (.claim o (some x))).clock = s.clock := by simp
  by_cases ho : o = .free
  · subst ho
    have hnone : ∀ p, (s.finishBuffer n (.claim .free (some x))).xch.tasks p = [] := by
      intro p
      rw [← ht p]
      cases p <;> rfl
    rw [State.afterZeroing_idle port _ hnone]
    refine ⟨fun m hm => ?_, fun h hp => absurd h.symm hp⟩
    simp [State.buffer, hbufs, hm.symm]
  · obtain ⟨htask, hothers⟩ := s.finishBuffer_handOver n o x ho ht
    generalize s.finishBuffer n (.claim o (some x)) = f at *
    obtain ⟨hrt, hpower, hclock⟩ := hf
    have htasks (p : Owner) (y : Exchange) : ({ y with active := none, coincident := none }.setResult port 0 : Exchange).tasks p = y.tasks p := by
      cases port <;> cases p <;> rfl
    have hover : State.HandsOver o n x { f with xch := { f.xch with active := none, coincident := none }.setResult port 0 } :=
      ⟨by rw [htasks, htask], by simp, by simp [hwait, hw], by simp⟩
    obtain ⟨hsame, hrest, hpost⟩ := hover.runTasks ho
    have hports : f.afterZeroing port = State.runTasks o { f with xch := { f.xch with active := none, coincident := none }.setResult port 0 } :=
      State.runPorts_alone o _ (fun p hp => by rw [htasks, hothers p hp]) hrest
    rw [hports]
    refine ⟨fun m hm => (hsame m hm).trans (by simp [State.buffer, hbufs, hm.symm]), ?_⟩
    rintro rfl hp hc hu hperm
    have hnow : f.localNow = s.localNow := by simp [State.localNow, hclock]
    rw [← hnow]
    have hup : f.startingUp 48 = false := by
      rw [← hu]
      simp [State.startingUp, hpower, hnow]
    refine hpost (by rw [← hc, ← hrt]) hup ?_ ?_ hperm
    · simp [State.buffer, hbufs, hn, XchPending.finished]
    · simpa [hbufs] using hn

/-! ### O38 -/

theorem State.readTaken_unread {p : Owner} {n : Nat} {q : List Nat} {s : State} (h : s.Took p n q (s.popQueue p))
    (hu : (s.buffer n).ue = true ∨ (p = .le ∧ (s.buffer n).kind ≠ 2 ∧ (s.buffer n).kind ≠ 3 ∧ (s.buffer n).kind ≠ 7) ∨
      (p = .ce ∧ (s.buffer n).kind ≠ 1 ∧ (s.buffer n).kind ≠ 4 ∧ (s.buffer n).kind ≠ 5) ∨
      (p = .me ∧ ((s.buffer n).kind ≠ 6 ∨ s.mirror.role ≠ 1))) : s.readTaken p n = s.popQueue p := by
  obtain ⟨hkind, -, hmirror, -, -⟩ := h.buffer_n
  unfold State.readTaken
  split
  · rfl
  · rename_i hue
    refine State.engineReads_unread p n _ ?_
    rw [hkind, hmirror]
    exact hu.resolve_left hue

section
variable {n : Nat} {q : List Nat} {s : State}

/-- The CE transmits the frame of a buffer of kind 0x01 (R483). -/
theorem State.Took.pop_frame (h : s.Took .ce n q (s.popQueue .ce)) (hrest : State.keeps [.xch] (s.readTaken .ce n) (s.pop .ce))
    (hue : (s.buffer n).ue = false) (hk : (s.buffer n).kind = 1) :
    let d := s.payload n
    let f := s.frame (leAt d 0 2) ((d.drop 4).take (leAt d 3 1))
    let t := s.pop .ce
    (bitOf (leAt d 2 1) 0 = true → s.zop.canA.accepts = true → f ∈ t.zop.canA.queue) ∧
      (bitOf (leAt d 2 1) 1 = true → s.zop.canB.accepts = true → f ∈ t.zop.canB.queue) ∧
      (bitOf (leAt d 2 1) 0 = false → t.zop.canA = s.zop.canA) ∧ (bitOf (leAt d 2 1) 1 = false → t.zop.canB = s.zop.canB) ∧
      State.keeps [.xch, .zop] s t := by
  obtain ⟨hkind, hload, -, hzop, -⟩ := h.buffer_n
  have hread : s.readTaken .ce n = (s.popQueue .ce).ceHandles n := by simp [State.readTaken, hue, State.engineReads]
  rw [hread] at hrest
  have hz : ((s.popQueue .ce).ceHandles n).zop = (s.pop .ce).zop := hrest .zop (by simp)
  obtain ⟨hA, hB, hnoA, hnoB, hkeep⟩ := State.ceHandles_frameSent n _ (hkind.trans hk)
  have hframe (id : Nat) (data : List Byte) : (s.popQueue .ce).frame id data = s.frame id data := by simp [State.frame, hzop]
  rw [hload, hz] at hA hB hnoA hnoB
  rw [hzop] at hA hB hnoA hnoB
  simp only [hframe] at hA hB
  refine ⟨hA, hB, hnoA, hnoB, ?_⟩
  exact State.keeps_trans (State.keeps_mono h.rest (by simp))
    (State.keeps_trans (State.keeps_mono hkeep (by simp)) (State.keeps_mono hrest (by simp)))

/-- The CE takes the records of a buffer of kind 0x05 into its spool (R586). -/
theorem State.Took.pop_records (h : s.Took .ce n q (s.popQueue .ce)) (hrest : State.keeps [.xch] (s.readTaken .ce n) (s.pop .ce))
    (hue : (s.buffer n).ue = false) (hk : (s.buffer n).kind = 5) :
    let all := s.ledger.spool ++ tailRecords 20 (s.payload n)
    (s.pop .ce).ledger = { s.ledger with spool := all.drop (all.length - 1024) } ∧ State.keeps [.xch, .ledger] s (s.pop .ce) := by
  obtain ⟨hkind, hload, -, -, hledger⟩ := h.buffer_n
  have hread : s.readTaken .ce n = (s.popQueue .ce).ceHandles n := by simp [State.readTaken, hue, State.engineReads]
  rw [hread, State.ceHandles_spooled n _ (hkind.trans hk), hload] at hrest
  have hlog := (hrest .ledger (by simp)).symm
  refine ⟨?_, ?_⟩
  · simpa [State.agrees, hledger] using hlog
  · refine State.keeps_trans (State.keeps_mono h.rest (by simp)) (State.keeps_trans ?_ (State.keeps_mono hrest (by simp)))
    exact fun p hp => by cases p <;> simp_all [State.agrees]

/-- The ME of an active member takes the records of a buffer of kind 0x06 into the next snapshot's tail (R519). -/
theorem State.Took.pop_tail (h : s.Took .me n q (s.popQueue .me)) (hrest : State.keeps [.xch] (s.readTaken .me n) (s.pop .me))
    (hue : (s.buffer n).ue = false) (hk : (s.buffer n).kind = 6) (hr : s.mirror.role = 1) :
    (s.pop .me).mirror = { s.mirror with tail := s.mirror.tail ++ (tailRecords 20 (s.payload n)).map EventRecord.bytes } ∧
      State.keeps [.xch, .mirror] s (s.pop .me) := by
  obtain ⟨hkind, hload, hmirror, -, -⟩ := h.buffer_n
  have hread : s.readTaken .me n = (s.popQueue .me).meHandles n := by simp [State.readTaken, hue, State.engineReads]
  rw [hread, State.meHandles_tail n _ (hkind.trans hk) (by rw [hmirror, hr]), hload] at hrest
  have htail := (hrest .mirror (by simp)).symm
  refine ⟨?_, ?_⟩
  · simpa [State.agrees, hmirror] using htail
  · refine State.keeps_trans (State.keeps_mono h.rest (by simp)) (State.keeps_trans ?_ (State.keeps_mono hrest (by simp)))
    exact fun p hp => by cases p <;> simp_all [State.agrees]

end

theorem State.pop_empty {p : Owner} (hp : p ≠ .free) (s : State) (hc : s.rt.cycling = true) (hl : p ≠ .le ∨ s.xch.lePops < 16)
    (hq : s.xch.queue p = []) : s.pop p = { s with xch := s.xch.returnPop p 0xFF } := by
  have hnone : s.popped p = none := by simp [State.popped, hq]
  rw [← State.popQueue_empty s hc hl hq]
  cases p <;> simp_all [State.pop, State.popRead]

/-- Settles O38: the end of a zeroing by `State.zeroingDone_plain` and `State.zeroingDone_claimed`, a POP by `State.pop_xch` and by what its
engine does with the buffer. -/
theorem ownershipPassesAtTheEnd : Obligations.OwnershipPassesAtTheEnd := by
  unfold Obligations.OwnershipPassesAtTheEnd
  refine ⟨fun dt n at_ port what s ha hw hle hce hme hn hb hp => ?_, fun dt port s hc hp hl => ⟨fun hq => ?_, fun n q hq ho hn hco => ?_⟩,
    fun dt s hl => ?_⟩
  · have ht : ∀ o, (s.elapse dt).xch.tasks o = [] := by
      intro o
      cases o <;> simp [Exchange.tasks, hle, hce, hme]
    have hkeep : State.keeps [.xch, .le, .zop, .ledger, .store] (s.elapse dt) (s.elapse dt).zeroingDone :=
      fun q hq => by cases q <;> simp_all [State.agrees]
    by_cases h : ∃ o x, what = .claim o (some x)
    · obtain ⟨o, x, rfl⟩ := h
      obtain ⟨hsame, hpost⟩ := State.zeroingDone_claimed n at_ port o x (s.elapse dt) ha hw hb ht hn
      refine ⟨_, rfl, hsame, hkeep, fun hno => absurd rfl (hno o x), fun y hy hc hu hperm => ?_⟩
      obtain ⟨rfl, rfl⟩ : o = port ∧ x = y := by simpa using hy
      exact hpost rfl hp hc hu hperm
    · have hno : ∀ o x, what ≠ .claim o (some x) := fun o x hx => h ⟨o, x, hx⟩
      obtain ⟨hsame, hrest⟩ := State.zeroingDone_plain n at_ port what (s.elapse dt) ha hw hb ht hn hp hno
      exact ⟨_, rfl, hsame, hkeep, fun _ => hrest, fun x hx => absurd hx (hno port x)⟩
  · have hpop := State.pop_empty hp (s.elapse dt) hc hl hq
    refine ⟨_, rfl, ?_, ?_⟩
    · rw [hpop]
      rfl
    · rw [hpop]
      exact fun q hq => by cases q <;> simp_all [State.agrees]
  · have htook := State.popQueue_took hp n q (s.elapse dt) hc hl hq hn
    obtain ⟨hkind, hload, hmirror, hzop, hledger⟩ := htook.buffer_n
    have hpop := fun h => State.pop_xch hp hc hl hq ho hn hco (s := s.elapse dt) h
    refine ⟨_, rfl, fun hu => ?_, fun hu => (hpop (hu.imp_left fun hu => State.readTaken_unread htook hu)).1, fun hce hue hk => ?_,
      fun hce hue hk => ?_, fun hme hue hk hrole => ?_⟩
    · have hread := State.readTaken_unread htook hu
      have hrest := (hpop (.inl hread)).2
      rw [hread] at hrest
      exact State.keeps_trans htook.rest hrest
    · subst hce
      exact htook.pop_frame (hpop (.inr (by decide))).2 hue hk
    · subst hce
      exact htook.pop_records (hpop (.inr (by decide))).2 hue hk
    · subst hme
      exact htook.pop_tail (hpop (.inr (by decide))).2 hue hk hrole
  · refine congrArg Host.Outcome.next ?_
    simp [State.pop, State.popRead, State.popped, State.popQueue, hl]

end Sys2Proof.Machine

namespace Sys2Proof.Machine

/-! ### What the freeze of a new cycle leaves alone (R36, R44) -/

@[simp] theorem Field.placementDue_ite {c : Prop} [Decidable c] (f g : Field) :
    (if c then f else g).placementDue = if c then f.placementDue else g.placementDue := by
  split <;> rfl

@[simp] theorem State.iosSafeState_placementDue (s : State) : s.iosSafeState.field.placementDue = s.field.placementDue := by
  unfold State.iosSafeState
  split
  · rfl
  · simp [State.refreshDrivers, State.breakPulse, State.stopToken]
    rw [State.openSafetyBanks_field, State.placeSafe_field]

@[simp] theorem State.freezePair_placementDue (refBad : BitVec 2) (p : Nat) (s : State) :
    (s.freezePair refBad p).field.placementDue = s.field.placementDue := by
  unfold State.freezePair
  dsimp only
  (repeat' split) <;> simp

@[simp] theorem State.supplyChanges_placementDue (supply : Nat) (was is : Bool) (s : State) :
    (s.supplyChanges supply was is).field.placementDue = s.field.placementDue := by
  have hreturns (t : State) : (t.supplyReturns supply).field.placementDue = t.field.placementDue := by
    unfold State.supplyReturns
    refine foldl_preserves (·.field.placementDue) _ (fun t i => ?_) _ t
    dsimp only
    (repeat' split) <;> rfl
  have hfails (t : State) : (t.supplyFails supply).field.placementDue = t.field.placementDue := by
    unfold State.supplyFails
    refine foldl_preserves (·.field.placementDue) _ (fun t i => ?_) _ t
    rfl
  simp [State.supplyChanges, hreturns, hfails]

theorem State.freeze_placementDue (tk : Nat) (x : Sensors) (s : State) : (s.freeze tk x).field.placementDue = s.field.placementDue := by
  have hpairs (l : List Nat) (bad : BitVec 2) (t : State) :
      (l.foldl (fun t p => t.freezePair bad p) t).field.placementDue = t.field.placementDue :=
    foldl_preserves (·.field.placementDue) _ (fun t p => t.freezePair_placementDue bad p) l t
  have hchannels (l : List Nat) (f : Nat → Nat) (t : State) :
      (l.foldl (fun t n => t.freezeChannel tk (f n) n) t).field.placementDue = t.field.placementDue :=
    foldl_preserves (·.field.placementDue) (fun t n => t.freezeChannel tk (f n) n) (fun _ _ => rfl) l t
  have hbanks (l : List Nat) (t : State) :
      (l.foldl (fun t b => t.freezeBank x.railHigh x.railLow b) t).field.placementDue = t.field.placementDue :=
    foldl_preserves (·.field.placementDue) (fun t b => t.freezeBank x.railHigh x.railLow b) (fun _ _ => rfl) l t
  have hfaults (old : List Bank) (l : List Nat) (t : State) :
      (l.foldl (fun t b => t.bankFault (old.getD b {}) b) t).field.placementDue = t.field.placementDue :=
    foldl_preserves (·.field.placementDue) _ (fun t n => by simp) l t
  have hsupplies (t : State) : (t.compareSupplies x.fs1Mv x.fs2Mv).field.placementDue = t.field.placementDue := by
    simp [State.compareSupplies, State.refreshDrivers]
  simp only [State.freeze, State.freezeAnalog, hfaults]
  simp [hpairs, hbanks, hchannels, hsupplies]

theorem State.freeze_supplies (tk : Nat) (x : Sensors) (s : State) :
    (s.freeze tk x).power.fs1Mv = x.fs1Mv ∧ (s.freeze tk x).power.fs2Mv = x.fs2Mv := by
  have hchanges (supply : Nat) (was is : Bool) (t : State) : (t.supplyChanges supply was is).power = t.power := by simp
  have hsupplies (t : State) : (t.compareSupplies x.fs1Mv x.fs2Mv).power.fs1Mv = x.fs1Mv ∧
      (t.compareSupplies x.fs1Mv x.fs2Mv).power.fs2Mv = x.fs2Mv := by
    simp [State.compareSupplies]
  simp [State.freeze, State.compareDomains, hsupplies]

/-! ### What a new cycle sets (Table 1-10) -/

theorem State.newCycle_counts (x : Sensors) (s : State) :
    (s.newCycle x).rt.boundary = s.dueBoundary ∧ (s.newCycle x).rt.cycleCount = wrap32 (s.rt.cycleCount + 1) ∧
      (s.newCycle x).rt.stallCount = (if s.rt.leMark then 0 else s.rt.stallCount + 1) ∧ (s.newCycle x).rt.leMark = false ∧
      (s.newCycle x).rt.libDone = s.rt.libDone ∧ (s.newCycle x).rt.passTag = s.rt.passTag ∧ (s.newCycle x).field.placementDue = true ∧
      (s.newCycle x).power.fs1Mv = x.fs1Mv ∧ (s.newCycle x).power.fs2Mv = x.fs2Mv ∧
      (s.newCycle x).clock = { s.clock with steppedTo := none } ∧
      (s.newCycle x).images = { s.images with eccCorrected := sat32 (s.images.eccCorrected + x.imageCorrected) } ∧
      (s.zop.held = [] → (s.newCycle x).xch = { s.xch with correctedCount := sat32 (s.xch.correctedCount + x.xchCorrected) }) := by
  have hdue : s.countSeconds.dueBoundary = s.dueBoundary := by simp [State.dueBoundary, State.lastMultiple, State.now]
  have hheld (t : State) (h : t.zop.held = []) : t.postHeld = { t with zop.held := [], zop.dictPosted := 0 } := by
    simp [State.postHeld, h]
  simp only [State.newCycle]
  refine ⟨?_, ?_, ?_, ?_, ?_, ?_, ?_, ?_, ?_, ?_, ?_, fun h => ?_⟩
  · simp [State.countStall, hdue]
  · simp [State.countStall]
  · simp [State.countStall]
  · simp [State.countStall]
  · simp [State.countStall]
  · simp [State.countStall]
  · simp [State.countStall, State.freeze_placementDue]
  · simp [State.countStall, State.freeze_supplies]
  · simp [State.countStall, State.freeze_supplies]
  · simp [State.countStall]
  · simp [State.countStall]
  · rw [hheld _ (by simp [State.countStall, h])]
    simp [State.countStall]

/-! ### A boundary inside running passes (R36, R522) -/

/-- A snapshot of the image that runs leaves the dictionary alone. -/
theorem State.writeSnapshot_dict (f : SnapshotFrame) (s : State) (h : s.snapshotBank (snapImage f).1 (snapImage f).2 = s.images.active) :
    (s.writeSnapshot f).dict = s.dict := by
  unfold State.writeSnapshot
  simp only [h, if_true]
  split <;> simp

theorem State.newestSnapshot_active (f : SnapshotFrame) (s : State) (hp : s.rt.passesRunning = true) (h : s.newestSnapshot = some f) :
    s.snapshotBank (snapImage f).1 (snapImage f).2 = s.images.active := by
  unfold State.newestSnapshot at h
  split at h
  · simp at h
  · simpa [hp] using (Option.filter_eq_some_iff.mp h).2

theorem State.commitBoundary_running (s : State) (hp : s.rt.passesRunning = true) :
    s.commitBoundary.dict = s.dict ∧ s.commitBoundary.mirror.frameSeen = s.mirror.frameSeen := by
  unfold State.commitBoundary
  split
  · exact ⟨rfl, rfl⟩
  cases hsnap : s.newestSnapshot with
  | none =>
    dsimp only
    split <;> exact ⟨rfl, rfl⟩
  | some f =>
    have hactive := s.newestSnapshot_active f hp hsnap
    have hstale (n : Nat) : State.snapshotBank { s with mirror.stale := n } (snapImage f).1 (snapImage f).2 = s.images.active := hactive
    dsimp only
    split
    · exact ⟨State.writeSnapshot_dict f _ hactive, by simp⟩
    · exact ⟨State.writeSnapshot_dict f _ (hstale _), by simp⟩

theorem State.commitBoundary_alone (s : State) (h₂ : s.mirror.role ≠ 2) (h₃ : s.mirror.role ≠ 3) : s.commitBoundary = s := by
  simp [State.commitBoundary, h₂, h₃]

theorem State.evaluatePasses_rt (s : State) : s.evaluatePasses.rt = { s.rt with libDone := true } := by
  simp [State.evaluatePasses]

/-- The cycle whose passes still run, with its library evaluated. -/
def State.evaluatedCycle (s : State) : State := if s.rt.libDone then s else s.evaluatePasses

theorem State.evaluatedCycle_rt (s : State) : s.evaluatedCycle.rt = { s.rt with libDone := true } := by
  unfold State.evaluatedCycle
  split
  · rename_i h
    rw [← h]
  · exact s.evaluatePasses_rt

@[simp] theorem State.evaluatedCycle_frame (s : State) :
    State.Frame s s.evaluatedCycle (rt := Barely) (passes := Free) (le := Free) (lib := Free) (store := Free) (ledger := Free)
      (freeCount := Free) := by
  simp [State.evaluatedCycle]

/-- The new cycle inside the passes of another (R36, R44). -/
def State.cycleInside (x : Sensors) (s : State) : State :=
  { s.newCycle x with
    rt.popped := true
    glint.carried := s.glint.carried ++ (s.newCycle x).glint.carried
    analog.carried := s.analog.carried ++ (s.newCycle x).analog.carried }

theorem State.cycleInside_parts (x : Sensors) (s : State) :
    (s.cycleInside x).rt = { (s.newCycle x).rt with popped := true } ∧ (s.cycleInside x).field = (s.newCycle x).field ∧
      (s.cycleInside x).power = (s.newCycle x).power ∧ (s.cycleInside x).clock = (s.newCycle x).clock ∧
      (s.cycleInside x).dict = s.dict := by
  unfold State.cycleInside
  generalize hn : s.newCycle x = n
  exact ⟨rfl, rfl, rfl, rfl, by simp [← hn]⟩

theorem State.passedBoundary_eq (x : Sensors) (s : State) :
    s.passedBoundary x = (((s.evaluatedCycle.cycleInside x).countMissed.commitBoundary).sendStatus) := by
  unfold State.passedBoundary State.cycleInside State.evaluatedCycle
  rfl

theorem State.passedBoundary_counts (x : Sensors) (s : State) (hp : s.rt.passesRunning = true) :
    let t := s.passedBoundary x
    t.rt.boundary = s.dueBoundary ∧ t.rt.cycleCount = wrap32 (s.rt.cycleCount + 1) ∧
      t.rt.stallCount = (if s.rt.leMark then 0 else s.rt.stallCount + 1) ∧ t.rt.leMark = false ∧ t.rt.popped = true ∧
      t.rt.libDone = true ∧ t.rt.passTag = s.rt.passTag ∧ t.field.placementDue = true ∧ t.power.fs1Mv = x.fs1Mv ∧
      t.power.fs2Mv = x.fs2Mv ∧ t.clock = { s.clock with steppedTo := none } ∧ t.mirror.frameSeen = false ∧ t.dict = s.dict := by
  have he := s.evaluatedCycle_rt
  obtain ⟨hbound, hcount, hstall, hmark, hlib, htag, hplace, hfs1, hfs2, hclock, -, -⟩ := s.evaluatedCycle.newCycle_counts x
  have hdue : s.evaluatedCycle.dueBoundary = s.dueBoundary := by simp [State.dueBoundary, State.lastMultiple, State.now, he]
  have hrun : (s.evaluatedCycle.cycleInside x).countMissed.rt.passesRunning = true := by simp [State.cycleInside, hp]
  obtain ⟨hdict, hseen⟩ := State.commitBoundary_running _ hrun
  have hstatus (t : State) : t.sendStatus.mirror.frameSeen = t.mirror.frameSeen := by
    unfold State.sendStatus
    split <;> rfl
  have hmissed (t : State) : t.countMissed.mirror.frameSeen = false := rfl
  obtain ⟨hrt, hfield, hpower, hclk, hdct⟩ := s.evaluatedCycle.cycleInside_parts x
  dsimp only
  rw [State.passedBoundary_eq]
  generalize s.evaluatedCycle.cycleInside x = c at *
  simp [hstatus, hseen, hmissed, hdict, hdct, hrt, hfield, hpower, hclk, hbound, hcount, hstall, hmark, hlib, htag, hplace, hfs1, hfs2,
    hclock, hdue, he]

@[simp] theorem State.iosSafeState_role (s : State) : s.iosSafeState.mirror.role = s.mirror.role := by
  unfold State.iosSafeState
  split <;> simp [State.stopToken]

@[simp] theorem State.freezePair_role (refBad : BitVec 2) (p : Nat) (s : State) :
    (s.freezePair refBad p).mirror.role = s.mirror.role := by
  unfold State.freezePair
  dsimp only
  (repeat' split) <;> simp

theorem State.newCycle_role (x : Sensors) (s : State) : (s.newCycle x).mirror.role = s.mirror.role := by
  have hpairs (l : List Nat) (bad : BitVec 2) (t : State) :
      (l.foldl (fun t p => t.freezePair bad p) t).mirror.role = t.mirror.role :=
    foldl_preserves (·.mirror.role) _ (fun t p => t.freezePair_role bad p) l t
  simp [State.newCycle, State.countStall, State.freeze, State.freezeAnalog, hpairs]

/-- Without snapshots of a twin the new cycle leaves what the LE works with alone (R36). -/
theorem State.passedBoundary_alone (x : Sensors) (s : State) (h₂ : s.mirror.role ≠ 2) (h₃ : s.mirror.role ≠ 3) :
    let t := s.passedBoundary x
    t.le = s.evaluatedCycle.le ∧ t.lib = s.evaluatedCycle.lib ∧
      (s.zop.held = [] → t.xch = { s.xch with correctedCount := sat32 (s.xch.correctedCount + x.xchCorrected) }) ∧
      t.images = { s.images with eccCorrected := sat32 (s.images.eccCorrected + x.imageCorrected) } := by
  obtain ⟨-, -, -, -, -, -, -, -, -, -, himages, hxch⟩ := s.evaluatedCycle.newCycle_counts x
  have hrole : (s.evaluatedCycle.cycleInside x).countMissed.mirror.role = s.mirror.role := by
    simp [State.countMissed, State.cycleInside, State.newCycle_role]
  dsimp only
  rw [State.passedBoundary_eq, State.commitBoundary_alone _ (by rw [hrole]; exact h₂) (by rw [hrole]; exact h₃)]
  refine ⟨?_, ?_, fun hheld => ?_, ?_⟩
  · simp [State.cycleInside]
  · simp [State.cycleInside]
  · have hx := hxch (by simpa using hheld)
    simp [State.cycleInside, hx]
  · simp [State.cycleInside, himages]

/-- When a boundary is due once a step that waited has been taken (R112, R111). -/
theorem State.stepAtBoundary_due (s : State) :
    (s.clock.pendingStep = none ∨ s.rt.state = .run → s.stepAtBoundary.dueBoundary = s.dueBoundary) ∧
      (∀ d, s.clock.pendingStep = some d → s.rt.state ≠ .run → s.stepAtBoundary.dueBoundary = ((s.dueBoundary : Int) + d).toNat) ∧
      s.stepAtBoundary.clock.pendingStep = none ∧ s.stepAtBoundary.rt.cycleCount = s.rt.cycleCount ∧
      s.stepAtBoundary.rt.leMark = s.rt.leMark ∧ s.stepAtBoundary.rt.stallCount = s.rt.stallCount := by
  unfold State.stepAtBoundary
  cases hs : s.clock.pendingStep with
  | none => simp [hs]
  | some d =>
    by_cases hr : s.rt.state = .run
    · have hstep : s.applyStep = { s with clock.pendingStep := none } := by simp [State.applyStep, hs, hr]
      simp [hr, hstep, State.dueBoundary, State.lastMultiple, State.now]
    · have hstep : s.applyStep.clock.pendingStep = none ∧ s.applyStep.rt.cycleCount = s.rt.cycleCount ∧
          s.applyStep.rt.leMark = s.rt.leMark ∧ s.applyStep.rt.stallCount = s.rt.stallCount := by
        unfold State.applyStep
        simp [hs, hr, State.moveTimes, State.moveInputs]
      simp [hr, hstep, State.dueBoundary, moved]

/-- Settles O15: a step at the boundary by `State.stepAtBoundary_keeps`, the new cycle by `State.passedBoundary_counts` and
`State.passedBoundary_alone`. -/
theorem boundaryCountsTheCycle : Obligations.BoundaryCountsTheCycle := by
  unfold Obligations.BoundaryCountsTheCycle
  refine ⟨fun dt x s h => ?_, fun dt s => ?_, fun dt x s => ?_⟩
  · rw [exec_cycleBoundary]
    simp [State.cycleBoundary, h]
  · unfold State.boundaryDue
    rw [Bool.and_eq_true, Bool.or_eq_true, decide_eq_true_eq, Option.isSome_iff_ne_none]
    exact Iff.rfl
  · dsimp only
    intro hdue hp
    have hexec : exec (.cycleBoundary dt x) s = .next ((s.elapse dt).stepAtBoundary.passedBoundary x) := by
      rw [exec_cycleBoundary]
      unfold State.cycleBoundary
      simp [hdue, hp]
    have hkeep : (s.elapse dt).stepAtBoundary.rt.state = s.rt.state ∧ (s.elapse dt).stepAtBoundary.rt.stateCause = s.rt.stateCause ∧
        (s.elapse dt).stepAtBoundary.otp = (s.elapse dt).otp ∧ (s.elapse dt).stepAtBoundary.dict = (s.elapse dt).dict ∧
        (s.elapse dt).stepAtBoundary.modbus = (s.elapse dt).modbus ∧ (s.elapse dt).stepAtBoundary.pending = (s.elapse dt).pending := by
      simp
    obtain ⟨hsame, hstep, hnone, hcount, hmark, hstall⟩ := (s.elapse dt).stepAtBoundary_due
    have hnostep (h : s.clock.pendingStep = none) : (s.elapse dt).stepAtBoundary = s.elapse dt := by
      unfold State.stepAtBoundary
      rw [show (s.elapse dt).clock.pendingStep = none from h]
    have hrun : (s.elapse dt).stepAtBoundary.rt.passesRunning = true := by simp [hp]
    obtain ⟨cbound, ccount, cstall, cmark, cpop, clib, ctag, cplace, cfs1, cfs2, cclock, cseen, cdict⟩ :=
      State.passedBoundary_counts x _ hrun
    refine ⟨_, hexec, fun h => ?_, fun d hd hr => ?_, by rw [cclock]; exact hnone, by rw [cclock], ?_, ?_, cmark, cpop, clib, by simp [hp],
      by simp, by simp, cplace, cfs1, cfs2, cseen, fun hno h₂ h₃ => ?_, by simp, by rw [cdict]; simp, by simp, by simp⟩
    · rw [cbound, hsame h]
      rfl
    · rw [cbound, hstep d hd hr]
      rfl
    · rw [ccount, hcount]
      rfl
    · rw [cstall, hmark, hstall]
      rfl
    · rw [hnostep hno] at ctag cclock ⊢
      obtain ⟨ale, alib, axch, aimages⟩ := State.passedBoundary_alone x (s.elapse dt) h₂ h₃
      refine ⟨ctag, cclock, by simp, ale, alib, fun hdone => ?_, axch, aimages, fun p hp => by cases p <;> simp_all [State.agrees]⟩
      have hcycle : (s.elapse dt).evaluatedCycle = s.elapse dt := if_pos hdone
      rw [ale, hcycle]
      exact ⟨rfl, rfl⟩

end Sys2Proof.Machine

namespace Sys2Proof.Machine

/-! ### The reaction of the fault line (R192, R198) -/

theorem State.openAllBanks_field (s : State) : s.openAllBanks.field = { s.field with banks := s.openAllBanks.field.banks } := by
  refine Field.eq_of_banks _ _ ?_
  unfold State.openAllBanks
  exact foldl_preserves (fun t : State => { t.field with banks := [] }) (fun t b => t.openBank b) (fun _ _ => rfl) _ _

theorem State.openAllBanks_closed (s : State) (b : Nat) (hb : b < 4) : (s.openAllBanks.bank b).closed = false := by
  have hloop := foldl_pointwise (fun b t => (State.bank t b).closed) (fun _ _ => false) (fun t a => t.openBank a)
    (fun t a => t.openBank_closed a) (fun t a b hab => by rw [State.openBank_other hab]) (List.range 4) List.nodup_range s b
  exact hloop.trans (by simp [hb])

theorem State.iosSafeState_images (s : State) (h : s.field.images = []) : s.iosSafeState.field.images = [] := by
  by_cases hs : s.field.safeState = true
  · simpa [State.iosSafeState, hs] using h
  · exact (s.iosSafeState_entered (by simpa using hs)).2.2.1

/-- The fault line ends the passes, discards their images and opens every bank switch (log entry 104). -/
theorem State.faultLine_entered (s : State) : s.faultLine.field.faultLine = true ∧ s.faultLine.field.images = [] ∧
    s.faultLine.rt.passesRunning = false ∧ ∀ b, b < 4 → (s.faultLine.bank b).closed = false := by
  refine ⟨s.faultLine_asserted, ?_, by simp, fun b hb => ?_⟩
  · have heq : s.faultLine = (State.iosSafeState
        { s with field.faultLine := true, field.images := [], rt.passesRunning := false }).openAllBanks.refreshDrivers [] := rfl
    have hios := State.iosSafeState_images { s with field.faultLine := true, field.images := [], rt.passesRunning := false } rfl
    rw [heq]
    generalize State.iosSafeState _ = t at *
    have hopen := t.openAllBanks_field
    have himages : t.openAllBanks.field.images = [] := by rw [hopen, hios]
    exact himages
  · unfold State.faultLine
    exact State.openAllBanks_closed _ b hb

/-- What a fault that asserts the fault line leads to, from release on. -/
structure State.Faulted (cause : Nat) (t : State) : Prop where
  waits : t.waits cause .nonRecoverable
  line : t.field.faultLine = true
  images : t.field.images = []
  stopped : t.rt.passesRunning = false
  banks : ∀ b, b < 4 → (t.bank b).closed = false

theorem State.lineFault_faulted (cause : Nat) (data : List Byte) (s : State) (h : s.rt.cycling = true) :
    State.Faulted cause (s.lineFault cause data) := by
  rw [State.lineFault_released cause data s h]
  obtain ⟨hline, himages, hstop, hbanks⟩ := (s.detectAt cause .nonRecoverable s.now data).faultLine_entered
  refine ⟨⟨{ cause := cause, cls := .nonRecoverable, time := s.now, data := data }, ?_, rfl, rfl⟩, hline, himages, hstop, hbanks⟩
  simp

/-- The registers, their folds and the comparison window: all of `Passes` but for what a fault captures and marks. -/
def Passes.window (p : Passes) : BitVec 32 × BitVec 32 × Nat × Nat × Nat × Nat × Nat × BitVec 32 × BitVec 32 :=
  (p.sigPlain, p.sigShadow, p.plainFolds, p.shadowFolds, p.position, p.windowActive, p.compareCount, p.plainLast, p.shadowLast)

theorem Passes.window_mark (cause : Nat) (p : Passes) : (p.mark cause).window = p.window := by
  unfold Passes.mark
  split <;> rfl

theorem State.passFault_faulted (cause address : Nat) (s : State) (h : s.rt.cycling = true) :
    State.Faulted cause (s.passFault cause address) :=
  State.lineFault_faulted cause _ _ h

theorem State.passFault_passes (cause address : Nat) (s : State) :
    (s.passFault cause address).passes.window = s.passes.window ∧ (s.passFault cause address).passes.split = s.passes.split ∧
      (s.passFault 0x0403 address).passes.codedTrap = true ∧ (s.passFault 0x0402 address).passes.mismatch = true := by
  have hline (c : Nat) (data : List Byte) (t : State) : (t.lineFault c data).passes = t.passes := by simp
  refine ⟨?_, ?_, ?_, ?_⟩ <;> unfold State.passFault <;> dsimp only <;> rw [hline]
  · rw [← Passes.window_mark cause s.passes]
    split <;> rfl
  · have hmark : (s.passes.mark cause).split = s.passes.split := by
      unfold Passes.mark
      split <;> rfl
    rw [← hmark]
    split <;> rfl
  · split <;> rfl
  · split <;> rfl

end Sys2Proof.Machine

namespace Sys2Proof.Machine

/-! ### The passes up to their first stop (R183, R189, R191, R222) -/

/-- Of the comparison's registers the plain pass (`coded = false`) or the shadow pass changes its own alone. -/
def Passes.Folds (coded : Bool) (p q : Passes) : Prop :=
  q = if coded then { p with sigShadow := q.sigShadow, shadowFolds := q.shadowFolds }
    else { p with sigPlain := q.sigPlain, plainFolds := q.plainFolds }

theorem Passes.Folds.refl (coded : Bool) (p : Passes) : p.Folds coded p := by cases coded <;> rfl

theorem Passes.Folds.trans {coded : Bool} {p q r : Passes} (h : p.Folds coded q) (k : q.Folds coded r) : p.Folds coded r := by
  unfold Passes.Folds at *
  cases coded
  · rw [k, h]
    rfl
  · rw [k, h]
    rfl

/-- A stretch of a pass: it ends, it traps with nothing else changed than its words and folds, or a violation has had its reaction. -/
structure State.PassRuns (coded : Bool) (s : State) (p : State × Option PassStop) : Prop where
  cycling : p.1.rt.cycling = s.rt.cycling
  images : p.1.images = s.images
  folds : s.passes.Folds coded p.1.passes
  goes : p.2 ≠ some .violation → p.1.rt = s.rt ∧ p.1.field = s.field
  stops : p.2 = some .violation → s.rt.cycling = true →
    p.1.le.violation = true ∧ p.1.field.faultLine = true ∧ p.1.field.images = [] ∧ p.1.rt.passesRunning = false

theorem State.PassRuns.of_step {coded : Bool} {s t : State} (hr : t.rt = s.rt) (hf : t.field = s.field) (hi : t.images = s.images)
    (hp : s.passes.Folds coded t.passes) (e : Option PassStop) (he : e ≠ some .violation) : State.PassRuns coded s (t, e) :=
  ⟨by rw [hr], hi, hp, fun _ => ⟨hr, hf⟩, fun h => absurd h he⟩

theorem State.PassRuns.refl (coded : Bool) (s : State) : State.PassRuns coded s (s, none) :=
  .of_step rfl rfl rfl (.refl _ _) none (by simp)

theorem State.PassRuns.trans {coded : Bool} {s t : State} {p : State × Option PassStop} (h : State.PassRuns coded s (t, none))
    (k : State.PassRuns coded t p) : State.PassRuns coded s p := by
  obtain ⟨hrt, hfield⟩ := h.goes (by simp)
  refine ⟨k.cycling.trans h.cycling, k.images.trans h.images, h.folds.trans k.folds, fun hp => ?_, fun hp hc => k.stops hp (h.cycling.trans hc)⟩
  obtain ⟨hr, hf⟩ := k.goes hp
  exact ⟨hr.trans hrt, hf.trans hfield⟩

theorem thenPass_runs {coded : Bool} {s : State} {p : State × Option PassStop} (h : State.PassRuns coded s p)
    (next : State → State × Option PassStop) (k : ∀ t, State.PassRuns coded t (next t)) : State.PassRuns coded s (thenPass p next) := by
  obtain ⟨t, _ | e⟩ := p
  · exact h.trans (k t)
  · exact h

theorem runPass_runs {coded : Bool} {α : Type} (step : α → State → State × Option PassStop)
    (h : ∀ a s, State.PassRuns coded s (step a s)) (l : List α) (s : State) : State.PassRuns coded s (runPass step l s) := by
  induction l generalizing s with
  | nil => exact .refl coded s
  | cons a l ih =>
    have ha := h a s
    rw [runPass]
    split
    · rename_i t e heq
      rwa [heq] at ha
    · rename_i t heq
      rw [heq] at ha
      exact ha.trans (ih t)

/-- A violation is captured and takes the fault line (R222, R231). -/
theorem State.violation_entered (addr info cause : Nat) (s : State) (hc : s.rt.cycling = true) :
    (s.violation addr info cause).le.violation = true ∧ (s.violation addr info cause).field.faultLine = true ∧
      (s.violation addr info cause).field.images = [] ∧ (s.violation addr info cause).rt.passesRunning = false := by
  have hline (c : Nat) (data : List Byte) (t : State) : (t.lineFault c data).le = t.le := by simp
  have hfault (m : LeMem) := State.lineFault_faulted cause m.eventData { s with le := m } hc
  unfold State.violation
  dsimp only
  refine ⟨?_, (hfault _).line, (hfault _).images, (hfault _).stopped⟩
  rw [hline]
  split
  · assumption
  · rfl

theorem State.passAccess_runs (coded c : Bool) (kind : AccessKind) (off : Nat) (s : State) :
    State.PassRuns coded s (s.passAccess c kind off) := by
  unfold State.passAccess State.mpuCheck
  dsimp only
  split
  · exact .of_step rfl rfl rfl (.refl _ _) none (by simp)
  · refine ⟨by simp, by simp, ?_, fun h => absurd rfl h, fun _ hc => State.violation_entered _ _ _ _ hc⟩
    simpa using Passes.Folds.refl coded s.passes

/-- Where the MPU allows it, an access of a pass leaves the unit as it is. -/
theorem State.passAccess_allowed (c : Bool) (kind : AccessKind) (off : Nat) (s t : State) (h : s.passAccess c kind off = (t, none)) : t = s := by
  unfold State.passAccess State.mpuCheck at h
  dsimp only at h
  split at h
  · simpa using h.symm
  · simp at h

theorem State.passAccess_stop (c : Bool) (kind : AccessKind) (off : Nat) (s : State) :
    (s.passAccess c kind off).2 = none ∨ (s.passAccess c kind off).2 = some .violation := by
  unfold State.passAccess
  dsimp only
  generalize State.mpuCheck _ _ _ _ _ = p
  cases p.2
  · exact .inr rfl
  · exact .inl rfl

theorem State.passAccesses_runs (coded c : Bool) (reads : List Nat) (dst : Nat) (s : State) :
    State.PassRuns coded s (s.passAccesses c reads dst) :=
  runPass_runs _ (fun (a : AccessKind × Nat) t => t.passAccess_runs coded c a.1 a.2) _ _

theorem State.storeNative_rest (w : Nat × BitVec 32) (s : State) : s.storeNative w = { s with le := (s.storeNative w).le } := by
  unfold State.storeNative
  (repeat' split) <;> rfl

theorem State.storeCoded_rest (w : Nat × BitVec 64) (s : State) : s.storeCoded w = { s with le := (s.storeCoded w).le } := by
  unfold State.storeCoded
  (repeat' split) <;> rfl

theorem State.plainStore_runs (fold : Bool) (off : Nat) (v : BitVec 32) (s : State) :
    State.PassRuns false s (s.plainStore fold off v, none) := by
  refine .of_step (by simp) (by simp) (by simp) ?_ none (by simp)
  unfold State.plainStore
  rw [State.storeNative_rest]
  dsimp only
  split <;> rfl

theorem State.shadowStore_runs (off : Nat) (t : WordType) (c : BitVec 64) (s : State) :
    State.PassRuns true s (s.shadowStore off t c) := by
  have hcoded := s.storeCoded_rest (off, c)
  unfold State.shadowStore
  split
  · exact .of_step rfl rfl rfl (.refl _ _) _ (by simp)
  · dsimp only
    rw [hcoded]
    split
    · refine .of_step ?_ ?_ ?_ ?_ none (by simp) <;> rfl
    · refine .of_step ?_ ?_ ?_ ?_ none (by simp) <;> rfl

theorem State.plainInstr_runs (fold : Bool) (i : LogicInstr) (s : State) : State.PassRuns false s (s.plainInstr fold i) := by
  have h := s.passAccesses_runs false false ((instrReads i).map (·.1)) i.dst
  unfold State.plainInstr
  split
  · rename_i t e heq
    rwa [heq] at h
  · rename_i t heq
    rw [heq] at h
    exact h.trans (t.plainStore_runs fold _ _)

theorem State.plainWrite_runs (fold : Bool) (w : Nat × BitVec 32) (s : State) : State.PassRuns false s (s.plainWrite fold w) := by
  have h := s.passAccess_runs false false .store w.1
  unfold State.plainWrite
  split
  · rename_i t e heq
    rwa [heq] at h
  · rename_i t heq
    rw [heq] at h
    exact h.trans (t.plainStore_runs fold _ _)

theorem State.shadowInstr_runs (i : LogicInstr) (s : State) : State.PassRuns true s (s.shadowInstr i) := by
  have h := s.passAccesses_runs true true ((instrReads i).map (·.1)) i.dst
  unfold State.shadowInstr
  split
  · rename_i t e heq
    rwa [heq] at h
  · rename_i t heq
    rw [heq] at h
    dsimp only
    split
    · exact h.trans (.of_step rfl rfl rfl (.refl _ _) _ (by simp))
    · exact h.trans (t.shadowStore_runs _ _ _)

theorem State.shadowWrite_runs (w : Nat × WordType × BitVec 64) (s : State) : State.PassRuns true s (s.shadowWrite w) := by
  have h := s.passAccess_runs true true .store w.1
  unfold State.shadowWrite
  split
  · rename_i t e heq
    rwa [heq] at h
  · rename_i t heq
    rw [heq] at h
    exact h.trans (t.shadowStore_runs _ _ _)

theorem State.plainPass_runs (r : PassResult) (ended : Bool) (s : State) : State.PassRuns false s (s.plainPass r ended) := by
  have h := thenPass_runs (runPass_runs (State.plainInstr (!s.passes.split)) (fun i t => t.plainInstr_runs _ i) r.instrs s)
    (runPass (State.plainWrite (!s.passes.split)) r.plainWrites) (fun t => runPass_runs _ (fun w u => u.plainWrite_runs _ w) _ t)
  unfold State.plainPass
  dsimp only
  split
  · rename_i t e heq
    rwa [heq] at h
  · rename_i t heq
    rw [heq] at h
    refine h.trans ?_
    split
    · refine .of_step ?_ ?_ ?_ ?_ none (by simp) <;> rfl
    · exact .refl false t

theorem State.shadowPass_runs (r : PassResult) (ended : Bool) (s : State) : State.PassRuns true s (s.shadowPass r ended) := by
  have h := thenPass_runs (runPass_runs State.shadowInstr (fun i t => t.shadowInstr_runs i) r.instrs s)
    (runPass State.shadowWrite r.shadowWrites) (fun t => runPass_runs _ (fun w u => u.shadowWrite_runs w) _ t)
  unfold State.shadowPass
  split
  · exact .of_step rfl rfl rfl (.refl _ _) _ (by simp)
  dsimp only
  split
  · rename_i t e heq
    rwa [heq] at h
  · rename_i t heq
    rw [heq] at h
    split
    · exact h.trans (.of_step rfl rfl rfl (.refl _ _) _ (by simp))
    · refine h.trans ?_
      split
      · refine .of_step ?_ ?_ ?_ ?_ none (by simp) <;> rfl
      · exact .refl true t

end Sys2Proof.Machine

namespace Sys2Proof.Machine

/-! ### What a pass without instructions folds (R191) -/

theorem State.stateBytes_images {s t : State} (h : t.images = s.images) : t.stateBytes = s.stateBytes := by
  simp [State.stateBytes, h]

theorem State.plainStore_folds (off : Nat) (v : BitVec 32) (s : State) :
    (s.plainStore true off v).passes.sigPlain = (if folded s.stateBytes off then foldWord s.passes.sigPlain off v else s.passes.sigPlain) ∧
      (s.plainStore true off v).passes.plainFolds = (if folded s.stateBytes off then s.passes.plainFolds + 1 else s.passes.plainFolds) := by
  unfold State.plainStore
  rw [State.storeNative_rest]
  have hbytes : State.stateBytes { s with le := (s.storeNative (off, v)).le } = s.stateBytes := rfl
  by_cases h : folded s.stateBytes off = true <;> simp [hbytes, h]

theorem runPass_plainWrite (ws : List (Nat × BitVec 32)) (s : State) :
    ((runPass (State.plainWrite true) ws s).2 = none ∨ (runPass (State.plainWrite true) ws s).2 = some .violation) ∧
      ((runPass (State.plainWrite true) ws s).2 = none →
        (runPass (State.plainWrite true) ws s).1.passes.sigPlain =
            foldWrites s.passes.sigPlain (ws.filter (fun w => folded s.stateBytes w.1)) ∧
          (runPass (State.plainWrite true) ws s).1.passes.plainFolds =
            s.passes.plainFolds + (ws.filter (fun w => folded s.stateBytes w.1)).length) := by
  induction ws generalizing s with
  | nil => exact ⟨.inl rfl, fun _ => ⟨rfl, rfl⟩⟩
  | cons w ws ih =>
    rcases hacc : s.passAccess false .store w.1 with ⟨t, _ | e⟩
    · obtain rfl := s.passAccess_allowed false .store w.1 t hacc
      have hstep : t.plainWrite true w = (t.plainStore true w.1 w.2, none) := by simp [State.plainWrite, hacc]
      have hrun : runPass (State.plainWrite true) (w :: ws) t = runPass (State.plainWrite true) ws (t.plainStore true w.1 w.2) := by
        rw [runPass, hstep]
      have hbytes : (t.plainStore true w.1 w.2).stateBytes = t.stateBytes := State.stateBytes_images (by simp)
      obtain ⟨hsig, hfolds⟩ := t.plainStore_folds w.1 w.2
      obtain ⟨hstop, hend⟩ := ih (t.plainStore true w.1 w.2)
      rw [hrun]
      refine ⟨hstop, fun h => ?_⟩
      obtain ⟨hs, hf⟩ := hend h
      rw [hs, hf, hbytes, hsig, hfolds]
      by_cases hw : folded t.stateBytes w.1 = true
      · simp [hw, foldWrites]
        omega
      · simp [hw]
    · have hstep : s.plainWrite true w = (t, some e) := by simp [State.plainWrite, hacc]
      have hrun : runPass (State.plainWrite true) (w :: ws) s = (t, some e) := by rw [runPass, hstep]
      have hstop := s.passAccess_stop false .store w.1
      rw [hrun]
      rw [hacc] at hstop
      exact ⟨hstop, fun h => by simp at h⟩

theorem State.shadowStore_folds (off : Nat) (ty : WordType) (c : BitVec 64) (s : State) (q : Int)
    (hq : readCoded s.images.codeConstant ty c = some q) :
    (s.shadowStore off ty c).2 = none ∧ (s.shadowStore off ty c).1.images = s.images ∧
      (s.shadowStore off ty c).1.passes.sigShadow =
        (if folded s.stateBytes off then foldWord s.passes.sigShadow off (nativeOf q) else s.passes.sigShadow) ∧
      (s.shadowStore off ty c).1.passes.shadowFolds =
        (if folded s.stateBytes off then s.passes.shadowFolds + 1 else s.passes.shadowFolds) := by
  unfold State.shadowStore
  rw [hq, State.storeCoded_rest]
  have hbytes : State.stateBytes { s with le := (s.storeCoded (off, c)).le } = s.stateBytes := rfl
  by_cases h : folded s.stateBytes off = true <;> simp [hbytes, h]

/-- The native value that a coded word of the shadow pass decodes to. -/
def decodedWrite (a : Nat) (c : Nat × WordType × BitVec 64) : Nat × BitVec 32 := (c.1, nativeOf ((readCoded a c.2.1 c.2.2).getD 0))

theorem runPass_shadowWrite (ws : List (Nat × WordType × BitVec 64)) (s : State) :
    ((runPass State.shadowWrite ws s).2 ≠ some .violation →
      ((runPass State.shadowWrite ws s).2 = none ↔ ∀ c ∈ ws, (readCoded s.images.codeConstant c.2.1 c.2.2).isSome = true)) ∧
      ((runPass State.shadowWrite ws s).2 = none →
        (runPass State.shadowWrite ws s).1.passes.sigShadow =
            foldWrites s.passes.sigShadow ((ws.filter (fun w => folded s.stateBytes w.1)).map (decodedWrite s.images.codeConstant)) ∧
          (runPass State.shadowWrite ws s).1.passes.shadowFolds =
            s.passes.shadowFolds + (ws.filter (fun w => folded s.stateBytes w.1)).length) := by
  induction ws generalizing s with
  | nil => exact ⟨fun _ => ⟨fun _ _ h => absurd h List.not_mem_nil, fun _ => rfl⟩, fun _ => ⟨rfl, rfl⟩⟩
  | cons w ws ih =>
    rcases hacc : s.passAccess true .store w.1 with ⟨t, _ | e⟩
    · obtain rfl := s.passAccess_allowed true .store w.1 t hacc
      have hstep : t.shadowWrite w = t.shadowStore w.1 w.2.1 w.2.2 := by simp [State.shadowWrite, hacc]
      cases hq : readCoded t.images.codeConstant w.2.1 w.2.2 with
      | none =>
        have htrap : t.shadowStore w.1 w.2.1 w.2.2 = (t, some (.trap w.1)) := by simp [State.shadowStore, hq]
        have hrun : runPass State.shadowWrite (w :: ws) t = (t, some (.trap w.1)) := by rw [runPass, hstep, htrap]
        rw [hrun]
        refine ⟨fun _ => ⟨fun h => by simp at h, fun h => ?_⟩, fun h => by simp at h⟩
        have hw := h w List.mem_cons_self
        simp [hq] at hw
      | some q =>
        obtain ⟨hnone, himages, hsig, hfolds⟩ := t.shadowStore_folds w.1 w.2.1 w.2.2 q hq
        rcases hst : t.shadowStore w.1 w.2.1 w.2.2 with ⟨u, o⟩
        rw [hst] at hnone himages hsig hfolds hstep
        dsimp only at hnone himages hsig hfolds
        subst hnone
        have hrun : runPass State.shadowWrite (w :: ws) t = runPass State.shadowWrite ws u := by rw [runPass, hstep]
        have hbytes : u.stateBytes = t.stateBytes := State.stateBytes_images himages
        obtain ⟨hstop, hend⟩ := ih u
        rw [himages] at hstop hend
        rw [hrun]
        refine ⟨fun h => ?_, fun h => ?_⟩
        · rw [hstop h]
          simp [hq]
        · obtain ⟨hs, hf⟩ := hend h
          rw [hs, hf, hbytes, hsig, hfolds]
          by_cases hw : folded t.stateBytes w.1 = true
          · simp [hw, foldWrites, decodedWrite, hq]
            omega
          · simp [hw]
    · have hstep : s.shadowWrite w = (t, some e) := by simp [State.shadowWrite, hacc]
      have hrun : runPass State.shadowWrite (w :: ws) s = (t, some e) := by rw [runPass, hstep]
      have hstop := s.passAccess_stop true .store w.1
      rw [hacc] at hstop
      rw [hrun]
      exact ⟨fun h => absurd (hstop.resolve_left (by simp)) h, fun h => by simp at h⟩

/-! ### The two passes as a whole -/

theorem State.plainPass_ended (r : PassResult) (s : State) (hs : s.passes.split = false) (h : (s.plainPass r true).2 = none) :
    (s.plainPass r true).1.passes.plainFolds = 0 := by
  revert h
  unfold State.plainPass
  dsimp only
  split
  · simp
  · intro _
    simp [hs]

theorem State.shadowPass_ended (r : PassResult) (s : State) (h : (s.shadowPass r true).2 = none) :
    (s.shadowPass r true).1.passes.shadowFolds = 0 := by
  revert h
  unfold State.shadowPass
  dsimp only
  (repeat' split) <;> simp_all

/-- The plain pass of a cycle in which the LE executes no instruction of its own. -/
theorem State.plainPass_writes (r : PassResult) (s : State) (hi : r.instrs = []) (hs : s.passes.split = false) :
    ((s.plainPass r true).2 = none ∨ (s.plainPass r true).2 = some .violation) ∧
      ((s.plainPass r true).2 = none →
        (s.plainPass r true).1.passes.sigPlain =
          foldEnd (foldWrites s.passes.sigPlain (r.plainWrites.filter (fun w => folded s.stateBytes w.1)))
            (s.passes.plainFolds + (r.plainWrites.filter (fun w => folded s.stateBytes w.1)).length) s.rt.passTag) := by
  have hlive : (!s.passes.split) = true := by simp [hs]
  obtain ⟨hstop, hend⟩ := runPass_plainWrite r.plainWrites s
  have hruns := runPass_runs (State.plainWrite true) (fun w u => u.plainWrite_runs true w) r.plainWrites s
  have hthen : thenPass (runPass (State.plainInstr true) r.instrs s) (runPass (State.plainWrite true) r.plainWrites) =
      runPass (State.plainWrite true) r.plainWrites s := by
    rw [hi]
    rfl
  unfold State.plainPass
  simp only [hlive, hthen]
  rcases hp : runPass (State.plainWrite true) r.plainWrites s with ⟨t, _ | e⟩
  · rw [hp] at hend hruns
    obtain ⟨hs, hf⟩ := hend rfl
    obtain ⟨hrt, -⟩ := hruns.goes (by simp)
    dsimp only at hs hf hrt ⊢
    simp [hs, hf, hrt]
  · rw [hp] at hstop
    exact ⟨hstop, fun h => by simp at h⟩

/-- The shadow pass of such a cycle. -/
theorem State.shadowPass_writes (r : PassResult) (s : State) (hi : r.instrs = []) :
    ((s.shadowPass r true).2 ≠ some .violation →
      ((s.shadowPass r true).2 = none ↔ s.passes.readTrap = none ∧ r.trapAt = none ∧
        ∀ c ∈ r.shadowWrites, (readCoded s.images.codeConstant c.2.1 c.2.2).isSome = true)) ∧
      ((s.shadowPass r true).2 = none →
        (s.shadowPass r true).1.passes.sigShadow =
          foldEnd (foldWrites s.passes.sigShadow
            ((r.shadowWrites.filter (fun w => folded s.stateBytes w.1)).map (decodedWrite s.images.codeConstant)))
            (s.passes.shadowFolds + (r.shadowWrites.filter (fun w => folded s.stateBytes w.1)).length) s.rt.passTag) := by
  obtain ⟨hstop, hend⟩ := runPass_shadowWrite r.shadowWrites s
  have hruns := runPass_runs State.shadowWrite (fun w u => u.shadowWrite_runs w) r.shadowWrites s
  have hthen : thenPass (runPass State.shadowInstr r.instrs s) (runPass State.shadowWrite r.shadowWrites) =
      runPass State.shadowWrite r.shadowWrites s := by
    rw [hi]
    rfl
  unfold State.shadowPass
  cases htrap : s.passes.readTrap with
  | some off => simp
  | none =>
    simp only [hthen]
    rcases hp : runPass State.shadowWrite r.shadowWrites s with ⟨t, _ | e⟩
    · rw [hp] at hend hruns hstop
      obtain ⟨hs, hf⟩ := hend rfl
      obtain ⟨hrt, -⟩ := hruns.goes (by simp)
      have hall := (hstop (by simp)).mp rfl
      dsimp only at hs hf hrt ⊢
      cases r.trapAt with
      | some off => simp
      | none => exact ⟨fun _ => by simpa using fun a b c h => hall (a, b, c) h, fun _ => by simp [hs, hf, hrt]⟩
    · rw [hp] at hstop
      refine ⟨fun h => ⟨fun h' => by simp at h', fun ⟨_, _, hall⟩ => ?_⟩, fun h => by simp at h⟩
      exact absurd ((hstop h).mpr hall) (by simp)

end Sys2Proof.Machine

namespace Sys2Proof.Machine

/-! ### The passes of a cycle (R183, R191) -/

/-- The window in which the registers stand, which evaluating the library and running the passes leave alone. -/
def Passes.course (p : Passes) : Bool × Nat × Nat × Nat := (p.split, p.position, p.windowActive, p.compareCount)

theorem Passes.Folds.course {coded : Bool} {p q : Passes} (h : p.Folds coded q) : q.course = p.course := by
  unfold Passes.Folds at h
  rw [h]
  cases coded <;> rfl

theorem State.plainBlocks_course (slots : Nat → Bool) (s : State) : (s.plainBlocks slots).passes.course = s.passes.course := by
  have hput (t : State) : t.putStateNative.passes = t.passes := by simp
  unfold State.plainBlocks
  dsimp only
  split
  · rw [hput]
  · simp [Passes.course, hput]

theorem State.shadowBlocks_course (slots : Nat → Bool) (s : State) : (s.shadowBlocks slots).passes.course = s.passes.course := by
  have hput (t : State) : t.putStateCoded.passes = t.passes := by simp
  unfold State.shadowBlocks
  dsimp only
  split
  · rfl
  · simp [Passes.course, hput]

theorem State.evaluatedCycle_course (s : State) : s.evaluatedCycle.passes.course = s.passes.course := by
  have hlib : s.evaluateLibrary.passes = s.passes := by simp
  have hplain := s.evaluateLibrary.plainBlocks_course s.evaluateLibrary.slotValue
  rw [hlib] at hplain
  unfold State.evaluatedCycle State.evaluatePasses
  split
  · rfl
  · dsimp only
    split
    · exact hplain
    · exact (State.shadowBlocks_course _ _).trans hplain

/-- Both passes of a cycle, one after the other, to their first stop. -/
def State.runPasses (r : PassResult) (s : State) : State × Option PassStop :=
  thenPass (s.plainPass r true) (fun t => t.shadowPass r true)

/-- Both passes: what they leave, and with what the first violation leaves them. -/
structure State.BothRun (s : State) (p : State × Option PassStop) : Prop where
  cycling : p.1.rt.cycling = s.rt.cycling
  images : p.1.images = s.images
  course : p.1.passes.course = s.passes.course
  goes : p.2 ≠ some .violation → p.1.rt = s.rt ∧ p.1.field = s.field
  stops : p.2 = some .violation → s.rt.cycling = true →
    p.1.le.violation = true ∧ p.1.field.faultLine = true ∧ p.1.field.images = [] ∧ p.1.rt.passesRunning = false
  ended : p.2 = none → p.1.passes.plainFolds = 0 ∧ p.1.passes.shadowFolds = 0

theorem State.runPasses_runs (r : PassResult) (s : State) (hs : s.passes.split = false) : s.BothRun (s.runPasses r) := by
  have hp := s.plainPass_runs r true
  have hplain := s.plainPass_ended r hs
  unfold State.runPasses
  generalize s.plainPass r true = p at *
  obtain ⟨t, _ | e⟩ := p
  · have hq := t.shadowPass_runs r true
    obtain ⟨hrt, hfield⟩ := hp.goes (by simp)
    refine ⟨hq.cycling.trans hp.cycling, hq.images.trans hp.images, hq.folds.course.trans hp.folds.course, fun h => ?_,
      fun h hc => hq.stops h (hp.cycling.trans hc), fun h => ⟨?_, t.shadowPass_ended r h⟩⟩
    · obtain ⟨hr, hf⟩ := hq.goes h
      exact ⟨hr.trans hrt, hf.trans hfield⟩
    · have hfolds := hq.folds
      unfold Passes.Folds at hfolds
      change (t.shadowPass r true).1.passes.plainFolds = 0
      rw [hfolds]
      exact hplain rfl
  · exact ⟨hp.cycling, hp.images, hp.folds.course, hp.goes, hp.stops, fun h => by simp [thenPass] at h⟩

/-- Both passes of a cycle in which the LE executes no instruction of its own: what they fold, and what stops them. -/
theorem State.runPasses_writes (r : PassResult) (s : State) (hi : r.instrs = []) (hs : s.passes.split = false) :
    ((s.runPasses r).2 = none →
      (s.runPasses r).1.passes.sigPlain =
          foldEnd (foldWrites s.passes.sigPlain (r.plainWrites.filter (fun w => folded s.stateBytes w.1)))
            (s.passes.plainFolds + (r.plainWrites.filter (fun w => folded s.stateBytes w.1)).length) s.rt.passTag ∧
        (s.runPasses r).1.passes.sigShadow =
          foldEnd (foldWrites s.passes.sigShadow
            ((r.shadowWrites.filter (fun w => folded s.stateBytes w.1)).map (decodedWrite s.images.codeConstant)))
            (s.passes.shadowFolds + (r.shadowWrites.filter (fun w => folded s.stateBytes w.1)).length) s.rt.passTag) ∧
      ((s.runPasses r).2 ≠ some .violation →
        ((s.runPasses r).2 = none ↔ s.passes.readTrap = none ∧ r.trapAt = none ∧
          ∀ c ∈ r.shadowWrites, (readCoded s.images.codeConstant c.2.1 c.2.2).isSome = true)) := by
  obtain ⟨hstop, hsig⟩ := s.plainPass_writes r hi hs
  have hp := s.plainPass_runs r true
  unfold State.runPasses
  generalize s.plainPass r true = p at *
  obtain ⟨t, _ | e⟩ := p
  · obtain ⟨hstop', hsig'⟩ := t.shadowPass_writes r hi
    obtain ⟨hrt, -⟩ := hp.goes (by simp)
    have himages : t.images = s.images := hp.images
    have hbytes : t.stateBytes = s.stateBytes := State.stateBytes_images himages
    have hpassed : s.passes.Folds false t.passes := hp.folds
    have hshadow : t.passes.sigShadow = s.passes.sigShadow ∧ t.passes.shadowFolds = s.passes.shadowFolds ∧
        t.passes.readTrap = s.passes.readTrap := by
      unfold Passes.Folds at hpassed
      rw [hpassed]
      exact ⟨rfl, rfl, rfl⟩
    obtain ⟨hreg, hcount, htrap⟩ := hshadow
    rw [himages, htrap] at hstop'
    rw [himages, hbytes, hreg, hcount, hrt] at hsig'
    refine ⟨fun h => ⟨?_, hsig' h⟩, hstop'⟩
    have hfolds := (t.shadowPass_runs r true).folds
    unfold Passes.Folds at hfolds
    change (t.shadowPass r true).1.passes.sigPlain = _
    rw [hfolds]
    exact hsig rfl
  · refine ⟨fun h => by simp [thenPass] at h, fun h => absurd ?_ h⟩
    simpa [thenPass] using hstop

/-! ### The hand-over after the passes (R34, R183) -/

theorem State.handOver_waits (r : PassResult) (s : State) (h : s.passesStarted = false) : s.handOver r = s := by
  simp [State.handOver, h]

theorem State.handOver_runs (r : PassResult) (s : State) (hstart : s.passesStarted = true) (hs : s.passes.split = false)
    (hh : s.service.haltArmed = false ∨ r.reachesHalt = false) :
    (∀ e, (s.evaluatedCycle.runPasses r).2 = some e →
      s.handOver r = State.stopPass e (State.endFolds (s.evaluatedCycle.runPasses r).1)) ∧
    ((s.evaluatedCycle.runPasses r).2 = none →
      s.handOver r = (((s.evaluatedCycle.runPasses r).1.alterOutputs r).alterCoded r).completeCycle r) := by
  have hservice : s.evaluatedCycle.service = s.service := by simp
  have hhalt : (!(s.evaluatedCycle.service.haltArmed && r.reachesHalt)) = true := by
    rw [hservice]
    rcases hh with h | h <;> simp [h]
  have hsplit : s.evaluatedCycle.passes.split = false := (congrArg Prod.fst s.evaluatedCycle_course).trans hs
  have hruns := s.evaluatedCycle.plainPass_runs r true
  have hover : s.handOver r = match s.evaluatedCycle.runPasses r with
      | (t, some e) => (State.endFolds t).stopPass e
      | (t, none) => ((t.alterOutputs r).alterCoded r).completeCycle r := by
    unfold State.handOver
    rw [hstart]
    change (match thenPass (s.evaluatedCycle.plainPass r (!(s.evaluatedCycle.service.haltArmed && r.reachesHalt)))
        (fun t => if t.passes.split then (t, none) else t.shadowPass r (!(s.evaluatedCycle.service.haltArmed && r.reachesHalt))) with
      | (t, some e) => (State.endFolds t).stopPass e
      | (t, none) => if (!(s.evaluatedCycle.service.haltArmed && r.reachesHalt)) = true then
          ((t.alterOutputs r).alterCoded r).completeCycle r else State.endCycle t.reachHalt) = _
    rw [hhalt]
    unfold State.runPasses
    have hlive : (s.evaluatedCycle.plainPass r true).1.passes.split = false := (congrArg Prod.fst hruns.folds.course).trans hsplit
    generalize s.evaluatedCycle.plainPass r true = p at *
    obtain ⟨t, _ | e⟩ := p
    · dsimp only at hlive
      simp only [thenPass, hlive]
      rfl
    · rfl
  rw [hover]
  rcases s.evaluatedCycle.runPasses r with ⟨t, _ | e⟩
  · exact ⟨fun e h => by simp at h, fun _ => rfl⟩
  · refine ⟨fun e' h => ?_, fun h => by simp at h⟩
    obtain rfl : e = e' := by simpa using h
    rfl

/-! ### The comparison and the images (R34, R190, R192, R195) -/

/-- A cycle whose passes ended, with its times and the window advanced to its end. -/
def State.windowed (r : PassResult) (s : State) : State := (s.passTimes r).advanceWindow.compareWindow

/-- Inside a window, and at the end of one whose registers agree, only the window moves (R192). -/
theorem State.windowed_agrees (r : PassResult) (s : State)
    (h : s.passes.windowActive ≤ s.passes.position + 1 → s.passes.sigPlain = s.passes.sigShadow) :
    s.windowed r = { s with passes := (s.windowed r).passes, rt.passTimeMax := (s.windowed r).rt.passTimeMax } ∧
      (s.windowed r).passes.split = s.passes.split ∧
      (s.windowed r).passes.position = (if s.passes.windowActive ≤ s.passes.position + 1 then 0 else s.passes.position + 1) ∧
      (s.windowed r).passes.sigPlain =
        (if s.passes.windowActive ≤ s.passes.position + 1 then 0xFFFFFFFF else s.passes.sigPlain) ∧
      (s.windowed r).passes.sigShadow =
        (if s.passes.windowActive ≤ s.passes.position + 1 then 0xFFFFFFFF else s.passes.sigShadow) ∧
      (s.windowed r).passes.plainFolds = s.passes.plainFolds ∧ (s.windowed r).passes.shadowFolds = s.passes.shadowFolds := by
  unfold State.windowed State.compareWindow
  by_cases hend : s.passes.windowActive ≤ s.passes.position + 1
  · have hin : ¬ (s.passTimes r).advanceWindow.passes.position < (s.passTimes r).advanceWindow.passes.windowActive := Nat.not_lt.mpr hend
    have hsame : ((s.passTimes r).advanceWindow.passes.sigPlain != (s.passTimes r).advanceWindow.passes.sigShadow) = false :=
      bne_eq_false_iff_eq.mpr (h hend)
    rw [if_neg hin]
    simp only [hend, if_true]
    rw [hsame]
    exact ⟨rfl, rfl, rfl, rfl, rfl, rfl, rfl⟩
  · have hin : (s.passTimes r).advanceWindow.passes.position < (s.passTimes r).advanceWindow.passes.windowActive := Nat.not_le.mp hend
    rw [if_pos hin]
    simp only [hend, if_false]
    exact ⟨rfl, rfl, rfl, rfl, rfl, rfl, rfl⟩

/-- At the end of a window whose registers differ (R192). -/
theorem State.windowed_differs (r : PassResult) (s : State) (hend : s.passes.windowActive ≤ s.passes.position + 1)
    (h : s.passes.sigPlain ≠ s.passes.sigShadow) (hc : s.rt.cycling = true) :
    State.Faulted 0x0402 (s.windowed r) ∧ (s.windowed r).passes.mismatch = true ∧
      (s.windowed r).passes.compareCount = sat32 (s.passes.compareCount + 1) ∧
      (s.windowed r).passes.plainLast = s.passes.sigPlain ∧ (s.windowed r).passes.shadowLast = s.passes.sigShadow := by
  have hin : ¬ (s.passTimes r).advanceWindow.passes.position < (s.passTimes r).advanceWindow.passes.windowActive := Nat.not_lt.mpr hend
  have hdiffer : ((s.passTimes r).advanceWindow.passes.sigPlain != (s.passTimes r).advanceWindow.passes.sigShadow) = true :=
    bne_iff_ne.mpr h
  unfold State.windowed State.compareWindow
  rw [if_neg hin]
  dsimp only
  rw [hdiffer, if_pos rfl]
  generalize hx : ({ (s.passTimes r).advanceWindow with
      passes.plainLast := (s.passTimes r).advanceWindow.passes.sigPlain
      passes.shadowLast := (s.passTimes r).advanceWindow.passes.sigShadow
      passes.compareCount := sat32 ((s.passTimes r).advanceWindow.passes.compareCount + 1) } : State) = x
  have hcx : x.rt.cycling = true := by
    rw [← hx]
    exact hc
  have hfault := x.passFault_faulted 0x0402 0xFFFFFFFF hcx
  obtain ⟨hwindow, -, -, hmismatch⟩ := x.passFault_passes 0x0402 0xFFFFFFFF
  have hwas : x.passes.window = (s.passes.sigPlain, s.passes.sigShadow, s.passes.plainFolds, s.passes.shadowFolds, s.passes.position + 1,
      s.passes.windowActive, sat32 (s.passes.compareCount + 1), s.passes.sigPlain, s.passes.sigShadow) := by
    rw [← hx]
    rfl
  rw [hwas] at hwindow
  simp only [Passes.window, Prod.mk.injEq] at hwindow
  obtain ⟨-, -, -, -, -, -, hcount, hplain, hshadow⟩ := hwindow
  exact ⟨⟨hfault.waits, hfault.line, hfault.images, hfault.stopped, hfault.banks⟩, hmismatch, hcount, hplain, hshadow⟩

/-- The output words that the IOS compares do not depend on the registers or on the times of the passes. -/
theorem State.outputImages_of_window (s : State) (p : Passes) (n : Nat) (h : p.split = s.passes.split) :
    State.outputImages { s with passes := p, rt.passTimeMax := n } = s.outputImages := by
  unfold State.outputImages
  dsimp only
  rw [h]
  rfl

/-! ### The mark and the images handed over (R34, R36) -/

/-- The end of a cycle that carries the mark. -/
structure State.MarkedEnd (s t : State) : Prop where
  mark : t.rt.leMark = true
  stall : t.rt.stallCount = 0
  state : t.rt.state = s.rt.state
  stopped : t.rt.passesRunning = false
  passes : t.passes = s.passes

theorem State.popAfter_counts (s : State) : s.popAfter.rt.leMark = s.rt.leMark ∧ s.popAfter.rt.stallCount = s.rt.stallCount ∧
    s.popAfter.rt.overrunCount = s.rt.overrunCount := by
  unfold State.popAfter State.popInbound
  split <;> simp

theorem State.endCycle_popAfter (s : State) (hm : s.rt.leMark = true) (hs : s.rt.stallCount = 0) : s.MarkedEnd s.endCycle.popAfter := by
  obtain ⟨hmark, hstall, -⟩ := s.endCycle.popAfter_counts
  refine ⟨hmark.trans hm, hstall.trans hs, by simp, ?_, by simp⟩
  have hkept : s.endCycle.popAfter.rt.passesRunning = s.endCycle.rt.passesRunning := by simp
  exact hkept

theorem State.handImages_handed (plain shadow : BitVec 32) (s : State) (hc : s.rt.cycling = true) :
    s.MarkedEnd (s.handImages plain shadow) ∧
      { tag := s.rt.passTag, plain := plain, shadow := shadow } ∈ (s.handImages plain shadow).field.images ∧
      (s.handImages plain shadow).rt.overrunCount = s.rt.overrunCount := by
  unfold State.handImages
  dsimp only
  generalize hx : State.aliveMark _ = x
  have halive : x.rt.leMark = true ∧ x.rt.stallCount = 0 ∧ x.rt.state = s.rt.state ∧ x.rt.overrunCount = s.rt.overrunCount ∧
      x.passes = s.passes ∧ { tag := s.rt.passTag, plain := plain, shadow := shadow } ∈ x.field.images := by
    rw [← hx]
    simp [State.aliveMark, hc]
  obtain ⟨hmark, hstall, hstate, hover, hpasses, himages⟩ := halive
  have hrest : x.captureSnapshot.completeExchange.produceFrames.rt = x.rt := by simp
  generalize hy : x.captureSnapshot.completeExchange.produceFrames = y at *
  have hpasses' : y.passes = x.passes := by simp [← hy]
  have hfield : y.field = x.field := by simp [← hy]
  have hend := y.endCycle_popAfter (by rw [hrest, hmark]) (by rw [hrest, hstall])
  obtain ⟨-, -, hcount⟩ := y.endCycle.popAfter_counts
  refine ⟨⟨hend.mark, hend.stall, hend.state.trans (by rw [hrest, hstate]), hend.stopped, hend.passes.trans (hpasses'.trans hpasses)⟩, ?_,
    hcount.trans ?_⟩
  · have hkept : y.endCycle.popAfter.field = y.field := by simp
    rw [hkept, hfield]
    exact himages
  · have hkept : y.endCycle.rt.overrunCount = y.rt.overrunCount := rfl
    rw [hkept, hrest, hover]

theorem State.overrun_late (s : State) (hc : s.rt.cycling = true) :
    s.MarkedEnd s.overrun ∧ s.overrun.field.images = s.field.images ∧
      s.overrun.rt.overrunCount = sat32 (s.rt.overrunCount + 1) := by
  unfold State.overrun
  dsimp only
  generalize hx : State.aliveMark _ = x
  have halive : x.rt.leMark = true ∧ x.rt.stallCount = 0 ∧ x.rt.state = s.rt.state ∧
      x.rt.overrunCount = sat32 (s.rt.overrunCount + 1) ∧ x.passes = s.passes ∧ x.field = s.field := by
    rw [← hx]
    simp [State.aliveMark, hc]
  obtain ⟨hmark, hstall, hstate, hover, hpasses, hfield⟩ := halive
  have hrest : x.captureSnapshot.rt = x.rt := by simp
  have hend := x.captureSnapshot.endCycle_popAfter (by rw [hrest, hmark]) (by rw [hrest, hstall])
  obtain ⟨-, -, hcount⟩ := x.captureSnapshot.endCycle.popAfter_counts
  refine ⟨⟨hend.mark, hend.stall, hend.state.trans (by rw [hrest, hstate]), hend.stopped, hend.passes.trans ?_⟩, by simp [hfield],
    hcount.trans ?_⟩
  · simpa using hpasses
  · have hkept : x.captureSnapshot.endCycle.rt.overrunCount = x.captureSnapshot.rt.overrunCount := rfl
    rw [hkept, hrest, hover]

end Sys2Proof.Machine

namespace Sys2Proof.Machine

/-! ### The end of a cycle (R34, R192, R195) -/

theorem State.completeCycle_differs (r : PassResult) (s : State) (hs : s.passes.split = false)
    (h : (s.windowed r).rt.passesRunning = false) : s.completeCycle r = s.windowed r := by
  have hlive : (s.passTimes r).passes.split = false := hs
  unfold State.completeCycle
  dsimp only
  rw [hlive]
  change (if (!(s.windowed r).rt.passesRunning) = true then s.windowed r else _) = _
  rw [h]
  rfl

/-- The position, the registers and the folds of the window. -/
def Passes.registers (p : Passes) : Nat × BitVec 32 × BitVec 32 × Nat × Nat :=
  (p.position, p.sigPlain, p.sigShadow, p.plainFolds, p.shadowFolds)

theorem Passes.registers_of_window {p q : Passes} (h : p.window = q.window) : p.registers = q.registers :=
  congrArg (fun w : BitVec 32 × BitVec 32 × Nat × Nat × Nat × Nat × Nat × BitVec 32 × BitVec 32 =>
    (w.2.2.2.2.1, w.1, w.2.1, w.2.2.1, w.2.2.2.1)) h

/-- A cycle whose passes ended and agree: its images are faulted, too late or handed over. -/
theorem State.completeCycle_agrees (r : PassResult) (s : State) (hs : s.passes.split = false) (hrun : s.rt.passesRunning = true)
    (hc : s.rt.cycling = true) (h : s.passes.windowActive ≤ s.passes.position + 1 → s.passes.sigPlain = s.passes.sigShadow) :
    (s.completeCycle r).passes.registers = (s.windowed r).passes.registers ∧ (s.completeCycle r).rt.passesRunning = false ∧
      (∀ c a, s.outputImages = .inl (c, a) → State.Faulted c (s.completeCycle r)) ∧
      ∀ p q, s.outputImages = .inr (p, q) →
        ((s.completeCycle r).rt.leMark = true ∧ (s.completeCycle r).rt.stallCount = 0 ∧ (s.completeCycle r).rt.state = s.rt.state) ∧
          (s.pastDeadline = false → { tag := s.rt.passTag, plain := p, shadow := q } ∈ (s.completeCycle r).field.images ∧
            (s.completeCycle r).rt.overrunCount = s.rt.overrunCount) ∧
          (s.pastDeadline = true → (s.completeCycle r).field.images = s.field.images ∧
            (s.completeCycle r).rt.overrunCount = sat32 (s.rt.overrunCount + 1)) := by
  have hlive : (s.passTimes r).passes.split = false := hs
  obtain ⟨hmoved, hsplit, -⟩ := s.windowed_agrees r h
  have himages := s.outputImages_of_window (s.windowed r).passes (s.windowed r).rt.passTimeMax hsplit
  rw [← hmoved] at himages
  have hrun' : (s.windowed r).rt.passesRunning = true := by rw [hmoved]; exact hrun
  have hc' : (s.windowed r).rt.cycling = true := by rw [hmoved]; exact hc
  have htag : (s.windowed r).rt.passTag = s.rt.passTag := by rw [hmoved]
  have hstate : (s.windowed r).rt.state = s.rt.state := by rw [hmoved]
  have hover : (s.windowed r).rt.overrunCount = s.rt.overrunCount := by rw [hmoved]
  have hfield : (s.windowed r).field = s.field := by rw [hmoved]
  have hlate : (s.windowed r).pastDeadline = s.pastDeadline := by rw [hmoved]; rfl
  have heq : s.completeCycle r = match s.outputImages with
      | .inl (cause, address) => (s.windowed r).passFault cause address
      | .inr (plain, shadow) => if s.pastDeadline then (s.windowed r).overrun else (s.windowed r).handImages plain shadow := by
    unfold State.completeCycle
    dsimp only
    rw [hlive]
    change (if (!(s.windowed r).rt.passesRunning) = true then s.windowed r else match (s.windowed r).outputImages with
      | .inl (cause, address) => (s.windowed r).passFault cause address
      | .inr (plain, shadow) =>
        if (s.windowed r).pastDeadline then (s.windowed r).overrun else (s.windowed r).handImages plain shadow) = _
    rw [hrun', himages, hlate]
    rfl
  rw [heq]
  generalize s.windowed r = t at *
  rcases s.outputImages with ⟨cause, address⟩ | ⟨plain, shadow⟩
  · have hfault := t.passFault_faulted cause address hc'
    refine ⟨Passes.registers_of_window (t.passFault_passes cause address).1, hfault.stopped, fun c a h => ?_, fun p q h => by simp at h⟩
    obtain ⟨rfl, rfl⟩ : cause = c ∧ address = a := by simpa using h
    exact hfault
  · dsimp only
    cases s.pastDeadline with
    | true =>
      obtain ⟨hend, hkept, hcount⟩ := t.overrun_late hc'
      refine ⟨by simp, hend.stopped, fun c a h => by simp at h, fun p q _ =>
        ⟨⟨hend.mark, hend.stall, hend.state.trans hstate⟩, fun h => by simp at h, fun _ => ⟨hkept.trans ?_, hcount.trans ?_⟩⟩⟩
      · rw [hfield]
      · rw [hover]
    | false =>
      obtain ⟨hend, hin, hcount⟩ := t.handImages_handed plain shadow hc'
      refine ⟨by simp, hend.stopped, fun c a h => by simp at h, fun p q h =>
        ⟨⟨hend.mark, hend.stall, hend.state.trans hstate⟩, fun _ => ⟨?_, hcount.trans hover⟩, fun h => by simp at h⟩⟩
      obtain ⟨rfl, rfl⟩ : plain = p ∧ shadow = q := by simpa using h
      rw [← htag]
      exact hin

/-! ### The hand-over as a whole -/

theorem State.runPasses_rest (r : PassResult) (s : State) :
    (s.runPasses r).1.lib = s.lib ∧ (s.runPasses r).1.clock = s.clock ∧ (s.runPasses r).1.service = s.service := by
  have hp : (s.plainPass r true).1.lib = s.lib ∧ (s.plainPass r true).1.clock = s.clock ∧
      (s.plainPass r true).1.service = s.service := by simp
  unfold State.runPasses
  generalize s.plainPass r true = p at *
  obtain ⟨t, _ | e⟩ := p
  · have hq : (t.shadowPass r true).1.lib = t.lib ∧ (t.shadowPass r true).1.clock = t.clock ∧
        (t.shadowPass r true).1.service = t.service := by simp
    exact ⟨hq.1.trans hp.1, hq.2.1.trans hp.2.1, hq.2.2.trans hp.2.2⟩
  · exact hp

theorem State.pastDeadline_eq {s t : State} (hc : t.clock = s.clock) (hs : t.service = s.service) (ht : t.rt.passTag = s.rt.passTag)
    (hu : t.rt.cycleUs = s.rt.cycleUs) : t.pastDeadline = s.pastDeadline := by
  unfold State.pastDeadline State.now
  rw [hc, hs, ht, hu]

/-- Whatever ends the passes, of the library only the cycle's own evaluation changes anything. -/
theorem State.handOver_lib (r : PassResult) (s : State) (hstart : s.passesStarted = true) (hs : s.passes.split = false)
    (hh : s.service.haltArmed = false ∨ r.reachesHalt = false) : (s.handOver r).lib = s.evaluatedCycle.lib := by
  obtain ⟨hstop, hend⟩ := s.handOver_runs r hstart hs hh
  have hlib := (s.evaluatedCycle.runPasses_rest r).1
  generalize s.evaluatedCycle.runPasses r = p at *
  obtain ⟨t, _ | e⟩ := p
  · rw [hend rfl]
    simpa using hlib
  · rw [hstop e rfl]
    simpa using hlib

theorem State.handOver_keeps (r : PassResult) (s : State) (hc : s.rt.cycling = true) (hl : (s.handOver r).lib = s.evaluatedCycle.lib) :
    State.keeps [.rt, .otp, .passes, .le, .xch, .field, .glint, .images, .store, .dict, .zop, .mirror, .modbus, .service, .ledger,
      .freeCount] s.evaluatedCycle (s.handOver r) := by
  have hboot : (s.handOver r).boot.MayBe s.boot s.rt.cycling := by simp
  have hkept := hboot.1 hc
  intro p hp
  cases p <;> simp_all [State.agrees]

/-- A coded word that fails its check takes the fault line, with no fold left over (R189, R198). -/
theorem State.stopPass_trap (off : Nat) (s : State) (hc : s.rt.cycling = true) :
    State.Faulted 0x0403 (State.stopPass (.trap off) s.endFolds) ∧
      (State.stopPass (.trap off) s.endFolds).passes.codedTrap = true ∧
      (State.stopPass (.trap off) s.endFolds).passes.registers = (s.passes.position, s.passes.sigPlain, s.passes.sigShadow, 0, 0) := by
  obtain ⟨hwindow, -, htrap, -⟩ := s.endFolds.passFault_passes 0x0403 off
  exact ⟨State.passFault_faulted 0x0403 off s.endFolds hc, htrap, Passes.registers_of_window hwindow⟩

theorem Passes.registers_eq {p : Passes} {n k l : Nat} {a b : BitVec 32} (h : p.registers = (n, a, b, k, l)) :
    p.position = n ∧ p.sigPlain = a ∧ p.sigShadow = b ∧ p.plainFolds = k ∧ p.shadowFolds = l := by
  simpa [Passes.registers] using h

/-- Settles O19: the passes by `State.runPasses_runs` and `State.runPasses_writes`, a stop by `State.handOver_runs`, and the end of the cycle by
`State.windowed_differs` and `State.completeCycle_agrees`. -/
theorem handOverEndsThePasses : Obligations.HandOverEndsThePasses := by
  unfold Obligations.HandOverEndsThePasses
  refine ⟨fun dt r s hp => ?_, fun dt r s hr hb => ?_, fun dt r s hp hc hstart hs hh => ?_⟩
  · have hoff : (s.elapse dt).passesStarted = false := by simp [State.passesStarted, hp]
    exact congrArg done ((s.elapse dt).handOver_waits r hoff)
  · have hoff : (s.elapse dt).passesStarted = false := by
      have hsoon : ¬ ((s.elapse dt).rt.passTag + us 10 + (s.elapse dt).commitTicks ≤ (s.elapse dt).now) :=
        not_le.mpr (lt_of_lt_of_le hb (Int.le_add_of_nonneg_right (Int.natCast_nonneg _)))
      simp [State.passesStarted, hr, -State.elapse_rt, decide_eq_false hsoon]
    exact congrArg done ((s.elapse dt).handOver_waits r hoff)
  intro u v run w stop z isFolded native coded decoded ends
  have hon : u.passesStarted = true := by
    simp only [State.passesStarted, Bool.and_eq_true, Bool.or_eq_true, decide_eq_true_eq]
    exact ⟨hp, hstart⟩
  have hv : v = u.evaluatedCycle := rfl
  have hrt : v.rt = { s.rt with libDone := true } := u.evaluatedCycle_rt
  have himages : v.images = s.images := by simp [hv, u]
  have hfield : v.field = s.field := by simp [hv, u]
  have hbytes : v.stateBytes = s.stateBytes := State.stateBytes_images himages
  have hcourse : v.passes.course = s.passes.course := u.evaluatedCycle_course
  simp only [Passes.course, Prod.mk.injEq] at hcourse
  obtain ⟨hsplit, hposition, hactive, hcount⟩ := hcourse
  have hlive : v.passes.split = false := hsplit.trans hs
  have hcv : v.rt.cycling = true := by rw [hrt]; exact hc
  have hboth : v.BothRun run := v.runPasses_runs r hlive
  have hcw : w.rt.cycling = true := hboth.cycling.trans hcv
  have hwcourse : w.passes.course = v.passes.course := hboth.course
  simp only [Passes.course, Prod.mk.injEq] at hwcourse
  obtain ⟨hwsplit, hwposition, hwactive, hwcount⟩ := hwcourse
  obtain ⟨hstopped, hended⟩ := u.handOver_runs r hon hs hh
  have hlib := u.handOver_lib r hon hs hh
  have hboot : (u.handOver r).boot.MayBe u.boot u.rt.cycling := by simp
  have hends : z.passes.windowActive ≤ z.passes.position + 1 ↔ ends := by
    change w.passes.windowActive ≤ w.passes.position + 1 ↔ s.passes.windowActive ≤ s.passes.position + 1
    rw [hwactive, hwposition, hactive, hposition]
  have hzsplit : z.passes.split = false := hwsplit.trans hlive
  refine ⟨u.handOver r, rfl, fun hi hn => ?_, fun hi hn => ?_, fun off htrap => ?_, fun hviol => ?_, fun hn hend hdiffer => ?_,
    fun hn hagree => ?_, by simp, by simp, by simp, by simp, hboot.1 hc, by simp, u.handOver_keeps r hc hlib⟩
  · have h := (v.runPasses_writes r hi hlive).1 hn
    rw [himages, hbytes, hrt] at h
    exact h
  · have h := (v.runPasses_writes r hi hlive).2 hn
    rw [himages] at h
    exact h
  · rw [hstopped (.trap off) htrap]
    obtain ⟨hfault, hcoded, hregs⟩ := w.stopPass_trap off hcw
    obtain ⟨-, hsig, -, hplain, hshadow⟩ := Passes.registers_eq hregs
    exact ⟨hfault.waits, hcoded, hfault.line, hfault.images, hfault.stopped, hsig, hplain, hshadow, hfault.banks⟩
  · rw [hstopped .violation hviol]
    obtain ⟨hcaptured, hline, hnone, hend⟩ := hboth.stops hviol hcv
    exact ⟨hcaptured, hline, hnone, hend, rfl, rfl⟩
  · obtain ⟨hfault, hmismatch, hcompared, hplain, hshadow⟩ := z.windowed_differs r (hends.mpr hend) hdiffer hcw
    have hover : u.handOver r = z.windowed r := (hended hn).trans (z.completeCycle_differs r hzsplit hfault.stopped)
    rw [hover]
    refine ⟨hfault.waits, hmismatch, hcompared.trans ?_, hplain, hshadow, hfault.images, hfault.stopped, hfault.banks⟩
    rw [show z.passes.compareCount = s.passes.compareCount from hwcount.trans hcount]
  · obtain ⟨hrw, hfw⟩ := hboth.goes (by rw [show run.2 = none from hn]; simp)
    have hrz : z.rt = { s.rt with libDone := true } := hrw.trans hrt
    have hfz : z.field = s.field := hfw.trans hfield
    have hlate : z.pastDeadline = u.pastDeadline := by
      obtain ⟨-, hclock, hservice⟩ := v.runPasses_rest r
      have hclockz : z.clock = u.clock := hclock.trans (by simp [hv])
      have hservicez : z.service = u.service := hservice.trans (by simp [hv])
      exact State.pastDeadline_eq hclockz hservicez (by rw [hrz]; rfl) (by rw [hrz]; rfl)
    have hagreez : z.passes.windowActive ≤ z.passes.position + 1 → z.passes.sigPlain = z.passes.sigShadow := fun h => hagree (hends.mp h)
    obtain ⟨-, -, hpos, hsig, hsig', hfolds, hfolds'⟩ := z.windowed_agrees r hagreez
    obtain ⟨hregs, hstop, hfault, himage⟩ := z.completeCycle_agrees r hzsplit (by rw [hrz]; exact hp) hcw hagreez
    obtain ⟨hplainFolds, hshadowFolds⟩ := hboth.ended hn
    obtain ⟨hpos', hplain, hshadow, hfp, hfs⟩ := Passes.registers_eq hregs
    simp only [hends] at hpos hsig hsig'
    have hover : u.handOver r = z.completeCycle r := hended hn
    rw [hover]
    rw [hlate, hrz, hfz] at himage
    refine ⟨?_, hplain.trans hsig, hshadow.trans hsig', (hfp.trans hfolds).trans hplainFolds, (hfs.trans hfolds').trans hshadowFolds, hstop,
      fun c a h => ⟨(hfault c a h).waits, (hfault c a h).images, (hfault c a h).line⟩, fun p q h => ?_⟩
    · rw [show z.passes.position = s.passes.position from hwposition.trans hposition] at hpos
      exact hpos'.trans hpos
    · obtain ⟨⟨hmark, hstall, hstate⟩, hintime, hpast⟩ := himage p q h
      exact ⟨hmark, hstall, hstate, hintime, hpast⟩

end Sys2Proof.Machine

namespace Sys2Proof.Machine

/-! ### Time that has passed -/

@[simp] theorem State.passed_us (s : State) (a n : Nat) : s.passed a (us n) = true ↔ a + 100 * n ≤ s.localNow := decide_eq_true_iff

@[simp] theorem State.not_passed_us (s : State) (a n : Nat) : s.passed a (us n) = false ↔ s.localNow < a + 100 * n :=
  decide_eq_false_iff_not.trans Nat.not_le

@[simp] theorem State.passed_ms (s : State) (a n : Nat) : s.passed a (ms n) = true ↔ a + 100000 * n ≤ s.localNow := decide_eq_true_iff

@[simp] theorem State.not_passed_ms (s : State) (a n : Nat) : s.passed a (ms n) = false ↔ s.localNow < a + 100000 * n :=
  decide_eq_false_iff_not.trans Nat.not_le

end Sys2Proof.Machine

namespace Sys2Proof.Machine

/-! ### An entry qualifies (R56, R57, R63) -/

theorem exec_entryQualified (dt mv : Nat) (x : EntrySample) (s : State) :
    exec (.entryQualified dt x mv) s = .next ((s.elapse dt).qualify x.entry x mv) := rfl

theorem State.qualifies_iff (e : Entry) (x : EntrySample) (s : State) : s.qualifies e x = true ↔
    (e = .mains → if s.power.mainsOver then x.halfCycleEnd = true ∧ 115 < x.peak ∧ x.peak ≤ 470 else 115000 < x.mv) ∧
      (e = .aux → 17500 ≤ x.mv ∧ x.mv ≤ 32500 ∧ 100000 ≤ x.held) := by
  cases e
  · cases h : s.power.mainsOver <;> simp [State.qualifies, h, and_assoc]
  · simp [State.qualifies, ms, and_assoc]

theorem State.qualify_refused (e : Entry) (x : EntrySample) (mv : Nat) (s : State)
    (h : s.qualifies e x = false ∨ e = .mains ∧ s.noMains = true) : s.qualify e x mv = s := by
  unfold State.qualify
  rw [if_pos]
  rcases h with h | ⟨rfl, h⟩ <;> simp [h]

@[simp] theorem Entry.mains_beq_aux : (Entry.mains == Entry.aux) = false := rfl
@[simp] theorem Entry.aux_beq_mains : (Entry.aux == Entry.mains) = false := rfl

/-- The state in which entry `e` counts as qualified, before the warning is looked at. -/
def State.entryGained (e : Entry) (mv : Nat) (s : State) : State :=
  State.storeAt mv { s with power := { s.power with
    mainsOk := s.power.mainsOk || e == .mains
    auxOk := s.power.auxOk || e == .aux
    mainsOver := s.power.mainsOver && e == .aux
    lostAt := none } }

theorem State.qualify_accepted (e : Entry) (x : EntrySample) (mv : Nat) (s : State) (h : s.qualifies e x = true)
    (hm : e = .mains → s.noMains = false) : s.qualify e x mv = (s.entryGained e mv).clearWarning := by
  have hv : (e == .mains && s.noMains) = false := by cases e <;> simp_all
  unfold State.qualify
  rw [if_neg (by simp [h, hv])]
  cases e <;> simp [State.entryGained]

/-- With an entry qualified the charger takes the mains entry first, and fills the store below 40 V (R57). -/
theorem State.storeAt_power (mv : Nat) (s : State) (h : s.entryOk = true) : (s.storeAt mv).power = { s.power with
    holdupMv := mv
    chargeFrom := some (if s.power.mainsOk then .mains else .aux)
    auxLimitMa := if s.power.mainsOk && s.power.auxOk then some 50 else none
    charger := if s.power.pause.isSome then .heldOff else if 40000 ≤ mv then .holding else .filling } := by
  have hok : (s.power.mainsOk || s.power.auxOk) = true := h
  cases hm : s.power.mainsOk <;> simp_all [State.storeAt, State.charge, State.entryOk]

theorem State.countRide_power (s : State) : s.countRide.power = { s.power with
    rideCount := if s.store.ready then sat32 (s.power.rideCount + 1) else s.power.rideCount
    ridesEarly := if s.store.ready then s.power.ridesEarly else sat32 (s.power.ridesEarly + 1) } := by
  cases h : s.store.ready <;> simp [State.countRide, h]

theorem State.resumeWatchdog_boot (s : State) : s.resumeWatchdog.boot =
    if s.boot.watchdogPaused && !s.power.pfw && !s.boot.lockRetrying
    then { s.boot with watchdogSince := some s.localNow, watchdogPaused := false } else s.boot := by
  unfold State.resumeWatchdog
  split <;> rfl

theorem State.clearWarning_quiet (s : State) (h : s.power.pfw = false) : s.clearWarning = s := by
  simp [State.clearWarning, h]

theorem State.clearWarning_active (s : State) (h : s.power.pfw = true) :
    s.clearWarning = (State.countRide { s with power.pfw := false }).resumeGroup.resumeWatchdog := by
  simp [State.clearWarning, h]

theorem Power.eq_clear (p : Power) (h : p.pfw = false) : { p with pfw := false } = p := by
  rw [← h]

/-- The end of a warning counts one ride-through (R63). -/
theorem State.clearWarning_power (s : State) : s.clearWarning.power = { s.power with
    pfw := false
    rideCount := if s.power.pfw && s.store.ready then min (s.power.rideCount + 1) 0xFFFFFFFF else s.power.rideCount
    ridesEarly := if s.power.pfw && !s.store.ready then min (s.power.ridesEarly + 1) 0xFFFFFFFF else s.power.ridesEarly } := by
  cases hp : s.power.pfw
  · rw [s.clearWarning_quiet hp]
    simp [Power.eq_clear _ hp]
  · cases hs : s.store.ready <;> simp [s.clearWarning_active hp, State.countRide_power, hs, sat32]

theorem State.resumeGroup_boot (s : State) : s.resumeGroup.boot = match s.boot.step with
    | .bist g => if s.keepsRegion g = true ∧ s.boot.groupAt ≤ s.power.rideSince then s.boot
      else { s.boot with groupAt := max s.boot.groupAt s.localNow }
    | _ => s.boot := by
  unfold State.resumeGroup
  cases s.boot.step with
  | bist g =>
    simp only [Bool.and_eq_true, decide_eq_true_eq]
    split <;> rfl
  | _ => rfl

theorem State.resumeGroup_watchdog (s : State) : s.resumeGroup.boot.watchdogPaused = s.boot.watchdogPaused ∧
    s.resumeGroup.boot.lockRetrying = s.boot.lockRetrying := by
  unfold State.resumeGroup
  (repeat' split) <;> exact ⟨rfl, rfl⟩

theorem State.keepsRegion_congr {s t : State} (hb : t.boot = s.boot) (g : Nat) : t.keepsRegion g = s.keepsRegion g := by
  rw [State.keepsRegion, State.keepsRegion, hb]

theorem State.resumeGroup_congr {s t : State} (hb : t.boot = s.boot) (hr : t.power.rideSince = s.power.rideSince)
    (hl : t.localNow = s.localNow) : t.resumeGroup.boot = s.resumeGroup.boot := by
  rw [State.resumeGroup_boot, State.resumeGroup_boot, hb, hr, hl]
  split
  · rw [State.keepsRegion_congr hb]
  · rfl

/-- The end of a warning lets the group of the start and the boot watchdog go on (R86, R121, R142). -/
theorem State.clearWarning_boot (s : State) (h : s.power.pfw = true) :
    s.clearWarning.boot = if s.boot.watchdogPaused && !s.boot.lockRetrying
      then { s.resumeGroup.boot with watchdogSince := some s.localNow, watchdogPaused := false } else s.resumeGroup.boot := by
  have hg : (State.countRide { s with power.pfw := false }).resumeGroup.boot = s.resumeGroup.boot :=
    State.resumeGroup_congr (by simp) (by simp [State.countRide_power]) (by simp [State.localNow])
  rw [s.clearWarning_active h, State.resumeWatchdog_boot, hg, s.resumeGroup_watchdog.1, s.resumeGroup_watchdog.2]
  simp [State.countRide_power, State.localNow]

theorem State.entryGained_power (e : Entry) (mv : Nat) (s : State) :
    let mains := s.power.mainsOk || e == .mains
    let aux := s.power.auxOk || e == .aux
    (s.entryGained e mv).power = { s.power with
      mainsOk := mains
      auxOk := aux
      mainsOver := s.power.mainsOver && e == .aux
      charger := if s.power.pause.isSome then .heldOff else if 40000 ≤ mv then .holding else .filling
      chargeFrom := some (if mains then .mains else .aux)
      auxLimitMa := if mains && aux then some 50 else none
      lostAt := none
      holdupMv := mv } := by
  refine State.storeAt_power mv _ ?_
  cases e <;> simp [State.entryOk]

/-- Settles O1: an accepted entry ends the warning in `State.entryGained`, a refused one changes nothing. -/
theorem entryQualifies : Obligations.EntryQualifies := by
  unfold Obligations.EntryQualifies
  intro dt mv x s
  have hq := State.qualifies_iff x.entry x (s.elapse dt)
  refine ⟨fun hmet hm => ⟨_, exec_entryQualified dt mv x s, ?_⟩, fun h => ?_⟩
  · rw [State.qualify_accepted _ _ _ _ (hq.mpr hmet) hm]
    refine ⟨?_, ?_, ?_, ?_⟩
    · rw [State.clearWarning_power, State.entryGained_power]
      rfl
    · intro hp
      rw [State.clearWarning_quiet ((s.elapse dt).entryGained x.entry mv) hp]
      exact ⟨rfl, rfl⟩
    · intro hp
      refine (State.clearWarning_boot ((s.elapse dt).entryGained x.entry mv) hp).trans ?_
      rw [State.resumeGroup_boot]
      rfl
    · intro p hp
      cases p <;> simp_all [State.agrees, State.entryGained]
  · rw [exec_entryQualified, State.qualify_refused]
    exact h.imp_left fun hn => by simpa using mt hq.mp hn

end Sys2Proof.Machine

namespace Sys2Proof.Machine

/-! ### An entry is lost, and the warning is raised (R56, R57, R61, R62) -/

theorem exec_entryDisqualified (dt : Nat) (x : EntrySample) (s : State) :
    exec (.entryDisqualified dt x) s = .next ((s.elapse dt).disqualify x.entry x) := rfl

theorem exec_powerFailWarning (dt : Nat) (s : State) : exec (.powerFailWarning dt) s = .next (s.elapse dt).raiseWarning := rfl

theorem disqualifies_iff (e : Entry) (x : EntrySample) : disqualifies e x = true ↔
    (e = .mains → x.mv < 20000 ∧ 150000 ≤ x.held ∨ x.halfCycleEnd = true ∧ x.peak < 100 ∧ x.before < 100 ∨
      x.halfCycleEnd = true ∧ 470 < x.peak ∧ 470 < x.before) ∧
    (e = .aux → (x.mv < 16500 ∨ 33000 < x.mv) ∧ 5000 ≤ x.held) := by
  cases e <;> simp [disqualifies, overPeaks, show us 1500 = 150000 from rfl, show us 50 = 5000 from rfl, and_assoc, or_assoc]

/-- Entry `e` is qualified. -/
def Power.entryIs (e : Entry) (p : Power) : Bool := match e with | .mains => p.mainsOk | .aux => p.auxOk

/-- The state in which entry `e` no longer counts as qualified: a measuring pause has ended and the charger follows the entry left. -/
def State.entryLost (e : Entry) (x : EntrySample) (s : State) : State :=
  State.charge { s with power := { s.power with
    pause := none
    mainsOk := s.power.mainsOk && e == .aux
    auxOk := s.power.auxOk && e == .mains
    mainsOver := if e = .mains then overPeaks x else s.power.mainsOver } }

theorem State.disqualify_ignored (e : Entry) (x : EntrySample) (s : State) (h : s.power.entryIs e = false ∨ disqualifies e x = false) :
    s.disqualify e x = s := by
  unfold State.disqualify
  exact if_pos (by cases e <;> rcases h with h | h <;> simp_all [Power.entryIs])

theorem State.disqualify_lost (e : Entry) (x : EntrySample) (s : State) (h : s.power.entryIs e = true) (hx : disqualifies e x = true) :
    s.disqualify e x =
      if (s.entryLost e x).entryOk then
        if s.power.logicOn then (s.entryLost e x).event 0x0106 [if e = .mains then 0 else 1] else s.entryLost e x
      else { s.entryLost e x with power.lostAt := some s.localNow } := by
  unfold State.disqualify
  rw [if_neg (by cases e <;> simp_all [Power.entryIs])]
  cases e <;> simp [State.entryLost] <;> rfl

/-- The entry that is left when `e` is lost. -/
def otherEntry : Entry → Entry
  | .mains => .aux
  | .aux => .mains

theorem Power.entryIs_other (e : Entry) (p : Power) :
    p.entryIs (otherEntry e) = match e with | .mains => p.auxOk | .aux => p.mainsOk := by
  cases e <;> rfl

/-- With the other entry left the charger takes it (R57). -/
theorem State.entryLost_one (e : Entry) (x : EntrySample) (s : State) (h : s.power.entryIs (otherEntry e) = true) :
    s.entryLost e x = { s with power := { s.power with
      pause := none
      mainsOver := if e = .mains then overPeaks x else s.power.mainsOver
      auxLimitMa := none
      mainsOk := e == .aux
      auxOk := e == .mains
      charger := if 40000 ≤ s.power.holdupMv then .holding else .filling
      chargeFrom := some (if e = .mains then .aux else .mains) } } := by
  cases e <;> simp_all [State.entryLost, State.charge, State.entryOk, Power.entryIs, otherEntry]

/-- With none left the charger is off (R57). -/
theorem State.entryLost_last (e : Entry) (x : EntrySample) (s : State) (h : s.power.entryIs (otherEntry e) = false) :
    s.entryLost e x = { s with power := { s.power with
      pause := none
      mainsOver := if e = .mains then overPeaks x else s.power.mainsOver
      auxLimitMa := none
      mainsOk := false
      auxOk := false
      charger := .off
      chargeFrom := none } } := by
  cases e <;> simp_all [State.entryLost, State.charge, State.entryOk, Power.entryIs, otherEntry]

theorem State.entryLost_entryOk (e : Entry) (x : EntrySample) (s : State) :
    (s.entryLost e x).entryOk = s.power.entryIs (otherEntry e) := by
  cases e <;> simp [State.entryLost, State.charge, State.entryOk, Power.entryIs, otherEntry]

/-- The loss of one of two entries is event 0x0106, recorded with the logic on (R61). -/
theorem State.disqualify_one (e : Entry) (x : EntrySample) (s : State) (h : s.power.entryIs e = true) (hx : disqualifies e x = true)
    (hl : s.power.entryIs (otherEntry e) = true) : s.disqualify e x =
      if s.power.logicOn then (s.entryLost e x).event 0x0106 [if e = .mains then 0 else 1] else s.entryLost e x := by
  rw [s.disqualify_lost e x h hx, if_pos (by rw [State.entryLost_entryOk, hl])]

/-- The loss of the last one starts the time to the warning (R61). -/
theorem State.disqualify_last (e : Entry) (x : EntrySample) (s : State) (h : s.power.entryIs e = true) (hx : disqualifies e x = true)
    (hl : s.power.entryIs (otherEntry e) = false) : s.disqualify e x = { s.entryLost e x with power.lostAt := some s.localNow } := by
  rw [s.disqualify_lost e x h hx, if_neg (by rw [State.entryLost_entryOk, hl]; exact Bool.false_ne_true)]

/-- The warning is raised once the delay has passed (R61). -/
theorem State.raiseWarning_early (t0 : Nat) (s : State) (h0 : s.power.lostAt = some t0) (h : s.localNow < t0 + 10000) :
    s.raiseWarning = s := by
  have hp : s.passed t0 (us 100) = false := (s.not_passed_us t0 100).mpr h
  simp [State.raiseWarning, h0, hp]

theorem State.closeGate_power (s : State) : s.closeGate.power = { s.power with gateClosed := true } := by
  unfold State.closeGate
  split
  · rename_i h
    rw [← h]
  · simp

/-- The warning is up and the gate closed (R61, R62). -/
def State.warned (s : State) : State := State.closeGate { s with power.pfw := true, power.rideSince := s.localNow }

/-- A burning command pauses with the gate (R175). -/
def State.pauseBurn (s : State) : State :=
  match s.otp.running with
  | some run => { s with otp.opStatus := 0x02, otp.running := some (run.pause s.localNow) }
  | none => s

theorem State.raiseWarning_due (t0 : Nat) (s : State) (h0 : s.power.lostAt = some t0) (hl : s.power.logicOn = true)
    (hp : s.power.pfw = false) (he : s.entryOk = false) (h : t0 + 10000 ≤ s.localNow) :
    s.raiseWarning = if s.warned.pauseBurn.savingGroup then s.warned.pauseBurn else s.warned.pauseBurn.pauseWatchdog := by
  have ht : s.passed t0 (us 100) = true := (s.passed_us t0 100).mpr h
  unfold State.raiseWarning
  split
  · simp_all
  · obtain rfl : _ = t0 := Option.some.inj (‹s.power.lostAt = _›.symm.trans h0)
    exact if_pos (by simp [hl, hp, he, ht])

@[simp] theorem State.warned_frame (s : State) : State.Frame s s.warned (power := Barely) (store := Free) (freeCount := Free) := by
  simp [State.warned]

theorem State.warned_power (s : State) :
    s.warned.power = { s.power with pfw := true, rideSince := s.localNow, gateClosed := true } := State.closeGate_power _

@[simp] theorem State.pauseBurn_frame (s : State) : State.Frame s s.pauseBurn (otp := Free) := by
  unfold State.pauseBurn
  split <;> simp

theorem State.pauseBurn_otp (s : State) : s.pauseBurn.otp = match s.otp.running with
    | some run => { s.otp with opStatus := 0x02, running := some (run.pause s.localNow) }
    | none => s.otp := by
  unfold State.pauseBurn
  cases s.otp.running <;> rfl

theorem State.pauseWatchdog_boot (s : State) : s.pauseWatchdog.boot = match s.boot.watchdogSince with
    | some w => { s.boot with watchdogRun := s.boot.watchdogRun + (s.localNow - w), watchdogSince := none, watchdogPaused := true }
    | none => s.boot := by
  unfold State.pauseWatchdog
  cases s.boot.watchdogSince <;> rfl

theorem State.savingGroup_congr {s t : State} (hb : t.boot = s.boot) (hl : t.localNow = s.localNow) : t.savingGroup = s.savingGroup := by
  simp only [State.savingGroup, State.keepsRegion, hb, hl]

/-- The warning raised (R61, R62, R142, R175). -/
theorem State.raiseWarning_raised (t0 : Nat) (s : State) (h0 : s.power.lostAt = some t0) (hl : s.power.logicOn = true)
    (hp : s.power.pfw = false) (he : s.entryOk = false) (h : t0 + 10000 ≤ s.localNow) :
    let t := s.raiseWarning
    t.power = { s.power with pfw := true, rideSince := s.localNow, gateClosed := true } ∧
      t.otp = s.pauseBurn.otp ∧ (s.savingGroup = true → t.boot = s.boot) ∧
      (s.savingGroup = false → t.boot = s.pauseWatchdog.boot) := by
  have hboot : s.warned.pauseBurn.boot = s.boot := by simp
  have hclock : s.warned.pauseBurn.localNow = s.localNow := by simp [State.localNow]
  have hotp : s.warned.pauseBurn.otp = s.pauseBurn.otp := by
    simp [State.pauseBurn_otp, State.localNow]
  have hsave := State.savingGroup_congr hboot hclock
  dsimp only
  rw [s.raiseWarning_due t0 h0 hl hp he h, hsave]
  refine ⟨?_, ?_, fun hs => ?_, fun hs => ?_⟩
  · simp [State.warned_power]
  · simp [hotp]
  · rw [if_pos hs, hboot]
  · rw [if_neg (by simp [hs]), State.pauseWatchdog_boot, State.pauseWatchdog_boot, hboot, hclock]

/-- Settles O2: the loss by whether the other entry is left, the warning by whether its delay has passed. -/
theorem lostEntryRaisesWarning : Obligations.LostEntryRaisesWarning := by
  unfold Obligations.LostEntryRaisesWarning
  refine ⟨fun dt x s => ?_, fun dt t0 s h0 hl hp hm ha => ⟨fun h => ?_, fun h => ?_⟩⟩
  · have hx := disqualifies_iff x.entry x
    have hother := (s.elapse dt).power.entryIs_other x.entry
    refine ⟨fun hwas hmet hleft => ?_, fun hwas hmet hleft => ?_, fun h => ?_⟩
    · have hl := hother.trans hleft
      have he := State.disqualify_one x.entry x (s.elapse dt) hwas (hx.mpr hmet) hl
      rw [State.entryLost_one _ _ _ hl] at he
      refine ⟨fun hon => ⟨_, ?_, State.event_onlyLogs _ _ _, State.event_logs _ _ _ (by simp)⟩, fun hoff => ?_⟩
      · exact (exec_entryDisqualified dt x s).trans (congrArg _ (he.trans (if_pos hon)))
      · exact (exec_entryDisqualified dt x s).trans (congrArg _ (he.trans (if_neg (by simp [hoff]))))
    · have hl := hother.trans hleft
      rw [exec_entryDisqualified, State.disqualify_last x.entry x (s.elapse dt) hwas (hx.mpr hmet) hl, State.entryLost_last _ _ _ hl]
      rfl
    · rw [exec_entryDisqualified, State.disqualify_ignored]
      exact h.imp id fun hn => by simpa using mt hx.mp hn
  · obtain ⟨hpower, hotp, hsaving, hother⟩ := State.raiseWarning_raised t0 (s.elapse dt) h0 hl hp (by simp [State.entryOk, hm, ha]) h
    refine ⟨_, exec_powerFailWarning dt s, hpower, ?_, hsaving, fun hs => ?_, ?_⟩
    · exact hotp.trans (State.pauseBurn_otp _)
    · exact (hother hs).trans (State.pauseWatchdog_boot _)
    · intro p hp
      cases p <;> simp_all [State.agrees]
  · rw [exec_powerFailWarning, State.raiseWarning_early t0 (s.elapse dt) h0 h]

end Sys2Proof.Machine

namespace Sys2Proof.Machine

/-! ### The end of a ride-through (R63, R65, R66) -/

theorem exec_rideThroughEnd (dt mv : Nat) (s : State) : exec (.rideThroughEnd dt mv) s = .next ((s.elapse dt).rideThroughEnd mv) := rfl

theorem State.rideThroughEnd_over (mv : Nat) (s : State) (hp : s.power.pfw = true)
    (h : s.power.rideSince + 100 * s.pfRidethrough ≤ s.localNow ∨ mv < 22000) :
    s.rideThroughEnd mv = (State.powerFailShutdown { s with power.holdupMv := mv }).charge := by
  unfold State.rideThroughEnd
  exact if_pos (by simpa [hp] using h)

theorem State.rideThroughEnd_goesOn (mv : Nat) (s : State) (h : s.power.pfw = false ∨
    s.localNow < s.power.rideSince + 100 * s.pfRidethrough ∧ 22000 ≤ mv) : s.rideThroughEnd mv = s := by
  unfold State.rideThroughEnd
  refine if_neg ?_
  rcases h with h | ⟨hr, hv⟩
  · simp [h]
  · simp [Nat.not_le.mpr hr, Nat.not_lt.mpr hv]

theorem Store.place_ledger {a : Area} {units : Nat} {st st' : Store} (h : st.place a units = some st') : st'.ledger = st.ledger := by
  unfold Store.place at h
  dsimp only at h
  (repeat' split at h) <;> cases h <;> exact Store.modArea_ledger ..

@[simp] theorem State.abandonRecord_ledgerRows (cut : Bool) (s : State) : (s.abandonRecord cut).store.ledger = s.store.ledger := by
  unfold State.abandonRecord
  split
  · rfl
  · dsimp only
    split
    · rfl
    · rename_i h
      refine iteInduction (motive := fun t : State => t.store.ledger = s.store.ledger) (fun _ => rfl) fun _ => ?_
      have hplace := Store.place_ledger h
      exact (Store.modArea_ledger ..).trans hplace

/-- With the gate closed an erase in progress is suspended, so nothing cuts it short (R62, R397). -/
theorem State.abandonErase_suspended (s : State) (h : s.power.gateClosed = true) : s.abandonErase.store = s.store := by
  unfold State.abandonErase
  split
  · rfl
  · rename_i e he
    dsimp only
    rw [if_pos (by simp [State.eraseSuspended, State.drawFree, h, he])]
    rfl

theorem State.cutShort_store (warm : Bool) (s : State) :
    (s.cutShort warm).store = (s.abandonRecord true).abandonErase.store.afterReset := by
  simp [State.cutShort, State.loseVolatile]

theorem State.cutShort_ledgerRows (warm : Bool) (s : State) (h : s.power.gateClosed = true) :
    (s.cutShort warm).store.ledger = s.store.ledger := by
  rw [State.cutShort_store, Store.afterReset, State.abandonErase_suspended _ (by simpa using h), State.abandonRecord_ledgerRows]

/-- Off after the shutdown: no domain is on, no output is on, and the next start is cold (R65, R66). -/
theorem State.rideThroughEnd_off (mv : Nat) (s : State) (hp : s.power.pfw = true)
    (h : s.power.rideSince + 100 * s.pfRidethrough ≤ s.localNow ∨ mv < 22000) :
    let t := s.rideThroughEnd mv
    t.rt.state = .off ∧ t.power.logicOn = false ∧ t.power.domainCommand = 0 ∧ t.power.domainStatus = 0 ∧ t.power.pfw = false ∧
      t.power.gateClosed = false ∧ t.power.holdupMv = mv ∧ t.power.estimateMade = false ∧ t.power.pause = none ∧
      t.allOutputsOff ∧ t.store.queue = [] ∧ t.store.heldBack = [] ∧ t.boot.step = .idle ∧ t.boot.retained = {} ∧
      t.mirror.token = false ∧ t.ledger.ring = [] ∧ t.mirror.store = none ∧ t.le.flash = s.le.flash ∧
      (s.power.gateClosed = true → t.store.ledger = s.store.ledger) := by
  obtain ⟨-, -, -, -, -, -, -, hflash, hring, htoken, hsnapshot, -⟩ :=
    State.cutShort_keeps false (State.outputsOff { s with power.holdupMv := mv })
  have hoff := State.cutShort_allOutputsOff false (State.outputsOff { s with power.holdupMv := mv })
  have hstore := State.cutShort_store false (State.outputsOff { s with power.holdupMv := mv })
  have hrows := State.cutShort_ledgerRows false (State.outputsOff { s with power.holdupMv := mv })
  have hheld : ((State.outputsOff { s with power.holdupMv := mv }).cutShort false).power.holdupMv = mv := by
    simp [State.cutShort, State.loseVolatile]
  rw [State.rideThroughEnd_over mv s hp h]
  unfold State.powerFailShutdown State.charge
  generalize State.cutShort false _ = w at *
  refine ⟨rfl, rfl, rfl, rfl, rfl, rfl, hheld, rfl, rfl, hoff, ?_, ?_, rfl, rfl, htoken, congrArg Ledger.ring hring, hsnapshot, ?_, ?_⟩
  · exact congrArg Store.queue hstore
  · exact congrArg Store.heldBack hstore
  · exact hflash.trans (by simp)
  · exact fun hg => (hrows (by simpa using hg)).trans (by simp)

/-! ### The gate reopens (R64, R175) -/

theorem exec_gateReopen (dt mv : Nat) (s : State) : exec (.gateReopen dt mv) s = .next ((s.elapse dt).gateReopens mv) := rfl

/-- Held-back data in the order of R64: the latch, `RIDETHROUGH_COUNT`, event records, the rest. -/
def rankedRecords (l : List StoreRecord) : List StoreRecord :=
  let latch (r : StoreRecord) : Bool := r.type == 2
  let rides (r : StoreRecord) : Bool := r.type == 1 && 256 * leAt r.payload 0 2 + leAt r.payload 2 1 == 0x200007
  let event (r : StoreRecord) : Bool := r.type == 0x10
  l.filter latch ++ l.filter rides ++ l.filter event ++ l.filter (fun r => !latch r && !rides r && !event r)

theorem StoreRecord.rank_latch (r : StoreRecord) : (r.rank == 0) = (r.type == 2) := by
  unfold StoreRecord.rank
  split_ifs <;> simp_all

theorem StoreRecord.rank_rides (r : StoreRecord) :
    (r.rank == 1) = (r.type == 1 && 256 * leAt r.payload 0 2 + leAt r.payload 2 1 == 0x200007) := by
  unfold StoreRecord.rank
  split_ifs <;> simp_all [keyRideCount]

theorem StoreRecord.rank_event (r : StoreRecord) : (r.rank == 2) = (r.type == 0x10) := by
  unfold StoreRecord.rank
  split_ifs <;> simp_all

theorem StoreRecord.rank_rest (r : StoreRecord) : (r.rank == 3) =
    (!(r.type == 2) && !(r.type == 1 && 256 * leAt r.payload 0 2 + leAt r.payload 2 1 == 0x200007) && !(r.type == 0x10)) := by
  unfold StoreRecord.rank
  split_ifs <;> simp_all [keyRideCount, imp_iff_not_or]

theorem rankedRecords_eq (l : List StoreRecord) :
    [0, 1, 2, 3].flatMap (fun k => l.filter (fun r => r.rank == k)) = rankedRecords l := by
  simp [rankedRecords, StoreRecord.rank_latch, StoreRecord.rank_rides, StoreRecord.rank_event, StoreRecord.rank_rest]

theorem mem_rankedRecords (l : List StoreRecord) (r : StoreRecord) : r ∈ rankedRecords l ↔ r ∈ l := by
  simp only [rankedRecords, List.mem_append, List.mem_filter]
  cases r.type == 2 <;> cases r.type == 1 && 256 * leAt r.payload 0 2 + leAt r.payload 2 1 == 0x200007 <;> cases r.type == 0x10 <;> simp

/-- The burning command that the gate paused goes on (R175). -/
def State.resumeBurn (s : State) : State :=
  match s.otp.running with
  | some run => { s with otp.opStatus := 0x01, otp.running := some (run.resume s.localNow) }
  | none => s

theorem State.openGate_eq (s : State) :
    let ranked := rankedRecords s.store.heldBack
    let left := ranked.length + s.store.heldLeft
    s.openGate = { s with
      power := { s.power with gateClosed := false }
      store := { s.store with
        heldBack := [], queue := ranked ++ s.store.queue, heldLeft := left, deferred := if left = 0 then [] else s.store.deferred }
      le := { s.le with
        flash := if left = 0 then s.store.deferred.foldl (fun m d => programCells d m) s.le.flash else s.le.flash } } := by
  unfold State.openGate
  rw [rankedRecords_eq]
  dsimp only
  split <;> rfl

theorem State.gateReopens_due (mv : Nat) (s : State) (hg : s.power.gateClosed = true) (hp : s.power.pfw = false) (hv : 30000 ≤ mv) :
    s.gateReopens mv = (s.storeAt mv).openGate.resumeBurn := by
  unfold State.gateReopens
  exact if_pos (by simp_all [State.storeAt, State.charge])

theorem State.gateReopens_waits (mv : Nat) (s : State) (h : s.power.gateClosed = false ∨ s.power.pfw = true ∨ mv < 30000) :
    s.gateReopens mv = s.storeAt mv := by
  unfold State.gateReopens
  exact if_neg (by rcases h with h | h | h <;> simp_all [State.storeAt, State.charge])

theorem State.resumeBurn_otp (s : State) : s.resumeBurn.otp = match s.otp.running with
    | some run => { s.otp with opStatus := 0x01, running := some (run.resume s.localNow) }
    | none => s.otp := by
  unfold State.resumeBurn
  cases s.otp.running <;> rfl

theorem State.resumeBurn_eq (s : State) : s.resumeBurn = { s with otp := s.resumeBurn.otp } := by
  unfold State.resumeBurn
  split <;> rfl

theorem State.storeAt_eq (mv : Nat) (s : State) : s.storeAt mv = { s with power := { s.power with
    holdupMv := mv
    chargeFrom := if s.power.mainsOk then some .mains else if s.power.auxOk then some .aux else none
    auxLimitMa := if s.power.mainsOk && s.power.auxOk then some 50 else none
    charger :=
      if !(s.power.mainsOk || s.power.auxOk) then .off
      else if s.power.pause.isSome then .heldOff
      else if 40000 ≤ mv then .holding
      else .filling } } := rfl

/-- Settles O3: the shutdown by `State.rideThroughEnd_off`, the gate by `State.openGate_eq` and the order of `rankedRecords`. -/
theorem rideThroughEndsOrGateReopens : Obligations.RideThroughEndsOrGateReopens := by
  unfold Obligations.RideThroughEndsOrGateReopens
  refine ⟨fun dt mv s hp => ⟨fun h => ?_, fun hr hv => ?_⟩, fun dt mv s hp => ?_, fun dt mv s => ⟨fun hg hp hv => ?_, fun h => ?_⟩⟩
  · exact ⟨_, exec_rideThroughEnd dt mv s, State.rideThroughEnd_off mv (s.elapse dt) hp h⟩
  · rw [exec_rideThroughEnd, State.rideThroughEnd_goesOn mv (s.elapse dt) (.inr ⟨hr, hv⟩)]
  · rw [exec_rideThroughEnd, State.rideThroughEnd_goesOn mv (s.elapse dt) (.inl hp)]
  · refine ⟨_, (exec_gateReopen dt mv s).trans (congrArg _ (State.gateReopens_due mv (s.elapse dt) hg hp hv)), ?_⟩
    rw [State.resumeBurn_eq, State.resumeBurn_otp, State.openGate_eq]
    refine ⟨rfl, rfl, rfl, fun r => ?_, rfl, fun p hp => ?_⟩
    · rw [List.mem_append, mem_rankedRecords, or_comm]
      rfl
    · cases p <;> simp_all [State.agrees]
  · rw [exec_gateReopen, State.gateReopens_waits mv (s.elapse dt) h, State.storeAt_eq]
    rfl

end Sys2Proof.Machine

namespace Sys2Proof.Machine

/-! ### The holdup estimate (R59, R60, R81) -/

theorem exec_holdupChargeTimed (dt v0 us_ : Nat) (s : State) :
    exec (.holdupChargeTimed dt v0 us_) s = .next ((s.elapse dt).chargeTimed v0 us_) := rfl
theorem exec_holdupPauseStart (dt v1 : Nat) (s : State) :
    exec (.holdupPauseStart dt v1) s = .next ((s.elapse dt).pauseStart v1) := rfl
theorem exec_holdupPauseEnd (dt v2 mw : Nat) (s : State) :
    exec (.holdupPauseEnd dt v2 mw) s = .next ((s.elapse dt).pauseEnd v2 mw) := rfl

/-- What the estimate `est`, made in `u`, brings (R81). -/
def State.Judged (est : Nat) (u t : State) : Prop :=
  (est < 20000 → 0x0103 ∈ t.rt.active) ∧
    (20000 ≤ est → est < 40000 → State.logs 0x0107 (leBytes 4 est) u t ∧ t.rt = u.rt) ∧
    (40000 ≤ est → t.rt = u.rt ∧ t.ledger = u.ledger ∧ t.store = u.store)

theorem State.bootCause_raised (c : Nat) (s : State) : c ∈ (s.bootCause c true).rt.active := by
  unfold State.bootCause State.raise
  by_cases h : c ∈ s.rt.active <;> simp [h]

/-- The state in which the estimate stands, before it is judged. -/
def State.estimated (est : Nat) (s : State) : State := { s with power := { s.power with estimate := est, estimateMade := true } }

theorem State.judgeEstimate_judged (est : Nat) (s : State) : State.Judged est s (s.estimated est).judgeEstimate := by
  have hshort : (s.estimated est).holdupShort = decide (est < 20000) := rfl
  have hdegraded : (s.estimated est).holdupDegraded = decide (est < 40000) := rfl
  unfold State.judgeEstimate
  rw [hshort, hdegraded]
  refine ⟨fun h => ?_, fun h h' => ?_, fun h => ?_⟩
  · rw [if_pos (decide_eq_true h)]
    split
    · exact (State.recoverable_raised _ _ _).1
    · exact State.bootCause_raised _ _
  · rw [if_neg (by simpa using h), if_pos (decide_eq_true h')]
    exact ⟨State.event_logs 0x0107 (leBytes 4 est) (s.estimated est) (by simp [leBytes]), by simp [State.estimated]⟩
  · rw [if_neg (by simp only [decide_eq_true_eq]; omega), if_neg (by simpa using h)]
    exact ⟨rfl, rfl, rfl⟩

theorem State.makeEstimate_eq (us_ : Nat) (s : State) : s.makeEstimate us_ = (s.estimated (min 500000 us_)).judgeEstimate := rfl

/-- The estimate made in `u` but for its power part, which `s` has already changed. -/
theorem State.makeEstimate_made (us_ : Nat) (p : Power) (u : State) :
    let t := State.makeEstimate us_ { u with power := p }
    t.power = { p with estimate := min 500000 us_, estimateMade := true } ∧ State.Judged (min 500000 us_) u t ∧
      State.keeps [.power, .rt, .ledger, .store] u t ∧ t.freeCount = u.freeCount := by
  dsimp only
  rw [State.makeEstimate_eq]
  refine ⟨?_, State.judgeEstimate_judged (min 500000 us_) { u with power := p }, fun q hq => ?_, by simp [State.estimated]⟩
  · simp [State.estimated]
  · cases q <;> simp_all [State.agrees, State.estimated]

theorem State.chargeTimed_made (v0 us_ : Nat) (s : State) (h : s.power.estimateMade = false) (hv : v0 ≤ 30000) :
    s.chargeTimed v0 us_ = s.makeEstimate (us_ * 56000 / (3 * (36000 - max 20000 v0))) := by
  unfold State.chargeTimed
  exact if_neg (by simp [h, Nat.not_lt.mpr hv])

theorem State.chargeTimed_ignored (v0 us_ : Nat) (s : State) (h : s.power.estimateMade = true ∨ 30000 < v0) :
    s.chargeTimed v0 us_ = s := by
  unfold State.chargeTimed
  exact if_pos (by simpa using h)

theorem State.pauseStart_due (v1 : Nat) (s : State) (hc : s.rt.cycling = true) (hm : s.power.estimateMade = false)
    (hp : s.power.pause = none) (hw : s.power.pfw = false) (he : s.entryOk = true) (hv : 40000 ≤ v1) (hn : s.now = s.rt.boundary) :
    s.pauseStart v1 = State.storeAt v1 { s with power.pause := some { start := s.localNow, v1 := v1, sum := 0, count := 0 } } := by
  unfold State.pauseStart
  exact if_pos (by simp [hc, hm, hp, hw, he, hv, hn])

theorem State.pauseStart_ignored (v1 : Nat) (s : State) (h : ¬(s.rt.cycling = true ∧ s.power.estimateMade = false ∧
    s.power.pause = none ∧ s.power.pfw = false ∧ s.entryOk = true ∧ 40000 ≤ v1 ∧ s.now = s.rt.boundary)) : s.pauseStart v1 = s := by
  unfold State.pauseStart
  refine if_neg fun hc => h ?_
  simp only [Bool.and_eq_true, beq_iff_eq, Bool.not_eq_true', Option.isNone_iff_eq_none, decide_eq_true_eq] at hc
  tauto

theorem State.pauseEnd_idle (v2 mw : Nat) (s : State) (h : s.power.pause = none) : s.pauseEnd v2 mw = s := by
  unfold State.pauseEnd
  split <;> simp_all

theorem State.pauseEnd_early (v2 mw : Nat) (p : HoldupPause) (s : State) (hp : s.power.pause = some p)
    (h : s.localNow < p.start + 1000000) : s.pauseEnd v2 mw = s := by
  unfold State.pauseEnd
  split
  · rfl
  · obtain rfl : _ = p := Option.some.inj (‹s.power.pause = _›.symm.trans hp)
    exact if_neg (by simpa using h)

theorem State.pauseEnd_over (v2 mw : Nat) (p : HoldupPause) (s : State) (hp : s.power.pause = some p)
    (h : p.start + 1000000 ≤ s.localNow) : s.pauseEnd v2 mw =
      let t := State.storeAt v2 { s with power.pause := none, power.logicMw := mw }
      if v2 < p.v1 then
        t.makeEstimate ((p.sum + mw) * 20 * 1344 * 1000000 / (18 * (p.count + 1) * (p.v1 * p.v1 - v2 * v2)))
      else t.drawFree.2.makeEstimate t.drawFree.1.toNat := by
  unfold State.pauseEnd
  split
  · simp_all
  · obtain rfl : _ = p := Option.some.inj (‹s.power.pause = _›.symm.trans hp)
    exact if_pos (by simpa using h)

/-- Settles O4: every estimate is made by `State.makeEstimate_made`. -/
theorem holdupEstimateIsMeasured : Obligations.HoldupEstimateIsMeasured := by
  unfold Obligations.HoldupEstimateIsMeasured
  refine ⟨fun dt v0 us_ s hm hv => ?_, fun dt v0 us_ s h => ?_, fun dt v1 s => ⟨fun h => ?_, fun h => ?_⟩, fun dt v2 mw s hp => ?_,
    fun dt v2 mw p s hp => ⟨fun h => ?_, fun h hv => ?_, fun h hv => ?_⟩⟩
  · obtain ⟨hpower, hjudged, hkeep, -⟩ :=
      State.makeEstimate_made (us_ * 56000 / (3 * (36000 - max 20000 v0))) s.power (s.elapse dt)
    exact ⟨_, (exec_holdupChargeTimed dt v0 us_ s).trans (congrArg _ (State.chargeTimed_made v0 us_ (s.elapse dt) hm hv)),
      hpower, hjudged, hkeep⟩
  · rw [exec_holdupChargeTimed, State.chargeTimed_ignored v0 us_ (s.elapse dt) h]
  · obtain ⟨hc, hm, hp, hw, he, hv, hn⟩ := h
    rw [exec_holdupPauseStart, State.pauseStart_due v1 (s.elapse dt) hc hm hp hw he hv hn]
    refine congrArg (fun q => Host.Outcome.next { s.elapse dt with power := q }) ?_
    exact State.storeAt_power v1 { s.elapse dt with power.pause := some _ } he
  · rw [exec_holdupPauseStart, State.pauseStart_ignored v1 (s.elapse dt) h]
  · rw [exec_holdupPauseEnd, State.pauseEnd_idle v2 mw (s.elapse dt) hp]
  · rw [exec_holdupPauseEnd, State.pauseEnd_early v2 mw p (s.elapse dt) hp h]
  · refine ⟨_, (exec_holdupPauseEnd dt v2 mw s).trans (congrArg _ (State.pauseEnd_over v2 mw p (s.elapse dt) hp h)), ?_⟩
    rw [if_pos hv, State.storeAt_eq]
    obtain ⟨hpower, hjudged, hkeep, -⟩ := State.makeEstimate_made
      ((p.sum + mw) * 20 * 1344 * 1000000 / (18 * (p.count + 1) * (p.v1 * p.v1 - v2 * v2)))
      _ (s.elapse dt)
    exact ⟨hpower, hjudged, hkeep⟩
  · obtain ⟨hpower, hjudged, hkeep, hfree⟩ := State.makeEstimate_made (Config.freeValue s.freeCount).toNat
      (State.storeAt v2 { s.elapse dt with power.pause := none, power.logicMw := mw }).power (s.elapse dt).drawFree.2
    refine ⟨_, _, (exec_holdupPauseEnd dt v2 mw s).trans (congrArg _ ((State.pauseEnd_over v2 mw p (s.elapse dt) hp h).trans
      (if_neg (Nat.not_lt.mpr hv)))), hpower, Nat.min_le_left _ _, hjudged, hfree, ?_⟩
    exact State.keeps_trans (t := (s.elapse dt).drawFree.2) (fun q hq => by cases q <;> simp_all [State.agrees])
      (State.keeps_mono hkeep (by simp))

end Sys2Proof.Machine

namespace Sys2Proof.Machine

/-! ### The logic supply starts (R58, R95, R116, R118) -/

theorem exec_logicSupplyStart (dt mv : Nat) (s : State) :
    exec (.logicSupplyStart dt mv) s = .next ((s.elapse dt).supplyStart mv) := rfl

theorem State.supplyStart_waits (mv : Nat) (s : State) (h : s.power.logicOn = true ∨ s.entryOk = false ∨ mv < 36000) :
    s.supplyStart mv = s.storeAt mv := by
  unfold State.supplyStart
  refine if_neg ?_
  rcases h with h | h | h <;> simp_all [State.storeAt, State.charge, State.entryOk]

/-- A cold start (R38, R58, R66). -/
theorem State.supplyStart_boots (mv : Nat) (s : State) (hl : s.power.logicOn = false) (he : s.entryOk = true) (hv : 36000 ≤ mv) :
    let t := s.supplyStart mv
    t.rt = { s.rt with state := .boot } ∧
      t.power = { (s.storeAt mv).power with
        logicOn := true, domainCommand := BitVec.twoPow 56 53, domainStatus := BitVec.twoPow 56 53 } ∧
      t.clock = { s.clock with net := 0 } ∧
      t.boot = { s.boot with
        step := .waitLock, cold := true, noBank := false, meKept := false, coldEarly := min (s.boot.coldEarly + 1) 0xFFFFFFFF
        lockRetrying := false, retained := {}, retainedStatus := 0, resetSources := 1, resetCause := 1, entryAt := s.localNow
        retryAt := s.localNow + 15000, watchdogRun := 0, watchdogPaused := false, watchdogSince := some (s.localNow + 15000) } ∧
      t.otp = { s.otp with coldClean := false } ∧ State.keeps [.rt, .power, .clock, .boot, .otp, .store] s t := by
  have hstart : (!(s.storeAt mv).power.logicOn && (s.storeAt mv).entryOk && decide (36000 ≤ mv)) = true := by
    simpa [State.storeAt, State.charge, hl, hv, State.entryOk] using he
  unfold State.supplyStart
  dsimp only
  rw [if_pos hstart]
  exact ⟨rfl, rfl, rfl, rfl, rfl, fun p hp => by cases p <;> simp_all [State.agrees]⟩

/-- Settles O5: the cold start is `State.supplyStart_boots`; the way back is O3's. -/
theorem supplyStartEntersBoot : Obligations.SupplyStartEntersBoot := by
  unfold Obligations.SupplyStartEntersBoot
  refine ⟨fun dt mv s hl he hv => ?_, fun dt mv s h => ?_, fun dt mv s hp h => ?_, fun dt mv s hg hp hv => ?_⟩
  · obtain ⟨hrt, hpower, hclock, hboot, hotp, hkeep⟩ := State.supplyStart_boots mv (s.elapse dt) hl he hv
    refine ⟨_, exec_logicSupplyStart dt mv s, hrt, hpower.trans ?_, hclock, hboot, hotp, hkeep⟩
    rw [State.storeAt_power mv (s.elapse dt) he]
    rfl
  · rw [exec_logicSupplyStart, State.supplyStart_waits mv (s.elapse dt) h]
    exact ⟨_, rfl, rfl⟩
  · obtain ⟨hstate, hlogic, -⟩ := State.rideThroughEnd_off mv (s.elapse dt) hp h
    exact ⟨_, exec_rideThroughEnd dt mv s, hstate, hlogic⟩
  · refine ⟨_, (exec_gateReopen dt mv s).trans (congrArg _ (State.gateReopens_due mv (s.elapse dt) hg hp hv)), ?_⟩
    rw [State.resumeBurn_eq, State.openGate_eq]
    exact ⟨rfl, rfl⟩

end Sys2Proof.Machine

namespace Sys2Proof.Machine

/-! ### Supervision of the draw (R68, R77, R79) -/

theorem exec_logicOverdraw (dt : Nat) (x : PowerSample) (s : State) :
    exec (.logicOverdraw dt x) s = .next ((s.elapse dt).overdraw x) := rfl
theorem exec_domainMismatch (dt : Nat) (s : State) : exec (.domainMismatch dt) s = .next (s.elapse dt).domainFault := rfl
theorem exec_domainPowerUp (dt pd : Nat) (s : State) : exec (.domainPowerUp dt pd) s = .next ((s.elapse dt).powerUp pd) := rfl

/-- A measurement changes of a channel only what its driver does. -/
theorem State.refreshDrivers_ch (l : List Nat) (s : State) (n : Nat) (h : n < s.field.channels.length) :
    (s.refreshDrivers l).ch n =
      { s.ch n with driven := ((s.refreshDrivers l).ch n).driven, discharge := ((s.refreshDrivers l).ch n).discharge } := by
  simp [State.ch, State.refreshDrivers, h]

theorem State.measure_power (x : PowerSample) (s : State) : (s.measure x).power = { s.power with
    holdupMv := x.holdupMv
    charger := (s.storeAt x.holdupMv).power.charger
    chargeFrom := if s.power.mainsOk then some .mains else if s.power.auxOk then some .aux else none
    auxLimitMa := if s.power.mainsOk && s.power.auxOk then some 50 else none
    mainsPeak := if s.noMains then 0 else x.mainsPeak
    auxMv := x.auxMv
    fs1Mv := x.fs1Mv
    fs2Mv := x.fs2Mv
    logicMw := x.logicMw
    bistPeak := if s.rt.state = .test then max s.power.bistPeak x.logicMw else s.power.bistPeak
    pause := s.power.pause.map (fun p => { p with sum := p.sum + x.logicMw, count := p.count + 1 })
    overdrawSince := if 9000 < x.logicMw then some (s.power.overdrawSince.getD s.localNow) else none
    calmSince := if x.logicMw < 8500 then some (s.power.calmSince.getD s.localNow) else none } := by
  unfold State.measure
  simp only [beq_iff_eq]
  rfl

theorem State.overdraw_power (x : PowerSample) (s : State) : (s.overdraw x).power = (s.measure x).power := by
  unfold State.overdraw
  dsimp only
  (repeat' split) <;> simp

theorem State.overdraw_field (x : PowerSample) (s : State) : (s.overdraw x).field = (s.measure x).field := by
  unfold State.overdraw
  dsimp only
  (repeat' split) <;> simp

theorem State.overdraw_calm (x : PowerSample) (s : State) (h : x.logicMw ≤ 9000) : s.overdraw x = s.measure x := by
  have hs : (s.measure x).power.overdrawSince = none := by rw [State.measure_power]; exact if_neg (Nat.not_lt.mpr h)
  unfold State.overdraw
  dsimp only
  rw [hs]

theorem State.overdraw_raised (x : PowerSample) (t0 : Nat) (s : State) (h0 : s.power.overdrawSince = some t0) (hx : 9000 < x.logicMw)
    (hl : s.power.logicOn = true) (h : t0 + 10000000 ≤ s.localNow) : 0x0104 ∈ (s.overdraw x).rt.active := by
  have hs : (s.measure x).power.overdrawSince = some t0 := by
    rw [State.measure_power]
    simp [hx, h0]
  have hnow : (s.measure x).localNow = s.localNow := by simp [State.localNow]
  unfold State.overdraw
  dsimp only
  rw [hs]
  dsimp only
  rw [if_pos (by simp [State.measure_power, hl, hnow, h])]
  split
  · exact (State.recoverable_raised _ _ _).1
  · split
    · simp_all
    · exact State.bootCause_raised _ _

theorem State.overdraw_keeps (x : PowerSample) (s : State) : State.keeps [.power, .rt, .field, .ledger, .store] s (s.overdraw x) :=
  fun p hp => by cases p <;> simp_all [State.agrees]

/-! ### The comparison of the domains (R75) -/

theorem State.domainFault_none (s : State) (h : s.power.mismatchTwice = 0) : s.domainFault = s := by
  simp [State.domainFault, h]

theorem State.domainFault_new (s : State) (h : s.power.mismatchTwice ≠ 0) (hd : ∀ d ∈ s.rt.detected, d.cause ≠ 0x0101) :
    s.domainFault = s.detectAt 0x0101 .nonRecoverable s.now [] := by
  unfold State.domainFault State.detectOnce State.detect
  rw [if_pos (by simpa using h), if_neg (by simpa using hd)]

theorem State.domainFault_keeps (s : State) : State.keeps [.rt] s s.domainFault :=
  fun p hp => by cases p <;> simp_all [State.agrees]

/-! ### A domain's start (R74, R76) -/

/-- In Boot and Test the domains that the start has switched on, and nothing else (R76, R77). -/
theorem State.bootBistPower_eq (s : State) : s.bootPower.bistPower = { s with power := { s.power with
    domainCommand := s.bootPower.bistPower.power.domainCommand
    domainStatus := s.bootPower.bistPower.power.domainStatus } } := by
  unfold State.bistPower
  split <;> rfl

@[simp] theorem State.bootBistPower_switching (s : State) : s.bootPower.bistPower.power.switching = s.power.switching := by
  rw [State.bootBistPower_eq]

@[simp] theorem State.bootBistPower_switchedLast (s : State) :
    s.bootPower.bistPower.power.switchedLast = s.power.switchedLast := by
  rw [State.bootBistPower_eq]

/-- The supply of a domain has come good (R74). -/
def State.domainGood (pd : Nat) (s : State) : State :=
  { s with power := { s.power with
    switching := s.power.switching.filter (fun x => x.1 != pd)
    domainStatus := s.power.domainStatus ||| BitVec.twoPow 56 pd
    switchedLast := s.power.switchedLast ||| BitVec.twoPow 56 pd } }

/-- The block of a domain starts. -/
def State.blockOn (pd : Nat) (s : State) : State :=
  if pd < 32 then (s.channelOn pd).restartCounter pd
  else if pd < 40 then
    if s.power.switching.any (fun x => x.1 == (if pd % 2 = 0 then pd + 1 else pd - 1)) then s else s.pairOn ((pd - 32) / 2)
  else if pd = 49 then { s with mirror.linkOk := true }
  else s

theorem State.powerUp_waits (pd : Nat) (s : State) (h : ∀ e ∈ s.power.switching, e.1 = pd → s.bootPower.bistPower.localNow < e.2) :
    s.powerUp pd = s.bootPower.bistPower := by
  unfold State.powerUp
  dsimp only
  rw [State.bootBistPower_switching]
  split
  · rfl
  · rename_i e he
    exact if_neg (Nat.not_le.mpr (h e (List.mem_of_find?_eq_some he) (by simpa using List.find?_some he)))

theorem State.powerUp_due (pd due : Nat) (s : State) (h : s.power.switching.find? (fun e => e.1 == pd) = some (pd, due))
    (hdue : due ≤ s.bootPower.bistPower.localNow) : s.powerUp pd = State.blockOn pd (s.bootPower.bistPower.domainGood pd) := by
  unfold State.powerUp
  dsimp only
  rw [State.bootBistPower_switching, h, State.domainGood, State.bootBistPower_switching]
  exact if_pos hdue

@[simp] theorem State.blockOn_frame (pd : Nat) (s : State) :
    State.Frame s (s.blockOn pd) (field := Free) (counters := Free) (analog := Free) (mirror := Free) := by
  simp [State.blockOn]

/-- A domain from PD40 on has no block of the field side; PD49 holds the ME. -/
theorem State.blockOn_inner (pd : Nat) (s : State) (h : 40 ≤ pd) :
    s.blockOn pd = { s with mirror := if pd = 49 then { s.mirror with linkOk := true } else s.mirror } := by
  unfold State.blockOn
  rw [if_neg (by omega), if_neg (by omega)]
  split <;> rfl

theorem State.blockOn_mirror (pd : Nat) (s : State) (h : pd < 40) : (s.blockOn pd).mirror = s.mirror := by
  unfold State.blockOn
  rw [if_pos h]
  split <;> simp

theorem State.blockOn_domainGood_keeps (pd : Nat) (s : State) (h : pd < 40) :
    State.keeps [.power, .field, .counters, .analog] s ((s.domainGood pd).blockOn pd) := by
  have hmirror := State.blockOn_mirror pd (s.domainGood pd) h
  exact fun p hp => by cases p <;> simp_all [State.agrees, State.domainGood]

theorem State.ch_of_field {s t : State} (h : t.field = s.field) (n : Nat) : t.ch n = s.ch n := by rw [State.ch, State.ch, h]

/-- The channel of a domain starts its input stage (R74, R269); no other channel changes. -/
theorem State.blockOn_ch (pd : Nat) (s : State) (hp : pd < 40) :
    (∀ n, n ≠ pd → (s.blockOn pd).ch n = s.ch n) ∧ (pd < 32 → pd < s.field.channels.length →
      ((s.blockOn pd).ch pd).on = true ∧ ((s.blockOn pd).ch pd).mode = s.chMode pd ∧ ((s.blockOn pd).ch pd).filtered = false ∧
        ((s.blockOn pd).ch pd).init = true ∧ ((s.blockOn pd).ch pd).initDue = s.localNow + 10000 * 2 ^ s.chFilter pd) := by
  unfold State.blockOn
  by_cases h : pd < 32
  · have hc (n : Nat) : ((s.channelOn pd).restartCounter pd).ch n = (s.channelOn pd).ch n := State.ch_of_field (by simp) n
    simp only [if_pos h, hc]
    refine ⟨fun n hn => State.ch_modCh_other (Ne.symm hn) _ s, fun _ hl => ?_⟩
    rw [State.channelOn, State.ch_modCh_same _ _ _ hl]
    exact ⟨rfl, rfl, rfl, rfl, rfl⟩
  · rw [if_neg h, if_pos hp]
    exact ⟨fun n _ => State.ch_of_field (by simp) n, fun h' => absurd h' h⟩

theorem State.bootPower_idle (s : State) (h : s.boot.step = .idle) : s.bootPower.bistPower = s := by
  have hp : s.bootPower = s := by simp [State.bootPower, h, bootOrder, pdSet]
  rw [hp, State.bistPower, h]

theorem pdSet_getLsbD (l : List Nat) (n : Nat) : (pdSet l).getLsbD n = true ↔ n ∈ l ∧ n < 56 := by
  have hfold (v : BitVec 56) : (l.foldl (fun v n => v ||| pdBit n) v).getLsbD n = true ↔ v.getLsbD n = true ∨ n ∈ l ∧ n < 56 := by
    induction l generalizing v with
    | nil => simp
    | cons m l ih =>
      rw [List.foldl_cons, ih]
      simp [pdBit, BitVec.getLsbD_twoPow]
      grind
  exact (hfold 0).trans (by simp)

theorem bootOrder_bounds : ∀ e ∈ bootOrder, e.1 < 56 ∧ e.2 ≤ 500 := by decide

/-- A domain of Table 4-3 is commanded on from its time on while Boot waits for its clock (R76). -/
theorem State.bootPower_on (s : State) (h : s.boot.step = .waitLock ∨ s.boot.step = .lockRetry ∨ s.boot.step = .locked) (pd late : Nat)
    (hm : (pd, late) ∈ bootOrder) (ht : s.boot.entryAt + 100 * late ≤ s.localNow) :
    s.bootPower.power.domainCommand.getLsbD pd = true := by
  obtain ⟨hpd, hlate⟩ := bootOrder_bounds _ hm
  have hset : (pdSet ((bootOrder.filter (fun p => decide (p.2 ≤ 500) && s.passed s.boot.entryAt (us (p.2 + 0)))).map (·.1))).getLsbD pd = true :=
    (pdSet_getLsbD _ _).mpr ⟨List.mem_map.mpr ⟨(pd, late), List.mem_filter.mpr ⟨hm, by simp [hlate, ht]⟩, rfl⟩, hpd⟩
  unfold State.bootPower
  rcases h with h | h | h <;> simp only [h, BitVec.getLsbD_or, hset, Bool.or_true]

/-- Settles O6: the measurement, the comparison, a domain's start, and of the estimate what O4 has. -/
theorem drawAndDomainsAreSupervised : Obligations.DrawAndDomainsAreSupervised := by
  unfold Obligations.DrawAndDomainsAreSupervised
  obtain ⟨hcharge, -, hstart, -, hend⟩ := holdupEstimateIsMeasured
  refine ⟨fun dt x s => ?_, fun dt s => ?_, fun dt pd s h => ?_, fun dt pd due s hp h hdue => ?_, fun dt pd due s hp h hdue => ?_,
    State.bootPower_idle, fun s h pd late hm ht => State.bootPower_on s h pd late hm ht, fun dt v0 us_ s hm hv => ?_,
    fun dt v1 s hc hm hp hw he hv hn => ?_, fun dt v2 mw p s hp h => ?_⟩
  · refine ⟨_, exec_logicOverdraw dt x s, ?_, fun hx => ?_, fun n hn hl => ?_, fun t0 h0 hx hl h => ?_, State.overdraw_keeps x (s.elapse dt)⟩
    · rw [State.overdraw_power, State.measure_power]
      rfl
    · rw [State.overdraw_calm x _ hx]
      simp
    · rw [State.ch_of_field (State.overdraw_field x (s.elapse dt)) n]
      exact State.refreshDrivers_ch [] _ n hl
    · exact State.overdraw_raised x t0 (s.elapse dt) h0 hx hl h
  · exact ⟨_, exec_domainMismatch dt s, fun h => State.domainFault_none (s.elapse dt) h, fun h hd => State.domainFault_new (s.elapse dt) h hd,
      State.domainFault_keeps (s.elapse dt)⟩
  · rw [exec_domainPowerUp, State.powerUp_waits pd (s.elapse dt) h]
  · rw [exec_domainPowerUp, State.powerUp_due pd due (s.elapse dt) h hdue, State.blockOn_inner _ _ hp, State.domainGood,
      State.bootBistPower_switching, State.bootBistPower_switchedLast]
    rfl
  · have hgood := State.powerUp_due pd due (s.elapse dt) h hdue
    have hmode : ((s.elapse dt).bootPower.bistPower.domainGood pd).chMode pd = s.chMode pd := by
      rw [State.bootBistPower_eq]
      rfl
    have hfilter : ((s.elapse dt).bootPower.bistPower.domainGood pd).chFilter pd = s.chFilter pd := by
      rw [State.bootBistPower_eq]
      rfl
    have hch (n : Nat) : ((s.elapse dt).bootPower.bistPower.domainGood pd).ch n = s.ch n := by
      rw [State.bootBistPower_eq]
      rfl
    obtain ⟨hother, hchannel⟩ := State.blockOn_ch pd ((s.elapse dt).bootPower.bistPower.domainGood pd) hp
    rw [hmode, hfilter] at hchannel
    refine ⟨_, (exec_domainPowerUp dt pd s).trans (congrArg _ hgood), ?_, ?_, fun n hn => (hother n hn).trans (hch n),
      State.blockOn_domainGood_keeps pd (s.elapse dt).bootPower.bistPower hp⟩
    · have hpower (t : State) : (t.blockOn pd).power = t.power := by simp
      rw [hpower, State.domainGood, State.bootBistPower_switching, State.bootBistPower_switchedLast]
      rfl
    · exact fun h hl => hchannel h (by rw [State.bootBistPower_eq]; exact hl)
  · obtain ⟨t, hexec, hpower, -⟩ := hcharge dt v0 us_ s hm hv
    exact ⟨t, hexec, by rw [hpower]⟩
  · exact ⟨_, (hstart dt v1 s).1 ⟨hc, hm, hp, hw, he, hv, hn⟩, rfl⟩
  · obtain ⟨-, hfell, hrest⟩ := hend dt v2 mw p s hp
    rcases Nat.lt_or_ge v2 p.v1 with hv | hv
    · obtain ⟨t, hexec, hpower, -⟩ := hfell h hv
      exact ⟨t, hexec, by rw [hpower], by rw [hpower]⟩
    · obtain ⟨t, n, hexec, hpower, -⟩ := hrest h hv
      exact ⟨t, hexec, by rw [hpower], by rw [hpower]⟩

end Sys2Proof.Machine

namespace Sys2Proof.Machine

/-! ### The end of a BIST group (R77, R86, R127 to R129, R138, R142) -/

theorem exec_bistGroupComplete (dt g place element : Nat) (raw : List (BitVec 64)) (s : State) :
    exec (.bistGroupComplete dt g raw place element) s = .next ((s.elapse dt).groupComplete g raw place element) := rfl

/-- The LE's RAM after the destructive tests of group `g` (Table 2-6). -/
def State.bistRam (g : Nat) (s : State) : List Host.Cell :=
  match g with
  | 1 =>
    let ram := cellClear 0x20000000 0x60000 s.le.ram
    if s.keepsRegion 1 then ram else cellClear 0x22000000 0x4000 ram
  | 2 => cellClear 0x21000000 0x60000 s.le.ram
  | 3 => cellClear 0x21060000 0x60000 s.le.ram
  | 5 =>
    let ram := cellClear 0x24000000 0x10000 s.le.ram
    if s.keepsRegion 5 then ram else cellClear 0x25000000 0x10000 ram
  | _ => s.le.ram

/-- Byte `a` of the LE's RAM lies where group `g` tests destructively. -/
def State.bistZeroes (g a : Nat) (s : State) : Bool :=
  match g with
  | 1 => (decide (0x20000000 ≤ a) && decide (a < 0x20060000)) ||
      (!s.keepsRegion 1 && decide (0x22000000 ≤ a) && decide (a < 0x22004000))
  | 2 => decide (0x21000000 ≤ a) && decide (a < 0x21060000)
  | 3 => decide (0x21060000 ≤ a) && decide (a < 0x210C0000)
  | 5 => (decide (0x24000000 ≤ a) && decide (a < 0x24010000)) ||
      (!s.keepsRegion 5 && decide (0x25000000 ≤ a) && decide (a < 0x25010000))
  | _ => false

theorem cellRead_clear_clear (d : Byte) (a n b k : Nat) (m : List Host.Cell) (x : Nat) :
    cellRead d (cellClear b k (cellClear a n m)) x = if a ≤ x ∧ x < a + n ∨ b ≤ x ∧ x < b + k then d else cellRead d m x := by
  simp only [cellRead_clear, or_comm (b := b ≤ x ∧ x < b + k), ite_or]

theorem State.bistRam_read (g a : Nat) (s : State) :
    cellRead 0 (s.bistRam g) a = if s.bistZeroes g a then 0 else cellRead 0 s.le.ram a := by
  unfold State.bistRam State.bistZeroes
  split
  · cases s.keepsRegion 1
    · simp [cellRead_clear_clear]
    · simp [cellRead_clear]
  · simp [cellRead_clear]
  · simp [cellRead_clear]
  · cases s.keepsRegion 5
    · simp [cellRead_clear_clear]
    · simp [cellRead_clear]
  · simp [*]

theorem State.bistClears_eq (g : Nat) (s : State) : s.bistClears g = { s with
    le := { s.le with
      ram := s.bistRam g
      tags := if g = 1 then [] else s.le.tags
      inputs := if g = 1 then List.replicate 180 0 else s.le.inputs
      outputs := if g = 1 then List.replicate 32 0 else s.le.outputs
      inputsCoded := if g = 2 then List.replicate 180 0 else s.le.inputsCoded
      outputsCoded := if g = 2 then List.replicate 32 0 else s.le.outputsCoded }
    boot := { s.boot with retained := { s.boot.retained with
      saveEvent := s.boot.retained.saveEvent && (g != 1 || s.keepsRegion 1)
      saveSnapshot := s.boot.retained.saveSnapshot && (g != 5 || s.keepsRegion 5) } }
    mirror := if g = 5 ∧ s.keepsRegion 5 = false then { s.mirror with store := none } else s.mirror } := by
  unfold State.bistClears State.bistRam
  split
  · dsimp only
    split <;> rename_i h
    · simp [show s.keepsRegion 1 = true from h]
    · simp [show s.keepsRegion 1 = false from Bool.eq_false_of_not_eq_true h]
  · simp
  · simp
  · dsimp only
    split <;> rename_i h
    · simp [show s.keepsRegion 5 = true from h]
    · simp [show s.keepsRegion 5 = false from Bool.eq_false_of_not_eq_true h]
  · rename_i h₁ h₂ h₃ h₅
    simp [show g ≠ 1 from h₁, show g ≠ 2 from h₂, show g ≠ 5 from h₅, bne_iff_ne.mpr (show g ≠ 1 from h₁),
      bne_iff_ne.mpr (show g ≠ 5 from h₅)]

/-- Group `g` has been tested with the failures `fs`, and its domains are off (R77, R127, R129). -/
def State.groupTested (g : Nat) (fs : List (BitVec 64)) (s : State) : State :=
  State.bistDomainsAfter g (State.bistClears g { s.bistPower with boot := s.bistPower.boot.noteFailures g fs })

/-- The boot watchdog pauses after it during a warning (R142). -/
def State.pauseIfWarned (s : State) : State := if s.power.pfw then s.pauseWatchdog else s

/-- The step after group `g` (Table 4-3). -/
def State.afterGroup (g : Nat) (s : State) : State :=
  if g = 8 then { s with boot.step := .comparator, boot.bistDuration := min 220000 ((s.localNow - s.boot.bistAt) / 100) }
  else { s with boot.step := .bist (g + 1), boot.groupAt := s.localNow + us 200 }

theorem State.groupComplete_due (g place element : Nat) (raw : List (BitVec 64)) (s : State) (hs : s.boot.step = .bist g) (h₁ : 1 ≤ g)
    (h₈ : g ≤ 8) (hat : s.boot.groupAt ≤ s.localNow) (hw : s.power.pfw = false ∨ s.boot.groupAt ≤ s.power.rideSince) :
    s.groupComplete g raw place element = State.afterGroup g
      (s.groupTested g (s.groupFailures (groupLimit s.boot.cold g) g (s.groupRan g) raw place element)).pauseIfWarned := by
  unfold State.groupComplete
  exact if_pos (by simpa [hs, h₁, h₈, hat] using hw)

theorem State.groupComplete_early (g place element : Nat) (raw : List (BitVec 64)) (s : State)
    (h : s.localNow < s.boot.groupAt ∨ s.power.pfw = true ∧ s.power.rideSince < s.boot.groupAt) :
    s.groupComplete g raw place element = s := by
  unfold State.groupComplete
  refine if_neg ?_
  rcases h with h | ⟨hp, h⟩
  · simp [Nat.not_le.mpr h]
  · simp [hp, Nat.not_le.mpr h]

theorem State.bistPower_eq (s : State) : s.bistPower = { s with power := { s.power with
    domainCommand := s.bistPower.power.domainCommand
    domainStatus := s.bistPower.power.domainStatus } } := by
  unfold State.bistPower
  split <;> rfl

/-- What a tested group leaves: its results, its memories, its domains. -/
theorem State.groupTested_eq (g : Nat) (fs : List (BitVec 64)) (s : State) : s.groupTested g fs = { s with
    power := { s.power with
      domainCommand := s.bootDomains true
      domainStatus := s.bistPower.power.domainStatus &&& s.bootDomains true &&&
        (if g = 7 then ~~~(BitVec.twoPow 56 53) else BitVec.allOnes 56)
      switching := s.power.switching ++ (if g = 7 then [(53, s.localNow + 5000)] else []) }
    le := { s.le with
      ram := s.bistRam g
      tags := if g = 1 then [] else s.le.tags
      inputs := if g = 1 then List.replicate 180 0 else s.le.inputs
      outputs := if g = 1 then List.replicate 32 0 else s.le.outputs
      inputsCoded := if g = 2 then List.replicate 180 0 else s.le.inputsCoded
      outputsCoded := if g = 2 then List.replicate 32 0 else s.le.outputsCoded }
    boot := { s.boot.noteFailures g fs with retained := { s.boot.retained with
      saveEvent := s.boot.retained.saveEvent && (g != 1 || s.keepsRegion 1)
      saveSnapshot := s.boot.retained.saveSnapshot && (g != 5 || s.keepsRegion 5) } }
    mirror := if g = 5 ∧ s.keepsRegion 5 = false then { s.mirror with store := none } else s.mirror } := by
  unfold State.groupTested
  rw [State.bistClears_eq, State.bistPower_eq]
  unfold State.bistDomainsAfter
  by_cases h : g = 7
  · subst h
    rfl
  · simp only [if_neg h, List.append_nil, BitVec.and_allOnes]
    rfl

theorem State.afterGroup_eq (g : Nat) (s : State) : s.afterGroup g = { s with boot := { s.boot with
    step := if g = 8 then .comparator else .bist (g + 1)
    bistDuration := if g = 8 then min 220000 ((s.localNow - s.boot.bistAt) / 100) else s.boot.bistDuration
    groupAt := if g = 8 then s.boot.groupAt else s.localNow + 20000 } } := by
  by_cases h : g = 8
  · simp only [State.afterGroup, if_pos h]
  · simp only [State.afterGroup, if_neg h]
    rfl

/-- The pause of a warning concerns the boot watchdog alone. -/
theorem State.pauseIfWarned_eq (s : State) : s.pauseIfWarned = { s with boot := { s.boot with
    watchdogRun := s.pauseIfWarned.boot.watchdogRun
    watchdogSince := if s.power.pfw then none else s.boot.watchdogSince
    watchdogPaused := s.pauseIfWarned.boot.watchdogPaused } } := by
  unfold State.pauseIfWarned State.pauseWatchdog
  cases s.power.pfw
  · rfl
  · cases h : s.boot.watchdogSince
    · simp only [if_true]
      rw [← h]
    · simp

theorem State.groupFailures_eq (limitUs g ran place element : Nat) (raw : List (BitVec 64)) (s : State) :
    s.groupFailures limitUs g ran raw place element =
      (raw.filter (s.otp.tested (s.otp.applied.map (fun e => e.toNat)))).map (failRecord g) ++
        (if 100 * limitUs < ran then [timeoutRecord g place element] else []) := by
  by_cases h : 100 * limitUs < ran
  · rw [if_pos h]
    exact if_pos h
  · rw [if_neg h, List.append_nil]
    exact if_neg h

/-- The boot part after group `g`. -/
theorem State.groupComplete_eq (g place element : Nat) (raw : List (BitVec 64)) (s : State) (hs : s.boot.step = .bist g) (h₁ : 1 ≤ g)
    (h₈ : g ≤ 8) (hat : s.boot.groupAt ≤ s.localNow) (hw : s.power.pfw = false ∨ s.boot.groupAt ≤ s.power.rideSince) :
    let fs := s.groupFailures (groupLimit s.boot.cold g) g (s.groupRan g) raw place element
    let t := s.groupComplete g raw place element
    let v := s.groupTested g fs
    ∃ run paused, t = { v with boot := { v.boot with
      watchdogRun := run
      watchdogSince := if s.power.pfw then none else s.boot.watchdogSince
      watchdogPaused := paused
      step := if g = 8 then .comparator else .bist (g + 1)
      bistDuration := if g = 8 then min 220000 ((s.localNow - s.boot.bistAt) / 100) else s.boot.bistDuration
      groupAt := if g = 8 then s.boot.groupAt else s.localNow + 20000 } } := by
  intro fs t v
  have hv : v.power.pfw = s.power.pfw ∧ v.boot.watchdogSince = s.boot.watchdogSince ∧ v.boot.bistAt = s.boot.bistAt ∧
      v.boot.bistDuration = s.boot.bistDuration ∧ v.boot.groupAt = s.boot.groupAt ∧ v.localNow = s.localNow := by
    rw [show v = _ from State.groupTested_eq g fs s]
    exact ⟨rfl, rfl, rfl, rfl, rfl, rfl⟩
  obtain ⟨hpfw, hsince, hbist, hdur, hgroup, hnow⟩ := hv
  refine ⟨v.pauseIfWarned.boot.watchdogRun, v.pauseIfWarned.boot.watchdogPaused, ?_⟩
  have ht : t = State.afterGroup g v.pauseIfWarned := State.groupComplete_due g place element raw s hs h₁ h₈ hat hw
  rw [ht, ← hpfw, ← hsince, ← hbist, ← hdur, ← hgroup, ← hnow]
  clear_value v
  clear ht t
  have hp := State.pauseIfWarned_eq v
  generalize v.pauseIfWarned.boot.watchdogRun = run at *
  generalize v.pauseIfWarned.boot.watchdogPaused = paused at *
  rw [hp]
  exact State.afterGroup_eq g _

end Sys2Proof.Machine

namespace Sys2Proof.Machine

/-- Failures of a group with its time-out record: all are counted, and the group is marked failed where there is one (R129). -/
theorem Boot.noteFailures_late (g : Nat) (found : List (BitVec 64)) (late : Prop) [Decidable late] (r : BitVec 64) (b : Boot) :
    let t := b.noteFailures g (found ++ if late then [r] else [])
    t.groupRun = b.groupRun ||| BitVec.twoPow 8 (g - 1) ∧
      t.groupFail = (if found = [] ∧ ¬late then b.groupFail else b.groupFail ||| BitVec.twoPow 8 (g - 1)) ∧
      t.failCount = min 65535 (b.failCount + found.length + (if late then 1 else 0)) ∧
      t.failRecords = (b.failRecords ++ found ++ (if late then [r] else [])).take 8 := by
  by_cases h : late <;> cases found <;> simp [Boot.noteFailures, satAt, h, Nat.min_comm, Nat.add_assoc]

/-- The parts of the state that a tested group leaves alone. -/
theorem State.groupTested_keeps (g : Nat) (fs : List (BitVec 64)) (b : Boot) (s : State) :
    State.keeps [.boot, .power, .le, .mirror] s { s.groupTested g fs with boot := b } := by
  have hv := State.groupTested_eq g fs s
  exact fun p hp => by cases p <;> simp_all [State.agrees]

/-! ### A group that ran longer than its time (Table 4-8) -/

theorem pick_mem (l : List Nat) (hl : l ≠ []) (v : Nat) : pick l v ∈ l := by
  have hlt : v % l.length < l.length := Nat.mod_lt v (List.length_pos_of_ne_nil hl)
  rw [pick, List.getD_eq_getElem l 0 hlt]
  exact List.getElem_mem hlt

/-- MEMORY and ADDRESS of a time-out record: a code of Table 4-8 and 24 bits, the domain in the groups that test logic. -/
theorem timeoutPlace_bounds (g place : Nat) (h₁ : 1 ≤ g) (h₈ : g ≤ 8) :
    (timeoutPlace g place).1 ∈ [1, 2, 3, 4, 5, 6, 7, 8, 9] ∧ (timeoutPlace g place).2 < 2 ^ 24 ∧
      (6 ≤ g → (timeoutPlace g place).2 ∈ groupDomains g) := by
  have haddress : place / 16 % 2 ^ 24 < 2 ^ 24 := Nat.mod_lt _ (by decide)
  have hdomain : ∀ g ∈ [6, 7, 8], ∀ d ∈ groupDomains g, d < 2 ^ 24 := by decide
  have hlogic (h : g ∈ [6, 7, 8]) (hne : groupDomains g ≠ []) :
      pick (groupDomains g) place < 2 ^ 24 ∧ (6 ≤ g → pick (groupDomains g) place ∈ groupDomains g) :=
    ⟨hdomain g h _ (pick_mem _ hne place), fun _ => pick_mem _ hne place⟩
  have h123 := (by decide : [1, 2, 3] ⊆ [1, 2, 3, 4, 5, 6, 7, 8, 9]) (pick_mem [1, 2, 3] (by decide) place)
  have h67 := (by decide : [6, 7] ⊆ [1, 2, 3, 4, 5, 6, 7, 8, 9]) (pick_mem [6, 7] (by decide) place)
  interval_cases g
  · exact ⟨h123, haddress, by omega⟩
  · exact ⟨by simp [timeoutPlace], haddress, by omega⟩
  · exact ⟨by simp [timeoutPlace], haddress, by omega⟩
  · exact ⟨by simp [timeoutPlace], haddress, by omega⟩
  · exact ⟨h67, haddress, by omega⟩
  · exact ⟨by simp [timeoutPlace], hlogic (by decide) (by decide)⟩
  · exact ⟨by simp [timeoutPlace], hlogic (by decide) (by decide)⟩
  · exact ⟨by simp [timeoutPlace], hlogic (by decide) (by decide)⟩

theorem timeoutElement_lt (g element : Nat) : timeoutElement g element < 16 := by
  unfold timeoutElement
  split <;> omega

theorem timeoutRecord_fields (g place element : Nat) (h₁ : 1 ≤ g) (h₈ : g ≤ 8) :
    bitsAt (timeoutRecord g place element).toNat 63 60 = g ∧ bitsAt (timeoutRecord g place element).toNat 31 24 = 0xFF ∧
      bitsAt (timeoutRecord g place element).toNat 23 20 = timeoutElement g element ∧
      bitsAt (timeoutRecord g place element).toNat 17 16 = 3 ∧ bitsAt (timeoutRecord g place element).toNat 13 0 = 0 := by
  obtain ⟨hmem, haddr, -⟩ := timeoutPlace_bounds g place h₁ h₈
  have helem := timeoutElement_lt g element
  have hmem9 : (timeoutPlace g place).1 ≤ 9 := by
    have := (by decide : ∀ m ∈ [1, 2, 3, 4, 5, 6, 7, 8, 9], m ≤ 9)
    exact this _ hmem
  unfold timeoutRecord failRecord
  dsimp only
  generalize (timeoutPlace g place).1 = m at *
  generalize (timeoutPlace g place).2 = a at *
  generalize timeoutElement g element = e at *
  have hf : element / 6 % 4 < 4 := Nat.mod_lt _ (by decide)
  generalize element / 6 % 4 = f at *
  simp only [BitVec.toNat_ofNat]
  have hraw : m * 2 ^ 56 + a * 2 ^ 32 + 0xFF * 2 ^ 24 + e * 2 ^ 20 + f * 2 ^ 18 + 3 * 2 ^ 16 < 2 ^ 64 := by omega
  rw [Nat.mod_eq_of_lt hraw]
  have hff : bitsAt (m * 2 ^ 56 + a * 2 ^ 32 + 0xFF * 2 ^ 24 + e * 2 ^ 20 + f * 2 ^ 18 + 3 * 2 ^ 16) 31 24 = 0xFF := by
    unfold bitsAt; omega
  rw [if_pos hff]
  unfold bitsAt
  omega

/-! ### The comparator injection test (R131, R132) -/

theorem exec_comparatorInjectionTest (dt : Nat) (faulty : BitVec 7) (s : State) :
    exec (.comparatorInjectionTest dt faulty) s = .next ((s.elapse dt).comparatorTest faulty) := rfl

theorem State.comparatorTest_due (faulty : BitVec 7) (s : State) (hs : s.boot.step = .comparator) (hp : s.power.pfw = false) :
    s.comparatorTest faulty = { s with boot := { s.boot with
      comparator := comparatorResult faulty
      lineLatched := ((List.range 6).filter (stepDetected faulty)).length
      injection := 0
      step := .mpuSeal } } := by
  unfold State.comparatorTest
  exact if_pos (by simp [hs, hp])

/-- The bits of COMPARATOR_TEST over every pattern of faults. -/
theorem comparatorResult_bits : ∀ faulty : BitVec 7, (∀ n < 6, (comparatorResult faulty).getLsbD n = !faulty.getLsbD n) ∧
    ((comparatorResult faulty).getLsbD 6 = true ↔ faulty = 0) ∧ (comparatorResult faulty).getLsbD 7 = false ∧
    (comparatorResult faulty = 0x7F ↔ faulty = 0) := by decide

/-- A unit without a fault latches the line in steps 2 to 5. -/
theorem stepDetected_faultless (faulty : BitVec 7) (h : faulty = 0) : ((List.range 6).filter (stepDetected faulty)).length = 4 := by
  subst h
  decide

theorem State.keeps_boot (b : Boot) (s : State) : State.keeps [.boot] s { s with boot := b } :=
  fun p hp => by cases p <;> simp_all [State.agrees]

/-! ### The MPU seal (R133, R225, R227) -/

theorem exec_mpuSeal (dt : Nat) (differs fails : Bool) (s : State) :
    exec (.mpuSeal dt differs fails) s = .next ((s.elapse dt).seal differs fails) := rfl

/-- The state once both sets are written, with cause 0x0C05 where a descriptor of an intact region fails (R227). -/
def State.setsWritten (s : State) : State :=
  State.bootCauseIf (s.writeSets.le.denyAll && !s.writeSets.otp.protectionFallback) 0x0C05 true s.writeSets

theorem State.seal_eq (differs fails : Bool) (s : State) (hs : s.boot.step = .mpuSeal) (hp : s.power.pfw = false) :
    s.seal differs fails = if differs || fails then (s.setsWritten.event 0x0304 []).bootFailure 0
      else { s.setsWritten with le.isSealed := true, boot.step := .recovery } := by
  unfold State.seal
  exact if_pos (by simp [hs, hp])

theorem State.setsWritten_le (s : State) : s.setsWritten.le = s.writeSets.le := by
  unfold State.setsWritten State.bootCauseIf State.bootCause
  split <;> simp

theorem State.setsWritten_keeps (s : State) : State.keeps [.le, .rt, .ledger, .store, .mirror] s s.setsWritten := by
  unfold State.setsWritten State.bootCauseIf State.bootCause
  intro p hp
  split <;> cases p <;> simp_all [State.agrees, State.writeSets]

/-- A reset by none of the sources of Table 4-1: held in Boot with no source bit, the outputs off and the seal open (R116, R119, R227). -/
theorem State.assertWarmReset_sourceless (s : State) (hl : s.power.logicOn = true) (hs : s.boot.step = .mpuSeal) :
    let t := s.assertWarmReset 0
    t.rt.state = .boot ∧ t.boot.step = .resetHeld ∧ t.boot.resetSources = 0 ∧
      t.boot.retained.bootFailures = s.boot.retained.bootFailures ∧ t.allOutputsOff ∧ t.le.isSealed = false := by
  have hboot : (s.countSeconds.recordDetected.interruptedSave.outputsOff).boot.retained.bootFailures = s.boot.retained.bootFailures := by
    have hi (t : State) : t.interruptedSave.boot.retained.bootFailures = t.boot.retained.bootFailures := by
      unfold State.interruptedSave
      (repeat' split) <;> rfl
    simp [hi]
  have hkeep := State.cutShort_keeps true
    (State.charge { s.countSeconds.recordDetected.interruptedSave.outputsOff with power.pause := none })
  have hoff := State.cutShort_allOutputsOff true
    (State.charge { s.countSeconds.recordDetected.interruptedSave.outputsOff with power.pause := none })
  have hseal : (State.cutShort true
    (State.charge { s.countSeconds.recordDetected.interruptedSave.outputsOff with power.pause := none })).le.isSealed = false := rfl
  unfold State.assertWarmReset
  simp only [hl, hs]
  generalize State.cutShort true _ = w at *
  simp_all [State.drawFree]
  exact hoff

end Sys2Proof.Machine

namespace Sys2Proof.Machine

theorem State.setsWritten_boot (s : State) : s.setsWritten.boot = s.boot ∧ s.setsWritten.power = s.power := by
  unfold State.setsWritten State.bootCauseIf State.bootCause
  split <;> simp [State.writeSets]

/-- Both sets read back equal and sealed: store recovery is next (R133). -/
theorem State.seal_sealed (s : State) (hs : s.boot.step = .mpuSeal) (hp : s.power.pfw = false) :
    let t := s.seal false false
    t.le.isSealed = true ∧ t.boot.step = .recovery ∧ t.le.setA.length = 16 ∧ t.le.ram = s.le.ram ∧ t.le.flash = s.le.flash ∧
      t.le.tags = s.le.tags ∧ t.le.inB = s.le.inB ∧ State.keeps [.le, .boot, .rt, .ledger, .store, .mirror] s t := by
  have hle := s.setsWritten_le
  have hkeep := s.setsWritten_keeps
  rw [State.seal_eq false false s hs hp]
  generalize s.setsWritten = w at *
  refine ⟨rfl, rfl, ?_, ?_, ?_, ?_, ?_, fun p hn => ?_⟩
  · exact congrArg (fun le => le.setA.length) hle
  · exact congrArg (·.ram) hle
  · exact congrArg (·.flash) hle
  · exact congrArg (·.tags) hle
  · exact congrArg (·.inB) hle
  · have hw := hkeep p
    cases p <;> simp_all [State.agrees]

/-- A difference, or a seal that does not read as set, is a boot failure and a reset without a source (R133). -/
theorem State.seal_fails (differs fails : Bool) (s : State) (hs : s.boot.step = .mpuSeal) (hp : s.power.pfw = false)
    (hl : s.power.logicOn = true) (h : (differs || fails) = true) :
    let t := s.seal differs fails
    t.rt.state = .boot ∧ t.boot.step = .resetHeld ∧ t.boot.resetSources = 0 ∧
      t.boot.retained.bootFailures = s.boot.retained.bootFailures + 1 ∧ t.allOutputsOff ∧ t.le.isSealed = false := by
  obtain ⟨hboot, hpower⟩ := s.setsWritten_boot
  rw [State.seal_eq differs fails s hs hp, if_pos h, State.bootFailure, ← hboot]
  have hstep : (s.setsWritten.event 0x0304 []).boot = s.setsWritten.boot := by simp
  rw [← hstep]
  exact State.assertWarmReset_sourceless _ (by simp [hpower, hl]) (by simp [hboot, hs])

/-- What group `g` leaves once it has ended (R127, R129, R142). -/
theorem State.groupComplete_leaves (g place element : Nat) (raw : List (BitVec 64)) (s : State) (hs : s.boot.step = .bist g) (h₁ : 1 ≤ g)
    (h₈ : g ≤ 8) (hat : s.boot.groupAt ≤ s.localNow) (hw : s.power.pfw = false ∨ s.boot.groupAt ≤ s.power.rideSince) :
    let fs := s.groupFailures (groupLimit s.boot.cold g) g (s.groupRan g) raw place element
    let t := s.groupComplete g raw place element
    let n := s.boot.noteFailures g fs
    t.boot.step = (if g = 8 then .comparator else .bist (g + 1)) ∧
      (g ≠ 8 → t.boot.groupAt = s.localNow + 20000) ∧
      (g = 8 → t.boot.bistDuration = min 220000 ((s.localNow - s.boot.bistAt) / 100)) ∧
      (t.boot.groupRun = n.groupRun ∧ t.boot.groupFail = n.groupFail ∧ t.boot.failCount = n.failCount ∧ t.boot.failRecords = n.failRecords) ∧
      t.boot.watchdogSince = (if s.power.pfw then none else s.boot.watchdogSince) ∧
      t.boot.retained = { s.boot.retained with
        saveEvent := s.boot.retained.saveEvent && (g != 1 || s.keepsRegion 1)
        saveSnapshot := s.boot.retained.saveSnapshot && (g != 5 || s.keepsRegion 5) } ∧
      t.le = (s.groupTested g fs).le ∧ t.mirror = (s.groupTested g fs).mirror ∧ t.power = (s.groupTested g fs).power ∧
      State.keeps [.boot, .power, .le, .mirror] s t := by
  intro fs t n
  obtain ⟨run, paused, ht⟩ := State.groupComplete_eq g place element raw s hs h₁ h₈ hat hw
  have hkeep (b : Boot) := State.groupTested_keeps g fs b s
  have hboot : (s.groupTested g fs).boot = { n with retained := { s.boot.retained with
      saveEvent := s.boot.retained.saveEvent && (g != 1 || s.keepsRegion 1)
      saveSnapshot := s.boot.retained.saveSnapshot && (g != 5 || s.keepsRegion 5) } } := by
    rw [State.groupTested_eq]
  change t = _ at ht
  generalize s.groupTested g fs = v at *
  rw [ht]
  simp only [hboot]
  exact ⟨trivial, fun h => if_neg h, fun h => if_pos h, by simp, trivial, trivial, trivial, trivial, trivial, hkeep _⟩

/-- Settles O13: the groups by what one leaves, the time-out record by its fields, the comparator test over every pattern of faults, and
the seal by its two ends. -/
theorem selfTestsEnterTheirResults : Obligations.SelfTestsEnterTheirResults := by
  unfold Obligations.SelfTestsEnterTheirResults
  refine ⟨fun dt g place element raw s hs h₁ h₈ => ⟨fun hat hw => ?_, fun h => ?_⟩, ⟨rfl, rfl, rfl, rfl⟩, fun g place element h₁ h₈ => ?_,
    fun dt faulty s hs hp => ?_, by decide, by decide, fun dt s hs hp => ?_, fun dt differs fails s hs hp hl h => ?_⟩
  · obtain ⟨hstep, hgroup, hduration, ⟨hrun, hfail, hcount, hrecords⟩, hsince, hretained, hle, hmirror, hpower, hkeep⟩ :=
      State.groupComplete_leaves g place element raw (s.elapse dt) hs h₁ h₈ hat hw
    rw [State.groupFailures_eq] at hrun hfail hcount hrecords
    obtain ⟨nrun, nfail, ncount, nrecords⟩ := Boot.noteFailures_late g _
      (100 * groupLimit (s.elapse dt).boot.cold g < (s.elapse dt).groupRan g) (timeoutRecord g place element) (s.elapse dt).boot
    rw [State.groupTested_eq] at hle hmirror hpower
    refine ⟨_, exec_bistGroupComplete dt g place element raw s, hstep, hgroup, hduration, hrun.trans nrun, hfail.trans nfail,
      hcount.trans ncount, hrecords.trans nrecords, fun hp => hsince.trans (if_pos hp), fun hp => hsince.trans (if_neg (by simp [hp])),
      fun a => ?_, ?_, hretained, hmirror, hpower, hkeep⟩
    · exact (congrArg (fun le => cellRead 0 le.ram a) hle).trans (State.bistRam_read g a (s.elapse dt))
    · rw [hle]
      rfl
  · rw [exec_bistGroupComplete, State.groupComplete_early g place element raw (s.elapse dt) h]
  · obtain ⟨hplace, -, hdomain⟩ := timeoutPlace_bounds g place h₁ h₈
    obtain ⟨hg, hnobit, helem, hkind, hlow⟩ := timeoutRecord_fields g place element h₁ h₈
    exact ⟨hg, hkind, hnobit, hlow, hplace, fun h => ⟨helem.trans (if_pos h), hdomain h⟩⟩
  · obtain ⟨hbits, hsix, hseven, hall⟩ := comparatorResult_bits faulty
    refine ⟨_, exec_comparatorInjectionTest dt faulty s, ?_⟩
    rw [State.comparatorTest_due faulty (s.elapse dt) hs hp]
    exact ⟨hbits, hsix, hseven, hall, rfl, rfl, stepDetected_faultless faulty, State.keeps_boot _ _⟩
  · exact ⟨_, exec_mpuSeal dt false false s, State.seal_sealed (s.elapse dt) hs hp⟩
  · exact ⟨_, exec_mpuSeal dt differs fails s, State.seal_fails differs fails (s.elapse dt) hs hp hl h⟩

end Sys2Proof.Machine

namespace Sys2Proof.Machine

/-! ### The PLL lock at boot (R90, R91, R109, R121) -/

theorem exec_pllLock (dt lockUs : Nat) (c : ClockCounts) (s : State) :
    exec (.pllLock dt lockUs c) s = .next ((s.elapse dt).pllLocks lockUs c) := rfl
theorem exec_pllLockTimeout (dt : Nat) (s : State) : exec (.pllLockTimeout dt) s = .next (s.elapse dt).lockTimeout := rfl
theorem exec_pllLockRetry (dt : Nat) (s : State) : exec (.pllLockRetry dt) s = .next (s.elapse dt).lockRetry := rfl

@[simp] theorem State.bootPower_boot (s : State) : s.bootPower.boot = s.boot := rfl
@[simp] theorem State.bootPower_pfw (s : State) : s.bootPower.power.pfw = s.power.pfw := rfl
@[simp] theorem State.bootPower_localNow (s : State) : s.bootPower.localNow = s.localNow := rfl

/-- The first cause of a start stands (R42, R109). -/
theorem State.pendCause_boot (cause : Nat) (s : State) : (s.pendCause cause).boot =
    { s.boot with retained := { s.boot.retained with cause := some (s.boot.retained.cause.getD cause) } } := by
  unfold State.pendCause
  cases h : s.boot.retained.cause with
  | none => rfl
  | some c =>
    simp only [Option.isSome_some, if_true, Option.getD_some]
    rw [← h]

theorem State.pauseWatchdog_paused (s : State) :
    s.pauseWatchdog.boot.watchdogSince = none ∧ s.pauseWatchdog.boot.retryAt = s.boot.retryAt ∧
      s.pauseWatchdog.boot.retained = s.boot.retained := by
  rw [State.pauseWatchdog_boot]
  cases h : s.boot.watchdogSince <;> simp [h]

/-- What a failed lock leads to, whatever its window has left in the clock (R109). -/
theorem State.lockFails_fields (cause : Nat) (k : Clock) (s : State) :
    let t := State.lockFails cause { s with clock := k }
    t.clock.pllLock = false ∧ t.boot.step = .lockRetry ∧ t.boot.retryAt = s.boot.retryAt ∧ t.boot.watchdogSince = none ∧
      t.boot.retained.cause = some (s.boot.retained.cause.getD cause) ∧ State.keeps [.clock, .boot] s t := by
  obtain ⟨hsince, hretry, hretained⟩ := (State.pendCause cause { s with clock := k }).pauseWatchdog_paused
  rw [State.pendCause_boot] at hretry hretained
  refine ⟨rfl, rfl, hretry, hsince, congrArg Retained.cause hretained, fun p hp => ?_⟩
  cases p <;> simp_all [State.agrees]

/-- The Trim region reads valid. -/
def State.trimGood (s : State) : Bool := !s.otp.fails s.otp.lifecycleState .trim

/-- The clock after a lock in time and its first window. -/
def State.windowClock (lockUs : Nat) (c : ClockCounts) (s : State) : Clock :=
  (State.noteCounts c (countsOk s.trimGood s.power.domainStatus c)
    { s with clock.pllLockTime := lockUs, clock.trimValid := s.trimGood }).clock

/-- The lock and its window are good: the sequence goes on, and with it a paused boot watchdog (R109, R121). -/
def State.lockPasses (k : Clock) (s : State) : State :=
  State.resumeWatchdog { s with
    clock := { k with pllLock := true }, boot := { s.boot with step := .locked, lockRetrying := false } }

theorem State.lockPasses_fields (k : Clock) (s : State) (hp : s.power.pfw = false) (hk : k.localTicks = s.clock.localTicks) :
    let t := s.lockPasses k
    t.clock = { k with pllLock := true } ∧ t.boot.step = .locked ∧ t.boot.lockRetrying = false ∧
      t.boot.watchdogSince = (if s.boot.watchdogPaused then some s.localNow else s.boot.watchdogSince) ∧
      State.keeps [.clock, .boot] s t := by
  have hkeep : State.keeps [.clock, .boot] s (s.lockPasses k) := fun p hp => by
    cases p <;> simp_all [State.agrees, State.lockPasses]
  unfold State.lockPasses State.resumeWatchdog at hkeep ⊢
  cases hw : s.boot.watchdogPaused with
  | true =>
    rw [if_pos (by simp [hw, hp])] at hkeep ⊢
    exact ⟨rfl, rfl, rfl, congrArg some hk, hkeep⟩
  | false =>
    rw [if_neg (by simp [hw])] at hkeep ⊢
    exact ⟨rfl, rfl, rfl, rfl, hkeep⟩

theorem State.pllLocks_waiting (lockUs : Nat) (c : ClockCounts) (s : State) (hs : s.boot.step = .waitLock)
    (hp : s.power.pfw = false) : s.pllLocks lockUs c =
      let u := s.bootPower
      let k := u.windowClock lockUs c
      if 1000 < lockUs then u.lockFails 0x0202
      else if countsOk u.trimGood u.power.domainStatus c then u.lockPasses k
      else State.lockFails 0x0201 { u with clock := k } := by
  unfold State.pllLocks
  exact if_pos (by simp [hs, hp])

theorem State.lockTimeout_due (s : State) (hs : s.boot.step = .waitLock) (hp : s.power.pfw = false)
    (h : s.boot.retryAt + 100000 ≤ s.localNow) : s.lockTimeout = s.bootPower.lockFails 0x0202 := by
  unfold State.lockTimeout
  exact if_pos (by simp [hs, hp, h])

theorem State.lockTimeout_early (s : State) (h : s.localNow < s.boot.retryAt + 100000) : s.lockTimeout = s.bootPower := by
  unfold State.lockTimeout
  exact if_neg (by simp [Nat.not_le.mpr h])

theorem State.lockRetry_eq (s : State) (hs : s.boot.step = .lockRetry) : s.lockRetry =
    if s.boot.retryAt + 1000000 ≤ s.localNow ∧ s.power.pfw = false
    then { s.bootPower with boot := { s.bootPower.boot with step := .waitLock, retryAt := s.localNow } } else s.bootPower := by
  unfold State.lockRetry
  exact if_congr (by simp [hs, and_comm]) rfl rfl

/-- Settles O8: a lock either passes its window or fails as `State.lockFails_fields` says. -/
theorem pllLocksOrIsRetried : Obligations.PllLocksOrIsRetried := by
  unfold Obligations.PllLocksOrIsRetried
  refine ⟨fun dt lockUs c s hs hp => ⟨fun hl hc => ?_, fun h => ?_⟩, fun dt s hs hp => ⟨fun h => ?_, fun h => ?_⟩,
    fun dt s hs => ?_⟩
  · refine ⟨_, (exec_pllLock dt lockUs c s).trans (congrArg _ ((State.pllLocks_waiting lockUs c (s.elapse dt) hs hp).trans
      ((if_neg (Nat.not_lt.mpr hl)).trans (if_pos hc)))), ?_⟩
    obtain ⟨hclock, hstep, hretrying, hsince, hkeep⟩ :=
      State.lockPasses_fields ((s.elapse dt).bootPower.windowClock lockUs c) (s.elapse dt).bootPower hp rfl
    rw [hclock]
    exact ⟨rfl, rfl, hc, rfl, hstep, hretrying, hsince, hkeep⟩
  · rw [exec_pllLock, State.pllLocks_waiting lockUs c (s.elapse dt) hs hp]
    refine ⟨_, rfl, ?_⟩
    by_cases hl : 1000 < lockUs
    · dsimp only
      rw [if_pos hl, if_pos hl]
      exact State.lockFails_fields 0x0202 (s.elapse dt).clock (s.elapse dt).bootPower
    · have hc : countsOk (s.elapse dt).bootPower.trimGood (s.elapse dt).bootPower.power.domainStatus c = false :=
        h.resolve_left hl
      dsimp only
      rw [if_neg hl, if_neg hl, if_neg (by simp [hc])]
      exact State.lockFails_fields 0x0201 _ (s.elapse dt).bootPower
  · obtain ⟨hlock, hstep, -, hsince, hcause, hkeep⟩ := State.lockFails_fields 0x0202 (s.elapse dt).clock (s.elapse dt).bootPower
    exact ⟨_, (exec_pllLockTimeout dt s).trans (congrArg _ (State.lockTimeout_due (s.elapse dt) hs hp h)),
      hlock, hstep, hsince, hcause, hkeep⟩
  · rw [exec_pllLockTimeout, State.lockTimeout_early (s.elapse dt) h]
  · rw [exec_pllLockRetry, State.lockRetry_eq (s.elapse dt) hs]
    rfl

end Sys2Proof.Machine

namespace Sys2Proof.Machine

theorem State.keeps_clock (k : Clock) (s : State) : State.keeps [.clock] s { s with clock := k } :=
  fun p hp => by cases p <;> simp_all [State.agrees]

/-! ### Little-endian fields of a frame (R434, R474) -/

@[simp] theorem length_leBytes (k n : Nat) : (leBytes k n).length = k := by
  induction k generalizing n with
  | zero => rfl
  | succ k ih => simp [leBytes, ih]

theorem ofLe_leBytes (k n : Nat) : ofLe (leBytes k n) = n % 256 ^ k := by
  induction k generalizing n with
  | zero => simp [leBytes, ofLe, Nat.mod_one]
  | succ k ih =>
    rw [leBytes, ofLe, ih, Nat.pow_succ', Nat.mod_mul, BitVec.toNat_ofNat]

/-- A field reads what was written there, whatever stands before and behind it. -/
theorem leAt_leBytes (front rest : List Byte) (k n : Nat) : leAt (front ++ leBytes k n ++ rest) front.length k = n % 256 ^ k := by
  rw [leAt, List.append_assoc, List.drop_left, List.take_left' (length_leBytes k n), ofLe_leBytes]

theorem padFd_eq (d : List Byte) : ∃ z, padFd d = d ++ z := by
  unfold padFd
  split
  · exact ⟨_, rfl⟩
  · exact ⟨[], (List.append_nil d).symm⟩

@[simp] theorem State.length_zopHeader (s : State) (resync : Bool) : (s.zopHeader resync).length = 2 := by simp [State.zopHeader]

/-- A frame that is sent stands in the queue of every controller that takes frames (R478). -/
theorem State.send_queues (id : Nat) (data : List Byte) (s : State) (hc : s.rt.cycling = true) :
    (s.zop.canA.accepts = true → s.frame id data ∈ (s.send id data).zop.canA.queue) ∧
      (s.zop.canB.accepts = true → s.frame id data ∈ (s.send id data).zop.canB.queue) := by
  obtain ⟨hB, hrate, hsentA⟩ := s.sendOn_a id data
  obtain ⟨hA, hsentB⟩ := (s.sendOn .a id data).sendOn_b id data
  have hframe : (s.sendOn .a id data).frame id data = s.frame id data := by simp [State.frame, hrate]
  rw [State.send, if_pos hc, hA]
  rw [hframe, hB] at hsentB
  exact ⟨hsentA, hsentB⟩

/-! ### The time master (R98, R99) -/

theorem exec_timeMasterTimeout (dt : Nat) (s : State) : exec (.timeMasterTimeout dt) s = .next (s.elapse dt).masterTimeout := rfl
theorem exec_syncRoundStart (dt : Nat) (s : State) : exec (.syncRoundStart dt) s = .next (s.elapse dt).roundStart := rfl
theorem exec_followUpSend (dt : Nat) (missedA missedB : Bool) (s : State) :
    exec (.followUpSend dt missedA missedB) s = .next ((s.elapse dt).followUpSend missedA missedB) := rfl

theorem State.masterTimeout_elected (s : State) (hc : s.rt.cycling = true)
    (hs : s.clock.sync = .free ∨ s.clock.sync = .locking ∨ s.clock.sync = .holdover) (hp : s.timePriority ≠ 0)
    (h : s.clock.lastHeard + 100000 * (30 + s.timePriority) ≤ s.now) : s.masterTimeout = { s with clock := { s.clock with
      sync := .master, sending := none, fourCount := 0, slewUntil := none, pendingStep := none, rho := 0, limitSince := none
      roundLast := 0 } } := by
  have hopen : (s.clock.sync == .free || s.clock.sync == .locking || s.clock.sync == .holdover) = true := by
    rcases hs with hs | hs | hs <;> rw [hs] <;> rfl
  unfold State.masterTimeout
  exact if_pos (by simpa [hc, hopen, hp, ms] using h)

theorem State.masterTimeout_waits (s : State)
    (h : s.timePriority = 0 ∨ s.now < s.clock.lastHeard + 100000 * (30 + s.timePriority)) : s.masterTimeout = s := by
  unfold State.masterTimeout
  refine if_neg ?_
  rcases h with h | h
  · simp [h]
  · simp [ms, h]

/-- The SYNC frame of round `n` (R486, Table 17-8). -/
def State.syncData (n : Nat) (s : State) : List Byte := s.zopHeader false ++ leBytes 1 s.timePriority ++ leBytes 1 0 ++ leBytes 4 n

theorem State.leAt_syncData (n id : Nat) (s t : State) : leAt (s.frame id (t.syncData n)).data 4 4 = n % 2 ^ 32 := by
  obtain ⟨z, hz⟩ := padFd_eq (t.syncData n)
  rw [State.frame, hz]
  exact leAt_leBytes (t.zopHeader false ++ leBytes 1 t.timePriority ++ leBytes 1 0) z 4 n

/-- The state in which the round of this instant is begun and its frames not yet queued. -/
def State.roundBegun (s : State) : State :=
  { s with clock := { s.clock with
      sending := some { round := s.now / 1000000 % 2 ^ 32, instant := s.now, ma := none, mb := none }, roundLast := s.now } }

theorem State.roundStart_due (s : State) (hc : s.rt.cycling = true) (hs : s.clock.sync = .master) (hn : s.now % 1000000 = 0)
    (hl : s.clock.roundLast < s.now) :
    s.roundStart = s.roundBegun.send (0x010 + s.zop.nodeId) (s.roundBegun.syncData (s.now / 1000000 % 2 ^ 32)) := by
  unfold State.roundStart
  exact if_pos (by simp [hc, hs, hn, hl])

theorem State.roundStart_waits (s : State) (h : s.now % 1000000 ≠ 0 ∨ s.now ≤ s.clock.roundLast) : s.roundStart = s := by
  unfold State.roundStart
  refine if_neg ?_
  rcases h with h | h
  · simp [h]
  · simp [Nat.not_lt.mpr h]

/-- The FOLLOW_UP frame of round `n` with the captures `a` and `b` (R486, Table 17-8). -/
def State.followUpData (n : Nat) (a b : Option Nat) (s : State) : List Byte :=
  s.zopHeader false ++ (leBytes 1 (bit a.isSome + 2 * bit b.isSome) ++ leBytes 1 0 ++ leBytes 4 n ++ leBytes 8 (a.getD 0) ++
    leBytes 8 (b.getD 0))

theorem State.leAt_followUpData (n id : Nat) (a b : Option Nat) (s t : State) :
    let d := (s.frame id (t.followUpData n a b)).data
    leAt d 4 4 = n % 2 ^ 32 ∧ leAt d 8 8 = a.getD 0 % 2 ^ 64 ∧ leAt d 16 8 = b.getD 0 % 2 ^ 64 := by
  obtain ⟨z, hz⟩ := padFd_eq (t.followUpData n a b)
  have hround := leAt_leBytes (t.zopHeader false ++ leBytes 1 (bit a.isSome + 2 * bit b.isSome) ++ leBytes 1 0)
    (leBytes 8 (a.getD 0) ++ leBytes 8 (b.getD 0) ++ z) 4 n
  have hma := leAt_leBytes (t.zopHeader false ++ leBytes 1 (bit a.isSome + 2 * bit b.isSome) ++ leBytes 1 0 ++ leBytes 4 n)
    (leBytes 8 (b.getD 0) ++ z) 8 (a.getD 0)
  have hmb := leAt_leBytes (t.zopHeader false ++ leBytes 1 (bit a.isSome + 2 * bit b.isSome) ++ leBytes 1 0 ++ leBytes 4 n ++
    leBytes 8 (a.getD 0)) z 8 (b.getD 0)
  dsimp only [State.frame]
  rw [hz]
  simp only [List.length_append, length_leBytes, State.length_zopHeader, List.append_assoc] at hround hma hmb
  simp only [State.followUpData, List.append_assoc]
  exact ⟨hround, hma, hmb⟩

/-- The capture of a channel's SYNC, unless its controller missed it. -/
def State.taken (ch : CanChannel) (missed : Bool) (m : Option Nat) (s : State) : Option Nat :=
  if s.channelInUse ch && !missed then m else none

/-- A capture is held for every enabled channel. -/
def State.capturesHeld (a b : Option Nat) (s : State) : Bool :=
  (a.isSome || !s.channelInUse .a) && (b.isSome || !s.channelInUse .b)

theorem State.followUpSend_eq (missedA missedB : Bool) (m : MasterRound) (s : State) (hs : s.clock.sync = .master)
    (hm : s.clock.sending = some m) : s.followUpSend missedA missedB =
      let a := s.taken .a missedA m.ma
      let b := s.taken .b missedB m.mb
      let t := { s with clock := { s.clock with sending := none } }
      if m.instant + 200000 < s.now then t
      else if s.capturesHeld a b = true ∨ m.instant + 150000 ≤ s.now then t.send (0x030 + s.zop.nodeId) (s.followUpData m.round a b)
      else s := by
  unfold State.followUpSend
  rw [hm]
  dsimp only
  rw [show ms 2 = 200000 from rfl, show us 1500 = 150000 from rfl]
  refine if_congr ?_ rfl (if_congr ?_ rfl rfl)
  · simp [hs]
  · exact Bool.or_eq_true_iff.trans (or_congr Iff.rfl decide_eq_true_iff)

theorem State.taken_inUse (ch : CanChannel) (missed : Bool) (m : Option Nat) (s : State) (h : s.channelInUse ch = true) :
    s.taken ch missed m = if missed then none else m := by
  cases missed <;> simp [State.taken, h]

/-- A channel that is not in use holds up no FOLLOW_UP. -/
theorem State.capturesHeld_taken (missedA missedB : Bool) (ma mb : Option Nat) (s : State) :
    s.capturesHeld (s.taken .a missedA ma) (s.taken .b missedB mb) =
      (((if missedA then none else ma).isSome || !s.channelInUse .a) && ((if missedB then none else mb).isSome || !s.channelInUse .b)) := by
  have hchannel (ch : CanChannel) (missed : Bool) (m : Option Nat) :
      ((s.taken ch missed m).isSome || !s.channelInUse ch) = ((if missed then none else m).isSome || !s.channelInUse ch) := by
    cases h : s.channelInUse ch
    · simp
    · rw [s.taken_inUse ch missed m h]
  rw [State.capturesHeld, hchannel, hchannel]

/-- A SYNC of round `n` stands in the queue. -/
def State.syncIn (n : Nat) (q : List CanFrame) (s : State) : Prop := ∃ f ∈ q, f.id = 0x010 + s.zop.nodeId ∧ leAt f.data 4 4 = n

/-- A FOLLOW_UP of round `n` with the captures `a` and `b` of the channels in use stands in the queue. -/
def State.followUpIn (n : Nat) (a b : Option Nat) (q : List CanFrame) (s : State) : Prop :=
  ∃ f ∈ q, f.id = 0x030 + s.zop.nodeId ∧ leAt f.data 4 4 = n % 2 ^ 32 ∧
    (s.channelInUse .a = true → leAt f.data 8 8 = a.getD 0 % 2 ^ 64) ∧
    (s.channelInUse .b = true → leAt f.data 16 8 = b.getD 0 % 2 ^ 64)

theorem State.send_sync (n : Nat) (s t : State) (hc : s.rt.cycling = true) :
    let u := s.send (0x010 + s.zop.nodeId) (t.syncData n)
    (s.zop.canA.accepts = true → s.syncIn (n % 2 ^ 32) u.zop.canA.queue) ∧
      (s.zop.canB.accepts = true → s.syncIn (n % 2 ^ 32) u.zop.canB.queue) := by
  obtain ⟨hA, hB⟩ := s.send_queues (0x010 + s.zop.nodeId) (t.syncData n) hc
  have hround := State.leAt_syncData n (0x010 + s.zop.nodeId) s t
  exact ⟨fun h => ⟨_, hA h, rfl, hround⟩, fun h => ⟨_, hB h, rfl, hround⟩⟩

theorem State.send_followUp (n : Nat) (missedA missedB : Bool) (ma mb : Option Nat) (s t : State) (hc : s.rt.cycling = true) :
    let u := s.send (0x030 + s.zop.nodeId) (t.followUpData n (s.taken .a missedA ma) (s.taken .b missedB mb))
    let a := if missedA then none else ma
    let b := if missedB then none else mb
    (s.zop.canA.accepts = true → s.followUpIn n a b u.zop.canA.queue) ∧
      (s.zop.canB.accepts = true → s.followUpIn n a b u.zop.canB.queue) := by
  generalize ha : s.taken .a missedA ma = a
  generalize hb : s.taken .b missedB mb = b
  obtain ⟨hA, hB⟩ := s.send_queues (0x030 + s.zop.nodeId) (t.followUpData n a b) hc
  obtain ⟨hround, hma, hmb⟩ := State.leAt_followUpData n (0x030 + s.zop.nodeId) a b s t
  have hinA (hu : s.channelInUse .a = true) : a = if missedA then none else ma := ha ▸ s.taken_inUse .a missedA ma hu
  have hinB (hu : s.channelInUse .b = true) : b = if missedB then none else mb := hb ▸ s.taken_inUse .b missedB mb hu
  exact ⟨fun h => ⟨_, hA h, rfl, hround, fun hu => hinA hu ▸ hma, fun hu => hinB hu ▸ hmb⟩,
    fun h => ⟨_, hB h, rfl, hround, fun hu => hinA hu ▸ hma, fun hu => hinB hu ▸ hmb⟩⟩

/-- Settles O9: the election, the start of a round and its FOLLOW_UP, each by whether it is due. -/
theorem timeMasterSendsRounds : Obligations.TimeMasterSendsRounds := by
  unfold Obligations.TimeMasterSendsRounds
  refine ⟨fun dt s hc hs => ⟨fun hp h => ?_, fun h => ?_⟩, fun dt s hc hs => ⟨fun hn hl => ?_, fun h => ?_⟩,
    fun dt missedA missedB m s hc hs hm => ⟨fun h => ?_, fun h hheld => ?_, fun hheld h => ?_⟩⟩
  · refine ⟨_, (exec_timeMasterTimeout dt s).trans (congrArg _ (State.masterTimeout_elected (s.elapse dt) hc hs hp h)), rfl,
      State.keeps_clock _ _⟩
  · rw [exec_timeMasterTimeout, State.masterTimeout_waits (s.elapse dt) h]
  · refine ⟨_, (exec_syncRoundStart dt s).trans (congrArg _ (State.roundStart_due (s.elapse dt) hc hs hn hl)), ?_⟩
    obtain ⟨hA, hB⟩ := (s.elapse dt).roundBegun.send_sync ((s.elapse dt).now / 1000000 % 2 ^ 32) (s.elapse dt).roundBegun hc
    rw [Nat.mod_mod] at hA hB
    refine ⟨?_, hA, hB, fun p hp => ?_⟩
    · simp [State.roundBegun]
    · cases p <;> simp_all [State.agrees, State.roundBegun]
  · rw [exec_syncRoundStart, State.roundStart_waits (s.elapse dt) h]
  · rw [exec_followUpSend, State.followUpSend_eq missedA missedB m (s.elapse dt) hs hm]
    exact congrArg _ (if_pos h)
  · rw [← State.capturesHeld_taken] at hheld
    obtain ⟨hA, hB⟩ :=
      State.send_followUp m.round missedA missedB m.ma m.mb { s.elapse dt with clock.sending := none } (s.elapse dt) hc
    have hsend := (State.followUpSend_eq missedA missedB m (s.elapse dt) hs hm).trans
      ((if_neg (Nat.not_lt.mpr h)).trans (if_pos hheld))
    refine ⟨_, (exec_followUpSend dt missedA missedB s).trans (congrArg _ hsend), ?_, hA, hB, fun p hp => ?_⟩
    · simp
    · cases p <;> simp_all [State.agrees]
  · rw [← State.capturesHeld_taken] at hheld
    rw [exec_followUpSend, State.followUpSend_eq missedA missedB m (s.elapse dt) hs hm]
    refine congrArg _ ((if_neg ?_).trans (if_neg ?_))
    · exact Nat.not_lt.mpr (by omega)
    · rintro (hall | hlate)
      · exact Bool.false_ne_true (hheld.symm.trans hall)
      · exact absurd h (Nat.not_lt.mpr hlate)

end Sys2Proof.Machine

namespace Sys2Proof.Machine

/-! ### SYNC frames of a foreign master (R98, R100) -/

theorem exec_sync (dt : Nat) (ch : CanChannel) (m p n : Nat) (s : State) :
    exec (.sync dt ch m p n) s = .next ((s.elapse dt).syncFrame ch m p n) := rfl
theorem exec_followUp (dt m : Nat) (va vb : Bool) (n ma mb : Nat) (s : State) :
    exec (.followUp dt m va vb n ma mb) s = .next ((s.elapse dt).followUpFrame m va vb n ma mb) := rfl

/-- What is held of round `n` of master `m`, or a fresh round. -/
def State.roundOf (m p n : Nat) (s : State) : SyncCapture :=
  (s.clock.captures.find? (fun c => c.master == m && c.round == n)).getD
    { master := m, priority := p, round := n, la := none, lb := none, done := false }

/-- The start of a frame on channel `ch` at instant `t`: the first one of the channel is captured, of a processed round none. -/
def SyncCapture.capture (ch : CanChannel) (t : Instant) (c : SyncCapture) : SyncCapture :=
  if c.done then c else match ch with
    | .a => { c with la := some (c.la.getD t) }
    | .b => { c with lb := some (c.lb.getD t) }

theorem State.syncFrame_collects (ch : CanChannel) (m p n : Nat) (s : State) (hc : s.rt.cycling = true)
    (hu : s.channelInUse ch = true) (hm : m ≠ s.zop.nodeId) : s.syncFrame ch m p n = { s with clock := { s.clock with
      captures := s.clock.captures.filter (fun x => x.master != m) ++ [(s.roundOf m p n).capture ch s.now] } } := by
  have hcond : (s.rt.cycling && s.channelInUse ch && m != s.zop.nodeId) = true := by simp [hc, hu, hm]
  unfold State.syncFrame
  rw [if_pos hcond, State.roundOf]
  cases s.clock.captures.find? (fun c => c.master == m && c.round == n) <;> rfl

theorem State.roundOf_ident (m p n : Nat) (s : State) : (s.roundOf m p n).master = m ∧ (s.roundOf m p n).round = n := by
  unfold State.roundOf
  cases h : s.clock.captures.find? (fun c => c.master == m && c.round == n) with
  | none => exact ⟨rfl, rfl⟩
  | some c => simpa using List.find?_some h

theorem State.roundOf_fresh (m p n : Nat) (s : State) (h : ∀ c ∈ s.clock.captures, c.master = m → c.round ≠ n) :
    s.roundOf m p n = { master := m, priority := p, round := n, la := none, lb := none, done := false } := by
  have hnone : s.clock.captures.find? (fun c => c.master == m && c.round == n) = none := by simpa using h
  rw [State.roundOf, hnone]
  rfl

theorem SyncCapture.capture_ident (ch : CanChannel) (t : Instant) (c : SyncCapture) :
    (c.capture ch t).master = c.master ∧ (c.capture ch t).round = c.round := by
  unfold SyncCapture.capture
  split
  · exact ⟨rfl, rfl⟩
  · cases ch <;> exact ⟨rfl, rfl⟩

/-- A round not yet processed holds the capture of the channel its frame came on. -/
theorem SyncCapture.capture_held (ch : CanChannel) (t : Instant) (c : SyncCapture) (h : (c.capture ch t).done = false) :
    (match ch with | .a => (c.capture ch t).la | .b => (c.capture ch t).lb).isSome = true := by
  unfold SyncCapture.capture at h ⊢
  by_cases hd : c.done = true
  · simp [hd] at h
  · cases ch <;> simp [hd]

/-! ### The discipline law (R102) -/

/-- An accepted offset touches the rate, the slew and the pending step, and notes when the round was accepted. -/
theorem State.acceptRound_clock (e : Int) (inst : Instant) (s : State) : (s.acceptRound e inst).clock =
    let k := (s.acceptRound e inst).clock
    { s.clock with lastAccepted := some inst, pendingStep := k.pendingStep, r := k.r, rho := k.rho, limitSince := k.limitSince
                   slewUntil := k.slewUntil } := by
  unfold State.acceptRound State.applyOffset
  split <;> rfl

/-- An offset of at most 10 µs is slewed away until the next round instant, and moves r by −e / 2 ppm. -/
theorem State.acceptRound_slews (e : Int) (inst : Instant) (s : State) (h : e.natAbs ≤ 1000) :
    (s.acceptRound e inst).clock.r = max (-200000) (min 200000 (s.clock.r - 500 * e)) ∧
      (s.acceptRound e inst).clock.slewUntil = some (s.nextRound inst) := by
  unfold State.acceptRound State.applyOffset
  rw [if_neg (by omega)]
  exact ⟨rfl, rfl⟩

/-- The law of Table 3-4 leaves the rounds collected and the masters heard. -/
theorem State.roundOffset_kept (e : Int) (inst : Instant) (demoted : Bool) (s : State) :
    (s.roundOffset e inst demoted).clock.captures = s.clock.captures ∧
      (s.roundOffset e inst demoted).clock.masters = s.clock.masters := by
  have haccept (t : State) : (t.acceptRound e inst).clock.captures = t.clock.captures ∧
      (t.acceptRound e inst).clock.masters = t.clock.masters := by
    rw [t.acceptRound_clock]
    exact ⟨rfl, rfl⟩
  unfold State.roundOffset
  dsimp only
  (repeat' split) <;> simp [haccept, State.noteOffset, State.becomeLocked]

/-- Table 3-4 for a LOCKED unit. -/
theorem State.roundOffset_locked (e : Int) (inst : Instant) (demoted : Bool) (s : State) (hs : s.clock.sync = .locked) :
    s.roundOffset e inst demoted =
      if e.natAbs ≤ 35 then State.acceptRound e inst { s.noteOffset e with clock.departure := false }
      else if s.clock.departure = false then
        if e.natAbs ≤ 1000 then State.acceptRound e inst { s.noteOffset e with clock.departure := true }
        else { s.noteOffset e with clock.departure := true, clock.rejectCount := sat32 (s.clock.rejectCount + 1) }
      else State.acceptRound e inst
        { s.noteOffset e with clock.sync := .locking, clock.fourCount := 0, clock.departure := false } := by
  have hn : (s.noteOffset e).clock.sync = .locked := hs
  unfold State.roundOffset
  dsimp only
  rw [hn]
  simp only [Bool.not_eq_true']
  rfl

/-! ### FOLLOW_UP frames (R100) -/

/-- The collected round `n` of master `m` is processed. -/
def State.processed (m n : Nat) (s : State) : List SyncCapture :=
  s.clock.captures.map (fun x => if x.master == m && x.round == n then { x with done := true } else x)

theorem State.processed_done (m n : Nat) (s : State) (c : SyncCapture) (h : c ∈ s.processed m n) (hm : c.master = m)
    (hn : c.round = n) : c.done = true := by
  obtain ⟨x, -, rfl⟩ := List.mem_map.mp h
  split
  · rfl
  · simp_all

/-- A round that is not collected, or whose first FOLLOW_UP has come, is ignored. -/
theorem State.followUpFrame_ignored (m : Nat) (va vb : Bool) (n ma mb : Nat) (s : State)
    (h : ∀ c ∈ s.clock.captures, c.master = m → c.round = n → c.done = true) : s.followUpFrame m va vb n ma mb = s := by
  have hnone : s.clock.captures.find? (fun c => c.master == m && c.round == n && !c.done) = none := by
    simpa using fun c hc hm hn => h c hc hm hn
  unfold State.followUpFrame
  rw [hnone]

/-- The instant of the round whose capture M is `m`, as a receiver whose offset is `e` has it (R100). -/
def roundAt (m : Nat) (e : Int) : Int := ((m - m % 1000000 : Nat) : Int) + e

/-- The instant of a round by the offset that is taken, or, without one, that of its FOLLOW_UP. -/
def State.roundInstant (taken : Option (Int × Nat)) (s : State) : Instant :=
  match taken with
  | some (e, m) => roundAt m e
  | none => s.now

/-- The state in which the round of `c` is processed and its master heard. -/
def State.heardRound (c : SyncCapture) (m n : Nat) (inst : Instant) (s : State) : State :=
  State.hearRound m c.priority inst { s with clock.captures := s.processed m n }

/-- What the offsets of a round lead to: nothing unless its master is the one followed. -/
def State.judgeRound (m : Nat) (ea eb : Option (Int × Nat)) (inst : Instant) (demoted : Bool) (s : State) : State :=
  if (s.followed.map (fun h => h.node)) != some m then s
  else match ea.orElse (fun _ => eb), ea, eb with
    | none, _, _ => s
    | some (e, _), some x, some y =>
      if 30 < (x.1 - y.1).natAbs then { s with clock.rejectCount := sat32 (s.clock.rejectCount + 1) }
      else s.roundOffset e inst demoted
    | some (e, _), _, _ => s.roundOffset e inst demoted

theorem State.followUpFrame_first (m : Nat) (va vb : Bool) (n ma mb : Nat) (c : SyncCapture) (s : State)
    (h : s.clock.captures.find? (fun c => c.master == m && c.round == n && !c.done) = some c) :
    s.followUpFrame m va vb n ma mb =
      let ea := roundE va c.la ma
      let eb := roundE vb c.lb mb
      let inst := s.roundInstant (ea.orElse (fun _ => eb))
      let master := s.clock.sync == .master
      let u := s.heardRound c m n inst
      if master && !outranks c.priority m s.timePriority s.zop.nodeId then u
      else State.judgeRound m ea eb inst master (if master then u.yieldMaster else u) := by
  unfold State.followUpFrame
  rw [h]
  rfl

theorem State.judgeRound_kept (m : Nat) (ea eb : Option (Int × Nat)) (inst : Instant) (demoted : Bool) (s : State) :
    (s.judgeRound m ea eb inst demoted).clock.captures = s.clock.captures ∧
      (s.judgeRound m ea eb inst demoted).clock.masters = s.clock.masters := by
  unfold State.judgeRound
  (repeat' split) <;> simp [State.roundOffset_kept]

/-- The first FOLLOW_UP of a collected round processes it and hears its master. -/
theorem State.followUpFrame_hears (m : Nat) (va vb : Bool) (n ma mb : Nat) (s : State)
    (h : ∃ c ∈ s.clock.captures, c.master = m ∧ c.round = n ∧ c.done = false) :
    let t := s.followUpFrame m va vb n ma mb
    t.clock.captures = s.processed m n ∧ ∃ x ∈ t.clock.masters, x.node = m := by
  obtain ⟨c, hc⟩ : ∃ c, s.clock.captures.find? (fun c => c.master == m && c.round == n && !c.done) = some c := by
    rw [← Option.isSome_iff_exists, List.find?_isSome]
    simpa [and_assoc] using h
  have hheard (inst : Instant) : (s.heardRound c m n inst).clock.captures = s.processed m n ∧
      ∃ x ∈ (s.heardRound c m n inst).clock.masters, x.node = m := by
    simp [State.heardRound, State.hearRound]
  dsimp only
  rw [State.followUpFrame_first m va vb n ma mb c s hc]
  dsimp only
  split
  · exact hheard _
  · rw [(State.judgeRound_kept ..).1, (State.judgeRound_kept ..).2]
    split <;> exact hheard _

theorem State.followUpFrame_keeps (m : Nat) (va vb : Bool) (n ma mb : Nat) (s : State) :
    State.keeps [.clock] s (s.followUpFrame m va vb n ma mb) :=
  fun p hp => by cases p <;> simp_all [State.agrees]

/-! ### The round of a LOCKED unit (R100, R102, Table 3-4) -/

theorem State.heardRound_captures (c : SyncCapture) (inst : Instant) (s : State) (h : s.clock.captures = [c]) :
    (s.heardRound c c.master c.round inst).clock.captures = [{ c with done := true }] := by
  simp [State.heardRound, State.hearRound, State.processed, h]

theorem State.heardRound_masters (c : SyncCapture) (m n : Nat) (inst : Instant) (s : State) (h : s.clock.masters = []) :
    (s.heardRound c m n inst).clock.masters = [{ node := m, priority := c.priority, last := inst }] := by
  simp [State.heardRound, State.hearRound, h]

/-- A unit that is no master and has heard no other one follows the master of a recent round (R98). -/
theorem State.followed_heardRound (c : SyncCapture) (m n : Nat) (inst : Int) (s : State) (hs : s.clock.sync ≠ .master)
    (hm : s.clock.masters = []) (hrecent : s.now ≤ inst + 3000000) :
    (s.heardRound c m n inst).followed = some { node := m, priority := c.priority, last := inst } := by
  have hmasters : (s.heardRound c m n inst).clock.masters = [{ node := m, priority := c.priority, last := inst }] :=
    s.heardRound_masters c m n inst hm
  have hsync : ((s.heardRound c m n inst).clock.sync == .master) = false := beq_false_of_ne hs
  have hrecents : (s.heardRound c m n inst).recentMasters = [{ node := m, priority := c.priority, last := inst }] := by
    rw [State.recentMasters, hmasters]
    exact List.filter_cons_of_pos (decide_eq_true hrecent)
  rw [State.followed, hsync, hrecents]
  rfl

/-- With both captures held the round of the one master heard is discarded, or its offset e_A taken (R100). -/
theorem State.followUpFrame_locked (c : SyncCapture) (ma mb : Nat) (la lb : Int) (s : State) (hs : s.clock.sync = .locked)
    (hm : s.clock.masters = []) (hc : s.clock.captures = [c]) (hdone : c.done = false) (hla : c.la = some la) (hlb : c.lb = some lb)
    (hrecent : s.now ≤ roundAt ma (la - ma) + 3000000) :
    s.followUpFrame c.master true true c.round ma mb =
      let u := s.heardRound c c.master c.round (roundAt ma (la - ma))
      if 30 < (la - ma - (lb - mb)).natAbs then { u with clock.rejectCount := sat32 (s.clock.rejectCount + 1) }
      else u.roundOffset (la - ma) (roundAt ma (la - ma)) false := by
  have hsync : (s.clock.sync == .master) = false := by rw [hs]; rfl
  have hfind : s.clock.captures.find? (fun x => x.master == c.master && x.round == c.round && !x.done) = some c := by
    simp [hc, hdone]
  have hfollowed := s.followed_heardRound c c.master c.round (roundAt ma (la - ma)) (by simp [hs]) hm hrecent
  rw [State.followUpFrame_first c.master true true c.round ma mb c s hfind, hla, hlb]
  dsimp only
  rw [hsync, Bool.false_and, if_neg Bool.false_ne_true, if_neg Bool.false_ne_true]
  exact if_neg (ne_true_of_eq_false (bne_eq_false_iff_eq.mpr (congrArg (Option.map HeardMaster.node) hfollowed)))

/-- What Table 3-4 does with an offset in a LOCKED unit. -/
theorem State.roundOffset_locked_fields (e : Int) (inst : Instant) (demoted : Bool) (s : State) (hs : s.clock.sync = .locked) :
    let k := (s.roundOffset e inst demoted).clock
    (e.natAbs ≤ 35 → k.sync = .locked ∧ k.departure = false ∧ k.rejectCount = s.clock.rejectCount) ∧
      (35 < e.natAbs → e.natAbs ≤ 1000 → s.clock.departure = false →
        k.sync = .locked ∧ k.departure = true ∧ k.rejectCount = s.clock.rejectCount) ∧
      (1000 < e.natAbs → s.clock.departure = false →
        k.sync = .locked ∧ k.departure = true ∧ k.rejectCount = sat32 (s.clock.rejectCount + 1) ∧
          k.r = s.clock.r ∧ k.pendingStep = s.clock.pendingStep) ∧
      (35 < e.natAbs → s.clock.departure = true → k.sync = .locking ∧ k.fourCount = 0 ∧ k.departure = false) ∧
      (e.natAbs ≤ 1000 →
        k.r = max (-200000) (min 200000 (s.clock.r - 500 * e)) ∧ k.slewUntil = some (s.nextRound inst)) := by
  have heq := s.roundOffset_locked e inst demoted hs
  refine ⟨fun h => ?_, fun h h' hd => ?_, fun h hd => ?_, fun h hd => ?_, fun h => ?_⟩ <;> rw [heq]
  · rw [if_pos h, State.acceptRound_clock]
    exact ⟨hs, rfl, rfl⟩
  · rw [if_neg (Nat.not_le.mpr h), if_pos hd, if_pos h', State.acceptRound_clock]
    exact ⟨hs, rfl, rfl⟩
  · rw [if_neg (by omega), if_pos hd, if_neg (Nat.not_le.mpr h)]
    exact ⟨hs, rfl, rfl, rfl, rfl⟩
  · rw [if_neg (Nat.not_le.mpr h), if_neg (by simp [hd]), State.acceptRound_clock]
    exact ⟨rfl, rfl, rfl⟩
  · rw [if_pos h]
    (repeat' split) <;> exact State.acceptRound_slews e inst _ h

/-- The multiple of 1,000,000 after `now`, counted from `inst`. -/
theorem nextMultiple_bounds (now inst : Int) (h : inst ≤ now) :
    let k := inst + 1000000 * (max 0 (now - inst) / 1000000 + 1)
    k % 1000000 = inst % 1000000 ∧ now < k ∧ k ≤ now + 1000000 := by
  dsimp only
  rw [max_eq_right (by omega)]
  omega

theorem State.nextRound_bounds (inst : Int) (s : State) (h : inst ≤ s.now) : s.nextRound inst % 1000000 = inst % 1000000 ∧
    (s.now : Int) < s.nextRound inst ∧ s.nextRound inst ≤ s.now + 1000000 :=
  nextMultiple_bounds s.now inst h

/-- Settles O10: SYNC by `State.syncFrame_collects`, FOLLOW_UP by `State.followUpFrame_first`, the LOCKED unit by Table 3-4. -/
theorem receiverFollowsItsMaster : Obligations.ReceiverFollowsItsMaster := by
  unfold Obligations.ReceiverFollowsItsMaster
  refine ⟨fun dt ch m p n s hc hu hm hnew => ?_, fun dt ch m p n s hc hu hm => ?_, fun dt m n ma mb va vb s h => ?_,
    fun dt m n ma mb va vb s h => ?_, fun dt m p n ma mb la lb s hs hm hc hrecent => ?_, State.nextRound_bounds⟩
  · rw [exec_sync, State.syncFrame_collects ch m p n (s.elapse dt) hc hu hm, State.roundOf_fresh m p n (s.elapse dt) hnew]
    cases ch <;> rfl
  · obtain ⟨hmaster, hround⟩ := (s.elapse dt).roundOf_ident m p n
    obtain ⟨hmaster', hround'⟩ := SyncCapture.capture_ident ch (s.elapse dt).now ((s.elapse dt).roundOf m p n)
    refine ⟨_, (exec_sync dt ch m p n s).trans (congrArg _ (State.syncFrame_collects ch m p n (s.elapse dt) hc hu hm)), rfl,
      State.keeps_clock _ _, fun c hne => ?_, fun c hmem hcm => ?_⟩
    · simp only [List.mem_append, List.mem_filter, List.mem_singleton, bne_iff_ne, hne, ne_eq, not_false_eq_true, and_true]
      exact or_iff_left fun h => hne (by rw [h, hmaster', hmaster])
    · rcases List.mem_append.mp hmem with hold | hnew
      · exact absurd hcm (by simpa using (List.mem_filter.mp hold).2)
      · obtain rfl := List.mem_singleton.mp hnew
        exact ⟨hround'.trans hround, SyncCapture.capture_held ch _ _⟩
  · obtain ⟨hcaptures, hheard⟩ := (s.elapse dt).followUpFrame_hears m va vb n ma mb h
    refine ⟨_, exec_followUp dt m va vb n ma mb s, fun c hc hm hn => ?_, hheard,
      State.followUpFrame_keeps m va vb n ma mb (s.elapse dt)⟩
    rw [hcaptures] at hc
    exact State.processed_done m n (s.elapse dt) c hc hm hn
  · rw [exec_followUp, State.followUpFrame_ignored m va vb n ma mb (s.elapse dt) h]
  · have hframe := State.followUpFrame_locked _ ma mb la lb (s.elapse dt) hs hm hc rfl rfl rfl hrecent
    have hcaptures := State.heardRound_captures _ (roundAt ma (la - ma)) (s.elapse dt) hc
    have hmasters := State.heardRound_masters
      { master := m, priority := p, round := n, la := some la, lb := some lb, done := false } m n (roundAt ma (la - ma)) (s.elapse dt) hm
    refine ⟨_, exec_followUp dt m true true n ma mb s, State.followUpFrame_keeps m true true n ma mb (s.elapse dt), ?_⟩
    dsimp only at hframe
    by_cases h : 30 < (la - ma - (lb - mb)).natAbs
    · rw [hframe, if_pos h]
      exact ⟨hcaptures, hmasters, fun _ => ⟨hs, rfl, rfl, rfl⟩, fun h' => absurd h (Nat.not_lt.mpr h')⟩
    · rw [hframe, if_neg h]
      exact ⟨(State.roundOffset_kept ..).1.trans hcaptures, (State.roundOffset_kept ..).2.trans hmasters, fun h' => absurd h' h,
        fun _ => State.roundOffset_locked_fields _ _ _ _ hs⟩

end Sys2Proof.Machine

namespace Sys2Proof.Machine

/-! ### Time-outs of the rounds (R104, R107) -/

theorem exec_syncRoundTimeout (dt : Nat) (s : State) : exec (.syncRoundTimeout dt) s = .next (s.elapse dt).roundTimeout := rfl
theorem exec_syncHoldoverExpiry (dt : Nat) (s : State) : exec (.syncHoldoverExpiry dt) s = .next (s.elapse dt).holdoverExpiry := rfl
theorem exec_rateLimitHold (dt : Nat) (s : State) : exec (.rateLimitHold dt) s = .next (s.elapse dt).rateHold := rfl
theorem exec_roundInstantNoRound (dt : Nat) (s : State) : exec (.roundInstantNoRound dt) s = .next (s.elapse dt).noRound := rfl
theorem exec_timeStepApply (dt : Nat) (s : State) : exec (.timeStepApply dt) s = .next (s.elapse dt).timeStep := rfl

/-- The slew ends and ρ = r, within its limit (R102). -/
theorem State.rhoIsR_eq (s : State) : s.rhoIsR = { s with clock := { s.clock with
    rho := max (-858993) (min 858993 ((2 * (s.clock.r * 2 ^ 32) + 1000000000).fdiv 2000000000))
    limitSince := s.rhoIsR.clock.limitSince
    slewUntil := none } } := rfl

/-- The state that is FREE, before its cause is looked at. -/
def State.freed (s : State) : State :=
  State.rhoIsR { s with clock.sync := .free, clock.fourCount := 0, clock.departure := false }

theorem State.becomeFree_eq (s : State) :
    s.becomeFree = if s.rt.state = .run ∧ s.syncRequired = true then s.freed.recoverable 0x0204 [] else s.freed := by
  have hcond : (s.rt.state == .run && s.syncRequired) = true ↔ s.rt.state = .run ∧ s.syncRequired = true := by simp
  exact if_congr hcond rfl rfl

/-- FREE in Run with `SYNC_REQUIRED` = 1 is a cause (R107). -/
theorem State.becomeFree_fields (s : State) :
    let t := s.becomeFree
    t.clock.sync = .free ∧ t.clock.slewUntil = none ∧ (s.rt.state = .run → s.syncRequired = true → 0x0204 ∈ t.rt.active) ∧
      (s.rt.state ≠ .run ∨ s.syncRequired = false → t.rt = s.rt) ∧ State.keeps [.clock, .rt] s t := by
  have hclock : s.becomeFree.clock = s.freed.clock := by rw [State.becomeFree_eq]; split <;> simp
  dsimp only
  rw [hclock]
  refine ⟨rfl, rfl, fun hr hq => ?_, fun h => ?_, fun p hp => ?_⟩
  · rw [State.becomeFree_eq, if_pos ⟨hr, hq⟩]
    exact (State.recoverable_raised _ _ _).1
  · rw [State.becomeFree_eq, if_neg (by rintro ⟨hr, hq⟩; simp [hr, hq] at h)]
    rfl
  · cases p <;> simp_all [State.agrees]

theorem State.roundTimeout_early (a : Instant) (s : State) (ha : s.clock.lastAccepted = some a) (h : s.now < a + 3000000) :
    s.roundTimeout = s := by
  unfold State.roundTimeout
  rw [ha]
  exact if_neg (by simp only [Option.any_some, decide_eq_true_eq]; exact Int.not_le.mpr h)

theorem State.roundTimeout_locked (a : Instant) (s : State) (ha : s.clock.lastAccepted = some a) (h : a + 3000000 ≤ s.now)
    (hs : s.clock.sync = .locked) : s.roundTimeout =
      State.rhoIsR { s with clock.sync := .holdover, clock.holdoverSince := s.now, clock.departure := false } := by
  unfold State.roundTimeout
  rw [ha, hs]
  exact if_pos (decide_eq_true h)

theorem State.roundTimeout_locking (a : Instant) (s : State) (ha : s.clock.lastAccepted = some a) (h : a + 3000000 ≤ s.now)
    (hs : s.clock.sync = .locking) : s.roundTimeout = s.becomeFree := by
  unfold State.roundTimeout
  rw [ha, hs]
  exact if_pos (decide_eq_true h)

theorem State.holdoverExpiry_due (s : State) (hs : s.clock.sync = .holdover)
    (h : s.clock.holdoverSince + 100 * s.syncHoldover ≤ s.now) : s.holdoverExpiry = s.becomeFree := by
  unfold State.holdoverExpiry
  exact if_pos (by simpa [hs, us] using h)

theorem State.holdoverExpiry_early (s : State) (h : s.now < s.clock.holdoverSince + 100 * s.syncHoldover) : s.holdoverExpiry = s := by
  unfold State.holdoverExpiry
  exact if_neg (by simp [us, h])

theorem State.rateHold_eq (t0 : Nat) (s : State) (h0 : s.clock.limitSince = some t0) :
    s.rateHold = if s.syncRequired = true ∧ t0 + 100000000 ≤ s.localNow then s.recoverable 0x0205 [] else s := by
  unfold State.rateHold
  rw [h0]
  exact if_congr (by simp) rfl rfl

theorem State.rateHold_keeps (s : State) : State.keeps [.rt] s s.rateHold :=
  fun p hp => by cases p <;> simp_all [State.agrees]

theorem State.noRound_due (end_ : Instant) (s : State) (h0 : s.clock.slewUntil = some end_) (hs : s.clock.sync ≠ .master)
    (h : end_ ≤ s.now) : s.noRound = s.rhoIsR := by
  unfold State.noRound
  rw [h0]
  exact if_pos (by simp [hs, h])

theorem State.noRound_early (end_ : Instant) (s : State) (h0 : s.clock.slewUntil = some end_) (h : s.now < end_) : s.noRound = s := by
  unfold State.noRound
  rw [h0]
  exact if_neg (by simp [h])

/-! ### A step of network time (R102, R103, R111, R112) -/

/-- In Run a step is dropped (R111). -/
theorem State.applyStep_run (d : Int) (s : State) (hd : s.clock.pendingStep = some d) (hr : s.rt.state = .run) :
    s.applyStep = { s with clock := { s.clock with pendingStep := none } } := by
  unfold State.applyStep
  rw [hd]
  exact if_pos (by simp [hr])

/-- What a step outside Run sets, and of the clock what it leaves (R103, R111). -/
theorem State.applyStep_steps (d : Int) (s : State) (hd : s.clock.pendingStep = some d) (hr : s.rt.state ≠ .run) :
    let k := s.applyStep.clock
    k.net = ((s.clock.net : Int) + d * 2 ^ 32).toNat ∧ k.pendingStep = none ∧ k.stepCount = min (s.clock.stepCount + 1) 0xFFFFFFFF ∧
      k.localTicks = s.clock.localTicks ∧ k.r = s.clock.r ∧ k.steppedTo = s.clock.steppedTo := by
  unfold State.applyStep
  rw [hd]
  dsimp only
  rw [if_neg (by simpa using hr)]
  exact ⟨rfl, rfl, rfl, rfl, rfl, rfl⟩

theorem State.stepAtBoundary_run (d : Int) (s : State) (hd : s.clock.pendingStep = some d) (hr : s.rt.state = .run) :
    s.stepAtBoundary = s.applyStep := by
  unfold State.stepAtBoundary
  rw [hd]
  exact if_pos (by simp [hr])

theorem State.stepAtBoundary_steps (d : Int) (s : State) (hd : s.clock.pendingStep = some d) (hr : s.rt.state ≠ .run) :
    s.stepAtBoundary = { s.applyStep with clock.steppedTo := some ((s.dueBoundary : Int) + d).toNat } := by
  unfold State.stepAtBoundary
  rw [hd]
  exact if_neg (by simpa using hr)

/-- A step takes effect at a boundary that is due or has just been taken, and at no other instant (R112). -/
theorem State.timeStep_eq (s : State) : s.timeStep =
    if s.boundaryDue then s.stepAtBoundary
    else if s.rt.cycling = true ∧ s.now = s.rt.boundary then s.applyStep else s := by
  unfold State.timeStep
  simp only [Bool.and_eq_true, beq_iff_eq]

theorem State.timeStep_run (d : Int) (s : State) (hd : s.clock.pendingStep = some d) (hr : s.rt.state = .run)
    (h : s.boundaryDue = true ∨ (s.rt.cycling = true ∧ s.now = s.rt.boundary)) :
    s.timeStep = { s with clock := { s.clock with pendingStep := none } } := by
  rw [State.timeStep_eq, State.stepAtBoundary_run d s hd hr, State.applyStep_run d s hd hr]
  split
  · rfl
  · rw [if_pos (h.resolve_left ‹_›)]

theorem State.timeStep_steps (d : Int) (s : State) (hd : s.clock.pendingStep = some d) (hr : s.rt.state ≠ .run)
    (h : s.boundaryDue = true ∨ (s.rt.cycling = true ∧ s.now = s.rt.boundary)) :
    let k := s.timeStep.clock
    k.net = ((s.clock.net : Int) + d * 2 ^ 32).toNat ∧ k.pendingStep = none ∧ k.stepCount = min (s.clock.stepCount + 1) 0xFFFFFFFF ∧
      k.localTicks = s.clock.localTicks ∧ k.r = s.clock.r ∧
      k.steppedTo = if s.boundaryDue then some ((s.dueBoundary : Int) + d).toNat else s.clock.steppedTo := by
  obtain ⟨hnet, hpending, hcount, hticks, hrate, hstepped⟩ := State.applyStep_steps d s hd hr
  dsimp only
  rw [State.timeStep_eq, State.stepAtBoundary_steps d s hd hr]
  split
  · exact ⟨hnet, hpending, hcount, hticks, hrate, rfl⟩
  · rw [if_pos (h.resolve_left ‹_›)]
    exact ⟨hnet, hpending, hcount, hticks, hrate, hstepped⟩

/-- Settles O11: each time-out by whether it is due, and the step by `State.timeStep_steps`. -/
theorem syncTimeoutsAndSteps : Obligations.SyncTimeoutsAndSteps := by
  unfold Obligations.SyncTimeoutsAndSteps
  refine ⟨fun dt a s ha => ⟨fun h => ?_, fun h hs => ?_, fun h hs => ?_⟩, fun dt s hs => ⟨fun h => ?_, fun h => ?_⟩,
    fun dt t0 s h0 => ?_, fun dt end_ s h0 hs => ⟨fun h => ?_, fun h => ?_⟩,
    fun dt d s hd => ⟨fun h => ⟨fun hr => ?_, fun hr => ?_⟩, fun hn hb => ?_⟩⟩
  · rw [exec_syncRoundTimeout, State.roundTimeout_early a (s.elapse dt) ha h]
  · rw [exec_syncRoundTimeout, State.roundTimeout_locked a (s.elapse dt) ha h hs, State.rhoIsR_eq]
    exact ⟨_, rfl, rfl, rfl, rfl, State.keeps_clock _ _⟩
  · obtain ⟨hfree, -, -, -, hkeep⟩ := (s.elapse dt).becomeFree_fields
    exact ⟨_, (exec_syncRoundTimeout dt s).trans (congrArg _ (State.roundTimeout_locking a (s.elapse dt) ha h hs)), hfree, hkeep⟩
  · exact ⟨_, (exec_syncHoldoverExpiry dt s).trans (congrArg _ (State.holdoverExpiry_due (s.elapse dt) hs h)),
      (s.elapse dt).becomeFree_fields⟩
  · rw [exec_syncHoldoverExpiry, State.holdoverExpiry_early (s.elapse dt) h]
  · refine ⟨_, exec_rateLimitHold dt s, State.rateHold_keeps (s.elapse dt), fun hq h => ?_, fun h => ?_⟩
    · rw [State.rateHold_eq t0 (s.elapse dt) h0, if_pos ⟨hq, h⟩]
      exact (State.recoverable_raised _ _ _).1
    · rw [State.rateHold_eq t0 (s.elapse dt) h0, if_neg]
      rintro ⟨hq, ht⟩
      exact h.elim (fun hn => Bool.false_ne_true (hn.symm.trans hq)) (Nat.not_lt.mpr ht)
  · rw [exec_roundInstantNoRound, State.noRound_due end_ (s.elapse dt) h0 hs h, State.rhoIsR_eq]
    exact ⟨_, rfl, State.keeps_clock _ _, rfl, rfl, rfl⟩
  · rw [exec_roundInstantNoRound, State.noRound_early end_ (s.elapse dt) h0 h]
  · obtain ⟨hnet, hpending, hcount, hticks, hrate, hstepped⟩ := State.timeStep_steps d (s.elapse dt) hd hr h
    exact ⟨_, exec_timeStepApply dt s, hnet, hpending, hcount, hticks, hrate, hstepped, fun p hp => by
      cases p <;> simp_all [State.agrees]⟩
  · rw [exec_timeStepApply, State.timeStep_run d (s.elapse dt) hd hr h]
  · rw [exec_timeStepApply, State.timeStep_eq, if_neg (by simp [hn])]
    exact congrArg _ (if_neg hb)

end Sys2Proof.Machine

namespace Sys2Proof.Machine

/-! ### Every source of a warm reset (R67, R92, R93, R116, R119, R121) -/

theorem exec_warmReset (dt k : Nat) (s : State) (hl : s.power.logicOn = true) :
    exec (.warmReset dt k) s = .next ((s.elapse dt).resetSource k) := by
  change done (if s.power.logicOn then _ else _) = _
  rw [if_pos hl]
theorem exec_railFault (dt : Nat) (s : State) : exec (.railFault dt) s = .next (s.elapse dt).railFault := rfl
theorem exec_pllLockLoss (dt : Nat) (s : State) : exec (.pllLockLoss dt) s = .next (s.elapse dt).lockLoss := rfl
theorem exec_clockMonitorWindow (dt : Nat) (c : ClockCounts) (s : State) :
    exec (.clockMonitorWindow dt c) s = .next ((s.elapse dt).monitorWindow c) := rfl
theorem exec_bootWatchdogExpiry (dt : Nat) (s : State) :
    exec (.bootWatchdogExpiry dt) s = .next (s.elapse dt).watchdogExpires := rfl

/-- `s` with another lock and other counts of the clock monitor, on which the log does not depend. -/
def State.withMonitor (k : Clock) (s : State) : State :=
  { s with clock := { s.clock with
      pllLock := k.pllLock, rootLast := k.rootLast, rootMin := k.rootMin, rootMax := k.rootMax, monitorOk := k.monitorOk } }

theorem State.requestRecord_withMonitor (r : StoreRecord) (k : Clock) (s : State) :
    (s.withMonitor k).requestRecord r = (s.requestRecord r).withMonitor k := by
  by_cases h : s.power.gateClosed <;> simp [State.requestRecord, State.withMonitor, h]

theorem State.storeEvent_withMonitor (r : EventRecord) (k : Clock) (s : State) :
    (s.withMonitor k).storeEvent r = (s.storeEvent r).withMonitor k := by
  unfold State.storeEvent
  split
  · exact State.requestRecord_withMonitor ..
  · exact State.requestRecord_withMonitor _ k { s with store.eventDropped := sat32 (s.store.eventDropped + 1) }

theorem State.enterRecord_withMonitor (r : EventRecord) (k : Clock) (s : State) :
    (s.withMonitor k).enterRecord r = ((s.enterRecord r).1.withMonitor k, (s.enterRecord r).2) := by
  unfold State.enterRecord
  dsimp only
  rw [← State.storeEvent_withMonitor]
  rfl

theorem State.selfRecord_withMonitor (code interval : Nat) (k : Clock) (s : State) :
    (s.withMonitor k).selfRecord code interval = (s.selfRecord code interval).withMonitor k := by
  have h : (s.withMonitor k).ledger.due code 0 interval (s.withMonitor k).localNow = s.ledger.due code 0 interval s.localNow := rfl
  unfold State.selfRecord
  rw [h]
  split
  · rfl
  · exact congrArg Prod.fst (State.enterRecord_withMonitor (s.newRecord code s.now false (leBytes 4 _)) k
      { s with ledger := s.ledger.noteRecorded code 0 s.localNow })

theorem State.logRecord_withMonitor (r : EventRecord) (k : Clock) (s : State) :
    (s.withMonitor k).logRecord r = (s.logRecord r).withMonitor k := by
  unfold State.logRecord State.afterEntry
  dsimp only
  rw [State.enterRecord_withMonitor, show (s.withMonitor k).rt.cycling = s.rt.cycling from rfl]
  split
  · (repeat' split) <;> simp only [State.selfRecord_withMonitor]
  · rfl

theorem State.recordDetected_withMonitor (k : Clock) (s : State) :
    (s.withMonitor k).recordDetected = s.recordDetected.withMonitor k :=
  List.foldl_hom (State.withMonitor k) fun t d => t.logRecord_withMonitor (t.newRecord d.cause d.time false d.data) k

/-- A reset asserted after the clock monitor has been updated is one asserted in the state before. -/
theorem State.heldInReset_withMonitor {source : Nat} {k : Clock} {u t : State} (h : State.heldInReset source (u.withMonitor k) t) :
    State.heldInReset source u t := by
  unfold State.heldInReset at h ⊢
  rw [State.recordDetected_withMonitor] at h
  exact h

/-- Over the retained register an asserted reset sets at most the save-in-progress flags (R118, R127). -/
theorem State.assertWarmReset_retained (k : Nat) (hk : k ≠ 0) (s : State) (hl : s.power.logicOn = true) (hs : s.boot.step ≠ .resetHeld) :
    ∃ e p, (s.assertWarmReset k).boot.retained = { s.boot.retained with saveEvent := e, saveSnapshot := p } := by
  have hsave (t : State) : ∃ e p, t.interruptedSave.boot.retained = { t.boot.retained with saveEvent := e, saveSnapshot := p } := by
    unfold State.interruptedSave
    (repeat' split) <;> exact ⟨_, _, rfl⟩
  obtain ⟨e, p, h⟩ := hsave s.countSeconds.recordDetected
  refine ⟨e, p, ?_⟩
  unfold State.assertWarmReset
  simp [hl, hs, hk, h]

/-- A source that leads to Lockout: the reset is held and the first cause stands (R67, R93). -/
theorem State.pendCause_held (k : Nat) (hk : k ≠ 0) (c : Nat) (s : State) (hl : s.power.logicOn = true) (hs : s.boot.step ≠ .resetHeld) :
    State.heldInReset k s ((s.pendCause c).assertWarmReset k) ∧
      ((s.pendCause c).assertWarmReset k).boot.retained.cause = some (s.boot.retained.cause.getD c) := by
  constructor
  · rw [State.pendCause_eq]
    exact s.assertWarmReset_held k hk _ hl (by simpa using hs)
  · rw [State.assertWarmReset_cause k hk _ (by simpa using hl) (by simpa using hs), State.pendCause_cause]

/-- The boot watchdog expires: the reset is held, and one more boot failure is noted with the expiry (R121, R122). -/
theorem State.resetSource_watchdog (s : State) (hl : s.power.logicOn = true) (hs : s.boot.step ≠ .resetHeld) :
    State.heldInReset 5 s (s.resetSource 5) ∧ (s.resetSource 5).boot.retained.watchdogExpiry = true ∧
      (s.resetSource 5).boot.retained.bootFailures = s.boot.retained.bootFailures + 1 := by
  let b : Boot := { s.boot with
    retained := { s.boot.retained with watchdogExpiry := true, bootFailures := s.boot.retained.bootFailures + 1 } }
  have heq : s.resetSource 5 = State.assertWarmReset 5 { s with boot := b } := by
    simp [State.resetSource, State.bootFailure, hs, b]
  obtain ⟨e, p, hretained⟩ := State.assertWarmReset_retained 5 (by decide) { s with boot := b } hl hs
  rw [heq, hretained]
  exact ⟨s.assertWarmReset_held 5 (by decide) b hl hs, rfl, rfl⟩

/-- Each source of Table 4-1 but the cold start holds the unit in reset (R116). -/
theorem State.resetSource_held (k : Nat) (h₂ : 2 ≤ k) (h₇ : k ≤ 7) (s : State) (hl : s.power.logicOn = true)
    (hs : s.boot.step ≠ .resetHeld) : State.heldInReset k s (s.resetSource k) := by
  obtain rfl | rfl | rfl | rfl | rfl | rfl : k = 2 ∨ k = 3 ∨ k = 4 ∨ k = 5 ∨ k = 6 ∨ k = 7 := by omega
  · exact (s.pendCause_held 2 (by decide) _ hl hs).1
  · exact (s.pendCause_held 3 (by decide) _ hl hs).1
  · exact (s.pendCause_held 4 (by decide) _ hl hs).1
  · exact (s.resetSource_watchdog hl hs).1
  · exact s.assertWarmReset_held 6 (by decide) s.boot hl hs
  · exact s.assertWarmReset_held 7 (by decide) s.boot hl hs

/-- A clock fault found by the monitor or by the loss of lock (R92, R93). -/
theorem State.clockFault_held (c : Nat) (k : Clock) (s : State) (hl : s.power.logicOn = true) (hs : s.boot.step ≠ .resetHeld) :
    State.heldInReset 2 s ((s.withMonitor k).clockFault c) ∧
      ((s.withMonitor k).clockFault c).boot.retained.cause = some (s.boot.retained.cause.getD c) :=
  ((s.withMonitor k).pendCause_held 2 (by decide) c hl hs).imp_left State.heldInReset_withMonitor

theorem State.lockLoss_locked (s : State) (hp : s.clock.pllLock = true) (hs : s.boot.step ≠ .resetHeld) :
    s.lockLoss = (s.withMonitor { s.clock with pllLock := false }).clockFault 0x0202 := by
  unfold State.lockLoss
  exact if_pos (by simp [hp, hs])

theorem State.monitorWindow_locked (c : ClockCounts) (ok : Bool) (s : State) (hp : s.clock.pllLock = true) (hs : s.boot.step ≠ .resetHeld)
    (hc : countsOk s.clock.trimValid s.power.domainStatus c = ok) :
    s.monitorWindow c = if ok then s.noteCounts c ok else (s.noteCounts c ok).clockFault 0x0201 := by
  subst hc
  unfold State.monitorWindow
  exact if_pos (by simp [hp, hs])

theorem State.noteCounts_eq (c : ClockCounts) (ok : Bool) (s : State) : s.noteCounts c ok = s.withMonitor { s.clock with
    rootLast := min 65535 c.ts
    rootMin := min s.clock.rootMin (min 65535 c.ts)
    rootMax := max s.clock.rootMax (min 65535 c.ts)
    monitorOk := ok } := by
  simp [State.noteCounts, State.withMonitor, satAt, Nat.min_comm c.ts]

/-! ### A further source while reset is held (R116) -/

theorem or_twoPow_ne_zero {n k : Nat} (hk : k < n) (v : BitVec n) : v ||| BitVec.twoPow n k ≠ 0 := fun h => by
  simpa [BitVec.getLsbD_twoPow, hk] using congrArg (·.getLsbD k) h

/-- A further source only sets its bit. -/
theorem State.assertWarmReset_again (k : Nat) (h₂ : 2 ≤ k) (h₇ : k ≤ 7) (s : State) (hl : s.power.logicOn = true)
    (hs : s.boot.step = .resetHeld) : s.assertWarmReset k = { s with boot := { s.boot with
      resetSources := s.boot.resetSources ||| BitVec.twoPow 8 (k - 1)
      resetCause := lowestSource (s.boot.resetSources ||| BitVec.twoPow 8 (k - 1)) } } := by
  have hk : k ≠ 0 := by omega
  have hsrc := or_twoPow_ne_zero (n := 8) (k := k - 1) (by omega) s.boot.resetSources
  unfold State.assertWarmReset
  rw [if_neg (by simp [hl]), if_pos (by simp [hs])]
  simp only [if_neg hk, if_neg hsrc]

/-- A source that leads to Lockout still leaves its cause where none is retained (R67, R93). -/
theorem State.pendCause_again (k : Nat) (h₂ : 2 ≤ k) (h₇ : k ≤ 7) (c : Nat) (s : State) (hl : s.power.logicOn = true)
    (hs : s.boot.step = .resetHeld) : (s.pendCause c).assertWarmReset k = { s with boot := { s.boot with
      retained := { s.boot.retained with cause := some (s.boot.retained.cause.getD c) }
      resetSources := s.boot.resetSources ||| BitVec.twoPow 8 (k - 1)
      resetCause := lowestSource (s.boot.resetSources ||| BitVec.twoPow 8 (k - 1)) } } := by
  rw [State.pendCause_eq, State.pendCause_boot]
  exact State.assertWarmReset_again k h₂ h₇ _ hl hs

theorem State.resetSource_again (k : Nat) (h₂ : 2 ≤ k) (h₇ : k ≤ 7) (s : State) (hl : s.power.logicOn = true)
    (hs : s.boot.step = .resetHeld) : s.resetSource k = { s with boot := { s.boot with
      retained := { s.boot.retained with
        cause := if k = 2 then some (s.boot.retained.cause.getD (if s.clock.pllLock then 0x0201 else 0x0202))
        else if k = 3 then some (s.boot.retained.cause.getD 0x0102)
        else if k = 4 then some (s.boot.retained.cause.getD 0x0D01)
        else s.boot.retained.cause }
      resetSources := s.boot.resetSources ||| BitVec.twoPow 8 (k - 1)
      resetCause := lowestSource (s.boot.resetSources ||| BitVec.twoPow 8 (k - 1)) } } := by
  obtain rfl | rfl | rfl | rfl | rfl | rfl : k = 2 ∨ k = 3 ∨ k = 4 ∨ k = 5 ∨ k = 6 ∨ k = 7 := by omega
  · exact State.pendCause_again 2 h₂ h₇ _ s hl hs
  · exact State.pendCause_again 3 h₂ h₇ _ s hl hs
  · exact State.pendCause_again 4 h₂ h₇ _ s hl hs
  · exact (if_pos (by simp [hs])).trans (State.assertWarmReset_again 5 h₂ h₇ s hl hs)
  · exact State.assertWarmReset_again 6 h₂ h₇ s hl hs
  · exact State.assertWarmReset_again 7 h₂ h₇ s hl hs

/-! ### The watchdog and the ranges of the clock monitor (R91, R121) -/

theorem State.watchdogExpires_due (w : Nat) (s : State) (hw : s.boot.watchdogSince = some w)
    (h : 200000000 ≤ s.boot.watchdogRun + (s.localNow - w)) : s.watchdogExpires = s.resetSource 5 := by
  unfold State.watchdogExpires State.watchdogTicks
  rw [hw]
  exact if_pos (by simp [us, h])

theorem countOk_iff (trim : Bool) (nominal n : Nat) : countOk trim nominal n = true ↔
    nominal * (if trim then 97 else 90) ≤ 100 * n ∧ 100 * n ≤ nominal * (if trim then 103 else 110) := by
  cases trim <;> simp [countOk]

/-- Settles O7: each source by what `State.assertWarmReset` does in a unit not yet held and in one already held, the monitor's ranges by
`countOk_iff`. -/
theorem resetSourcesHoldTheUnitInBoot : Obligations.ResetSourcesHoldTheUnitInBoot := by
  unfold Obligations.ResetSourcesHoldTheUnitInBoot
  refine ⟨fun dt s hl hs => ⟨fun k h₂ h₇ => ?_, ?_, fun hp => ?_, fun c hp hc => ?_, fun w hw h => ?_⟩, fun dt k s hl hs h₂ h₇ => ?_,
    fun dt c s hp hs hc => ?_, fun n => ?_⟩
  · exact ⟨_, exec_warmReset dt k s hl, (s.elapse dt).resetSource_held k h₂ h₇ hl hs⟩
  · have hrail : (s.elapse dt).railFault = ((s.elapse dt).pendCause 0x0102).assertWarmReset 3 := if_pos hl
    exact ⟨_, exec_railFault dt s, hrail ▸ (s.elapse dt).pendCause_held 3 (by decide) 0x0102 hl hs⟩
  · refine ⟨_, exec_pllLockLoss dt s, ?_⟩
    rw [(s.elapse dt).lockLoss_locked hp hs]
    exact (s.elapse dt).clockFault_held 0x0202 _ hl hs
  · refine ⟨_, exec_clockMonitorWindow dt c s, ?_⟩
    rw [(s.elapse dt).monitorWindow_locked c false hp hs hc, if_neg (by decide), State.noteCounts_eq]
    exact (s.elapse dt).clockFault_held 0x0201 _ hl hs
  · refine ⟨_, exec_bootWatchdogExpiry dt s, ?_⟩
    rw [(s.elapse dt).watchdogExpires_due w hw h]
    exact (s.elapse dt).resetSource_watchdog hl hs
  · rw [exec_warmReset dt k s hl, (s.elapse dt).resetSource_again k h₂ h₇ hl hs]
    rfl
  · rw [exec_clockMonitorWindow, (s.elapse dt).monitorWindow_locked c true hp hs hc, if_pos rfl, State.noteCounts_eq]
    rfl
  · simp only [countOk_iff]
    grind

end Sys2Proof.Machine

namespace Sys2Proof.Machine

/-! ### Reset release (R118, R119, R122, R138) -/

theorem exec_resetRelease (dt : Nat) (crcOk : Bool) (s : State) :
    exec (.resetRelease dt crcOk) s = .next ((s.elapse dt).releaseReset crcOk) := rfl
theorem exec_bootEntry (dt : Nat) (s : State) : exec (.bootEntry dt) s = .next (s.elapse dt).bootEntry := rfl

/-- Before release a record waits for its number (R581). -/
theorem State.event_ledger_early (code : Nat) (data : List Byte) (s : State) (h : s.rt.cycling = false) :
    (s.event code data).ledger = { s.ledger with early := s.ledger.early ++ [s.newRecord code s.now false data] } := by
  unfold State.event State.eventAt State.logRecord
  rw [if_neg (by simp [h])]

/-- Record `code` where a condition holds. -/
def State.eventIf (b : Bool) (code : Nat) (s : State) : State := if b then s.event code [] else s

/-- What `State.eventIf` leaves, and before release its record among those that wait for a number. -/
theorem State.eventIf_logs (b : Bool) (code : Nat) (s : State) :
    State.keeps [.ledger, .store] s (s.eventIf b code) ∧ (s.rt.cycling = false →
      (s.eventIf b code).ledger.ring = s.ledger.ring ∧
        (s.eventIf b code).ledger.early.map (·.code) = s.ledger.early.map (·.code) ++ if b then [code] else []) := by
  cases b with
  | false => exact ⟨State.keeps_refl _ _, fun _ => ⟨rfl, (List.append_nil _).symm⟩⟩
  | true =>
    refine ⟨fun p hp => ?_, fun h => ?_⟩
    · cases p <;> simp_all [State.agrees, State.eventIf]
    · simp [State.eventIf, State.event_ledger_early _ _ _ h, State.newRecord]

/-- The retained register after its CRC check: one whose CRC fails reads cleared, with both regions suspect (R118, R138). -/
def Retained.checked (crcOk : Bool) (r : Retained) : Retained :=
  if crcOk then r else { ({} : Retained) with saveEvent := true, saveSnapshot := true }

/-- The regions lost are cleared, and `RETAINED_STATUS` says so (R138, Table 4-13). -/
def State.regionsMarked (s : State) : State :=
  let me := s.power.domainCommand.getLsbD 49
  let lostE := s.boot.retained.saveEvent
  let lostS := s.boot.retained.saveSnapshot
  { s with
    boot.retainedStatus := BitVec.ofNat 8 (bit (!lostE) + 2 * bit (me && !lostS) + 4 * bit lostE + 8 * bit lostS)
    ledger := if lostE then { ({} : Ledger) with early := s.ledger.early } else s.ledger
    mirror.store := if lostS || !me then none else s.mirror.store }

/-- The state after the register's CRC check, with the record of a bad one (R118). -/
def State.registerChecked (crcOk : Bool) (s : State) : State :=
  State.eventIf (!crcOk) 0x0308 { s with boot := { s.boot with retained := s.boot.retained.checked crcOk } }

theorem State.checkRetained_eq (crcOk : Bool) (s : State) : s.checkRetained crcOk =
    let v := s.registerChecked crcOk
    (v.regionsMarked.eventIf v.boot.retained.saveEvent 0x0307).eventIf v.boot.retained.saveSnapshot 0x0307 := by
  cases crcOk <;> rfl

theorem retainedStatus_getLsbD (e p me : Bool) (n : Nat) :
    (BitVec.ofNat 8 (bit (!e) + 2 * bit (me && !p) + 4 * bit e + 8 * bit p)).getLsbD n =
      ((n == 0 && !e) || (n == 1 && me && !p) || (n == 2 && e) || (n == 3 && p)) := by
  have hlow : ∀ e p me : Bool, ∀ n < 8, (BitVec.ofNat 8 (bit (!e) + 2 * bit (me && !p) + 4 * bit e + 8 * bit p)).getLsbD n =
      ((n == 0 && !e) || (n == 1 && me && !p) || (n == 2 && e) || (n == 3 && p)) := by decide
  rcases Nat.lt_or_ge n 8 with h | h
  · exact hlow e p me n h
  · have : n ≠ 0 ∧ n ≠ 1 ∧ n ≠ 2 ∧ n ≠ 3 := by omega
    simp [BitVec.getLsbD_of_ge _ _ h, this]

/-- What the check of the retained register leaves between `u` and `t`, with the flags `e` and `p` of the regions lost (R118, R138). -/
structure State.Checked (crcOk e p : Bool) (u t : State) : Prop where
  boot : t.boot = { u.boot with
    retained := u.boot.retained.checked crcOk
    retainedStatus := t.boot.retainedStatus }
  status : ∀ n, t.boot.retainedStatus.getLsbD n =
    ((n == 0 && !e) || (n == 1 && u.power.domainCommand.getLsbD 49 && !p) || (n == 2 && e) || (n == 3 && p))
  snapshot : t.mirror.store = if p || !u.power.domainCommand.getLsbD 49 then none else u.mirror.store
  ring : e = true → t.ledger.ring = [] ∨ u.rt.cycling = true
  records : u.rt.cycling = false → t.ledger.early.map (·.code) = u.ledger.early.map (·.code) ++
    (if crcOk then [] else [0x0308]) ++ (if e then [0x0307] else []) ++ (if p then [0x0307] else [])
  rest : State.keeps [.boot, .ledger, .mirror, .store] u t

/-- Both losses recorded over the marked regions (R138). -/
theorem State.regionsMarked_logs (s : State) (e p : Bool) :
    let t := (s.regionsMarked.eventIf e 0x0307).eventIf p 0x0307
    State.keeps [.ledger, .store] s.regionsMarked t ∧ (s.rt.cycling = false →
      t.ledger.ring = s.regionsMarked.ledger.ring ∧ t.ledger.early.map (·.code) =
        s.ledger.early.map (·.code) ++ (if e then [0x0307] else []) ++ (if p then [0x0307] else [])) := by
  intro t
  obtain ⟨hw, hwlog⟩ := State.eventIf_logs e 0x0307 s.regionsMarked
  obtain ⟨ht, htlog⟩ := State.eventIf_logs p 0x0307 (s.regionsMarked.eventIf e 0x0307)
  refine ⟨State.keeps_trans hw ht, fun hc => ?_⟩
  have hrt : (s.regionsMarked.eventIf e 0x0307).rt = s.rt := (hw .rt (by decide)).symm
  have hearly : s.regionsMarked.ledger.early = s.ledger.early := by
    unfold State.regionsMarked
    dsimp only
    split <;> rfl
  obtain ⟨hring, hcodes⟩ := hwlog hc
  obtain ⟨hring', hcodes'⟩ := htlog (by rw [hrt]; exact hc)
  exact ⟨hring'.trans hring, by rw [hcodes', hcodes, hearly]⟩

theorem State.regionsMarked_keeps (s : State) : State.keeps [.boot, .ledger, .mirror] s s.regionsMarked :=
  fun q hq => by cases q <;> simp_all [State.agrees, State.regionsMarked]

theorem Retained.checked_flags (crcOk : Bool) (r : Retained) :
    (r.checked crcOk).saveEvent = (r.saveEvent || !crcOk) ∧ (r.checked crcOk).saveSnapshot = (r.saveSnapshot || !crcOk) := by
  cases crcOk <;> simp [Retained.checked]

/-- The register's check leaves the register checked, and before release the record of a bad one (R118). -/
theorem State.registerChecked_leaves (crcOk : Bool) (s : State) :
    let v := s.registerChecked crcOk
    State.keeps [.boot, .ledger, .store] s v ∧ v.boot = { s.boot with retained := s.boot.retained.checked crcOk } ∧
      (s.rt.cycling = false → v.ledger.early.map (·.code) = s.ledger.early.map (·.code) ++ if crcOk then [] else [0x0308]) := by
  intro v
  obtain ⟨hkeep, hlog⟩ := State.eventIf_logs (!crcOk) 0x0308
    { s with boot := { s.boot with retained := s.boot.retained.checked crcOk } }
  refine ⟨State.keeps_trans (State.keeps_mono (s.keeps_boot _) (by decide)) (State.keeps_mono hkeep (by decide)),
    (hkeep .boot (by decide)).symm, fun hc => (hlog hc).2.trans ?_⟩
  cases crcOk <;> rfl

theorem State.checkRetained_checked (crcOk : Bool) (s : State) :
    State.Checked crcOk (s.boot.retained.saveEvent || !crcOk) (s.boot.retained.saveSnapshot || !crcOk) s (s.checkRetained crcOk) := by
  obtain ⟨hv, hb, hvlog⟩ := s.registerChecked_leaves crcOk
  rw [State.checkRetained_eq]
  generalize s.registerChecked crcOk = v at *
  obtain ⟨he, hp⟩ := Retained.checked_flags crcOk s.boot.retained
  have hr : v.boot.retained = s.boot.retained.checked crcOk := by rw [hb]
  rw [← hr] at he hp
  rw [← he, ← hp]
  have hm : s.mirror = v.mirror := hv .mirror (by decide)
  have hpower : s.power = v.power := hv .power (by decide)
  have hrt : s.rt = v.rt := hv .rt (by decide)
  obtain ⟨hkeep, hlog⟩ := v.regionsMarked_logs v.boot.retained.saveEvent v.boot.retained.saveSnapshot
  dsimp only
  generalize (v.regionsMarked.eventIf v.boot.retained.saveEvent 0x0307).eventIf v.boot.retained.saveSnapshot 0x0307 = t at *
  have hboot : v.regionsMarked.boot = t.boot := hkeep .boot (by decide)
  have hmirror : v.regionsMarked.mirror = t.mirror := hkeep .mirror (by decide)
  refine ⟨?_, fun n => ?_, ?_, fun h => ?_, fun hc => ?_, ?_⟩
  · rw [← hboot, State.regionsMarked, hb]
  · rw [← hboot, hpower]
    exact retainedStatus_getLsbD _ _ _ n
  · rw [← hmirror, hm, hpower]
    rfl
  · cases hc : s.rt.cycling with
    | true => exact .inr rfl
    | false =>
      refine .inl ((hlog (by rw [← hrt]; exact hc)).1.trans ?_)
      rw [State.regionsMarked]
      exact congrArg Ledger.ring (if_pos h)
  · rw [(hlog (by rw [← hrt]; exact hc)).2, hvlog hc]
  · exact State.keeps_trans (State.keeps_mono hv (by decide))
      (State.keeps_trans (State.keeps_mono v.regionsMarked_keeps (by decide)) (State.keeps_mono hkeep (by decide)))

/-! ### The release itself (R119, R122) -/

/-- The boot sequence at its step 2, after the check of the register in `w` (Table 4-2). -/
def Boot.entered (w : State) : Boot :=
  { w.boot with cold := false, entryAt := w.localNow, watchdogRun := 0, watchdogSince := none
                meKept := w.power.domainCommand.getLsbD 49 }

theorem State.releaseReset_early (crcOk : Bool) (s : State) (h : s.localNow < s.boot.resetAt + 100000) : s.releaseReset crcOk = s := by
  unfold State.releaseReset
  exact if_neg (by simp [h])

/-- Three boot failures on a good register, or no valid bank since the last cold start, bar the start (R122, R125). -/
def State.barred (crcOk : Bool) (s : State) : Prop :=
  s.boot.noBank = true ∨ crcOk = true ∧ 3 ≤ s.boot.retained.bootFailures

theorem State.checkRetained_barred (crcOk : Bool) (s : State) :
    let w := s.checkRetained crcOk
    3 ≤ w.boot.retained.bootFailures ∨ w.boot.noBank = true ↔ s.barred crcOk := by
  intro w
  have hboot := (s.checkRetained_checked crcOk).boot
  have hfailures : w.boot.retained.bootFailures = (s.boot.retained.checked crcOk).bootFailures := by rw [hboot]
  have hbank : w.boot.noBank = s.boot.noBank := by rw [hboot]
  rw [hfailures, hbank, or_comm]
  cases crcOk <;> simp [State.barred, Retained.checked]

theorem State.releaseReset_goesOn (crcOk : Bool) (s : State) (hs : s.boot.step = .resetHeld)
    (h : s.boot.resetAt + 100000 ≤ s.localNow) (hb : ¬ s.barred crcOk) :
    let w := s.checkRetained crcOk
    s.releaseReset crcOk = { w with boot := { Boot.entered w with
      step := .waitLock
      retryAt := s.localNow + 15000
      watchdogPaused := s.power.pfw
      watchdogSince := if s.power.pfw then none else some (s.localNow + 15000) } } := by
  intro w
  have hrest := (s.checkRetained_checked crcOk).rest
  have hpower : s.power = w.power := hrest .power (by decide)
  have hnow : s.localNow = w.localNow := congrArg Clock.localTicks (hrest .clock (by decide))
  unfold State.releaseReset
  rw [if_pos (by simp [hs, h]), hpower, hnow]
  exact if_neg (mt (s.checkRetained_barred crcOk).mp hb)

theorem State.releaseReset_stops (crcOk : Bool) (s : State) (hs : s.boot.step = .resetHeld)
    (h : s.boot.resetAt + 100000 ≤ s.localNow) (hb : s.barred crcOk) :
    let w := s.checkRetained crcOk
    s.releaseReset crcOk = { w with boot := { Boot.entered w with step := .stopped } } := by
  unfold State.releaseReset
  rw [if_pos (by simp [hs, h])]
  exact if_pos ((s.checkRetained_barred crcOk).mpr hb)

/-- Whatever the released sequence becomes, it stands on the checked register (R118, R120). -/
theorem State.Checked.entered {crcOk e p : Bool} {u w : State} (h : State.Checked crcOk e p u w) (step : BootStep) (retry : Nat)
    (paused : Bool) (since : Option Nat) :
    let b : Boot := { Boot.entered w with step := step, retryAt := retry, watchdogPaused := paused, watchdogSince := since }
    let t : State := { w with boot := b }
    t.boot.cold = false ∧ t.boot.meKept = u.power.domainCommand.getLsbD 49 ∧ t.boot.entryAt = u.localNow ∧ t.boot.watchdogRun = 0 ∧
      (∀ n, t.boot.retainedStatus.getLsbD n =
        ((n == 0 && !e) || (n == 1 && u.power.domainCommand.getLsbD 49 && !p) || (n == 2 && e) || (n == 3 && p))) ∧
      t.boot.retained = u.boot.retained.checked crcOk ∧
      t.mirror.store = (if p || !u.power.domainCommand.getLsbD 49 then none else u.mirror.store) ∧
      (e = true → t.ledger.ring = [] ∨ u.rt.cycling = true) ∧
      (u.rt.cycling = false → t.ledger.early.map (·.code) = u.ledger.early.map (·.code) ++
        (if crcOk then [] else [0x0308]) ++ (if e then [0x0307] else []) ++ (if p then [0x0307] else [])) ∧
      State.keeps [.boot, .ledger, .mirror, .store] u t := by
  have hpower : u.power = w.power := h.rest .power (by decide)
  have hclock : u.clock = w.clock := h.rest .clock (by decide)
  refine ⟨rfl, ?_, ?_, rfl, h.status, ?_, h.snapshot, h.ring, h.records, ?_⟩
  · rw [hpower]
    rfl
  · rw [State.localNow, hclock]
    rfl
  · exact congrArg Boot.retained h.boot
  · exact State.keeps_trans h.rest (State.keeps_mono (w.keeps_boot _) (by decide))

/-! ### The fuses sensed at the normal margin (R123, R148, R176) -/

theorem putBit_other {m n : Nat} (h : m ≠ n) (b : Bool) (v : BitVec 4096) : (putBit n b v).getLsbD m = v.getLsbD m := by
  cases b with
  | true => simp [putBit, BitVec.getLsbD_twoPow, h.symm]
  | false =>
    by_cases hm : m < 4096
    · simp [putBit, h, hm]
    · simp [putBit, BitVec.getLsbD_of_ge _ _ (Nat.le_of_not_lt hm)]

theorem Otp.putFuse_banks (f : Nat) (b : Bool) (o : Otp) : o.putFuse f b = { o with
    bank0 := (o.putFuse f b).bank0, bank1 := (o.putFuse f b).bank1, bank2 := (o.putFuse f b).bank2 } := by
  unfold Otp.putFuse
  split <;> rfl

theorem Otp.putFuse_other {f g : Nat} (h : f ≠ g) (b : Bool) (o : Otp) : (o.putFuse g b).fuse f = o.fuse f := by
  have hcell (hm : f % 3 = g % 3) : f / 3 ≠ g / 3 := by omega
  obtain hf | hf | hf : f % 3 = 0 ∨ f % 3 = 1 ∨ f % 3 = 2 := by omega
  all_goals
    obtain hg | hg | hg : g % 3 = 0 ∨ g % 3 = 1 ∨ g % 3 = 2 := by omega
    all_goals
      rw [hf, hg] at hcell
      simp [Otp.putFuse, Otp.fuse, hf, hg, putBit_other, hcell]

/-- A sensed fuse reads anew; the rest of the fuse block stands (R148). -/
theorem State.senseFuses_otp (s : State) : s.senseFuses.otp = { s.otp with
    bank0 := s.senseFuses.otp.bank0, bank1 := s.senseFuses.otp.bank1, bank2 := s.senseFuses.otp.bank2 } := by
  refine foldl_frame (fun a b : State => b.otp = { a.otp with bank0 := b.otp.bank0, bank1 := b.otp.bank1, bank2 := b.otp.bank2 })
    (fun _ => rfl) (fun a b c hab hbc => ?_) _ (fun t f => t.otp.putFuse_banks f _) _ s
  rw [hbc, hab]

/-- A fuse that no cut pulse has left unstable reads as burned (R147, R176). -/
theorem State.senseFuses_stable (f : Nat) (s : State) (hf : f ∉ s.otp.unstable) : s.senseFuses.otp.fuse f = s.otp.fuse f := by
  unfold State.senseFuses
  generalize s.otp.unstable = l at hf
  induction l generalizing s with
  | nil => rfl
  | cons g l ih =>
    obtain ⟨hg, hl⟩ : f ≠ g ∧ f ∉ l := by simpa using hf
    rw [List.foldl_cons, ih _ hl]
    exact Otp.putFuse_other hg _ _

theorem State.senseFuses_freeCount (s : State) : s.senseFuses.freeCount = s.freeCount + s.otp.unstable.length := by
  unfold State.senseFuses
  generalize s.otp.unstable = l
  induction l generalizing s with
  | nil => rfl
  | cons g l ih =>
    rw [List.foldl_cons, ih, List.length_cons]
    exact Nat.add_right_comm ..

/-! ### The boot read (R123, R149, R170, R171) -/

theorem Otp.fuse_of_banks {o q : Otp} (h0 : o.bank0 = q.bank0) (h1 : o.bank1 = q.bank1) (h2 : o.bank2 = q.bank2) (f : Nat) :
    o.fuse f = q.fuse f := by
  unfold Otp.fuse
  rw [h0, h1, h2]

theorem Otp.lifecycleState_of_banks {o q : Otp} (h0 : o.bank0 = q.bank0) (h1 : o.bank1 = q.bank1) (h2 : o.bank2 = q.bank2) :
    o.lifecycleState = q.lifecycleState := by
  have hlogical : o.logical = q.logical := by
    unfold Otp.logical
    rw [h0, h1, h2]
  unfold Otp.lifecycleState Otp.lifecycleRegion Otp.bits
  rw [hlogical]

/-- The boot read works on the fuses as sensed, and brings the trims into use. -/
theorem State.otpRead_sensed (s : State) :
    let t := s.otpRead
    let v := s.senseFuses
    t.otp.bank0 = v.otp.bank0 ∧ t.otp.bank1 = v.otp.bank1 ∧ t.otp.bank2 = v.otp.bank2 ∧ t.otp.unstable = v.otp.unstable ∧
      t.freeCount = v.freeCount ∧ t.otp.lifecycle = v.otp.lifecycleState ∧ t.clock.rcTrim = t.otp.rcTrim ∧
      t.power.railTrim = t.otp.railTrim ∧ t.boot.cold = s.boot.cold := by
  simp [State.otpRead]

/-- What the start finds in the fuses: the stable ones as burned, what they say of the lifecycle, and the trims in use. -/
structure State.Sensed (u t : State) : Prop where
  unstable : t.otp.unstable = u.otp.unstable
  stable : ∀ f, f ∉ u.otp.unstable → t.otp.fuse f = u.otp.fuse f
  drawn : t.freeCount = u.freeCount + u.otp.unstable.length
  lifecycle : t.otp.lifecycle = t.otp.lifecycleState
  rcTrim : t.clock.rcTrim = t.otp.rcTrim
  railTrim : t.power.railTrim = t.otp.railTrim

theorem State.otpRead_leaves (s : State) : s.Sensed s.otpRead := by
  obtain ⟨h0, h1, h2, hunstable, hfree, hlc, hrc, hrail, -⟩ := s.otpRead_sensed
  generalize s.otpRead = t at *
  have hcut : s.senseFuses.otp.unstable = s.otp.unstable := by rw [s.senseFuses_otp]
  exact ⟨hunstable.trans hcut, fun f hf => (Otp.fuse_of_banks h0 h1 h2 f).trans (s.senseFuses_stable f hf),
    hfree.trans s.senseFuses_freeCount, hlc.trans (Otp.lifecycleState_of_banks h0 h1 h2).symm, hrc, hrail⟩

theorem State.otpRead_keeps (s : State) :
    State.keeps [.rt, .power, .clock, .boot, .otp, .ledger, .store, .freeCount] s s.otpRead :=
  fun p hp => by cases p <;> simp_all [State.agrees]

/-! ### From Boot to Test (R120, R125, R139) -/

/-- The state after the OTP read with the domains of Table 4-3, of which those of Test come with a valid bank. -/
def State.bootRead (test : Bool) (s : State) : State :=
  { s.otpRead with power := { s.otpRead.power with domainCommand := s.bootDomains test, domainStatus := s.bootDomains false } }

theorem State.bootEntry_test (b : Nat) (s : State) (hs : s.boot.step = .locked) (hp : s.power.pfw = false)
    (hb : s.le.fwSelect = some b) : s.bootEntry =
      let r := s.bootRead true
      { r with
        rt := { r.rt with state := .test }
        lib := { r.lib with version := (Config.libVersion (r.le.fwHeader b).version).toNat }
        power := { r.power with bistPeak := 0, switching := [(55, r.localNow + us 50)] }
        boot := { r.boot with
          fwBank := b, fwVersion := (r.le.fwHeader b).version, step := .bist 1, bistAt := r.localNow + us 50
          groupAt := r.localNow + us 50, bistMode := if r.boot.cold then 1 else 2, groupRun := 0, groupFail := 0, failCount := 0
          failRecords := [], comparator := 0, lineLatched := 0 } } := by
  unfold State.bootEntry
  rw [if_pos (by simp [hs, hp]), hb]
  rfl

theorem State.bootEntry_stops (s : State) (hs : s.boot.step = .locked) (hp : s.power.pfw = false) (hb : s.le.fwSelect = none) :
    s.bootEntry =
      let r := s.bootRead false
      State.event 0x0305 [] { r with
        boot := { r.boot with step := .stopped, noBank := true, watchdogSince := none, watchdogPaused := false } } := by
  unfold State.bootEntry
  rw [if_pos (by simp [hs, hp]), hb]
  rfl

/-- The domains of Table 4-3 (R120). -/
theorem State.bootDomains_getLsbD (s : State) (test : Bool) (n : Nat) (hn : n < 56) : (s.bootDomains test).getLsbD n =
    (([40, 41, 42, 43, 44, 45, 53, 54] : List Nat).contains n || (test && n == 55) || (s.boot.meKept && n == 49)) := by
  rw [Bool.eq_iff_iff, State.bootDomains, pdSet_getLsbD]
  cases test <;> cases s.boot.meKept <;> simp [bootOrder, hn] <;> omega

theorem State.Sensed.of_parts {u s t : State} (h : u.Sensed s) (ho : t.otp = s.otp) (hc : t.clock = s.clock)
    (hr : t.power.railTrim = s.power.railTrim) (hf : t.freeCount = s.freeCount) : u.Sensed t :=
  ⟨by rw [ho, h.unstable], by rw [ho]; exact h.stable, by rw [hf, h.drawn], by rw [ho, h.lifecycle], by rw [hc, ho, h.rcTrim],
    by rw [hr, ho, h.railTrim]⟩

/-- Where Boot entry stands once the fuses are read: the fuses sensed, the domains set, and nothing else that the start looks at moved. -/
theorem State.bootRead_leaves (test : Bool) (s : State) :
    let r := s.bootRead test
    s.Sensed r ∧ r.power.domainCommand = s.bootDomains test ∧ r.power.domainStatus = s.bootDomains false ∧
      r.rt.state = s.rt.state ∧ r.rt.cycling = s.rt.cycling ∧ r.localNow = s.localNow ∧ r.boot.cold = s.boot.cold ∧
      State.keeps [.rt, .power, .clock, .boot, .otp, .ledger, .store, .freeCount] s r := by
  obtain ⟨-, -, -, -, -, -, -, -, hcold⟩ := s.otpRead_sensed
  have hticks : s.otpRead.clock.localTicks = s.clock.localTicks := by simp
  have hphase : s.otpRead.rt.state = s.rt.state ∧ s.otpRead.rt.cycling = s.rt.cycling := by simp
  have hsensed := s.otpRead_leaves
  unfold State.bootRead
  refine ⟨hsensed.of_parts rfl rfl rfl rfl, rfl, rfl, hphase.1, hphase.2, hticks, hcold, fun p hp => ?_⟩
  have hkeep := s.otpRead_keeps p hp
  cases p <;> simp_all [State.agrees]

/-- A valid bank: Test before its first BIST group (R120, R139). -/
theorem State.bootEntry_tests (b : Nat) (s : State) (hs : s.boot.step = .locked) (hp : s.power.pfw = false)
    (hb : s.le.fwSelect = some b) :
    let t := s.bootEntry
    s.Sensed t ∧ t.rt.state = .test ∧ t.boot.step = .bist 1 ∧ t.boot.bistAt = s.localNow + 5000 ∧
      t.boot.groupAt = s.localNow + 5000 ∧
      t.boot.fwBank = b ∧ t.boot.fwVersion = (s.le.fwHeader b).version ∧ t.boot.bistMode = (if s.boot.cold then 1 else 2) ∧
      t.boot.groupRun = 0 ∧ t.boot.groupFail = 0 ∧ t.boot.failCount = 0 ∧ t.boot.failRecords = [] ∧ t.boot.comparator = 0 ∧
      t.boot.lineLatched = 0 ∧ t.power.bistPeak = 0 ∧ t.power.switching = [(55, s.localNow + 5000)] ∧
      t.power.domainCommand = s.bootDomains true ∧ t.power.domainStatus = s.bootDomains false ∧
      State.keeps [.rt, .power, .clock, .boot, .otp, .lib, .ledger, .store, .mirror, .freeCount] s t := by
  obtain ⟨hsensed, hcommand, hstatus, -, -, hnow, hcold, hkeep⟩ := s.bootRead_leaves true
  rw [State.bootEntry_test b s hs hp hb]
  generalize s.bootRead true = r at *
  have hle : s.le = r.le := hkeep .le (by decide)
  dsimp only
  rw [hnow, hcold, ← hle]
  refine ⟨hsensed.of_parts rfl rfl rfl rfl, rfl, rfl, rfl, rfl, rfl, rfl, rfl, rfl, rfl, rfl, rfl, rfl, rfl, rfl, rfl, hcommand, hstatus,
    State.keeps_trans (State.keeps_mono hkeep (by decide)) fun p hn => ?_⟩
  cases p <;> simp_all [State.agrees]

/-- No valid bank: the start ends in Boot with its record (R122, R125). -/
theorem State.bootEntry_ends (s : State) (hs : s.boot.step = .locked) (hp : s.power.pfw = false) (hb : s.le.fwSelect = none) :
    let t := s.bootEntry
    s.Sensed t ∧ t.rt.state = s.rt.state ∧ t.boot.step = .stopped ∧ t.boot.noBank = true ∧
      t.boot.watchdogSince = none ∧ t.power.domainCommand = s.bootDomains false ∧ t.power.domainStatus = s.bootDomains false ∧
      (s.rt.cycling = false → ∃ r ∈ t.ledger.early, r.code = 0x0305) ∧
      State.keeps [.rt, .power, .clock, .boot, .otp, .ledger, .store, .mirror, .freeCount] s t := by
  obtain ⟨hsensed, hcommand, hstatus, hstate, hcycling, -, -, hkeep⟩ := s.bootRead_leaves false
  rw [State.bootEntry_stops s hs hp hb]
  generalize s.bootRead false = r at *
  obtain ⟨hevent, hlog⟩ := State.eventIf_logs true 0x0305
    { r with boot := { r.boot with step := .stopped, noBank := true, watchdogSince := none, watchdogPaused := false } }
  rw [State.eventIf, if_pos rfl] at hevent hlog
  dsimp only
  generalize State.event 0x0305 [] _ = t at *
  have hrt : r.rt = t.rt := hevent .rt (by decide)
  have hpower : r.power = t.power := hevent .power (by decide)
  have hclock : r.clock = t.clock := hevent .clock (by decide)
  have hotp : r.otp = t.otp := hevent .otp (by decide)
  have hfree : r.freeCount = t.freeCount := hevent .freeCount (by decide)
  have hboot : _ = t.boot := hevent .boot (by decide)
  rw [← hboot, ← hrt, ← hpower]
  refine ⟨hsensed.of_parts hotp.symm hclock.symm (by rw [hpower]) hfree.symm, hstate, rfl, rfl, rfl, hcommand, hstatus, fun hc => ?_, ?_⟩
  · have hin : 0x0305 ∈ t.ledger.early.map (·.code) :=
      (hlog (hcycling.trans hc)).2 ▸ List.mem_append_right _ (List.mem_singleton_self _)
    exact List.mem_map.mp hin
  · exact State.keeps_trans (State.keeps_mono hkeep (by decide))
      (State.keeps_trans (State.keeps_mono (r.keeps_boot _) (by decide)) (State.keeps_mono hevent (by decide)))

/-- Settles O12: the release by what the check of the retained register leaves, Boot entry by its two ends. -/
theorem resetReleaseLeadsToTest : Obligations.ResetReleaseLeadsToTest := by
  unfold Obligations.ResetReleaseLeadsToTest
  refine ⟨fun dt crcOk s hs => ?_, fun dt s hs hp => ⟨fun b hb => ?_, fun hb => ?_⟩, State.bootDomains_getLsbD⟩
  · have hchecked := (s.elapse dt).checkRetained_checked crcOk
    have hbank : ((s.elapse dt).checkRetained crcOk).boot.noBank = s.boot.noBank := by
      rw [hchecked.boot]
      rfl
    refine ⟨fun h => ?_, fun h hn hf => ⟨_, exec_resetRelease dt crcOk s, ?_⟩, fun h hb => ⟨_, exec_resetRelease dt crcOk s, ?_⟩⟩
    · rw [exec_resetRelease, (s.elapse dt).releaseReset_early crcOk h]
    · have hgo : ¬ (s.elapse dt).barred crcOk := by
        rintro (hb | ⟨hc, hb⟩)
        · simp [hn] at hb
        · exact hf.elim (by simp [hc]) (Nat.not_lt.mpr hb)
      rw [(s.elapse dt).releaseReset_goesOn crcOk hs h hgo]
      exact ⟨hchecked.entered _ _ _ _, rfl, hbank.trans hn, rfl, rfl, rfl⟩
    · rw [(s.elapse dt).releaseReset_stops crcOk hs h hb]
      exact ⟨hchecked.entered .stopped _ _ none, rfl, hbank, rfl⟩
  · obtain ⟨⟨hunstable, hstable, hdrawn, hlc, hrc, hrail⟩, hrest⟩ := (s.elapse dt).bootEntry_tests b hs hp hb
    exact ⟨_, exec_bootEntry dt s, ⟨hunstable, hstable, hdrawn, hlc, hrc, hrail⟩, hrest⟩
  · obtain ⟨⟨hunstable, hstable, hdrawn, hlc, hrc, hrail⟩, hrest⟩ := (s.elapse dt).bootEntry_ends hs hp hb
    exact ⟨_, exec_bootEntry dt s, ⟨hunstable, hstable, hdrawn, hlc, hrc, hrail⟩, hrest⟩

end Sys2Proof.Machine

namespace Sys2Proof.Machine

/-! ### The memories and the fuses, cell by cell (R147, R214, R395) -/

@[simp] theorem LeMem.ram_ite {c : Prop} [Decidable c] (s t : LeMem) : (if c then s else t).ram = if c then s.ram else t.ram := by
  split <;> rfl

@[simp] theorem LeMem.flash_ite {c : Prop} [Decidable c] (s t : LeMem) :
    (if c then s else t).flash = if c then s.flash else t.flash := by
  split <;> rfl

@[simp] theorem LeMem.tags_ite {c : Prop} [Decidable c] (s t : LeMem) : (if c then s else t).tags = if c then s.tags else t.tags := by
  split <;> rfl

@[simp] theorem Store.array_ite {c : Prop} [Decidable c] (s t : Store) :
    (if c then s else t).array = if c then s.array else t.array := by
  split <;> rfl

@[simp] theorem Store.ledger_ite {c : Prop} [Decidable c] (s t : Store) :
    (if c then s else t).ledger = if c then s.ledger else t.ledger := by
  split <;> rfl

@[simp] theorem Otp.bank0_ite {c : Prop} [Decidable c] (s t : Otp) :
    (if c then s else t).bank0 = if c then s.bank0 else t.bank0 := by
  split <;> rfl

@[simp] theorem Otp.bank1_ite {c : Prop} [Decidable c] (s t : Otp) :
    (if c then s else t).bank1 = if c then s.bank1 else t.bank1 := by
  split <;> rfl

@[simp] theorem Otp.bank2_ite {c : Prop} [Decidable c] (s t : Otp) :
    (if c then s else t).bank2 = if c then s.bank2 else t.bank2 := by
  split <;> rfl

@[simp] theorem Otp.unstable_ite {c : Prop} [Decidable c] (s t : Otp) :
    (if c then s else t).unstable = if c then s.unstable else t.unstable := by
  split <;> rfl

@[simp] theorem State.le_ram_foldl {α : Type} (f : State → α → State) (h : ∀ t a, (f t a).le.ram = t.le.ram) (l : List α)
    (s : State) : (l.foldl f s).le.ram = s.le.ram := foldl_preserves (·.le.ram) f h l s

@[simp] theorem State.le_flash_foldl {α : Type} (f : State → α → State) (h : ∀ t a, (f t a).le.flash = t.le.flash) (l : List α)
    (s : State) : (l.foldl f s).le.flash = s.le.flash := foldl_preserves (·.le.flash) f h l s

@[simp] theorem State.le_tags_foldl {α : Type} (f : State → α → State) (h : ∀ t a, (f t a).le.tags = t.le.tags) (l : List α)
    (s : State) : (l.foldl f s).le.tags = s.le.tags := foldl_preserves (·.le.tags) f h l s

@[simp] theorem State.store_array_foldl {α : Type} (f : State → α → State) (h : ∀ t a, (f t a).store.array = t.store.array)
    (l : List α) (s : State) : (l.foldl f s).store.array = s.store.array := foldl_preserves (·.store.array) f h l s

@[simp] theorem State.store_ledger_foldl {α : Type} (f : State → α → State) (h : ∀ t a, (f t a).store.ledger = t.store.ledger)
    (l : List α) (s : State) : (l.foldl f s).store.ledger = s.store.ledger := foldl_preserves (·.store.ledger) f h l s

@[simp] theorem State.otp_bank0_foldl {α : Type} (f : State → α → State) (h : ∀ t a, (f t a).otp.bank0 = t.otp.bank0) (l : List α)
    (s : State) : (l.foldl f s).otp.bank0 = s.otp.bank0 := foldl_preserves (·.otp.bank0) f h l s

@[simp] theorem State.otp_bank1_foldl {α : Type} (f : State → α → State) (h : ∀ t a, (f t a).otp.bank1 = t.otp.bank1) (l : List α)
    (s : State) : (l.foldl f s).otp.bank1 = s.otp.bank1 := foldl_preserves (·.otp.bank1) f h l s

@[simp] theorem State.otp_bank2_foldl {α : Type} (f : State → α → State) (h : ∀ t a, (f t a).otp.bank2 = t.otp.bank2) (l : List α)
    (s : State) : (l.foldl f s).otp.bank2 = s.otp.bank2 := foldl_preserves (·.otp.bank2) f h l s

@[simp] theorem State.otp_unstable_foldl {α : Type} (f : State → α → State) (h : ∀ t a, (f t a).otp.unstable = t.otp.unstable)
    (l : List α) (s : State) : (l.foldl f s).otp.unstable = s.otp.unstable := foldl_preserves (·.otp.unstable) f h l s

/-- The canonical form of a memory whose unlisted bytes read 0. -/
def RamWf (m : List Host.Cell) : Prop := cellsWf 0 m = true

/-- The canonical form of a memory whose unlisted bytes are erased. -/
def FlashWf (m : List Host.Cell) : Prop := cellsWf erasedByte m = true

@[simp] theorem RamWf.nil : RamWf [] := rfl

@[simp] theorem TagsWf.nil : TagsWf [] := (tagsWf_iff []).mp rfl

@[simp] theorem RamWf.write {m : List Host.Cell} (h : RamWf m) (a : Nat) (bs : List Byte) : RamWf (cellWrite 0#8 a bs m) :=
  cellWrite_wf _ _ _ _ h

@[simp] theorem RamWf.clear {m : List Host.Cell} (h : RamWf m) (a n : Nat) : RamWf (cellClear a n m) := cellClear_wf _ _ _ _ h

@[simp] theorem FlashWf.write {m : List Host.Cell} (h : FlashWf m) (a : Nat) (bs : List Byte) : FlashWf (cellWrite 255#8 a bs m) :=
  cellWrite_wf _ _ _ _ h

@[simp] theorem FlashWf.clear {m : List Host.Cell} (h : FlashWf m) (a n : Nat) : FlashWf (cellClear a n m) := cellClear_wf _ _ _ _ h

theorem RamWf.filter {m : List Host.Cell} (h : RamWf m) (p : Host.Cell → Bool) : RamWf (m.filter p) :=
  (cellsWf_iff _ _).mpr (((cellsWf_iff _ _).mp h).filter p)

theorem TagsWf.filter {m : List (Nat × Nat)} (h : TagsWf m) (p : Nat × Nat → Bool) : TagsWf (m.filter p) :=
  ⟨h.1.filter p, fun c hc => h.2 c (List.mem_filter.mp hc).1⟩

/-- Every fuse wholly burned in `o` is wholly burned in the three banks that are given with their doubtful fuses (R147, R176). -/
def Otp.BurnedIn (o : Otp) (b0 b1 b2 : BitVec 4096) (doubtful : List Nat) : Prop :=
  ∀ f, o.fuse f = true → f ∉ o.unstable →
    ({ bank0 := b0, bank1 := b1, bank2 := b2 } : Otp).fuse f = true ∧ f ∉ doubtful

/-- What an operation that leads from `s` to `t` leaves of the memories, the fuses and the queue: each is as before, or, where named
`Partly`, in its canonical form if it was before, and no wholly burned fuse is lost. -/
@[simp] abbrev State.Cells (s t : State) (ram flash tags array rows fuses : Prop → Prop → Prop → Prop → Prop := Kept) : Prop :=
  ram (t.le.ram = s.le.ram) (RamWf s.le.ram → RamWf t.le.ram) True <|
  flash (t.le.flash = s.le.flash) (FlashWf s.le.flash → FlashWf t.le.flash) True <|
  tags (t.le.tags = s.le.tags) (TagsWf s.le.tags → TagsWf t.le.tags) True <|
  array (t.store.array = s.store.array) (FlashWf s.store.array → FlashWf t.store.array) True <|
  rows (t.store.ledger = s.store.ledger) (FlashWf s.store.ledger → FlashWf t.store.ledger) True <|
  fuses (t.otp.bank0 = s.otp.bank0 ∧ t.otp.bank1 = s.otp.bank1 ∧ t.otp.bank2 = s.otp.bank2 ∧ t.otp.unstable = s.otp.unstable)
    (∀ o : Otp, o.BurnedIn s.otp.bank0 s.otp.bank1 s.otp.bank2 s.otp.unstable →
      o.BurnedIn t.otp.bank0 t.otp.bank1 t.otp.bank2 t.otp.unstable) True <|
  t.pending = s.pending

/-- Every memory keeps its canonical form, no wholly burned fuse is lost, and the queue is as before. -/
def State.Sound (s t : State) : Prop :=
  State.Cells s t (ram := Partly) (flash := Partly) (tags := Partly) (array := Partly) (rows := Partly) (fuses := Partly)

theorem State.Sound.refl (s : State) : s.Sound s := by simp [State.Sound]

theorem State.Sound.trans {s t u : State} (h : s.Sound t) (k : t.Sound u) : s.Sound u := by
  obtain ⟨hram, hflash, htags, harray, hrows, hfuses, hpending⟩ := h
  obtain ⟨kram, kflash, ktags, karray, krows, kfuses, kpending⟩ := k
  exact ⟨kram ∘ hram, kflash ∘ hflash, ktags ∘ htags, karray ∘ harray, krows ∘ hrows, fun o ho => kfuses o (hfuses o ho),
    kpending.trans hpending⟩

theorem State.Sound.ite {s : State} {c : Prop} [Decidable c] {a b : State} (ha : c → s.Sound a) (hb : ¬c → s.Sound b) :
    s.Sound (if c then a else b) := by
  split
  · exact ha ‹_›
  · exact hb ‹_›

/-- What every pass of a loop keeps in order, the loop does. -/
theorem State.Sound.foldl {α : Type} (f : State → α → State) (h : ∀ (t : State) (a : α), t.Sound (f t a)) (l : List α) (s : State) :
    s.Sound (l.foldl f s) := foldl_frame State.Sound .refl (fun _ _ _ => .trans) f h l s

/-! ### Choices and loops -/

@[simp] theorem ramWf_ite {c : Prop} [Decidable c] (m n : List Host.Cell) :
    RamWf (if c then m else n) ↔ (c → RamWf m) ∧ (¬c → RamWf n) := by
  split <;> simp [*]

@[simp] theorem flashWf_ite {c : Prop} [Decidable c] (m n : List Host.Cell) :
    FlashWf (if c then m else n) ↔ (c → FlashWf m) ∧ (¬c → FlashWf n) := by
  split <;> simp [*]

@[simp] theorem tagsWf_ite {c : Prop} [Decidable c] (m n : List (Nat × Nat)) :
    TagsWf (if c then m else n) ↔ (c → TagsWf m) ∧ (¬c → TagsWf n) := by
  split <;> simp [*]

/-- Four choices by one condition. -/
@[simp] theorem Otp.burnedIn_ite {c : Prop} [Decidable c] (o : Otp) (a0 a1 a2 b0 b1 b2 : BitVec 4096) (a b : List Nat) :
    o.BurnedIn (if c then a0 else b0) (if c then a1 else b1) (if c then a2 else b2) (if c then a else b) ↔
      (c → o.BurnedIn a0 a1 a2 a) ∧ (¬c → o.BurnedIn b0 b1 b2 b) := by
  split <;> simp [*]

@[simp] theorem State.le_ram_foldl_wf {α : Type} (f : State → α → State) (h : ∀ t a, RamWf t.le.ram → RamWf (f t a).le.ram)
    (l : List α) (s : State) (hs : RamWf s.le.ram) : RamWf (l.foldl f s).le.ram :=
  foldl_keeps (fun t : State => RamWf t.le.ram) f h l s hs

@[simp] theorem State.le_tags_foldl_wf {α : Type} (f : State → α → State) (h : ∀ t a, TagsWf t.le.tags → TagsWf (f t a).le.tags)
    (l : List α) (s : State) (hs : TagsWf s.le.tags) : TagsWf (l.foldl f s).le.tags :=
  foldl_keeps (fun t : State => TagsWf t.le.tags) f h l s hs

/-! ### The store's own operations -/

@[simp] theorem Store.modArea_array_eq (a : Area) (f : AreaState → AreaState) (st : Store) : (st.modArea a f).array = st.array :=
  st.modArea_array a f

@[simp] theorem Store.modArea_ledger_eq (a : Area) (f : AreaState → AreaState) (st : Store) : (st.modArea a f).ledger = st.ledger :=
  st.modArea_ledger a f

@[simp] theorem Store.tear_array (addr : Nat) (target : List Byte) (st : Store) : (st.tear addr target).array = st.array := rfl

@[simp] theorem Store.tear_ledger (addr : Nat) (target : List Byte) (st : Store) : (st.tear addr target).ledger = st.ledger := rfl

@[simp] theorem Store.settle_array (addr n : Nat) (st : Store) : (st.settle addr n).array = st.array := rfl

@[simp] theorem Store.settle_ledger (addr n : Nat) (st : Store) : (st.settle addr n).ledger = st.ledger := rfl

@[simp] theorem Store.program_ledger (addr : Nat) (bytes : List Byte) (st : Store) : (st.program addr bytes).ledger = st.ledger := rfl

@[simp] theorem FlashWf.program {st : Store} (h : FlashWf st.array) (addr : Nat) (bytes : List Byte) :
    FlashWf (st.program addr bytes).array := st.program_wf addr bytes h

@[simp] theorem Store.clearSector_ledger (sec : Nat) (st : Store) : (st.clearSector sec).ledger = st.ledger := rfl

@[simp] theorem FlashWf.clearSector {st : Store} (h : FlashWf st.array) (sec : Nat) : FlashWf (st.clearSector sec).array :=
  st.clearSector_wf sec h

@[simp] theorem Store.doneHalf_array (row entry : Nat) (st : Store) : (st.doneHalf row entry).array = st.array := rfl

@[simp] theorem FlashWf.doneHalf {st : Store} (h : FlashWf st.ledger) (row entry : Nat) : FlashWf (st.doneHalf row entry).ledger :=
  h.write _ _

@[simp] theorem Store.countErase_array (a : Area) (st : Store) : (st.countErase a).array = st.array := by simp [Store.countErase]

@[simp] theorem Store.countErase_ledger (a : Area) (st : Store) : (st.countErase a).ledger = st.ledger := by simp [Store.countErase]

@[simp] theorem Store.beginErase_array (sec : Nat) (st : Store) : (st.beginErase sec).array = st.array := by simp [Store.beginErase]

@[simp] theorem FlashWf.beginErase {st : Store} (h : FlashWf st.ledger) (sec : Nat) : FlashWf (st.beginErase sec).ledger := by
  simp [Store.beginErase, h]

@[simp] theorem FlashWf.finishErase_array {st : Store} (h : FlashWf st.array) (sec count row entry : Nat) :
    FlashWf (st.finishErase sec count row entry).array := by
  have hc : FlashWf ((st.doneHalf row entry).clearSector sec).array := FlashWf.clearSector h sec
  simp [Store.finishErase, hc]

@[simp] theorem FlashWf.finishErase_ledger {st : Store} (h : FlashWf st.ledger) (sec count row entry : Nat) :
    FlashWf (st.finishErase sec count row entry).ledger := by
  simp [Store.finishErase, h]

@[simp] theorem Store.finishRow_array (row entry : Nat) (st : Store) : (st.finishRow row entry).array = st.array := rfl

@[simp] theorem FlashWf.finishRow {st : Store} (h : FlashWf st.ledger) (row entry : Nat) : FlashWf (st.finishRow row entry).ledger := by
  simp [Store.finishRow, h]

@[simp] theorem FlashWf.programCells {m : List Host.Cell} (h : FlashWf m) (d : Nat × List Byte) : FlashWf (programCells d m) := by
  unfold Sys2Proof.Machine.programCells
  split <;> simp [h]

/-- Where a record is placed moves write positions alone. -/
theorem Store.place_memories {a : Area} {units : Nat} {st p : Store} (h : st.place a units = some p) :
    p.array = st.array ∧ p.ledger = st.ledger := by
  unfold Store.place at h
  dsimp only at h
  split at h
  · simp [← Option.some.inj h]
  · split at h
    · simp [← Option.some.inj h]
    · cases h

/-! ### The fuses (R147, R148) -/

theorem putBit_getLsbD (n k : Nat) (b : Bool) (v : BitVec 4096) :
    (putBit n b v).getLsbD k = if k = n ∧ n < 4096 then b else v.getLsbD k := by
  unfold putBit
  by_cases hk : k < 4096
  · cases b <;> by_cases hn : n = k <;> grind
  · have hkn : ¬(k = n ∧ n < 4096) := by omega
    rw [if_neg hkn, BitVec.getLsbD_of_ge _ k (by omega), BitVec.getLsbD_of_ge _ k (by omega)]

theorem Otp.putFuse_fuse (f g : Nat) (b : Bool) (o : Otp) :
    (o.putFuse f b).fuse g = if g = f ∧ f / 3 < 4096 then b else o.fuse g := by
  have hf : f % 3 = 0 ∨ f % 3 = 1 ∨ f % 3 = 2 := by omega
  have hg : g % 3 = 0 ∨ g % 3 = 1 ∨ g % 3 = 2 := by omega
  have hgf : g = f ↔ g % 3 = f % 3 ∧ g / 3 = f / 3 := by omega
  rcases hf with hf | hf | hf <;> rcases hg with hg | hg | hg <;>
    simp [Otp.fuse, Otp.putFuse, hf, hg, hgf, putBit_getLsbD]

/-- A change of one fuse leaves all but the three banks. -/
theorem Otp.putFuse_eq (f : Nat) (b : Bool) (o : Otp) : o.putFuse f b =
    { o with bank0 := (o.putFuse f b).bank0, bank1 := (o.putFuse f b).bank1, bank2 := (o.putFuse f b).bank2 } := by
  unfold Otp.putFuse
  split <;> rfl

theorem Otp.burnFuse_fuse (f g : Nat) (o : Otp) : (o.burnFuse f).fuse g = (o.fuse g || (decide (g = f) && decide (f / 3 < 4096))) := by
  have h : (o.burnFuse f).fuse g = (o.putFuse f true).fuse g := rfl
  rw [h, Otp.putFuse_fuse]
  split <;> simp_all

/-- The burning of a list of fuses. -/
def Otp.burnAll (o : Otp) (fs : List Nat) : Otp := fs.foldl (fun x f => x.burnFuse f) o

@[simp] theorem Otp.burnAll_nil (o : Otp) : o.burnAll [] = o := rfl

@[simp] theorem Otp.burnAll_cons (o : Otp) (f : Nat) (fs : List Nat) : o.burnAll (f :: fs) = (o.burnFuse f).burnAll fs := rfl

theorem Otp.burnAll_append (o : Otp) (fs gs : List Nat) : o.burnAll (fs ++ gs) = (o.burnAll fs).burnAll gs := List.foldl_append ..

theorem Otp.burnAll_fuse (o : Otp) (fs : List Nat) (g : Nat) :
    (o.burnAll fs).fuse g = (o.fuse g || (fs.contains g && decide (g / 3 < 4096))) := by
  induction fs generalizing o with
  | nil => simp
  | cons f fs ih =>
    rw [Otp.burnAll_cons, ih, Otp.burnFuse_fuse]
    by_cases h : g = f <;> by_cases hf : f / 3 < 4096 <;> simp [h, hf]

theorem Otp.burnAll_unstable (o : Otp) (fs : List Nat) : (o.burnAll fs).unstable = o.unstable.filter (fun f => !fs.contains f) := by
  induction fs generalizing o with
  | nil => simp
  | cons f fs ih =>
    rw [Otp.burnAll_cons, ih]
    simp only [Otp.burnFuse, List.filter_filter]
    exact List.filter_congr fun x _ => by by_cases h : x = f <;> simp [h]

theorem Otp.burnedIn_iff (o a : Otp) : o.BurnedIn a.bank0 a.bank1 a.bank2 a.unstable ↔
    ∀ f, o.fuse f = true → f ∉ o.unstable → a.fuse f = true ∧ f ∉ a.unstable := Iff.rfl

theorem Otp.BurnedIn.burnAll {o a : Otp} (h : o.BurnedIn a.bank0 a.bank1 a.bank2 a.unstable) (fs : List Nat) :
    o.BurnedIn (a.burnAll fs).bank0 (a.burnAll fs).bank1 (a.burnAll fs).bank2 (a.burnAll fs).unstable := by
  rw [Otp.burnedIn_iff] at h ⊢
  intro f hf hs
  obtain ⟨hb, hu⟩ := h f hf hs
  rw [Otp.burnAll_fuse, Otp.burnAll_unstable]
  exact ⟨by simp [hb], by simp [hu]⟩

end Sys2Proof.Machine

namespace Sys2Proof.Machine

/-! ### What each operation does to the memories, the fuses and the queue: records, input words and LE memory (O59) -/

@[simp] theorem State.requestRecord_cells (r : StoreRecord) (s : State) : State.Cells s (s.requestRecord r) := by
  simp [State.requestRecord]

@[simp] theorem State.persist_cells (key size value : Nat) (s : State) : State.Cells s (s.persist key size value) := by
  simp [State.persist]

@[simp] theorem State.persistLatch_cells (s : State) : State.Cells s s.persistLatch := by
  simp [State.persistLatch]

@[simp] theorem State.dropEvent_cells (s : State) : State.Cells s s.dropEvent := by
  simp [State.dropEvent]

@[simp] theorem State.storeEvent_cells (r : EventRecord) (s : State) : State.Cells s (s.storeEvent r) := by
  simp [State.storeEvent]

@[simp] theorem State.enterRecord_cells (r : EventRecord) (s : State) : State.Cells s (s.enterRecord r).1 := by
  simp [State.enterRecord]

@[simp] theorem State.selfRecord_cells (code interval : Nat) (s : State) : State.Cells s (s.selfRecord code interval) := by
  unfold State.selfRecord
  split <;> simp

@[simp] theorem State.afterEntry_cells (e : EntryResult) (s : State) : State.Cells s (s.afterEntry e) := by
  simp [State.afterEntry]

@[simp] theorem State.logRecord_cells (r : EventRecord) (s : State) : State.Cells s (s.logRecord r) := by
  simp [State.logRecord]

@[simp] theorem State.eventAt_cells (code : Nat) (time : Instant) (data : List Byte) (s : State) :
    State.Cells s (s.eventAt code time data) := by
  simp [State.eventAt]

@[simp] theorem State.event_cells (code : Nat) (data : List Byte) (s : State) : State.Cells s (s.event code data) := by
  simp [State.event]

@[simp] theorem State.eventLimited_cells (code key interval : Nat) (data : List Byte) (s : State) :
    State.Cells s (s.eventLimited code key interval data) := by
  unfold State.eventLimited
  split <;> simp

@[simp] theorem State.clearInput_cells (i : Nat) (s : State) : State.Cells s (s.clearInput i) := by
  simp [State.clearInput]

@[simp] theorem State.channelOff_cells (n : Nat) (s : State) : State.Cells s (s.channelOff n) := by
  simp [State.channelOff]

@[simp] theorem State.sourceVerdict_cells (readback : BitVec 32) (n : Nat) (s : State) : State.Cells s (s.sourceVerdict readback n) := by
  unfold State.sourceVerdict
  split <;> simp

@[simp] theorem State.glintTest_cells (raw readback : BitVec 32) (s : State) : State.Cells s (s.glintTest raw readback) := by
  unfold State.glintTest
  split <;> simp

@[simp] theorem State.glintPost_cells (raw readback : BitVec 32) (s : State) : State.Cells s (s.glintPost raw readback) := by
  unfold State.glintPost
  split <;> simp

@[simp] theorem State.countChange_cells (n mv : Nat) (s : State) : State.Cells s (s.countChange n mv) := by
  unfold State.countChange
  dsimp only
  (repeat' split) <;> simp

@[simp] theorem State.recompare_cells (n : Nat) (s : State) : State.Cells s (s.recompare n) := by
  simp [State.recompare]

@[simp] theorem State.writeInputs_cells (s : State) : State.Cells s s.writeInputs := by
  simp [State.writeInputs]

@[simp] theorem State.moveInputs_cells (d : Int) (s : State) : State.Cells s (s.moveInputs d) := by
  simp [State.moveInputs]

@[simp] theorem State.storeNative_cells (s : State) (w : Nat × BitVec 32) : State.Cells s (State.storeNative s w) (ram := Partly) := by
  unfold State.storeNative
  split <;> simp +contextual

@[simp] theorem State.storeCoded_cells (s : State) (w : Nat × BitVec 64) : State.Cells s (State.storeCoded s w) (ram := Partly) := by
  unfold State.storeCoded
  split <;> simp +contextual

@[simp] theorem State.putSlotByte_cells (slot off base : Nat) (b : Byte) (s : State) :
    State.Cells s (s.putSlotByte slot off base b) (ram := Partly) := by
  simp +contextual [State.putSlotByte]

@[simp] theorem State.putAreaByte_cells (coded : Bool) (off k : Nat) (b : Byte) (s : State) :
    State.Cells s (s.putAreaByte coded off k b) (ram := Partly) := by
  simp +contextual [State.putAreaByte]

@[simp] theorem State.putRam_cells (addr : Nat) (bytes : List Byte) (s : State) :
    State.Cells s (s.putRam addr bytes) (ram := Partly) := by
  unfold State.putRam
  split
  · simp +contextual
  · refine foldl_frame (fun s t => State.Cells s t (ram := Partly)) (by simp +contextual) (by grind) _ (fun t i => ?_) _ _
    dsimp only
    (repeat' split) <;> simp +contextual


end Sys2Proof.Machine

namespace Sys2Proof.Machine

/-! ### The fuse array and the store (R148, R176, R396 to R415) -/

theorem State.senseFuses_frozen (s : State) :
    s.senseFuses.otp = { s.otp with
      bank0 := s.senseFuses.otp.bank0
      bank1 := s.senseFuses.otp.bank1
      bank2 := s.senseFuses.otp.bank2 } := by
  unfold State.senseFuses
  refine foldl_frame
    (fun (s t : State) => t.otp = { s.otp with bank0 := t.otp.bank0, bank1 := t.otp.bank1, bank2 := t.otp.bank2 })
    (fun _ => rfl) (fun s t u h k => ?_) _ (fun t f => ?_) s.otp.unstable s
  · rw [k, h]
  · exact Otp.putFuse_eq _ _ _

theorem State.senseFuses_unstable (s : State) : s.senseFuses.otp.unstable = s.otp.unstable := by
  rw [State.senseFuses_frozen]

/-- A fuse whose last pulse was not cut short reads as before (log entry 110). -/
theorem State.senseFuses_fuse (s : State) (f : Nat) (h : f ∉ s.otp.unstable) : s.senseFuses.otp.fuse f = s.otp.fuse f := by
  unfold State.senseFuses
  refine List.foldlRecOn (motive := fun t : State => t.otp.fuse f = s.otp.fuse f) _ _ rfl fun t ht g hg => ?_
  have hfg : ¬(f = g ∧ g / 3 < 4096) := fun hfg => h (hfg.1 ▸ hg)
  simpa [Otp.putFuse_fuse, hfg] using ht

@[simp] theorem State.senseFuses_cells (s : State) : State.Cells s s.senseFuses (fuses := Partly) := by
  refine ⟨?_, ?_, ?_, ?_, ?_, fun o h => ?_, ?_⟩
  case refine_6 =>
    rw [Otp.burnedIn_iff] at h ⊢
    intro f hf hs
    obtain ⟨hb, hu⟩ := h f hf hs
    exact ⟨by rw [s.senseFuses_fuse f hu, hb], by rwa [s.senseFuses_unstable]⟩
  all_goals simp

@[simp] theorem State.bootCause_cells (cause : Nat) (recoverable : Bool) (s : State) : State.Cells s (s.bootCause cause recoverable) := by
  simp [State.bootCause]

@[simp] theorem State.bootCauseIf_cells (b : Bool) (cause : Nat) (recoverable : Bool) (s : State) :
    State.Cells s (s.bootCauseIf b cause recoverable) := by
  simp [State.bootCauseIf]

@[simp] theorem State.otpRead_cells (s : State) : State.Cells s s.otpRead (fuses := Partly) := by
  simp +contextual [State.otpRead]

theorem Otp.burnList_unburned {o : Otp} {run : OtpRun} {f : Nat} (h : f ∈ o.burnList run) : o.fuse f = false := by
  unfold Otp.burnList Otp.toBurn at h
  dsimp only at h
  split at h <;> simp at h <;> grind

/-- A command that ends early has burned a first part of its list, and may leave the next fuse in doubt (R176). -/
theorem Otp.BurnedIn.abort {o a : Otp} {run : OtpRun} (h : o.BurnedIn a.bank0 a.bank1 a.bank2 a.unstable) (n : Nat) (next : List Nat)
    (hn : ∀ f ∈ next, f ∈ a.burnList run) :
    let b := a.burnAll ((a.burnList run).take n)
    o.BurnedIn b.bank0 b.bank1 b.bank2 (next ++ b.unstable.filter (fun f => !next.contains f)) := by
  intro b f hf hs
  obtain ⟨hb, hu⟩ := h f hf hs
  obtain ⟨hb', hu'⟩ := (h.burnAll ((a.burnList run).take n)) f hf hs
  refine ⟨hb', fun hm => ?_⟩
  rcases List.mem_append.mp hm with hm | hm
  · have hb : a.fuse f = true := hb
    rw [Otp.burnList_unburned (hn f hm)] at hb
    cases hb
  · exact hu' (List.mem_filter.mp hm).1

@[simp] theorem State.abortBurn_cells (cut : Bool) (s : State) : State.Cells s (s.abortBurn cut) (fuses := Partly) := by
  unfold State.abortBurn
  split
  · simp
  · rename_i run hrun
    refine ⟨rfl, rfl, rfl, rfl, rfl, fun o h => ?_, rfl⟩
    refine h.abort (run := run) _ _ fun f hf => ?_
    split at hf
    · exact List.mem_of_mem_drop (List.mem_of_mem_take hf)
    · simp at hf

@[simp] theorem State.readTorn_cells (s : State) : State.Cells s s.readTorn (array := Partly) (rows := Partly) := by
  have hp (st : Store) (e : (Nat × BitVec 8) × Byte) : (FlashWf st.array → FlashWf (st.putByte e.1.1 (e.1.2 ||| e.2)).array) ∧
      (FlashWf st.ledger → FlashWf (st.putByte e.1.1 (e.1.2 ||| e.2)).ledger) := by
    unfold Store.putByte
    split <;> simp +contextual
  refine ⟨?_, ?_, ?_, fun h => ?_, fun h => ?_, ?_⟩
  case refine_4 => exact foldl_keeps (fun st : Store => FlashWf st.array) _ (fun st e hs => (hp st e).1 hs) _ _ h
  case refine_5 => exact foldl_keeps (fun st : Store => FlashWf st.ledger) _ (fun st e hs => (hp st e).2 hs) _ _ h
  all_goals simp [State.readTorn]

@[simp] theorem State.persistCredits_cells (s : State) : State.Cells s s.persistCredits := by
  simp [State.persistCredits]

@[simp] theorem State.checkUsable_cells (a : Area) (s : State) : State.Cells s (s.checkUsable a) := by
  simp [State.checkUsable]

@[simp] theorem State.retire_cells (sec : Nat) (s : State) : State.Cells s (s.retire sec) := by
  simp [State.retire]

@[simp] theorem State.requestCopies_cells (sec : Nat) (s : State) : State.Cells s (s.requestCopies sec) := by
  simp [State.requestCopies]

@[simp] theorem State.startReclaim_cells (a : Area) (s : State) : State.Cells s (s.startReclaim a) := by
  unfold State.startReclaim
  dsimp only
  (repeat' split) <;> simp

@[simp] theorem State.finishRetiring_cells (a : Area) (s : State) : State.Cells s (s.finishRetiring a) := by
  simp [State.finishRetiring]

@[simp] theorem State.startErase_cells (a : Area) (s : State) : State.Cells s (s.startErase a) (rows := Partly) := by
  unfold State.startErase
  split <;> simp +contextual

@[simp] theorem State.startErases_cells (s : State) : State.Cells s s.startErases (rows := Partly) := by
  unfold State.startErases
  exact foldl_frame (fun s t => State.Cells s t (rows := Partly)) (by simp) (by grind) _ (fun t a => by simp +contextual) _ s

@[simp] theorem State.housekeep_cells (s : State) : State.Cells s s.housekeep (rows := Partly) := by
  unfold State.housekeep
  exact foldl_frame (fun s t => State.Cells s t (rows := Partly)) (by simp) (by grind) _ (fun t a => by simp +contextual) _ s

@[simp] theorem State.programFlash_cells (addr : Nat) (data : List Byte) (s : State) :
    State.Cells s (s.programFlash addr data) (flash := Partly) := by
  simp +contextual [State.programFlash]

@[simp] theorem State.programDeferred_cells (s : State) : State.Cells s s.programDeferred (flash := Partly) := by
  have h (m : List Host.Cell) (l : List (Nat × List Byte)) : FlashWf m → FlashWf (l.foldl (fun m d => programCells d m) m) :=
    foldl_keeps FlashWf _ (fun _ _ hm => hm.programCells _) l m
  simpa [State.programDeferred] using h _ _

@[simp] theorem State.recordDone_cells (s : State) : State.Cells s s.recordDone (flash := Partly) := by
  simp +contextual [State.recordDone]

@[simp] theorem State.abandonRecord_cells (cut : Bool) (s : State) : State.Cells s (s.abandonRecord cut) (array := Partly) := by
  unfold State.abandonRecord
  split
  · simp
  dsimp only
  split
  · simp
  rename_i st hst
  obtain ⟨ha, hl⟩ := Store.place_memories hst
  have hp (addr : Nat) (bytes : List Byte) (h : FlashWf s.store.array) : FlashWf (st.program addr bytes).array :=
    FlashWf.program (by rwa [ha]) _ _
  (repeat' split) <;> simp +contextual [hp, hl]

@[simp] theorem State.abandonErase_cells (s : State) : State.Cells s s.abandonErase (array := Partly) (rows := Partly) := by
  unfold State.abandonErase
  split
  · simp
  dsimp only
  split
  · simp
  split
  · simp +contextual
  · simp
  · split <;> simp +contextual
  · split
    · exact ⟨rfl, rfl, rfl, fun h => h.clearSector _, fun h => h.doneHalf _ _, ⟨rfl, rfl, rfl, rfl⟩, rfl⟩
    · exact ⟨rfl, rfl, rfl, id, fun h => (h.clear _ _).doneHalf _ _, ⟨rfl, rfl, rfl, rfl⟩, rfl⟩

@[simp] theorem State.noteCommit_cells (r : StoreRecord) (s : State) : State.Cells s (s.noteCommit r) := by
  unfold State.noteCommit
  dsimp only
  (repeat' split) <;> simp

theorem State.commitRecord_sound (readBackOk : Bool) (s : State) : s.Sound (s.commitRecord readBackOk) := by
  unfold State.commitRecord
  refine .ite (fun _ => .refl s) fun _ => ?_
  split
  · exact .refl s
  dsimp only
  split
  · exact .refl s
  rename_i st hst
  obtain ⟨ha, hl⟩ := Store.place_memories hst
  have hp (addr : Nat) (bytes : List Byte) : FlashWf s.store.array → FlashWf (st.program addr bytes).array := fun h =>
    FlashWf.program (by rwa [ha]) _ _
  split
  · have next {t : State} (ht : s.Sound t) (c : Prop) [Decidable c] : s.Sound (if c then t.housekeep else t.startErases) :=
      ht.trans (.ite (fun _ => by simp +contextual [State.Sound]) fun _ => by simp +contextual [State.Sound])
    exact next (by simp +contextual [State.Sound, hp, hl]) _
  · split <;> simp +contextual [State.Sound, hp, hl]

theorem State.eraseComplete_sound (verifyOk : Bool) (s : State) : s.Sound (s.eraseComplete verifyOk) := by
  have hk (t : State) : t.Sound t.housekeep := by simp +contextual [State.Sound]
  unfold State.eraseComplete
  split
  · exact .refl s
  rename_i e he
  refine .ite (fun _ => .refl s) fun _ => .ite (fun _ => ?_) fun _ => ?_
  · exact .trans (t := { s with store := s.store.finishRow e.row e.entry }) (by simp +contextual [State.Sound]) (hk _)
  extract_lets a gone u elsewhere l v e' w
  have hv : s.Sound v := by
    refine .trans (t := u) (by simp [State.Sound, u]) ?_
    unfold v
    split <;> simp [State.Sound]
  refine hv.trans (.ite (fun _ => .trans ?_ (hk _)) fun _ => .trans ?_ (hk _))
  · refine .trans (t := { v with store := v.store.finishErase e.sector e.count e.row e.entry }) ?_ ?_ <;> simp +contextual [State.Sound]
  · simp [State.Sound, w, e']

@[simp] theorem State.accrue_cells (a : Area) (s : State) : State.Cells s (s.accrue a) := by
  simp [State.accrue]

@[simp] theorem State.closeGate_cells (s : State) : State.Cells s s.closeGate (array := Partly) := by
  simp +contextual [State.closeGate]

@[simp] theorem State.openGate_cells (s : State) : State.Cells s s.openGate (flash := Partly) := by
  simp +contextual [State.openGate]


end Sys2Proof.Machine

namespace Sys2Proof.Machine

/-! ### Time, domains, answers, colour tags and the passes -/

@[simp] theorem State.recordDetected_cells (s : State) : State.Cells s s.recordDetected := by
  simp [State.recordDetected]

@[simp] theorem State.applyStep_cells (s : State) : State.Cells s s.applyStep := by
  unfold State.applyStep
  split <;> simp

@[simp] theorem State.stepAtBoundary_cells (s : State) : State.Cells s s.stepAtBoundary := by
  unfold State.stepAtBoundary
  split <;> simp

@[simp] theorem State.timeStep_cells (s : State) : State.Cells s s.timeStep := by
  simp [State.timeStep]

@[simp] theorem State.blockOff_cells (pd : Nat) (s : State) : State.Cells s (s.blockOff pd) := by
  simp [State.blockOff]

@[simp] theorem State.applyDomains_cells (s : State) : State.Cells s s.applyDomains := by
  simp [State.applyDomains]

@[simp] theorem State.applyConfig_cells (s : State) : State.Cells s s.applyConfig := by
  simp [State.applyConfig]

@[simp] theorem State.validateBank_cells (bank : Nat) (s : State) : State.Cells s (s.validateBank bank) := by
  simp [State.validateBank]

@[simp] theorem State.reject_cells (a : Access) (code detail : Nat) (s : State) : State.Cells s (s.reject a code detail) := by
  simp [State.reject]

@[simp] theorem State.accept_cells (a : Access) (s : State) : State.Cells s (s.accept a) := by
  simp [State.accept]

@[simp] theorem State.refuse_cells (a : Access) (detail : Nat) (s : State) : State.Cells s (s.refuse a detail) := by
  simp [State.refuse]

@[simp] theorem State.takeWrite_cells (a : Access) (via : Option CanChannel) (reqSeq : Option Nat) (s : State) (instr : Option LogicInstr)
    :
    State.Cells s (State.takeWrite a via reqSeq s instr) := by
  unfold State.takeWrite
  (repeat' split) <;> simp

@[simp] theorem State.takeRow_cells (a : Access) (s : State) (instr : Option LogicInstr) : State.Cells s (State.takeRow a s instr) := by
  simp [State.takeRow, State.request]

@[simp] theorem State.putArea_cells (coded : Bool) (off : Nat) (bytes : List Byte) (s : State) :
    State.Cells s (s.putArea coded off bytes) (ram := Partly) := by
  simp +contextual [State.putArea]

@[simp] theorem State.clearArea_cells (off n : Nat) (s : State) : State.Cells s (s.clearArea off n) (ram := Partly) := by
  unfold State.clearArea
  refine foldl_frame (fun s t => State.Cells s t (ram := Partly)) (by simp) (by grind) _ (fun t i => ?_) _ s
  refine ⟨fun h => (h.clear _ _).clear _ _, rfl, rfl, rfl, rfl, ⟨rfl, rfl, rfl, rfl⟩, rfl⟩

@[simp] theorem State.setTag_cells (g v : Nat) (s : State) : State.Cells s (s.setTag g v) (tags := Partly) := by
  have h : TagsWf s.le.tags → TagsWf (s.setTag g v).le.tags := fun h =>
    (tagsWf_iff _).mp (s.setTag_wf g v ((tagsWf_iff _).mpr h))
  refine ⟨?_, ?_, h, ?_⟩ <;> unfold State.setTag <;> split <;> simp

@[simp] theorem State.setTags_cells (g n v : Nat) (s : State) : State.Cells s (s.setTags g n v) (tags := Partly) := by
  unfold State.setTags
  exact foldl_frame (fun s t => State.Cells s t (tags := Partly)) (by simp) (by grind) _ (fun t _ => t.setTag_cells _ _) _ s

@[simp] theorem State.zeroGranules_cells (g n : Nat) (s : State) : State.Cells s (s.zeroGranules g n) (ram := Partly) := by
  simp +contextual [State.zeroGranules]

@[simp] theorem State.tagFirmware_cells (s : State) : State.Cells s s.tagFirmware (ram := Partly) (tags := Partly) := by
  have wf (g n v : Nat) (t : State) : TagsWf t.le.tags → TagsWf (t.setTags g n v).le.tags := (t.setTags_cells g n v).2.2.1
  refine ⟨?_, ?_, fun h => ?_, ?_⟩
  case refine_3 =>
    unfold State.tagFirmware
    extract_lets u m v
    have hv : TagsWf v.le.tags := by simpa [u, m, v] using h
    exact wf 1024 256 5 _ (wf 768 256 4 _ (wf 640 128 3 _ (wf 512 128 2 _ (wf 0 512 1 v hv))))
  all_goals simp +contextual [State.tagFirmware]

@[simp] theorem State.tagLogic_cells (stateBytes stackBytes : Nat) (s : State) :
    State.Cells s (s.tagLogic stateBytes stackBytes) (tags := Partly) := by
  have wf (t : State) (g v : Nat) : TagsWf t.le.tags → TagsWf (t.setTag g v).le.tags := (t.setTag_cells g v).2.2.1
  refine ⟨?_, ?_, fun h => ?_, ?_⟩
  case refine_3 =>
    unfold State.tagLogic
    extract_lets n m l u v
    have hu : TagsWf u.le.tags := h.filter _
    have hv : TagsWf v.le.tags :=
      State.le_tags_foldl_wf _ (fun t r => State.le_tags_foldl_wf _ (fun x i => wf x _ _) _ t) _ u hu
    exact State.le_tags_foldl_wf _ (fun t i => wf t _ _) _ v hv
  all_goals simp [State.tagLogic]

@[simp] theorem LeMem.writeRegister_memories (addr width data : Nat) (m : LeMem) :
    (m.writeRegister addr width data).ram = m.ram ∧ (m.writeRegister addr width data).flash = m.flash ∧
      (m.writeRegister addr width data).tags = m.tags := by
  unfold LeMem.writeRegister
  extract_lets o
  split
  · exact ⟨rfl, rfl, rfl⟩
  · split <;> exact ⟨rfl, rfl, rfl⟩

@[simp] theorem State.violation_cells (addr info cause : Nat) (s : State) : State.Cells s (s.violation addr info cause) := by
  simp [State.violation]

@[simp] theorem State.mpuCheck_cells (kind : AccessKind) (addr width value : Nat) (s : State) :
    State.Cells s (s.mpuCheck kind addr width value).1 := by
  unfold State.mpuCheck
  split <;> simp

@[simp] theorem State.leAccess_cells (kind : AccessKind) (addr width data : Nat) (s : State) :
    State.Cells s (s.leAccess kind addr width data) (ram := Partly) (tags := Partly) := by
  unfold State.leAccess
  (repeat' split) <;> simp +contextual

@[simp] theorem State.mpuAccess_cells (kind : AccessKind) (addr width data : Nat) (s : State) :
    State.Cells s (s.mpuAccess kind addr width data) (ram := Partly) (tags := Partly) := by
  unfold State.mpuAccess
  split
  · simp +contextual
  · dsimp only
    split
    · have h := State.mpuCheck_cells kind (addr % 2 ^ 32) width data s
      have h' := State.leAccess_cells kind (addr % 2 ^ 32) width data (s.mpuCheck kind (addr % 2 ^ 32) width data).1
      grind
    · simp +contextual

@[simp] theorem State.tagWriteInstr_cells (addr value : Nat) (s : State) :
    State.Cells s (s.tagWriteInstr addr value) (ram := Partly) (tags := Partly) := by
  unfold State.tagWriteInstr
  split <;> simp +contextual

@[simp] theorem State.switchViolation_cells (cause : Nat) (s : State) : State.Cells s (s.switchViolation cause) := by
  simp [State.switchViolation]

@[simp] theorem State.enterLogic_cells (s : State) : State.Cells s s.enterLogic := by
  unfold State.enterLogic
  (repeat' split) <;> simp

@[simp] theorem State.leaveLogic_cells (s : State) : State.Cells s s.leaveLogic := by
  unfold State.leaveLogic
  (repeat' split) <;> simp

@[simp] theorem State.exceptionSwitch_cells (isReturn : Bool) (s : State) : State.Cells s (s.exceptionSwitch isReturn) := by
  unfold State.exceptionSwitch
  (repeat' split) <;> simp

@[simp] theorem State.passAccess_cells (coded : Bool) (kind : AccessKind) (off : Nat) (s : State) :
    State.Cells s (s.passAccess coded kind off).1 := by
  simp [State.passAccess]

@[simp] theorem State.passAccesses_cells (coded : Bool) (reads : List Nat) (dst : Nat) (s : State) :
    State.Cells s (s.passAccesses coded reads dst).1 := by
  exact runPass_frame (R := fun s t => State.Cells s t) (by simp) (by grind) _ (by simp) _ _

@[simp] theorem State.plainStore_cells (fold : Bool) (off : Nat) (v : BitVec 32) (s : State) :
    State.Cells s (s.plainStore fold off v) (ram := Partly) := by
  simp +contextual [State.plainStore]

@[simp] theorem State.shadowStore_cells (off : Nat) (t : WordType) (c : BitVec 64) (s : State) :
    State.Cells s (s.shadowStore off t c).1 (ram := Partly) := by
  unfold State.shadowStore
  dsimp only
  (repeat' split) <;> simp +contextual

@[simp] theorem State.plainInstr_cells (fold : Bool) (i : LogicInstr) (s : State) :
    State.Cells s (s.plainInstr fold i).1 (ram := Partly) := by
  unfold State.plainInstr
  have h := State.passAccesses_cells false ((instrReads i).map (·.1)) i.dst s
  split <;> rename_i heq <;> rw [heq] at h <;> simp_all

@[simp] theorem State.shadowInstr_cells (i : LogicInstr) (s : State) : State.Cells s (s.shadowInstr i).1 (ram := Partly) := by
  unfold State.shadowInstr
  have h := State.passAccesses_cells true ((instrReads i).map (·.1)) i.dst s
  split <;> rename_i heq <;> rw [heq] at h
  · simp_all
  · dsimp only
    split <;> simp_all

@[simp] theorem State.plainWrite_cells (fold : Bool) (w : Nat × BitVec 32) (s : State) :
    State.Cells s (s.plainWrite fold w).1 (ram := Partly) := by
  unfold State.plainWrite
  have h := State.passAccess_cells false .store w.1 s
  split <;> rename_i heq <;> rw [heq] at h
  · simp_all
  · simp_all

@[simp] theorem State.shadowWrite_cells (w : Nat × WordType × BitVec 64) (s : State) :
    State.Cells s (s.shadowWrite w).1 (ram := Partly) := by
  unfold State.shadowWrite
  have h := State.passAccess_cells true .store w.1 s
  split <;> rename_i heq <;> rw [heq] at h
  · simp_all
  · simp_all

@[simp] theorem State.putStateNative_cells (s : State) : State.Cells s s.putStateNative (ram := Partly) := by
  simp +contextual [State.putStateNative]

@[simp] theorem State.putStateCoded_cells (s : State) : State.Cells s s.putStateCoded (ram := Partly) := by
  simp +contextual [State.putStateCoded]

@[simp] theorem State.plainBlocks_cells (slots : Nat → Bool) (s : State) : State.Cells s (s.plainBlocks slots) (ram := Partly) := by
  simp +contextual [State.plainBlocks]

@[simp] theorem State.shadowBlocks_cells (slots : Nat → Bool) (s : State) : State.Cells s (s.shadowBlocks slots) (ram := Partly) := by
  simp +contextual [State.shadowBlocks]

@[simp] theorem State.writeSets_cells (s : State) : State.Cells s s.writeSets := by
  simp [State.writeSets]


end Sys2Proof.Machine

namespace Sys2Proof.Machine

/-! ### Exchange buffers, the block library and the connections -/

@[simp] theorem State.skipPost_cells (x : XchPost) (s : State) : State.Cells s (s.skipPost x) := by
  simp [State.skipPost]

@[simp] theorem State.portTask_cells (p : Owner) (s : State) : State.Cells s (s.portTask p) := by
  unfold State.portTask
  (repeat' split) <;> simp

@[simp] theorem State.runTasks_cells (p : Owner) (s : State) : State.Cells s (s.runTasks p) := by
  simp [State.runTasks]

@[simp] theorem State.runPorts_cells (s : State) : State.Cells s s.runPorts := by
  simp [State.runPorts]

@[simp] theorem State.addTasks_cells (p : Owner) (l : List XchTask) (s : State) : State.Cells s (s.addTasks p l) := by
  simp [State.addTasks]

@[simp] theorem State.releaseRead_cells (p : Owner) (n : Nat) (s : State) : State.Cells s (s.releaseRead p n) := by
  simp [State.releaseRead]

@[simp] theorem State.fillBuffer_cells (who : Owner) (n : Nat) (post : Option XchPost) (s : State) :
    State.Cells s (s.fillBuffer who n post) (ram := Partly) := by
  unfold State.fillBuffer
  split <;> simp +contextual

@[simp] theorem State.finishBuffer_cells (n : Nat) (what : XchPending) (s : State) :
    State.Cells s (s.finishBuffer n what) (ram := Partly) := by
  unfold State.finishBuffer
  split <;> simp +contextual

@[simp] theorem State.zeroingDone_cells (s : State) : State.Cells s s.zeroingDone (ram := Partly) := by
  unfold State.zeroingDone
  (repeat' split) <;> simp +contextual

@[simp] theorem State.nonOwnerAccess_cells (port : Owner) (n : Nat) (s : State) : State.Cells s (s.nonOwnerAccess port n) := by
  unfold State.nonOwnerAccess
  (repeat' split) <;> simp

@[simp] theorem State.uncorrectableRead_cells (n word : Nat) (s : State) :
    State.Cells s (s.uncorrectableRead n word) (ram := Partly) := by
  simp +contextual [State.uncorrectableRead]

@[simp] theorem State.xchBoundary_cells (s : State) : State.Cells s s.xchBoundary := by
  simp [State.xchBoundary]

@[simp] theorem State.blockEvent_cells (b : Block) (ev : BlockEvent) (s : State) : State.Cells s (s.blockEvent b ev) := by
  unfold State.blockEvent
  split <;> simp

@[simp] theorem State.evaluateLibrary_cells (s : State) : State.Cells s s.evaluateLibrary := by
  simp [State.evaluateLibrary]

@[simp] theorem State.lePost_cells (kind : Nat) (payload : List Byte) (s : State) : State.Cells s (s.lePost kind payload) := by
  simp [State.lePost]

@[simp] theorem State.leSend_cells (id : Nat) (data : List Byte) (s : State) : State.Cells s (s.leSend id data) := by
  simp [State.leSend]

@[simp] theorem State.leSendOn_cells (ch : CanChannel) (id : Nat) (data : List Byte) (s : State) :
    State.Cells s (s.leSendOn ch id data) := by
  simp [State.leSendOn]

@[simp] theorem State.cePost_cells (kind : Nat) (payload : List Byte) (s : State) : State.Cells s (s.cePost kind payload) := by
  simp [State.cePost]

@[simp] theorem State.postDict_cells (payload : List Byte) (s : State) : State.Cells s (s.postDict payload) := by
  simp [State.postDict]

@[simp] theorem State.postHeld_cells (s : State) : State.Cells s s.postHeld := by
  simp [State.postHeld]

@[simp] theorem State.postRecords_cells (s : State) : State.Cells s s.postRecords := by
  simp [State.postRecords]

@[simp] theorem State.announce_cells (s : State) : State.Cells s s.announce := by
  simp [State.announce]

@[simp] theorem State.announceSend_cells (s : State) : State.Cells s s.announceSend := by
  simp [State.announceSend]

@[simp] theorem State.requestResync_cells (c : Nat) (s : State) : State.Cells s (s.requestResync c) := by
  unfold State.requestResync
  split <;> simp

@[simp] theorem State.toSyncing_cells (c : Nat) (s : State) : State.Cells s (s.toSyncing c) := by
  simp [State.toSyncing]

@[simp] theorem State.takeAnnounce_cells (d : List Byte) (node : Nat) (s : State) : State.Cells s (s.takeAnnounce d node) := by
  unfold State.takeAnnounce
  dsimp only
  split
  · split <;> simp
  · split
    · simp
    · refine foldl_frame (fun s t => State.Cells s t) (by
          simp) (by grind) _ (fun t i => ?_) _ _
      (repeat' split) <;> simp

@[simp] theorem State.hearControl_cells (d : List Byte) (s : State) : State.Cells s (s.hearControl d) := by
  unfold State.hearControl
  split <;> simp [State.controlFrame]

@[simp] theorem State.repeatResync_cells (c : Nat) (s : State) : State.Cells s (s.repeatResync c) := by
  unfold State.repeatResync
  split <;> simp

@[simp] theorem State.produceFrames_cells (s : State) : State.Cells s s.produceFrames := by
  unfold State.produceFrames
  split
  · simp
  · refine foldl_frame (fun s t => State.Cells s t) (by simp) (by grind) _
        (fun t i => ?_) _ _
    dsimp only
    (repeat' split) <;> simp

@[simp] theorem State.storeBoth_cells (s : State) (w : Nat × WordType × BitVec 32) :
    State.Cells s (State.storeBoth s w) (ram := Partly) := by
  simp +contextual [State.storeBoth]

@[simp] theorem State.freezeConns_cells (s : State) : State.Cells s s.freezeConns (ram := Partly) := by
  simp +contextual [State.freezeConns]

@[simp] theorem State.judgeData_cells (i : Nat) (c : Connection) (d : List Byte) (s : State) : State.Cells s (s.judgeData i c d) := by
  unfold State.judgeData
  dsimp only
  split
  · simp
  · (repeat' split) <;> simp

@[simp] theorem State.dataFrameIn_cells (connId : Nat) (d : List Byte) (s : State) : State.Cells s (s.dataFrameIn connId d) := by
  unfold State.dataFrameIn
  (repeat' split) <;> simp

@[simp] theorem State.connExpiry_cells (i : Nat) (s : State) : State.Cells s (s.connExpiry i) := by
  unfold State.connExpiry
  split <;> simp

@[simp] theorem State.syncHeld_cells (s : State) : State.Cells s s.syncHeld := by
  unfold State.syncHeld
  refine foldl_frame (fun s t => State.Cells s t) (by simp) (by grind) _ (fun
      t i => ?_) _ _
  (repeat' split) <;> simp

@[simp] theorem State.startConns_cells (s : State) : State.Cells s s.startConns := by
  simp [State.startConns]

@[simp] theorem State.exchangeConns_cells (fresh : List Connection) (s : State) : State.Cells s (s.exchangeConns fresh) := by
  simp [State.exchangeConns]

@[simp] theorem State.busOff_cells (ch : CanChannel) (s : State) : State.Cells s (s.busOff ch) := by
  simp [State.busOff]

@[simp] theorem State.recoveryStart_cells (ch : CanChannel) (s : State) : State.Cells s (s.recoveryStart ch) := by
  simp [State.recoveryStart]

@[simp] theorem State.recoveryDone_cells (ch : CanChannel) (s : State) : State.Cells s (s.recoveryDone ch) := by
  simp [State.recoveryDone]


end Sys2Proof.Machine

namespace Sys2Proof.Machine

/-! ### Images, power, the store's recovery (R416 to R421), Boot and Test, and the mirror -/

@[simp] theorem State.refuseLoad_cells (a : Access) (code : Nat) (s : State) : State.Cells s (s.refuseLoad a code) := by
  simp [State.refuseLoad]

@[simp] theorem State.loadCommand_cells (a : Access) (s : State) : State.Cells s (s.loadCommand a) := by
  unfold State.loadCommand
  (repeat' split) <;> simp

@[simp] theorem State.imageErased_cells (s : State) : State.Cells s s.imageErased (flash := Partly) := by
  unfold State.imageErased
  split <;> simp +contextual

@[simp] theorem State.programImage_cells (data : List Byte) (s : State) : State.Cells s (s.programImage data) (flash := Partly) := by
  simp +contextual [State.programImage]

@[simp] theorem State.writeImageData_cells (a : Access) (data : List Byte) (s : State) :
    State.Cells s (s.writeImageData a data) (flash := Partly) := by
  unfold State.writeImageData
  split <;> simp +contextual

@[simp] theorem State.validationDone_cells (s : State) : State.Cells s s.validationDone := by
  unfold State.validationDone
  split <;> simp

@[simp] theorem State.selectAtRelease_cells (s : State) : State.Cells s s.selectAtRelease := by
  simp [State.selectAtRelease]

@[simp] theorem State.storeSelect_cells (bank : Nat) (s : State) : State.Cells s (s.storeSelect bank) := by
  simp [State.storeSelect]

@[simp] theorem State.bankSelect_cells (a : Access) (s : State) : State.Cells s (s.bankSelect a) := by
  simp [State.bankSelect]

@[simp] theorem State.requestExchange_cells (a : Access) (s : State) : State.Cells s (s.requestExchange a) := by
  unfold State.requestExchange
  split <;> simp

@[simp] theorem State.exchangeWrite_cells (a : Access) (s : State) : State.Cells s (s.exchangeWrite a) := by
  unfold State.exchangeWrite
  split <;> simp

@[simp] theorem State.reencodeInputs_cells (oldBank : Nat) (s : State) : State.Cells s (s.reencodeInputs oldBank) (ram := Partly) := by
  simp +contextual [State.reencodeInputs]

theorem State.putAreas_sound (coded : Bool) (l : List (Nat × List Byte)) (s : State) :
    s.Sound (l.foldl (fun t x => t.putArea coded x.1 x.2) s) :=
  .foldl _ (fun t x => by simp +contextual [State.Sound]) l s

theorem State.switchImage_sound (coded : List (Nat × List Byte)) (s : State) : s.Sound (s.switchImage coded) := by
  unfold State.switchImage
  extract_lets bank old fresh img native size acks dirs cleared plain full tx blocks conns lib images frozen switched noted
  have hplain : s.Sound plain := .trans (t := cleared) (by simp +contextual [State.Sound, cleared])
    (State.putAreas_sound ..)
  have hfull : s.Sound full := hplain.trans (State.putAreas_sound ..)
  have hfrozen : s.Sound frozen := hfull.trans (by simp [State.Sound, frozen])
  have hswitched : s.Sound switched := by
    refine hfrozen.trans (.trans (t := (frozen.exchangeConns conns).tagLogic img.stateSize img.stackSize) ?_ ?_) <;>
      simp +contextual [State.Sound, switched]
  refine hswitched.trans (.trans (t := noted) (by simp [State.Sound, noted]) ?_)
  split <;> simp [State.Sound]

theorem State.exchangeSwitch_sound (trapAt : Option Nat) (s : State) : s.Sound (s.exchangeSwitch trapAt) := by
  unfold State.exchangeSwitch
  dsimp only
  split
  · exact .refl s
  next e _ =>
  refine .ite (fun _ => .refl s) fun _ => .ite (fun _ => .refl s) fun _ => .ite (fun _ => by simp [State.Sound]) fun _ =>
    .ite (fun _ => by simp [State.Sound]) fun _ => .ite (fun _ => by simp [State.Sound]) fun _ => ?_
  split
  · simp [State.Sound]
  · simp [State.Sound]
  · exact s.switchImage_sound _

@[simp] theorem State.completeExchange_cells (s : State) : State.Cells s s.completeExchange := by
  unfold State.completeExchange
  split <;> simp

@[simp] theorem State.ackWrite_cells (a : Access) (s : State) : State.Cells s (s.ackWrite a) := by
  unfold State.ackWrite
  split <;> simp

@[simp] theorem State.dirWrite_cells (a : Access) (s : State) : State.Cells s (s.dirWrite a) := by
  unfold State.dirWrite
  split <;> simp

@[simp] theorem State.persistGroup_cells (g : Nat) (s : State) : State.Cells s (s.persistGroup g) := by
  unfold State.persistGroup
  split <;> simp

@[simp] theorem State.persistGroups_cells (s : State) : State.Cells s s.persistGroups := by
  simp [State.persistGroups]

@[simp] theorem State.ledgerElapse_cells (s : State) : State.Cells s s.ledgerElapse := by
  simp [State.ledgerElapse]

@[simp] theorem State.boardSample_cells (tenths : Int) (s : State) : State.Cells s (s.boardSample tenths) := by
  simp [State.boardSample]

@[simp] theorem State.countRide_cells (s : State) : State.Cells s s.countRide := by
  simp [State.countRide]

@[simp] theorem State.clearWarning_cells (s : State) : State.Cells s s.clearWarning := by
  simp [State.clearWarning]

@[simp] theorem State.qualify_cells (e : Entry) (x : EntrySample) (holdupMv : Nat) (s : State) :
    State.Cells s (s.qualify e x holdupMv) := by
  unfold State.qualify
  (repeat' split) <;> simp

@[simp] theorem State.disqualify_cells (e : Entry) (x : EntrySample) (s : State) : State.Cells s (s.disqualify e x) := by
  unfold State.disqualify
  split <;> simp

@[simp] theorem State.raiseWarning_cells (s : State) : State.Cells s s.raiseWarning (array := Partly) := by
  unfold State.raiseWarning
  dsimp only
  (repeat' split) <;> simp +contextual

@[simp] theorem State.gateReopens_cells (holdupMv : Nat) (s : State) : State.Cells s (s.gateReopens holdupMv) (flash := Partly) := by
  unfold State.gateReopens
  dsimp only
  (repeat' split) <;> simp +contextual

@[simp] theorem State.judgeEstimate_cells (s : State) : State.Cells s s.judgeEstimate := by
  simp [State.judgeEstimate]

@[simp] theorem State.makeEstimate_cells (us_ : Nat) (s : State) : State.Cells s (s.makeEstimate us_) := by
  simp [State.makeEstimate]

@[simp] theorem State.chargeTimed_cells (startMv chargeUs : Nat) (s : State) : State.Cells s (s.chargeTimed startMv chargeUs) := by
  simp [State.chargeTimed]

@[simp] theorem State.pauseEnd_cells (holdupMv logicMw : Nat) (s : State) : State.Cells s (s.pauseEnd holdupMv logicMw) := by
  unfold State.pauseEnd
  split <;> simp

@[simp] theorem State.supplyStart_cells (holdupMv : Nat) (s : State) : State.Cells s (s.supplyStart holdupMv) := by
  simp [State.supplyStart]

@[simp] theorem State.overdraw_cells (x : PowerSample) (s : State) : State.Cells s (s.overdraw x) := by
  unfold State.overdraw
  dsimp only
  (repeat' split) <;> simp

@[simp] theorem State.copyTail_cells (a : Area) (s : State) : State.Cells s (s.copyTail a) := by
  unfold State.copyTail
  dsimp only
  (repeat' split) <;> simp

theorem State.drain_sound (k : Nat) (s : State) : s.Sound (s.drain k) := by
  induction k generalizing s with
  | zero => exact .refl s
  | succ k ih =>
    unfold State.drain
    exact .ite (fun _ => .refl s) fun _ => (s.commitRecord_sound true).trans (ih _)

@[simp] theorem State.loadObject_cells (key v dflt : Nat) (s : State) : State.Cells s (s.loadObject key v dflt) := by
  simp [State.loadObject]

@[simp] theorem State.loadObjects_cells (s : State) : State.Cells s s.loadObjects := by
  unfold State.loadObjects
  dsimp only
  split <;> simp

/-- The store keeps its array and its erase ledger in their canonical form. -/
def Store.Sound (st u : Store) : Prop := (FlashWf st.array → FlashWf u.array) ∧ (FlashWf st.ledger → FlashWf u.ledger)

theorem Store.Sound.refl (st : Store) : st.Sound st := ⟨id, id⟩

theorem Store.Sound.trans {st u v : Store} (h : st.Sound u) (k : u.Sound v) : st.Sound v := ⟨k.1 ∘ h.1, k.2 ∘ h.2⟩

theorem Store.Sound.foldl {α : Type} (f : Store → α → Store) (h : ∀ (st : Store) (a : α), st.Sound (f st a)) (l : List α) (st : Store) :
    st.Sound (l.foldl f st) := List.foldlRecOn (motive := st.Sound) l f (.refl st) fun t ht a _ => ht.trans (h t a)

/-- A change of the store alone that keeps both memories in order. -/
theorem State.Sound.store (s : State) {st : Store} (h : s.store.Sound st) : s.Sound { s with store := st } :=
  ⟨id, id, id, h.1, h.2, fun _ => id, rfl⟩

@[simp] theorem Store.placeArea_array (a : Area) (st : Store) : (st.placeArea a).array = st.array := by simp [Store.placeArea]

@[simp] theorem Store.placeArea_ledger (a : Area) (st : Store) : (st.placeArea a).ledger = st.ledger := by simp [Store.placeArea]

theorem Store.kill_sound (st : Store) (sec off : Nat) : st.Sound (st.kill sec off) := ⟨fun h => h.program _ _, id⟩

theorem Store.finishErase_sound (sec count row entry : Nat) (st : Store) : st.Sound (st.finishErase sec count row entry) :=
  ⟨fun h => h.finishErase_array _ _ _ _, fun h => h.finishErase_ledger _ _ _ _⟩

theorem Store.eraseNow_sound (sec : Nat) (st : Store) : st.Sound (st.eraseNow sec) := by
  unfold Store.eraseNow
  extract_lets finish first
  have hb (st : Store) : st.Sound (st.beginErase sec) := by simp +contextual [Store.Sound]
  have hf (st : Store) : st.Sound (finish st) := by
    unfold finish
    split
    · split
      · simp +contextual [Store.Sound]
      · exact Store.finishErase_sound _ _ _ _ _
    · exact .refl st
  refine .trans (u := first) ?_ ((hb _).trans (hf _))
  unfold first
  split
  · exact (hb _).trans (hf _)
  · exact .refl st

theorem State.initialiseStore_sound (s : State) : s.Sound s.initialiseStore := by
  unfold State.initialiseStore
  extract_lets st headed placed rt made loaded
  have hheaded : s.store.Sound headed := by
    refine Store.Sound.foldl _ (fun t sec => ?_) _ _
    dsimp only
    split
    · exact .refl t
    · simp +contextual [Store.Sound]
  have hplaced : headed.Sound placed := .foldl _ (fun t a => by simp [Store.Sound]) _ _
  have hmade : s.Sound made := .trans (.store s (hheaded.trans hplaced)) (by simp [State.Sound, made])
  refine hmade.trans (.trans (t := loaded) ?_ ?_) <;> simp [State.Sound, loaded]

theorem State.countRedo_sound (redo : List Nat) (s : State) : s.Sound (s.countRedo redo) := by
  unfold State.countRedo
  refine .ite (fun _ => .refl s) fun _ => ?_
  extract_lets st
  have hst : s.store.Sound st := .foldl _ (fun t a => by simp [Store.Sound]) _ _
  exact .trans (.store s hst) (by simp [State.Sound])

@[simp] theorem State.takeEpoch_cells (s : State) : State.Cells s s.takeEpoch := by
  simp [State.takeEpoch]

@[simp] theorem State.countRidesEarly_cells (s : State) : State.Cells s s.countRidesEarly := by
  simp [State.countRidesEarly]

@[simp] theorem State.recheckUsable_cells (a : Area) (s : State) : State.Cells s (s.recheckUsable a) := by
  simp [State.recheckUsable]

@[simp] theorem Store.readLedger_memories (st : Store) : st.readLedger.array = st.array ∧ st.readLedger.ledger = st.ledger := by
  unfold Store.readLedger
  dsimp only
  (repeat' split) <;> exact ⟨rfl, rfl⟩

/-- The order of R416 to R421, up to the drain of the queue. -/
theorem State.recoverStore_sound (elapsedUs : Nat) (s : State) : s.Sound (s.recoverStore elapsedUs) := by
  unfold State.recoverStore
  extract_lets torn st areas live scans rejected unheaded fresh redo read noted placed finished erased told killed marked copied
    loaded drained checked boot store
  have hread : s.Sound read :=
    .trans (t := torn) (by simp +contextual [State.Sound, torn]) (.store torn (by simp [Store.Sound, Store.noteReads, st]))
  have hnoted : s.Sound noted := hread.trans (by simp [State.Sound, noted])
  have hfinished : noted.store.Sound finished := by
    refine .trans (u := placed) (Store.Sound.foldl _ (fun t a => by simp [Store.Sound]) areas noted.store) ?_
    unfold finished
    split <;> simp +contextual [Store.Sound]
  have herased : noted.store.Sound erased := hfinished.trans (.foldl _ (fun t sec => t.eraseNow_sound sec) _ _)
  have htold : s.Sound told := hnoted.trans (.trans (.store noted herased) (by simp [State.Sound, told]))
  have hkill (t : Store) (r : Nat × Nat) : t.Sound (t.kill r.1 r.2) := t.kill_sound r.1 r.2
  have hkilled : told.store.Sound killed := .foldl _ hkill rejected told.store
  have hmarked : s.Sound marked := htold.trans (.trans (.store told hkilled) (by simp [State.Sound, marked]))
  have hloaded : s.Sound loaded := by
    have hcopied : marked.Sound copied := .foldl _ (fun t a => by simp [State.Sound]) areas marked
    have hread : copied.Sound copied.loadObjects := by simp [State.Sound]
    have hcounted := hread.trans (copied.loadObjects.countRedo_sound redo)
    unfold loaded
    exact hmarked.trans (.ite (fun _ => marked.initialiseStore_sound) fun _ =>
      hcopied.trans (hcounted.trans (by simp [State.Sound])))
  have hdrained : s.Sound drained := hloaded.trans (loaded.drain_sound _)
  have hhoused : s.Sound drained.countRidesEarly.takeEpoch.housekeep :=
    hdrained.trans (.trans (t := drained.countRidesEarly.takeEpoch) (by simp [State.Sound]) (by simp +contextual [State.Sound]))
  have hcheck (t : State) (a : Area) : t.Sound (t.recheckUsable a) := by simp [State.Sound]
  have hchecked : s.Sound checked := hhoused.trans (.foldl _ hcheck areas _)
  exact hchecked.trans (by simp [State.Sound, store])

@[simp] theorem State.checkRetained_cells (crcOk : Bool) (s : State) : State.Cells s (s.checkRetained crcOk) := by
  simp [State.checkRetained]

@[simp] theorem State.releaseReset_cells (crcOk : Bool) (s : State) : State.Cells s (s.releaseReset crcOk) := by
  simp [State.releaseReset]

@[simp] theorem State.bootEntry_cells (s : State) : State.Cells s s.bootEntry (fuses := Partly) := by
  unfold State.bootEntry
  split
  · cases s.le.fwSelect <;> simp +contextual
  · simp +contextual

@[simp] theorem State.bistClears_cells (g : Nat) (s : State) : State.Cells s (s.bistClears g) (ram := Partly) (tags := Partly) := by
  unfold State.bistClears
  split <;> simp +contextual

@[simp] theorem State.groupComplete_cells (g : Nat) (raw : List (BitVec 64)) (place element : Nat) (s : State) :
    State.Cells s (s.groupComplete g raw place element) (ram := Partly) (tags := Partly) := by
  simp +contextual [State.groupComplete]

@[simp] theorem State.storeAgain_cells (r : EventRecord) (s : State) : State.Cells s (s.storeAgain r) := by
  simp [State.storeAgain]

@[simp] theorem State.startLog_cells (s : State) : State.Cells s s.startLog := by
  simp [State.startLog]

@[simp] theorem State.countStart_cells (s : State) : State.Cells s s.countStart := by
  simp [State.countStart]

@[simp] theorem State.releaseState_cells (causes : List Nat) (s : State) : State.Cells s (s.releaseState causes) := by
  unfold State.releaseState
  split <;> simp

@[simp] theorem State.countEarlySessions_cells (s : State) : State.Cells s s.countEarlySessions := by
  simp [State.countEarlySessions]

@[simp] theorem State.presenceLoop_cells (intact : Bool) (s : State) : State.Cells s (s.presenceLoop intact) := by
  simp [State.presenceLoop]

@[simp] theorem State.frameValid_cells (claim : Bool) (s : State) : State.Cells s (s.frameValid claim) := by
  simp [State.frameValid]

@[simp] theorem State.statusFrame_cells (data : List Byte) (s : State) : State.Cells s (s.statusFrame data) := by
  unfold State.statusFrame
  (repeat' split) <;> simp

@[simp] theorem State.linkLost_cells (s : State) : State.Cells s s.linkLost := by
  simp [State.linkLost]

@[simp] theorem State.keepRecords_cells (s : State) : State.Cells s s.keepRecords := by
  simp [State.keepRecords]

@[simp] theorem State.captureSnapshot_cells (s : State) : State.Cells s s.captureSnapshot := by
  unfold State.captureSnapshot
  split <;> simp

@[simp] theorem State.receiveSnapshot_cells (f : SnapshotFrame) (s : State) : State.Cells s (s.receiveSnapshot f) := by
  simp [State.receiveSnapshot]

@[simp] theorem State.enterTwin_cells (r : EventRecord) (s : State) : State.Cells s (s.enterTwin r) := by
  simp [State.enterTwin]

@[simp] theorem State.writeSnapshot_cells (f : SnapshotFrame) (s : State) :
    State.Cells s (s.writeSnapshot f) (ram := Partly) (tags := Partly) := by
  unfold State.writeSnapshot
  dsimp only
  (repeat' split) <;> simp +contextual

@[simp] theorem State.commitBoundary_cells (s : State) : State.Cells s s.commitBoundary (ram := Partly) (tags := Partly) := by
  unfold State.commitBoundary
  dsimp only
  (repeat' split) <;> simp +contextual

@[simp] theorem State.snapshotStale_cells (s : State) : State.Cells s s.snapshotStale := by
  simp [State.snapshotStale]

@[simp] theorem State.takeOver_cells (s : State) : State.Cells s s.takeOver := by
  simp [State.takeOver]

@[simp] theorem State.takeoverDecision_cells (s : State) : State.Cells s s.takeoverDecision := by
  simp [State.takeoverDecision]

@[simp] theorem State.replaceWrite_cells (a : Access) (s : State) : State.Cells s (s.replaceWrite a) := by
  simp [State.replaceWrite]

@[simp] theorem State.copyImage_cells (image : List Byte) (s : State) : State.Cells s (s.copyImage image) (flash := Partly) := by
  have h : FlashWf s.le.flash →
      FlashWf (cellWrite erasedByte (bankBase s.loadTarget) (image.take 0x40000) (cellClear (bankBase s.loadTarget) 0x40000 s.le.flash)) :=
    fun h => (h.clear _ _).write _ _
  simpa [State.copyImage] using h

@[simp] theorem State.selectCopied_cells (s : State) : State.Cells s s.selectCopied := by
  unfold State.selectCopied
  split <;> simp

@[simp] theorem State.copyEnd_cells (ok : Bool) (values : List (Nat × Nat)) (image : List Byte) (s : State) :
    State.Cells s (s.copyEnd ok values image) (flash := Partly) := by
  simp +contextual [State.copyEnd]


end Sys2Proof.Machine

namespace Sys2Proof.Machine

/-! ### The end of an OTP command (R164 to R166) -/

theorem mem_onesFrom {lo len v n : Nat} : n ∈ onesFrom lo len v ↔ lo ≤ n ∧ n < lo + len ∧ v.testBit (n - lo) = true := by
  simp only [onesFrom, List.mem_map, List.mem_filter, List.mem_range]
  constructor
  · rintro ⟨i, ⟨hi, hv⟩, rfl⟩
    exact ⟨by omega, by omega, by rwa [Nat.add_sub_cancel_left]⟩
  · rintro ⟨hlo, hlen, hv⟩
    exact ⟨n - lo, ⟨by omega, hv⟩, by omega⟩

theorem onesFrom_nodup (lo len v : Nat) : (onesFrom lo len v).Nodup :=
  (List.nodup_range.filter _).map fun _ _ h => Nat.add_left_cancel h

theorem onesFrom_append_nodup {lo len v lo' len' v' : Nat} (h : lo + len ≤ lo' ∨ lo' + len' ≤ lo) :
    (onesFrom lo len v ++ onesFrom lo' len' v').Nodup := by
  refine (onesFrom_nodup _ _ _).append (onesFrom_nodup _ _ _) fun n hn hn' => ?_
  rw [mem_onesFrom] at hn hn'
  omega

/-- The digest of a section lies outside its content. -/
theorem sectionMap_digest_apart (sec : OtpSection) :
    (sectionMap sec).base + (sectionMap sec).size ≤ (sectionMap sec).digest ∨
      (sectionMap sec).digest + (sectionMap sec).digestBits ≤ (sectionMap sec).base := by
  cases sec <;> decide

/-- A command plans no bit twice: the digest of a section lies outside its content, and the pattern of a Lifecycle item outside
its field. -/
theorem Otp.planned_nodup (o : Otp) (run : OtpRun) : (o.planned run).Nodup := by
  unfold Otp.planned
  dsimp only
  split
  · exact onesFrom_nodup _ _ _
  · exact onesFrom_append_nodup (sectionMap_digest_apart run.sel)
  · exact onesFrom_append_nodup (by omega)

/-- The content and the digest of a section lie in its region, and the region in the array. -/
theorem sectionMap_bounds (sec : OtpSection) :
    let m := sectionMap sec
    m.regionBase ≤ m.base ∧ m.base + m.size ≤ m.regionBase + m.regionSize ∧ m.size ≤ 512 ∧ m.regionBase ≤ m.digest ∧
      m.digest + m.digestBits ≤ m.regionBase + m.regionSize ∧ m.regionBase + m.regionSize ≤ 4096 := by
  cases sec <;> decide

theorem mem_fuses {n f : Nat} : f ∈ [3 * n, 3 * n + 1, 3 * n + 2] ↔ f / 3 = n := by
  simp only [List.mem_cons, List.not_mem_nil, or_false]
  omega

theorem Otp.mem_toBurn {o : Otp} {bits : List Nat} {f : Nat} : f ∈ o.toBurn bits ↔ f / 3 ∈ bits ∧ o.fuse f = false := by
  have hbit : (∃ n ∈ bits, f ∈ [3 * n, 3 * n + 1, 3 * n + 2]) ↔ f / 3 ∈ bits := by
    simp only [mem_fuses]
    exact ⟨fun ⟨n, hn, hf⟩ => hf ▸ hn, fun hf => ⟨_, hf, rfl⟩⟩
  rw [Otp.toBurn, List.mem_filter, List.mem_flatMap, hbit, Bool.not_eq_true']

theorem Otp.toBurn_cons (o : Otp) (n : Nat) (bits : List Nat) : o.toBurn (n :: bits) = o.toBurn [n] ++ o.toBurn bits := by
  rw [Otp.toBurn, List.flatMap_cons, List.filter_append]
  simp [Otp.toBurn]

/-- The fuses of other bits do not change what is to be burned. -/
theorem Otp.toBurn_burnAll {o : Otp} {fs bits : List Nat} (h : ∀ f ∈ fs, f / 3 ∉ bits) : (o.burnAll fs).toBurn bits = o.toBurn bits := by
  refine List.filter_congr fun f hf => ?_
  have hf : f / 3 ∈ bits := by
    obtain ⟨n, hn, hfn⟩ := List.mem_flatMap.mp hf
    rwa [mem_fuses.mp hfn]
  have hnot : fs.contains f = false := by simpa using fun hmem => h f hmem hf
  rw [Otp.burnAll_fuse, hnot, Bool.false_and, Bool.or_false]

/-- What is to be burned of a list of bits, once burned, reads 1. -/
theorem Otp.fuse_burnAll_toBurn {o : Otp} {bits : List Nat} {f : Nat} (hf : f / 3 ∈ bits) (hlt : f / 3 < 4096) :
    (o.burnAll (o.toBurn bits)).fuse f = true := by
  rw [Otp.burnAll_fuse]
  cases hof : o.fuse f
  · simpa [hlt] using Otp.mem_toBurn.mpr ⟨hf, hof⟩
  · rfl

theorem Otp.fuse_burnAll_other {o : Otp} {fs : List Nat} {f : Nat} (h : f ∉ fs) : (o.burnAll fs).fuse f = o.fuse f := by
  simp [Otp.burnAll_fuse, h]

theorem burnBits_cons (unburned : List Nat) (n : Nat) (bits : List Nat) (o : Otp) (count : Nat) :
    burnBits unburned (n :: bits) o count =
      let b := o.burnAll ((o.toBurn [n]).filter (fun f => !unburned.contains f))
      if 2 ≤ ((o.toBurn [n]).filter unburned.contains).length then (b, count + (o.toBurn [n]).length, true)
      else burnBits unburned bits b (count + (o.toBurn [n]).length) := rfl

/-- The array after the bits of a command: fuses of these bits alone were burned. -/
theorem burnBits_array (unburned bits : List Nat) (o : Otp) (count : Nat) :
    ∃ fs, (burnBits unburned bits o count).1 = o.burnAll fs ∧ ∀ f ∈ fs, f / 3 ∈ bits := by
  induction bits generalizing o count with
  | nil => exact ⟨[], rfl, by simp⟩
  | cons n bits ih =>
    have hhead : ∀ f ∈ (o.toBurn [n]).filter (fun f => !unburned.contains f), f / 3 ∈ n :: bits := fun f hf =>
      List.mem_cons.mpr (.inl (List.mem_singleton.mp (Otp.mem_toBurn.mp (List.mem_filter.mp hf).1).1))
    rw [burnBits_cons]
    dsimp only
    split
    · exact ⟨_, rfl, hhead⟩
    · obtain ⟨fs, hfs, hmem⟩ := ih (o.burnAll ((o.toBurn [n]).filter (fun f => !unburned.contains f))) (count + (o.toBurn [n]).length)
      refine ⟨_, by rw [hfs, ← Otp.burnAll_append], fun f hf => ?_⟩
      exact (List.mem_append.mp hf).elim (hhead f) fun hf => List.mem_cons_of_mem _ (hmem f hf)

/-- With every pulse effective, all that is planned is burned, and counted (log entry 111). -/
theorem burnBits_effective (bits : List Nat) (hd : bits.Nodup) (o : Otp) (count : Nat) :
    burnBits [] bits o count = (o.burnAll (o.toBurn bits), count + (o.toBurn bits).length, false) := by
  induction bits generalizing o count with
  | nil => rfl
  | cons n bits ih =>
    obtain ⟨hn, hd⟩ := List.nodup_cons.mp hd
    have hall : (o.toBurn [n]).filter (fun f => !([] : List Nat).contains f) = o.toBurn [n] := by simp
    have hnone : (o.toBurn [n]).filter ([] : List Nat).contains = [] := List.filter_eq_nil_iff.mpr (by simp)
    have hrest : (o.burnAll (o.toBurn [n])).toBurn bits = o.toBurn bits := by
      refine Otp.toBurn_burnAll fun f hf => ?_
      rwa [List.mem_singleton.mp (Otp.mem_toBurn.mp hf).1]
    rw [burnBits_cons, hall, Otp.toBurn_cons o n bits, Otp.burnAll_append, List.length_append, ← Nat.add_assoc]
    simp [hnone, ih hd, hrest]

/-- A bit of which two fuses stay unburned stops the command (R164). -/
theorem burnBits_stops {unburned bits : List Nat} (hd : bits.Nodup) {n : Nat} (hn : n ∈ bits) (o : Otp) (count : Nat)
    (h : 2 ≤ ((o.toBurn [n]).filter unburned.contains).length) : (burnBits unburned bits o count).2.2 = true := by
  induction bits generalizing o count with
  | nil => cases hn
  | cons m bits ih =>
    obtain ⟨hm, hd⟩ := List.nodup_cons.mp hd
    rw [burnBits_cons]
    dsimp only
    split
    · rfl
    · rename_i hgo
      have hnm : n ≠ m := fun hnm => hgo (hnm ▸ h)
      have hsame : (o.burnAll ((o.toBurn [m]).filter (fun f => !unburned.contains f))).toBurn [n] = o.toBurn [n] := by
        refine Otp.toBurn_burnAll fun f hf hfn => hnm ?_
        rw [← List.mem_singleton.mp hfn, List.mem_singleton.mp (Otp.mem_toBurn.mp (List.mem_filter.mp hf).1).1]
      exact ih hd ((List.mem_cons.mp hn).resolve_left hnm) _ _ (by rwa [hsame])

/-- The array, the count and the stop of a command's planned fuses. -/
def State.burned (unburned : List Nat) (run : OtpRun) (s : State) : Otp × Nat × Bool := burnBits unburned (s.otp.planned run) s.otp 0

/-- The strict verify after these fuses fails. -/
def State.endsBad (unburned weak : List Nat) (run : OtpRun) (s : State) : Bool :=
  s.otp.verifyFails (s.burned unburned run).1 run weak

/-- A `FINALISE` burns the damage marker. -/
def State.endsMarked (unburned weak : List Nat) (run : OtpRun) (s : State) : Bool :=
  !(s.burned unburned run).2.2 && s.endsBad unburned weak run && run.code == 2

/-- The array at the end of a command. -/
def State.endArray (unburned weak : List Nat) (run : OtpRun) (s : State) : Otp :=
  let b := (s.burned unburned run).1
  if s.endsMarked unburned weak run then b.burnAll (b.toBurn (markerBits run.sel)) else b

/-- The fuses of the damage marker that a command counts. -/
def State.markerCount (unburned weak : List Nat) (run : OtpRun) (s : State) : Nat :=
  if s.endsMarked unburned weak run then ((s.burned unburned run).1.toBurn (markerBits run.sel)).length else 0

/-- `OTP_OP_STATUS` at the end of a command. -/
def State.endStatus (unburned weak : List Nat) (run : OtpRun) (s : State) : Nat :=
  if (s.burned unburned run).2.2 then 0x87 else if s.endsBad unburned weak run then 0x84 else 0x03

/-- The OTP part at the end of a command. -/
def State.endOtp (unburned weak : List Nat) (run : OtpRun) (s : State) : Otp :=
  { (s.endArray unburned weak run).reread run.sel with
    running := none
    progress := ((s.burned unburned run).2.1 + s.markerCount unburned weak run) % 2 ^ 16
    opStatus := s.endStatus unburned weak run }

/-- A command that ends: its OTP part, the domains without PD54, and the event of a failed `FINALISE`. -/
theorem State.otpComplete_ends {unburned weak : List Nat} {run : OtpRun} {s : State} (hrun : s.otp.running = some run)
    (hgate : s.power.gateClosed = false) :
    s.otpComplete unburned weak =
      let u := State.applyDomains { s with otp := s.endOtp unburned weak run }
      if s.endsMarked unburned weak run then u.event 0x0C08 [] else u := by
  unfold State.otpComplete
  rw [hrun]
  dsimp only
  rw [if_neg (by simp [hgate])]
  rfl

theorem State.otpComplete_idle {unburned weak : List Nat} {s : State} (h : s.otp.running = none ∨ s.power.gateClosed = true) :
    s.otpComplete unburned weak = s := by
  unfold State.otpComplete
  split
  · rfl
  · rename_i run hrun
    exact if_pos (h.resolve_left (by simp [hrun]))

theorem Otp.fuse_burnAll_mono {o : Otp} {f : Nat} (h : o.fuse f = true) (fs : List Nat) : (o.burnAll fs).fuse f = true := by
  simp [Otp.burnAll_fuse, h]

/-- The fuses that a command burns are of planned bits, or of the damage marker. -/
theorem State.endArray_array (unburned weak : List Nat) (run : OtpRun) (s : State) :
    ∃ fs, s.endArray unburned weak run = s.otp.burnAll fs ∧
      ∀ f ∈ fs, f / 3 ∈ s.otp.planned run ∨ (s.endsMarked unburned weak run = true ∧ f / 3 ∈ markerBits run.sel) := by
  obtain ⟨fs, hfs, hmem⟩ := burnBits_array unburned (s.otp.planned run) s.otp 0
  have hburned : (s.burned unburned run).1 = s.otp.burnAll fs := hfs
  unfold State.endArray
  dsimp only
  split
  next hmarked =>
    rw [hburned, ← Otp.burnAll_append]
    refine ⟨_, rfl, fun f hf => (List.mem_append.mp hf).imp (hmem f) fun hf => ?_⟩
    exact ⟨hmarked, (Otp.mem_toBurn.mp hf).1⟩
  next => exact ⟨fs, hburned, fun f hf => .inl (hmem f hf)⟩

theorem State.endArray_burned {unburned weak : List Nat} {run : OtpRun} {s : State} {f : Nat}
    (h : (s.burned unburned run).1.fuse f = true) : (s.endArray unburned weak run).fuse f = true := by
  unfold State.endArray
  dsimp only
  split
  · exact Otp.fuse_burnAll_mono h _
  · exact h

theorem State.burned_effective (run : OtpRun) (s : State) :
    s.burned [] run = (s.otp.burnAll (s.otp.toBurn (s.otp.planned run)), (s.otp.toBurn (s.otp.planned run)).length, false) := by
  rw [State.burned, burnBits_effective _ (s.otp.planned_nodup run), Nat.zero_add]

theorem State.endsMarked_iff {unburned weak : List Nat} {run : OtpRun} {s : State} :
    s.endsMarked unburned weak run = true ↔ s.endStatus unburned weak run = 0x84 ∧ run.code = 2 := by
  unfold State.endsMarked State.endStatus
  cases (s.burned unburned run).2.2 <;> cases s.endsBad unburned weak run <;> simp

theorem State.endStatus_cases (unburned weak : List Nat) (run : OtpRun) (s : State) :
    s.endStatus unburned weak run = 3 ∨ s.endStatus unburned weak run = 0x84 ∨ s.endStatus unburned weak run = 0x87 := by
  unfold State.endStatus
  split
  · exact .inr (.inr rfl)
  · split
    · exact .inr (.inl rfl)
    · exact .inl rfl

/-! ### The strict verify (R148, R165) -/

theorem Otp.logical_getLsbD (o : Otp) (n : Nat) :
    o.logical.getLsbD n =
      (o.fuse (3 * n) && o.fuse (3 * n + 1) || o.fuse (3 * n) && o.fuse (3 * n + 2) || o.fuse (3 * n + 1) && o.fuse (3 * n + 2)) := by
  have h0 : 3 * n % 3 = 0 ∧ 3 * n / 3 = n := by omega
  have h1 : (3 * n + 1) % 3 = 1 ∧ (3 * n + 1) / 3 = n := by omega
  have h2 : (3 * n + 2) % 3 = 2 ∧ (3 * n + 2) / 3 = n := by omega
  simp [Otp.logical, Otp.fuse, h0, h1, h2]

theorem Otp.content_testBit (o : Otp) (sec : OtpSection) (i : Nat) :
    (o.content sec).testBit i = (decide (i < (sectionMap sec).size) && o.logical.getLsbD ((sectionMap sec).base + i)) := by
  simp [Otp.content, Otp.bits, Nat.testBit_mod_two_pow, Nat.testBit_shiftRight, BitVec.testBit_toNat]

/-- Where nothing conflicts, each bit that reads 1 is wanted. -/
theorem testBit_of_not_conflicts {burned v i : Nat} (h : conflicts burned v = false) (hi : burned.testBit i = true) :
    v.testBit i = true := by
  have hb : burned &&& v = burned := by simpa [conflicts] using h
  rw [← hb, Nat.testBit_and] at hi
  exact (Bool.and_eq_true_iff.mp hi).2

/-- With nothing burned in the way of the staged content, the strict verify wants what was planned and what was burned before. -/
theorem Otp.intended_eq {o : Otp} {run : OtpRun}
    (hc : run.code = 2 → conflicts (o.content run.sel) (o.staging.toNat % 2 ^ (sectionMap run.sel).size) = false) (n : Nat) :
    o.intended run n = ((o.planned run).contains n || o.logical.getLsbD n) := by
  unfold Otp.intended
  dsimp only
  split
  next h =>
    obtain ⟨hcode, hlo, hhi⟩ := h
    obtain ⟨i, rfl⟩ := Nat.exists_eq_add_of_le hlo
    have hi : i < (sectionMap run.sel).size := by omega
    have hplanned : (sectionMap run.sel).base + i ∈ o.planned run ↔ o.staging.getLsbD i = true := by
      have hapart := sectionMap_digest_apart run.sel
      simp only [Otp.planned, hcode, List.mem_append, mem_onesFrom, Nat.add_sub_cancel_left, BitVec.testBit_toNat]
      constructor
      · rintro (⟨-, -, hbit⟩ | ⟨hlo, hhi, -⟩)
        · exact hbit
        · omega
      · exact fun hbit => .inl ⟨hlo, hhi, hbit⟩
    have hlogical (hb : o.logical.getLsbD ((sectionMap run.sel).base + i) = true) : o.staging.getLsbD i = true := by
      have := testBit_of_not_conflicts (i := i) (hc hcode) (by simp [Otp.content_testBit, hi, hb])
      simpa [Nat.testBit_mod_two_pow, hi, BitVec.testBit_toNat] using this
    rw [Nat.add_sub_cancel_left, Bool.eq_iff_iff, Bool.or_eq_true, List.contains_iff_mem, hplanned]
    exact ⟨.inl, fun h => h.elim id hlogical⟩
  next => rfl
/-- Of the three fuses of a bit at most one disagrees with it (R148). -/
theorem Otp.logical_disagreeing (o : Otp) (n : Nat) :
    ([3 * n, 3 * n + 1, 3 * n + 2].filter (fun f => !(o.fuse f == o.logical.getLsbD n))).length ≤ 1 := by
  rw [Otp.logical_getLsbD]
  cases h0 : o.fuse (3 * n) <;> cases h1 : o.fuse (3 * n + 1) <;> cases h2 : o.fuse (3 * n + 2) <;> simp [h0, h1, h2]

theorem verifiedBits_lt {run : OtpRun} {n : Nat} (h : n ∈ verifiedBits run) : n < 4096 := by
  obtain ⟨-, -, -, -, -, hregion⟩ := sectionMap_bounds run.sel
  simp only [verifiedBits, List.mem_map, List.mem_range] at h
  omega

/-- With every pulse effective, every margin met, no fuse in doubt and nothing burned in the way, the strict verify passes. -/
theorem Otp.verifyFails_eq_false {o : Otp} {run : OtpRun}
    (hc : run.code = 2 → conflicts (o.content run.sel) (o.staging.toNat % 2 ^ (sectionMap run.sel).size) = false)
    (hu : o.unstable = []) : o.verifyFails (o.burnAll (o.toBurn (o.planned run))) run [] = false := by
  refine List.any_eq_false.mpr fun n hn => ?_
  have hlt := verifiedBits_lt hn
  have hpass (want : Bool) (f : Nat) :
      (o.burnAll (o.toBurn (o.planned run))).passes [] want f = ((o.burnAll (o.toBurn (o.planned run))).fuse f == want) := by
    simp [Otp.passes, Otp.burnAll_unstable, hu]
  unfold Otp.bitFails
  simp only [hpass, Otp.intended_eq hc, decide_eq_true_eq, not_le]
  rw [← List.countP_eq_length_filter, Nat.lt_succ_iff]
  refine Nat.le_trans (List.countP_mono_left fun f hf hfails => ?_) (List.countP_eq_length_filter.trans_le (o.logical_disagreeing n))
  obtain rfl := mem_fuses.mp hf
  by_cases hp : f / 3 ∈ o.planned run
  · simp [hp, Otp.fuse_burnAll_toBurn hp hlt] at hfails
  · have hother : f ∉ o.toBurn (o.planned run) := fun h => hp (Otp.mem_toBurn.mp h).1
    simpa [hp, Otp.fuse_burnAll_other hother] using (Bool.and_eq_true_iff.mp hfails).2

/-- A bit with two fuses below their margin fails the strict verify. -/
theorem Otp.verifyFails_of_weak {o b : Otp} {run : OtpRun} {weak : List Nat} {n : Nat} (hn : n ∈ verifiedBits run)
    (h : 2 ≤ ([3 * n, 3 * n + 1, 3 * n + 2].filter (fun f => o.verifies run f && weak.contains f)).length) :
    o.verifyFails b run weak = true := by
  refine List.any_eq_true.mpr ⟨n, hn, decide_eq_true ?_⟩
  rw [← List.countP_eq_length_filter] at h ⊢
  refine Nat.le_trans h (List.countP_mono_left fun f _ hf => ?_)
  obtain ⟨hv, hw⟩ := Bool.and_eq_true_iff.mp hf
  simp [Otp.passes, hv, List.contains_iff_mem.mp hw]

/-! ### How a command ends -/

theorem State.endStatus_effective (weak : List Nat) (run : OtpRun) (s : State) :
    s.endStatus [] weak run = if s.endsBad [] weak run then 0x84 else 3 := by
  simp [State.endStatus, State.burned_effective]

/-- With every pulse effective, what is planned reads burned. -/
theorem State.endArray_planned {weak : List Nat} {run : OtpRun} {s : State} {f : Nat} (hf : f / 3 ∈ s.otp.planned run)
    (hlt : f / 3 < 4096) : (s.endArray [] weak run).fuse f = true := by
  refine State.endArray_burned ?_
  rw [State.burned_effective]
  exact Otp.fuse_burnAll_toBurn hf hlt

/-- The damage marker of a `FINALISE` that fails its strict verify reads burned (R165). -/
theorem State.endArray_marker {unburned weak : List Nat} {run : OtpRun} {s : State} (h : s.endsMarked unburned weak run = true) {f : Nat}
    (hf : f / 3 ∈ markerBits run.sel) : (s.endArray unburned weak run).fuse f = true := by
  have hbounds := sectionMap_bounds run.sel
  have hlt : f / 3 < 4096 := by
    have hm := mem_onesFrom.mp hf
    omega
  simpa [State.endArray, h] using Otp.fuse_burnAll_toBurn (o := (s.burned unburned run).1) hf hlt

/-- The domains that the configuration wants no more change the log's counts of breaks alone. -/
theorem State.applyDomains_ledger (s : State) : s.applyDomains.ledger = { s.ledger with breaks := s.applyDomains.ledger.breaks } := by
  simp [State.applyDomains, State.refreshDrivers]

theorem State.applyDomains_power_command (s : State) : s.applyDomains.power.domainCommand = s.domainsWanted := by
  simp [State.applyDomains]

section Completion

variable {unburned weak : List Nat} {run : OtpRun} {s : State} (hrun : s.otp.running = some run) (hgate : s.power.gateClosed = false)
include hrun hgate

theorem State.otpComplete_otp : (s.otpComplete unburned weak).otp = s.endOtp unburned weak run := by
  rw [State.otpComplete_ends hrun hgate]
  dsimp only
  split <;> simp

theorem State.otpComplete_fuse (f : Nat) : (s.otpComplete unburned weak).otp.fuse f = (s.endArray unburned weak run).fuse f := by
  rw [State.otpComplete_otp hrun hgate]
  rfl

theorem State.otpComplete_status : (s.otpComplete unburned weak).otp.opStatus = s.endStatus unburned weak run := by
  rw [State.otpComplete_otp hrun hgate]
  rfl

theorem State.otpComplete_progress (h : s.endsMarked unburned weak run = false) :
    (s.otpComplete unburned weak).otp.progress = (s.burned unburned run).2.1 % 2 ^ 16 := by
  rw [State.otpComplete_otp hrun hgate]
  simp [State.endOtp, State.markerCount, h]

theorem State.otpComplete_fusesKept : s.fusesKept (s.otpComplete unburned weak) := by
  obtain ⟨fs, hfs, -⟩ := s.endArray_array unburned weak run
  have h := Otp.BurnedIn.burnAll (o := s.otp) (a := s.otp) (fun f hf hs => ⟨hf, hs⟩) fs
  rw [← hfs] at h
  rw [State.fusesKept, State.otpComplete_otp hrun hgate]
  exact h

/-- Fuses of other bits are as before, unless the damage marker was burned. -/
theorem State.otpComplete_other (h : s.endsMarked unburned weak run = false) {f : Nat} (hf : f / 3 ∉ s.otp.planned run) :
    (s.otpComplete unburned weak).otp.fuse f = s.otp.fuse f := by
  obtain ⟨fs, hfs, hmem⟩ := s.endArray_array unburned weak run
  rw [State.otpComplete_fuse hrun hgate, hfs]
  refine Otp.fuse_burnAll_other fun hf' => (hmem f hf').elim hf fun hm => ?_
  simp [h] at hm

theorem State.otpComplete_keeps :
    State.keeps [.otp, .power, .field, .analog, .rt, .store, .ledger, .mirror, .le, .modbus] s (s.otpComplete unburned weak) := by
  rw [State.otpComplete_ends hrun hgate]
  intro p hp
  dsimp only
  cases p <;> simp at hp <;> split <;> simp [State.agrees]

/-- A failed `FINALISE` records event 0x0C08 (R165). -/
theorem State.otpComplete_logs (h : s.endsMarked unburned weak run = true) : State.logs 0x0C08 [] s (s.otpComplete unburned weak) := by
  rw [State.otpComplete_ends hrun hgate]
  dsimp only
  rw [if_pos h]
  have hlogs := State.event_logs 0x0C08 [] (State.applyDomains { s with otp := s.endOtp unburned weak run }) (Nat.zero_le _)
  rw [State.logs, State.logsAt, State.applyDomains_ledger] at hlogs
  simpa [State.logs, State.logsAt, State.now] using hlogs

/-- Another command records nothing. -/
theorem State.otpComplete_silent (h : s.endsMarked unburned weak run = false) :
    (s.otpComplete unburned weak).store = s.store ∧ (s.otpComplete unburned weak).ledger.ring = s.ledger.ring ∧
      (s.otpComplete unburned weak).ledger.early = s.ledger.early := by
  rw [State.otpComplete_ends hrun hgate]
  dsimp only
  rw [h, if_neg Bool.false_ne_true, State.applyDomains_ledger]
  simp

end Completion

/-- Settles O44: the fuses that a command burns are those of its plan, with those of the damage marker where a `FINALISE` fails its
strict verify; the status is read off the stop and the verify. -/
theorem otpCommandsBurnWhatIsPlanned : Obligations.OtpCommandsBurnWhatIsPlanned := by
  unfold Obligations.OtpCommandsBurnWhatIsPlanned
  refine ⟨fun dt unburned weak s h => ?_, fun dt unburned weak run s hrun hgate => ?_⟩
  · exact congrArg Host.Outcome.next (State.otpComplete_idle (s := s.elapse dt) h)
  intro u fuses
  have hrun : u.otp.running = some run := hrun
  have hgate : u.power.gateClosed = false := hgate
  have hmarked {unburned weak : List Nat} (h : (u.otpComplete unburned weak).otp.opStatus ≠ 0x84 ∨ run.code ≠ 2) :
      u.endsMarked unburned weak run = false := by
    rw [State.otpComplete_status hrun hgate] at h
    rw [← Bool.not_eq_true, State.endsMarked_iff]
    exact not_and_or.mpr h
  refine ⟨u.otpComplete unburned weak, rfl, ?_, State.otpComplete_fusesKept hrun hgate, ?_, ?_, ?_, ?_, ?_, ?_,
    State.otpComplete_keeps hrun hgate⟩
  · rw [State.otpComplete_otp hrun hgate]
    rfl
  · rw [State.otpComplete_status hrun hgate]
    exact u.endStatus_cases unburned weak run
  · rintro rfl
    refine ⟨?_, fun n hn hlt => ?_, fun h3 => ?_⟩
    · rw [State.otpComplete_status hrun hgate, State.endStatus_effective]
      split <;> decide
    · have hburned (f : Nat) (hf : f ∈ fuses n) : (u.otpComplete [] weak).otp.fuse f = true := by
        obtain rfl := mem_fuses.mp hf
        rw [State.otpComplete_fuse hrun hgate]
        exact State.endArray_planned hn hlt
      exact ⟨hburned _ (by simp [fuses]), hburned _ (by simp [fuses]), hburned _ (by simp [fuses])⟩
    · rw [State.otpComplete_progress hrun hgate (hmarked (.inl (by rw [h3]; decide))), State.burned_effective]
      rfl
  · intro h n hn f hf
    exact State.otpComplete_other hrun hgate (hmarked h) (by rwa [mem_fuses.mp hf])
  · rintro rfl rfl hu hc
    have hok : u.endsBad [] [] run = false := by
      rw [State.endsBad, State.burned_effective]
      exact Otp.verifyFails_eq_false hc hu
    rw [State.otpComplete_status hrun hgate, State.endStatus_effective, hok]
    rfl
  · rintro rfl ⟨n, hn, hweak⟩
    have hbad : u.endsBad [] weak run = true := Otp.verifyFails_of_weak hn hweak
    have hstatus : u.endStatus [] weak run = 0x84 := by rw [State.endStatus_effective, if_pos hbad]
    refine ⟨by rw [State.otpComplete_status hrun hgate, hstatus], fun hcode => ?_, fun hcode => ?_⟩
    · have hm : u.endsMarked [] weak run = true := State.endsMarked_iff.mpr ⟨hstatus, hcode⟩
      refine ⟨State.otpComplete_logs hrun hgate hm, fun n hn => ?_⟩
      have hburned (f : Nat) (hf : f / 3 = n) : (u.otpComplete [] weak).otp.fuse f = true := by
        rw [State.otpComplete_fuse hrun hgate]
        exact State.endArray_marker hm (hf ▸ hn)
      rw [Otp.logical_getLsbD, hburned _ (by omega), hburned _ (by omega), hburned _ (by omega)]
      rfl
    · exact State.otpComplete_silent hrun hgate (hmarked (.inr hcode))
  · intro n hn _ h
    rw [State.otpComplete_status hrun hgate]
    exact if_pos (burnBits_stops (u.otp.planned_nodup run) hn u.otp 0 h)


end Sys2Proof.Machine

namespace Sys2Proof.Machine

/-! ### OTP writes, the service port and the dictionary -/

@[simp] theorem State.selectSection_cells (code : Nat) (s : State) : State.Cells s (s.selectSection code) (fuses := Partly) := by
  simp +contextual [State.selectSection]

@[simp] theorem State.stageWord_cells (value : Nat) (s : State) : State.Cells s (s.stageWord value) := by
  simp [State.stageWord]

@[simp] theorem State.otpRefuse_cells (a : Access) (code status : Nat) (s : State) : State.Cells s (s.otpRefuse a code status) := by
  simp [State.otpRefuse]

@[simp] theorem State.otpStaging_cells (a : Access) (s : State) : State.Cells s (s.otpStaging a) (fuses := Partly) := by
  simp +contextual [State.otpStaging, State.stagingWrite]

@[simp] theorem State.startRun_cells (run : OtpRun) (s : State) : State.Cells s (s.startRun run) := by
  simp [State.startRun]

@[simp] theorem State.startOtp_cells (cmd : Nat) (s : State) : State.Cells s (s.startOtp cmd) (fuses := Partly) := by
  unfold State.startOtp
  dsimp only
  (repeat' split) <;> simp +contextual

@[simp] theorem State.otpCommand_cells (a : Access) (s : State) : State.Cells s (s.otpCommand a) (fuses := Partly) := by
  unfold State.otpCommand
  split <;> simp +contextual

theorem State.otpComplete_sound (unburned weak : List Nat) (s : State) : s.Sound (s.otpComplete unburned weak) := by
  by_cases hidle : s.otp.running = none ∨ s.power.gateClosed = true
  · rw [State.otpComplete_idle hidle]
    exact .refl s
  obtain ⟨hrun, hgate⟩ := not_or.mp hidle
  obtain ⟨run, hrun⟩ := Option.ne_none_iff_exists'.mp hrun
  obtain ⟨fs, hfs, -⟩ := s.endArray_array unburned weak run
  rw [State.otpComplete_ends hrun (by simpa using hgate)]
  have hotp : s.Sound { s with otp := s.endOtp unburned weak run } := by
    refine ⟨id, id, id, id, id, fun o h => ?_, rfl⟩
    have h := h.burnAll fs
    rwa [← hfs] at h
  exact hotp.trans (.ite (fun _ => by simp [State.Sound]) fun _ => by simp [State.Sound])

@[simp] theorem State.debugWrite_cells (a : Access) (i : Option LogicInstr) (s : State) : State.Cells s (s.debugWrite a i) := by
  unfold State.debugWrite
  split <;> simp

@[simp] theorem State.simWrite_cells (a : Access) (s : State) : State.Cells s (s.simWrite a) := by
  simp [State.simWrite]

@[simp] theorem State.simOutputsWrite_cells (a : Access) (s : State) : State.Cells s (s.simOutputsWrite a) := by
  simp [State.simOutputsWrite]

@[simp] theorem State.bistWrite_cells (a : Access) (s : State) : State.Cells s (s.bistWrite a) := by
  simp [State.bistWrite]

@[simp] theorem State.enterSplit_cells (s : State) : State.Cells s s.enterSplit := by
  simp [State.enterSplit]

@[simp] theorem State.resumeHalt_cells (s : State) : State.Cells s s.resumeHalt := by
  simp [State.resumeHalt]

@[simp] theorem State.stepHalt_cells (i : Option LogicInstr) (s : State) : State.Cells s (s.stepHalt i) (ram := Partly) := by
  have ht : ∀ s t u, State.Cells s t (ram := Partly) → State.Cells t u (ram := Partly) → State.Cells s u (ram := Partly) := by grind
  have hp (i : LogicInstr) (s : State) : State.Cells s (thenPass (State.plainInstr (!s.passes.split) i s)
      (fun t => if t.passes.split then (t, none) else t.shadowInstr i)).1 (ram := Partly) :=
    thenPass_frame ht (by simp +contextual) _ (fun t => by split <;> simp +contextual)
  unfold State.stepHalt
  split
  · simp +contextual
  · dsimp only
    split
    · simp +contextual
    · rename_i i
      have h := hp i { s.drawFree.2 with service.haltedAt := some (s.drawFree.1.toNat % 2 ^ 32) }
      split <;> rename_i heq <;> rw [heq] at h
      · simpa using h
      · exact ht _ _ _ (by simpa using h) (by simp +contextual)

@[simp] theorem State.setSim_cells (on : Bool) (s : State) : State.Cells s (s.setSim on) := by
  simp [State.setSim]

@[simp] theorem State.startServiceBist_cells (s : State) : State.Cells s s.startServiceBist := by
  simp [State.startServiceBist]

@[simp] theorem State.takeDebug_cells (p : DebugPending) (s : State) : State.Cells s (s.takeDebug p) (ram := Partly) := by
  unfold State.takeDebug
  split <;> simp +contextual

@[simp] theorem State.debugBoundary_cells (s : State) : State.Cells s s.debugBoundary (ram := Partly) := by
  simp +contextual [State.debugBoundary]

@[simp] theorem State.leaveService_cells (s : State) : State.Cells s s.leaveService := by
  simp [State.leaveService]

@[simp] theorem State.reachHalt_cells (s : State) : State.Cells s s.reachHalt := by
  simp [State.reachHalt]

@[simp] theorem State.bistResults_cells (raw : List (BitVec 64)) (late place : Nat) (s : State) :
    State.Cells s (s.bistResults raw late place) (ram := Partly) := by
  simp +contextual [State.bistResults]

@[simp] theorem State.bistDone_cells (raw : List (BitVec 64)) (late place : Nat) (s : State) :
    State.Cells s (s.bistDone raw late place) (ram := Partly) := by
  unfold State.bistDone
  split <;> simp +contextual

@[simp] theorem State.toolDetect_cells (low : Bool) (s : State) : State.Cells s (s.toolDetect low) := by
  simp [State.toolDetect]

@[simp] theorem State.debugAccess_cells (kind : AccessKind) (addr n : Nat) (data : List Byte) (s : State) :
    State.Cells s (s.debugAccess kind addr n data) (ram := Partly) := by
  unfold State.debugAccess
  dsimp only
  (repeat' split) <;> simp +contextual

@[simp] theorem State.loaderErase_cells (bank : Nat) (s : State) : State.Cells s (s.loaderErase bank) (flash := Partly) := by
  simp +contextual [State.loaderErase]

@[simp] theorem State.loaderWrite_cells (bank off : Nat) (data : List Byte) (s : State) :
    State.Cells s (s.loaderWrite bank off data) (flash := Partly) := by
  unfold State.loaderWrite
  dsimp only
  (repeat' split) <;> simp +contextual

@[simp] theorem State.sendPlain_cells (ch : CanChannel) (requester service reqSeq : Nat) (s : State) :
    State.Cells s (s.sendPlain ch requester service reqSeq) := by
  unfold State.sendPlain
  split <;> simp

@[simp] theorem State.sendZops_cells (ch : CanChannel) (requester service : Nat) (s : State) :
    State.Cells s (s.sendZops ch requester service) := by
  unfold State.sendZops
  split <;> simp

@[simp] theorem State.sequencedWrite_cells (a : Access) (via : Option CanChannel) (reqSeq : Nat) (s : State) :
    State.Cells s (s.sequencedWrite a via reqSeq) := by
  unfold State.sequencedWrite
  split <;> simp

@[simp] theorem State.syncWrite_cells (a : Access) (s : State) : State.Cells s (s.syncWrite a) := by
  simp [State.syncWrite]

@[simp] theorem State.refuseAs_cells (a : Access) (code detail : Nat) (s : State) : State.Cells s (s.refuseAs a code detail) := by
  simp [State.refuseAs]

@[simp] theorem State.prepareWrite_cells (r : Req) (index sub type value : Nat) (s : State) :
    State.Cells s (s.prepareWrite r index sub type value) := by
  simp only [State.prepareWrite, State.judgeAll]
  (repeat' split) <;> simp

@[simp] theorem State.rejectConfirm_cells (c : ConfirmRequest) (slot : Option PendingSlot) (code : Nat) (s : State) :
    State.Cells s (s.rejectConfirm c slot code) := by
  unfold State.rejectConfirm
  split <;> simp

@[simp] theorem State.failConfirm_cells (c : ConfirmRequest) (slot : Option PendingSlot) (code : Nat) (s : State) :
    State.Cells s (s.failConfirm c slot code) := by
  simp [State.failConfirm]

@[simp] theorem State.acceptConfirm_cells (c : ConfirmRequest) (via : Option CanChannel) (p : PendingSlot) (s : State) :
    State.Cells s (s.acceptConfirm c via p) := by
  simp only [State.acceptConfirm, State.judgeAll]
  (repeat' split) <;> simp

@[simp] theorem State.confirmWrite_cells (c : ConfirmRequest) (via : Option CanChannel) (s : State) :
    State.Cells s (s.confirmWrite c via) := by
  unfold State.confirmWrite
  (repeat' split) <;> simp

@[simp] theorem State.setObject_cells (index sub : Nat) (o : Obj) (value : Nat) (s : State) :
    State.Cells s (s.setObject index sub o value) := by
  simp [State.setObject]

@[simp] theorem State.restoreDefaults_cells (s : State) : State.Cells s s.restoreDefaults := by
  simp [State.restoreDefaults]

theorem State.ownerTakes_sound (q : QueuedWrite) (s : State) : s.Sound (s.ownerTakes q) := by
  unfold State.ownerTakes
  dsimp only
  iterate 18 refine iteInduction (motive := s.Sound) (fun _ => by simp +contextual [State.Sound]) (fun _ => ?_)
  split <;> simp [State.Sound]

@[simp] theorem State.answerQueued_cells (q : QueuedWrite) (s : State) : State.Cells s (s.answerQueued q) := by
  unfold State.answerQueued
  (repeat' split) <;> simp

@[simp] theorem State.answerRequest_cells (q : QueuedWrite) (code detail : Nat) (s : State) :
    State.Cells s (s.answerRequest q code detail) := by
  simp [State.answerRequest]

@[simp] theorem State.discardRequest_cells (s : State) (q : QueuedWrite) : State.Cells s (State.discardRequest s q) := by
  simp [State.discardRequest]

@[simp] theorem State.applyCopy_cells (q : QueuedWrite) (s : State) : State.Cells s (s.applyCopy q) := by
  unfold State.applyCopy
  split <;> simp

theorem State.applyWrite_sound (changed : Bool) (s : State) (q : QueuedWrite) : s.Sound (State.applyWrite changed s q) := by
  unfold State.applyWrite
  refine .ite (fun _ => by simp [State.Sound]) fun _ => ?_
  extract_lets verdict dict cleared taken answered
  have htaken : s.Sound taken := by
    refine .trans (t := cleared) (by simp [State.Sound, cleared]) (.ite (fun _ => cleared.ownerTakes_sound q) fun _ => ?_)
    simp [State.Sound]
  have hanswered : taken.Sound answered := .ite (fun _ => by simp [State.Sound]) fun _ => .refl taken
  exact htaken.trans (hanswered.trans (by simp [State.Sound]))

theorem State.applyInOrder_sound (changed : Bool) (l : List QueuedWrite) (s : State) : s.Sound (State.applyInOrder changed l s) := by
  induction l generalizing s with
  | nil => exact .refl s
  | cons q l ih =>
    have hq : s.Sound (if q.isDirRequest && l.any QueuedWrite.isDirRequest then s.discardRequest q else s.applyWrite changed q) :=
      .ite (fun _ => by simp [State.Sound]) fun _ => s.applyWrite_sound changed q
    exact hq.trans (ih _)

theorem State.applyWrites_sound (changed : Bool) (s : State) : s.Sound (s.applyWrites changed) := by
  unfold State.applyWrites
  extract_lets qs old line was dict applied configured modbus discarded dict' crc
  have happlied : s.Sound applied :=
    .trans (t := { s with dict := { dict with queued := dict.queued.filter s.copyWaits } }) (by simp [State.Sound])
      (State.applyInOrder_sound changed qs _)
  refine .ite (fun _ => happlied) fun _ => ?_
  have hconfigured : s.Sound configured := happlied.trans (by simp [State.Sound, configured])
  have hdiscarded : s.Sound discarded :=
    hconfigured.trans (.ite (fun _ => .refl configured) fun _ => by simp [State.Sound])
  exact hdiscarded.trans (.ite (fun _ => .refl discarded) fun _ => by simp [State.Sound])

@[simp] theorem State.serviceDict_cells (service index sub type : Nat) (value : List Byte) (s : State) :
    State.Cells s (s.serviceDict service index sub type value) := by
  unfold State.serviceDict
  split <;> simp

@[simp] theorem State.confirmedRequest_cells (r : Req) (via : Option CanChannel) (service index sub type value token code : Nat) (s :
    State) :
    State.Cells s (s.confirmedRequest r via service index sub type value token code) := by
  unfold State.confirmedRequest
  split <;> simp

@[simp] theorem State.serviceConfirmed_cells (seq service index sub type value token code : Nat) (s : State) :
    State.Cells s (s.serviceConfirmed seq service index sub type value token code) := by
  unfold State.serviceConfirmed
  split <;> simp [State.request]


end Sys2Proof.Machine

namespace Sys2Proof.Machine

/-! ### Frames, the boundary and the hand-over -/

@[simp] theorem State.modbusRead_cells (fc start quantity : Nat) (s : State) : State.Cells s (s.modbusRead fc start quantity) := by
  simp [State.modbusRead]

@[simp] theorem State.modbusPop_cells (tag start quantity : Nat) (s : State) : State.Cells s (s.modbusPop tag start quantity) := by
  simp [State.modbusPop]

@[simp] theorem State.postRequest_cells (h : DictHead) (value : List Byte) (s : State) : State.Cells s (s.postRequest h value) := by
  simp [State.postRequest]

@[simp] theorem State.postFrame_cells (ch : CanChannel) (id : Nat) (d : List Byte) (s : State) : State.Cells s (s.postFrame ch id d) := by
  simp [State.postFrame]

@[simp] theorem State.segmentIn_cells (ch : CanChannel) (node reqSeq offset : Nat) (data : List Byte) (last : Bool) (s : State) :
    State.Cells s (s.segmentIn ch node reqSeq offset data last) := by
  unfold State.segmentIn
  split <;> simp

@[simp] theorem State.plainFirst_cells (ch : CanChannel) (node : Nat) (d : List Byte) (s : State) :
    State.Cells s (s.plainFirst ch node d) := by
  simp [State.plainFirst]

@[simp] theorem State.plainConfirmed_cells (ch : CanChannel) (node : Nat) (d : List Byte) (s : State) :
    State.Cells s (s.plainConfirmed ch node d) := by
  simp [State.plainConfirmed]

@[simp] theorem State.plainFrame_cells (ch : CanChannel) (node : Nat) (d : List Byte) (s : State) :
    State.Cells s (s.plainFrame ch node d) := by
  simp [State.plainFrame]

@[simp] theorem State.dispatchFrame_cells (ch : CanChannel) (id : Nat) (d : List Byte) (s : State) :
    State.Cells s (s.dispatchFrame ch id d) := by
  simp [State.dispatchFrame, State.postOnce]

@[simp] theorem State.receiveFrame_cells (ch : CanChannel) (id : Nat) (d : List Byte) (fd ide esi : Bool) (s : State) :
    State.Cells s (s.receiveFrame ch id d fd ide esi) := by
  simp [State.receiveFrame]

@[simp] theorem State.plainRequest_cells (h : DictHead) (value : List Byte) (s : State) : State.Cells s (s.plainRequest h value) := by
  unfold State.plainRequest
  split <;> simp [State.request]

@[simp] theorem State.zopsRequest_cells (ch : CanChannel) (node : Nat) (d : List Byte) (s : State) :
    State.Cells s (s.zopsRequest ch node d) := by
  unfold State.zopsRequest
  dsimp only
  (repeat' split) <;> simp [State.request]

@[simp] theorem State.readFrame_cells (d : List Byte) (s : State) : State.Cells s (s.readFrame d) := by
  simp [State.readFrame]

@[simp] theorem State.readPart_cells (d : List Byte) (s : State) : State.Cells s (s.readPart d) := by
  simp [State.readPart]

@[simp] theorem State.readBuffer_cells (n : Nat) (s : State) : State.Cells s (s.readBuffer n) := by
  unfold State.readBuffer
  split <;> simp

@[simp] theorem State.popRead_cells (s : State) : State.Cells s s.popRead := by
  unfold State.popRead
  split <;> simp

@[simp] theorem State.popBuffers_cells (k : Nat) (a : Allotment) (s : State) : State.Cells s (State.popBuffers k a s) := by
  induction k generalizing a s with
  | zero => simp [State.popBuffers]
  | succ k ih =>
    unfold State.popBuffers
    (repeat' split) <;> simp [ih]

@[simp] theorem State.popInbound_cells (s : State) : State.Cells s s.popInbound := by
  simp [State.popInbound]

@[simp] theorem State.pop_cells (port : Owner) (s : State) : State.Cells s (s.pop port) := by
  unfold State.pop
  split <;> simp

@[simp] theorem State.leaveState_cells (s : State) : State.Cells s s.leaveState := by
  unfold State.leaveState
  split <;> simp

@[simp] theorem State.startPasses_cells (s : State) : State.Cells s s.startPasses (ram := Partly) (tags := Partly) := by
  unfold State.startPasses
  extract_lets rt passes field service started zeroed
  have hz : State.Cells s zeroed (ram := Partly) := by simp +contextual [zeroed, started]
  have ht (t : State) (h : State.Cells zeroed t (ram := Partly) (tags := Partly)) :
      State.Cells s t (ram := Partly) (tags := Partly) := by grind
  split
  · exact ht _ (by simp +contextual)
  · refine ht _ ⟨id, rfl, fun h => h.filter _, rfl, rfl, ⟨rfl, rfl, rfl, rfl⟩, rfl⟩

@[simp] theorem State.beginRun_cells (s : State) : State.Cells s s.beginRun (ram := Partly) (tags := Partly) := by
  simp +contextual [State.beginRun]

@[simp] theorem State.enterState_cells (st : RunState) (s : State) :
    State.Cells s (s.enterState st) (ram := Partly) (tags := Partly) := by
  unfold State.enterState
  split <;> simp +contextual

@[simp] theorem State.recordFaults_cells (c : Option Nat) (l : List Detected) (s : State) : State.Cells s (State.recordFaults c l s) := by
  induction l generalizing c s with
  | nil => simp [State.recordFaults]
  | cons d l ih => simp [State.recordFaults, ih]

@[simp] theorem Otp.reread_banks (sec : OtpSection) (o : Otp) :
    (o.reread sec).bank0 = o.bank0 ∧ (o.reread sec).bank1 = o.bank1 ∧ (o.reread sec).bank2 = o.bank2 ∧
      (o.reread sec).unstable = o.unstable := ⟨rfl, rfl, rfl, rfl⟩

@[simp] theorem State.lockoutCommand_cells (s : State) : State.Cells s s.lockoutCommand (fuses := Partly) := by
  unfold State.lockoutCommand
  split <;> simp +contextual

@[simp] theorem State.enterByFault_cells (st : RunState) (cause : Nat) (s : State) :
    State.Cells s (s.enterByFault st cause) (ram := Partly) (tags := Partly) (fuses := Partly) := by
  simp +contextual [State.enterByFault]

@[simp] theorem State.evaluateFaults_cells (l : List Detected) (s : State) :
    State.Cells s (s.evaluateFaults l) (ram := Partly) (tags := Partly) (fuses := Partly) := by
  unfold State.evaluateFaults
  split <;> simp +contextual

@[simp] theorem State.noteCommand_cells (s : State) : State.Cells s s.noteCommand := by
  simp [State.noteCommand]

@[simp] theorem State.judgeRun_cells (s : State) : State.Cells s s.judgeRun.1 := by
  unfold State.judgeRun
  dsimp only
  (repeat' split) <;> simp

@[simp] theorem State.judgeHold_cells (s : State) : State.Cells s s.judgeHold.1 (ram := Partly) (tags := Partly) := by
  unfold State.judgeHold
  (repeat' split) <;> simp +contextual

@[simp] theorem State.judgeAck_cells (s : State) : State.Cells s s.judgeAck.1 (ram := Partly) (tags := Partly) := by
  unfold State.judgeAck
  split <;> simp +contextual

@[simp] theorem State.judgeSafeStopAck_cells (s : State) : State.Cells s s.judgeSafeStopAck.1 (ram := Partly) (tags := Partly) := by
  unfold State.judgeSafeStopAck
  split <;> simp +contextual

@[simp] theorem State.judgeRequest_cells (q : QueuedWrite) (s : State) :
    State.Cells s (s.judgeRequest q).1 (ram := Partly) (tags := Partly) := by
  unfold State.judgeRequest
  (repeat' split) <;> simp +contextual

@[simp] theorem State.outrankRequest_cells (s : State) (q : QueuedWrite) : State.Cells s (State.outrankRequest s q) := by
  unfold State.outrankRequest
  split <;> simp

@[simp] theorem State.evaluateRequests_cells (qs : List QueuedWrite) (faulted : Bool) (s : State) :
    State.Cells s (s.evaluateRequests qs faulted) (ram := Partly) (tags := Partly) := by
  unfold State.evaluateRequests
  split <;> simp +contextual

@[simp] theorem State.followPairStop_cells (s : State) : State.Cells s s.followPairStop (ram := Partly) (tags := Partly) := by
  unfold State.followPairStop
  (repeat' split) <;> simp +contextual

@[simp] theorem State.automaticStart_cells (s : State) : State.Cells s s.automaticStart := by
  simp [State.automaticStart]

@[simp] theorem State.finishEncoding_cells (s : State) : State.Cells s s.finishEncoding (ram := Partly) (tags := Partly) := by
  unfold State.finishEncoding
  (repeat' split) <;> simp +contextual

@[simp] theorem State.evaluatePasses_cells (s : State) : State.Cells s s.evaluatePasses (ram := Partly) := by
  simp +contextual [State.evaluatePasses]

@[simp] theorem State.bankFault_cells (old : Bank) (b : Nat) (s : State) : State.Cells s (s.bankFault old b) := by
  simp [State.bankFault]

@[simp] theorem State.freeze_cells (tk : Nat) (x : Sensors) (s : State) : State.Cells s (s.freeze tk x) := by
  simp [State.freeze]

@[simp] theorem State.newCycle_cells (x : Sensors) (s : State) : State.Cells s (s.newCycle x) := by
  simp [State.newCycle]

@[simp] theorem State.takeImage_cells (s : State) : State.Cells s s.takeImage := by
  simp [State.takeImage]

@[simp] theorem State.passedBoundary_cells (x : Sensors) (s : State) :
    State.Cells s (s.passedBoundary x) (ram := Partly) (tags := Partly) := by
  simp +contextual [State.passedBoundary]

theorem State.evaluateFaults_sound (l : List Detected) (s : State) : s.Sound (s.evaluateFaults l) := by
  simp +contextual [State.Sound]

theorem State.answerRequests_sound (faulted : Bool) (s : State) : s.Sound (s.answerRequests faulted) := by
  simp +contextual [State.Sound, State.answerRequests]

theorem State.moveOn_sound (faulted : Bool) (s : State) : s.Sound (s.moveOn faulted) := by
  refine .ite (fun _ => .refl s) fun _ => .trans (t := s.followPairStop) ?_ (.trans (t := s.followPairStop.automaticStart) ?_ ?_) <;>
    simp +contextual [State.Sound]

theorem State.takeWrites_sound (old : RunState) (s : State) : s.Sound (s.takeWrites old) :=
  (s.applyWrites_sound (s.rt.state != old)).trans (by simp +contextual [State.Sound, State.takeWrites])

theorem State.evaluateBoundary_sound (l : List Detected) (s : State) : s.Sound (s.evaluateBoundary l) := by
  rw [State.evaluateBoundary_eq]
  exact (s.evaluateFaults_sound l).trans (.ite (fun _ => .refl _) fun _ =>
    (State.answerRequests_sound _ _).trans ((State.moveOn_sound _ _).trans (State.takeWrites_sound _ _)))

@[simp] theorem State.boundaryWork_cells (old : RunState) (cause : Nat) (s : State) :
    State.Cells s (s.boundaryWork old cause) (ram := Partly) (tags := Partly) := by
  simp +contextual [State.boundaryWork]

@[simp] theorem State.alterOutputs_cells (r : PassResult) (s : State) : State.Cells s (s.alterOutputs r) := by
  simp [State.alterOutputs]

@[simp] theorem State.alterCoded_cells (r : PassResult) (s : State) : State.Cells s (s.alterCoded r) := by
  simp [State.alterCoded]

@[simp] theorem State.plainPass_cells (r : PassResult) (ended : Bool) (s : State) :
    State.Cells s (s.plainPass r ended).1 (ram := Partly) := by
  have ht : ∀ s t u, State.Cells s t (ram := Partly) → State.Cells t u (ram := Partly) → State.Cells s u (ram := Partly) := by
    grind
  unfold State.plainPass
  have hinstrs := runPass_frame (R := fun s t => State.Cells s t (ram := Partly)) (by simp) ht (State.plainInstr (!s.passes.split))
    (by simp +contextual) r.instrs s
  have hwrites := runPass_frame (R := fun s t => State.Cells s t (ram := Partly)) (by simp) ht (State.plainWrite (!s.passes.split))
    (by simp +contextual) r.plainWrites
  have h := thenPass_frame (R := fun s t => State.Cells s t (ram := Partly)) ht hinstrs _ hwrites
  dsimp only
  split <;> rename_i heq <;> rw [heq] at h
  · exact h
  · split <;> exact h

@[simp] theorem State.shadowPass_cells (r : PassResult) (ended : Bool) (s : State) :
    State.Cells s (s.shadowPass r ended).1 (ram := Partly) := by
  have ht : ∀ s t u, State.Cells s t (ram := Partly) → State.Cells t u (ram := Partly) → State.Cells s u (ram := Partly) := by
    grind
  unfold State.shadowPass
  split
  · simp +contextual
  · have hinstrs := runPass_frame (R := fun s t => State.Cells s t (ram := Partly)) (by simp) ht State.shadowInstr (by simp +contextual)
      r.instrs s
    have hwrites := runPass_frame (R := fun s t => State.Cells s t (ram := Partly)) (by simp) ht State.shadowWrite (by simp +contextual)
      r.shadowWrites
    have h := thenPass_frame (R := fun s t => State.Cells s t (ram := Partly)) ht hinstrs _ hwrites
    split <;> rename_i heq <;> rw [heq] at h
    · exact h
    · (repeat' split) <;> exact h

@[simp] theorem State.popAfter_cells (s : State) : State.Cells s s.popAfter := by
  simp [State.popAfter]

@[simp] theorem State.overrun_cells (s : State) : State.Cells s s.overrun := by
  simp [State.overrun]

@[simp] theorem State.handImages_cells (plain shadow : BitVec 32) (s : State) : State.Cells s (s.handImages plain shadow) := by
  simp [State.handImages]

@[simp] theorem State.completeCycle_cells (r : PassResult) (s : State) : State.Cells s (s.completeCycle r) := by
  have ht : ∀ t u, State.Cells s t → State.Cells t u → State.Cells s u := by
    grind
  unfold State.completeCycle
  extract_lets t u
  have h : State.Cells s u := by
    unfold u
    split <;> simp [t]
  split
  · exact h
  · split
    · exact ht u _ h (by simp)
    · split
      · exact ht u _ h (by simp)
      · exact ht u _ h (by simp)

@[simp] theorem State.handOver_cells (r : PassResult) (s : State) : State.Cells s (s.handOver r) (ram := Partly) := by
  have ht : ∀ s t u, State.Cells s t (ram := Partly) → State.Cells t u (ram := Partly) → State.Cells s u (ram := Partly) := by grind
  unfold State.handOver
  split
  · simp +contextual
  · extract_lets u ended
    have hu : State.Cells s u (ram := Partly) := by
      unfold u
      split <;> simp +contextual
    have h : State.Cells u (thenPass (u.plainPass r ended) (fun t => if t.passes.split then (t, none) else t.shadowPass r ended)).1
        (ram := Partly) :=
      thenPass_frame (R := fun s t => State.Cells s t (ram := Partly)) ht (by simp +contextual) _ fun t => by
        split <;> simp +contextual
    split
    next t e heq =>
      rw [heq] at h
      exact ht _ _ _ hu (ht _ _ _ h (by simp))
    next t heq =>
      rw [heq] at h
      split
      · exact ht _ _ _ hu (ht _ _ _ h (by simp))
      · exact ht _ _ _ hu (ht _ _ _ h (by simp +contextual))

@[simp] theorem State.readbackFault_cells (n : Nat) (s : State) : State.Cells s (s.readbackFault n) := by
  simp [State.readbackFault]


end Sys2Proof.Machine

namespace Sys2Proof.Machine

/-! ### Resets (R115 to R119, R140) -/

theorem State.loseVolatile_sound (warm : Bool) (s : State) : s.Sound (s.loseVolatile warm) := by
  refine ⟨fun h => ?_, id, fun _ => TagsWf.nil, id, id, fun _ => id, rfl⟩
  cases warm
  · exact RamWf.nil
  · exact h.filter _

theorem State.cutShort_sound (warm : Bool) (s : State) : s.Sound (s.cutShort warm) := by
  have hrecord : s.Sound (s.abandonRecord true) := by simp +contextual [State.Sound]
  have herase : s.Sound (s.abandonRecord true).abandonErase := hrecord.trans (by simp +contextual [State.Sound])
  have hburn : s.Sound ((s.abandonRecord true).abandonErase.abortBurn true) := herase.trans (by simp +contextual [State.Sound])
  exact (hburn.trans (State.loseVolatile_sound warm _)).trans ⟨id, id, id, id, id, fun _ => id, rfl⟩

theorem State.interruptedSave_sound (s : State) : s.Sound s.interruptedSave := by
  unfold State.interruptedSave
  (repeat' split) <;> simp [State.Sound]

theorem State.assertWarmReset_sound (source : Nat) (s : State) : s.Sound (s.assertWarmReset source) := by
  unfold State.assertWarmReset
  refine .ite (fun _ => .refl s) fun _ => .ite (fun _ => by simp [State.Sound]) fun _ => ?_
  extract_lets base power off keep src cut
  have hoff : s.Sound off := by
    refine .trans (t := s.countSeconds.recordDetected) (by simp [State.Sound]) (.trans (State.interruptedSave_sound _) ?_)
    simp [State.Sound, off, base]
  have hcut : s.Sound cut := hoff.trans (off.cutShort_sound true)
  have hfree : cut.Sound (if source = 0 then cut.drawFree else (0, cut)).2 := by
    split <;> simp [State.Sound]
  split
  next v free heq =>
    rw [heq] at hfree
    exact hcut.trans (hfree.trans (by simp [State.Sound]))

theorem State.resetSource_sound (source : Nat) (s : State) : s.Sound (s.resetSource source) := by
  have hpend (cause n : Nat) : s.Sound ((s.pendCause cause).assertWarmReset n) :=
    .trans (t := s.pendCause cause) (by unfold State.pendCause; split <;> simp [State.Sound]) (State.assertWarmReset_sound _ _)
  unfold State.resetSource
  split
  · exact hpend _ _
  · exact hpend _ _
  · exact hpend _ _
  · refine .ite (fun _ => s.assertWarmReset_sound 5) fun _ => ?_
    exact .trans (by simp [State.Sound]) (State.assertWarmReset_sound _ _)
  · exact s.assertWarmReset_sound 6
  · exact s.assertWarmReset_sound 7
  · exact .refl s

theorem State.pendCause_sound (cause : Nat) (s : State) : s.Sound (s.pendCause cause) := by
  simp [State.Sound, State.pendCause]

theorem State.clockFault_sound (cause : Nat) (s : State) : s.Sound (s.clockFault cause) :=
  (s.pendCause_sound cause).trans (State.assertWarmReset_sound 2 _)

theorem State.bootFailure_sound (source : Nat) (s : State) : s.Sound (s.bootFailure source) :=
  .trans (by simp [State.Sound]) (State.assertWarmReset_sound source _)

theorem State.powerFailShutdown_sound (s : State) : s.Sound s.powerFailShutdown := by
  have hoff : s.Sound s.outputsOff := by simp [State.Sound]
  have hcut := hoff.trans (s.outputsOff.cutShort_sound false)
  unfold State.powerFailShutdown
  exact hcut.trans (by simp [State.Sound])

/-! ### The commands that may reset the unit -/

theorem State.monitorWindow_sound (c : ClockCounts) (s : State) : s.Sound (s.monitorWindow c) := by
  unfold State.monitorWindow
  refine .ite (fun _ => ?_) fun _ => .refl s
  extract_lets ok noted
  have hnoted : s.Sound noted := by simp [State.Sound, noted]
  exact .ite (fun _ => hnoted) fun _ => hnoted.trans (noted.clockFault_sound 0x0201)

theorem State.lockLoss_sound (s : State) : s.Sound s.lockLoss :=
  .ite (fun _ => .trans (t := { s with clock.pllLock := false }) (by simp [State.Sound]) (State.clockFault_sound 0x0202 _)) fun _ => .refl s

theorem State.rideThroughEnd_sound (holdupMv : Nat) (s : State) : s.Sound (s.rideThroughEnd holdupMv) := by
  refine .ite (fun _ => ?_) fun _ => .refl s
  refine .trans (t := { s with power.holdupMv := holdupMv }) (by simp [State.Sound]) (.trans (State.powerFailShutdown_sound _) ?_)
  simp [State.Sound]

theorem State.railFault_sound (s : State) : s.Sound s.railFault :=
  .ite (fun _ => (s.pendCause_sound _).trans (State.assertWarmReset_sound 3 _)) fun _ => .refl s

theorem State.seal_sound (differs fails : Bool) (s : State) : s.Sound (s.seal differs fails) := by
  unfold State.seal
  refine .ite (fun _ => ?_) fun _ => .refl s
  extract_lets sets checked boot le
  have hchecked : s.Sound checked := .trans (t := sets) (by simp [State.Sound, sets]) (by simp [State.Sound, checked])
  exact hchecked.trans (.ite (fun _ => .trans (t := checked.event 0x0304 []) (by simp [State.Sound]) (State.bootFailure_sound 0 _))
    fun _ => by simp [State.Sound, le])

theorem State.watchdogExpires_sound (s : State) : s.Sound s.watchdogExpires :=
  .ite (fun _ => s.resetSource_sound 5) fun _ => .refl s

theorem State.leStall_sound (s : State) : s.Sound s.leStall := .ite (fun _ => s.resetSource_sound 4) fun _ => .refl s

theorem State.resetReq_sound (low : Bool) (s : State) : s.Sound (s.resetReq low) := by
  unfold State.resetReq
  refine .ite (fun _ => .trans (by simp [State.Sound]) (State.resetSource_sound 6 _)) fun _ => ?_
  refine .ite (fun _ => by simp [State.Sound]) fun _ => ?_
  split <;> simp [State.Sound]

theorem State.tagFirmware_sound (s : State) : s.Sound s.tagFirmware := by
  obtain ⟨hram, hflash, htags, harray, hrows, ⟨h0, h1, h2, hu⟩, hpending⟩ := s.tagFirmware_cells
  refine ⟨hram, fun h => ?_, htags, fun h => ?_, fun h => ?_, fun o h => ?_, hpending⟩
  · rwa [hflash]
  · rwa [harray]
  · rwa [hrows]
  · rwa [h0, h1, h2, hu]

/-- The image that the unit starts with, the tags of the firmware's memory and the masked buffers. -/
theorem State.selectAtRelease_tagFirmware_maskBuffers_sound (s : State) : s.Sound s.selectAtRelease.tagFirmware.maskBuffers := by
  have hselect : s.Sound s.selectAtRelease := by simp [State.Sound]
  have hmask (t : State) : t.Sound t.maskBuffers := by simp [State.Sound]
  exact hselect.trans (s.selectAtRelease.tagFirmware_sound.trans (hmask _))

theorem State.release_sound (s : State) : s.Sound s.release := by
  unfold State.release
  refine .ite (fun _ => ?_) fun _ => .refl s
  extract_lets causes logged lost rt clock boot retained otp le xch mirror released configured started entered told noted service early
    counted numbered selected modes ratios switched field applied
  have hreleased : s.Sound released := .trans (t := logged) (by simp [State.Sound, logged]) (by simp [State.Sound, released, otp, le])
  have hstarted : s.Sound started :=
    hreleased.trans (.trans (t := configured) (by simp [State.Sound, configured]) (by simp [State.Sound, started]))
  have hentered : s.Sound entered := hstarted.trans (by simp [State.Sound, entered])
  have hnoted : s.Sound noted := hentered.trans (.trans (t := told) (by simp [State.Sound, told]) (by simp [State.Sound, noted]))
  have hnumbered : s.Sound numbered :=
    hnoted.trans (.trans (t := early) (by simp [State.Sound, early]) (by simp [State.Sound, numbered, counted]))
  clear_value numbered
  have hselected : s.Sound selected := hnumbered.trans numbered.selectAtRelease_tagFirmware_maskBuffers_sound
  have hmode (t : State) (n : Nat) : t.Sound (t.applyMode n) := by simp [State.Sound]
  have hratio (t : State) (p : Nat) : t.Sound (t.applyRatio p) := by simp [State.Sound]
  have hratios : s.Sound ratios := hselected.trans (.trans (t := modes) (.foldl _ hmode _ _) (.foldl _ hratio _ _))
  have hbanks (t : State) : t.Sound t.applyDomains.setBanks := by simp [State.Sound]
  have hswitched : s.Sound switched := hratios.trans (hbanks ratios)
  have hfield (t : State) : t.Sound { t with field.applyState := true } := by simp [State.Sound]
  have happlied : s.Sound applied := hswitched.trans (hfield switched)
  have hsent (t : State) : t.Sound (if t.rt.state == .hold then t.announce else t).sendState := by
    split <;> simp [State.Sound]
  exact happlied.trans (hsent applied)

/-! ### The boundary -/

theorem State.judgedBoundary_sound (x : Sensors) (s : State) : s.Sound (s.judgedBoundary x) := by
  have hopen : s.Sound (s.popAtBoundary.openCycle x) := by simp +contextual [State.Sound, State.popAtBoundary, State.openCycle]
  have hjudged := hopen.trans ((s.popAtBoundary.openCycle x).evaluateBoundary_sound s.popAtBoundary.pendingFaults)
  have hwork (old : RunState) (cause : Nat) (t : State) : t.Sound (t.boundaryWork old cause) := by simp +contextual [State.Sound]
  have hlaunch (t : State) : t.Sound t.launchPasses := by simp [State.Sound, State.launchPasses]
  exact hjudged.trans ((hwork _ _ _).trans (hlaunch _))

theorem State.cycleBoundary_sound (x : Sensors) (s : State) : s.Sound (s.cycleBoundary x) := by
  refine .ite (fun _ => .refl s) fun _ => ?_
  have hstep : s.Sound s.stepAtBoundary := by simp [State.Sound]
  refine hstep.trans (.ite (fun _ => by simp +contextual [State.Sound]) fun _ => ?_)
  rw [State.fullBoundary_eq]
  exact (State.judgedBoundary_sound x _).trans (.ite (fun _ => State.resetSource_sound 7 _) fun _ => .refl _)

/-! ### Every command (R147, R214, R395) -/

theorem State.elapse_sound (dt : Nat) (s : State) : s.Sound (s.elapse dt) := by simp [State.Sound]

theorem State.request_sound (effect : State → State) (h : ∀ t : State, t.Sound (effect t)) (s : State) : s.Sound (s.request effect) :=
  .ite (fun _ => .trans (t := { s with dict.response := none }) (by simp [State.Sound]) (h _)) fun _ => .refl s

theorem State.modbusFrame_sound (serve : State → State) (h : ∀ t : State, t.Sound (serve t)) (s : State) : s.Sound (s.modbusFrame serve) :=
  .ite (fun _ => h s) fun _ => .refl s

theorem State.loaderCommand_sound (effect : State → State) (h : ∀ t : State, t.Sound (effect t)) (s : State) :
    s.Sound (s.loaderCommand effect) :=
  .ite (fun _ => .refl s) fun _ => .ite (fun _ => by simp [State.Sound]) fun _ =>
    .trans (t := { s.bootPower with service.status := 0, service.data := [] }) (by simp [State.Sound]) (h _)

theorem exec_sound (i : Instr) (s t : State) (h : exec i s = .next t) : s.Sound t := by
  cases i
  case cycleBoundary dt x =>
    obtain rfl := Host.Outcome.next.inj h
    exact (s.elapse_sound dt).trans (State.cycleBoundary_sound x _)
  all_goals
    obtain rfl := Host.Outcome.next.inj h
    clear h
    generalize hu : State.elapse _ s = u
    refine State.Sound.trans (hu ▸ s.elapse_sound _ : s.Sound u) ?_
    clear hu
  case clockMonitorWindow => exact u.monitorWindow_sound _
  case pllLockLoss => exact u.lockLoss_sound
  case rideThroughEnd => exact u.rideThroughEnd_sound _
  case railFault => exact u.railFault_sound
  case storeRecovery => exact .ite (fun _ => u.recoverStore_sound _) fun _ => .refl u
  case warmReset => exact .ite (fun _ => u.resetSource_sound _) fun _ => .refl u
  case mpuSeal => exact u.seal_sound _ _
  case release => exact u.release_sound
  case bootWatchdogExpiry => exact u.watchdogExpires_sound
  case resetReq => exact u.resetReq_sound _
  case leStall => exact u.leStall_sound
  case exchangeSwitch => exact u.exchangeSwitch_sound _
  case otpCommandComplete => exact u.otpComplete_sound _ _
  case storeRecordCommit => exact u.commitRecord_sound _
  case sectorEraseComplete => exact u.eraseComplete_sound _
  case read | prepare | confirm | write => exact u.request_sound _ fun t => by simp [State.Sound]
  case serviceDictFrame => exact .ite (fun _ => u.request_sound _ fun t => by simp [State.Sound]) fun _ => .refl u
  case modbusReadHoldingRegisters | modbusReadInputRegisters | readDeviceIdentification | illegalFunction =>
    exact u.modbusFrame_sound _ fun t => by simp [State.Sound]
  case loaderErase | loaderWrite | loaderStatus => exact u.loaderCommand_sound _ fun t => by simp +contextual [State.Sound]
  all_goals simp +contextual [State.Sound]

theorem exec_answers (i : Instr) (s : State) : ∃ t, exec i s = .next t := by
  cases i <;> exact ⟨_, rfl⟩

theorem Memory.wf_iff (s : State) : Memory.wf s = true ↔
    RamWf s.le.ram ∧ FlashWf s.le.flash ∧ TagsWf s.le.tags ∧ FlashWf s.store.array ∧ FlashWf s.store.ledger := by
  simp only [Memory.wf, Bool.and_eq_true, tagsWf_iff, RamWf, FlashWf, and_assoc]

/-- What `State.Sound` says in the terms of the statement. -/
theorem State.Sound.canonical {s t : State} (h : s.Sound t) (hs : Memory.wf s = true) :
    Memory.wf t = true ∧ s.fusesKept t ∧ t.pending = s.pending := by
  obtain ⟨hram, hflash, htags, harray, hrows, hfuses, hpending⟩ := h
  rw [Memory.wf_iff] at hs ⊢
  obtain ⟨sram, sflash, stags, sarray, srows⟩ := hs
  exact ⟨⟨hram sram, hflash sflash, htags stags, harray sarray, hrows srows⟩, hfuses s.otp fun f hf hu => ⟨hf, hu⟩, hpending⟩

/-- Settles O59: an empty queue transmits, which touches no memory; the command at the head of the queue keeps all in order by
`exec_sound`. -/
theorem everyStepKeepsMemoryAndFuses : Obligations.EveryStepKeepsMemoryAndFuses := by
  unfold Obligations.EveryStepKeepsMemoryAndFuses
  intro s hs
  cases hp : s.pending with
  | nil =>
    have hsound : s.Sound s.transmitOne := by simp [State.Sound]
    obtain ⟨hwf, hfuses, hpending⟩ := hsound.canonical hs
    exact ⟨s.transmitOne, by simp only [Machine.step, hp], hwf, hfuses, by rw [hpending, hp]; rfl⟩
  | cons c rest =>
    obtain ⟨t, ht⟩ := exec_answers c { s with pending := rest }
    obtain ⟨hwf, hfuses, hpending⟩ := (exec_sound c _ t ht).canonical hs
    exact ⟨t, by simpa only [Machine.step, hp] using ht, hwf, hfuses, hpending⟩


end Sys2Proof.Machine

namespace Sys2Proof.Machine

/-! ### A write of the OTP objects reaches its owner (R161 to R163) -/

/-- An answer's error and detail. -/
def Response.verdict (a : Response) : Nat × Nat := (a.error, a.detail)

/-- A write of the dictionary's own channels: its owner answers it, and what follows touches the dictionary alone. -/
theorem State.applyWrite_local {w : QueuedWrite} (hcopy : w.isCopy = false) (hvia : w.via = none) (s : State) :
    let r := State.ownerTakes w { s with dict.response := none }
    ∃ d : Dict, s.applyWrite false w = { r with dict := d } ∧ d.response.map Response.verdict = r.dict.response.map Response.verdict := by
  intro r
  have hanswered (t : State) : ∃ d : Dict,
      (if t.answeredOk then (t.noteApplied w).supersede w.index w.sub else t) = { t with dict := d } ∧ d.response = t.dict.response := by
    split
    · unfold State.noteApplied
      split <;> exact ⟨_, rfl, rfl⟩
    · exact ⟨_, rfl, rfl⟩
  obtain ⟨d, hd, hresponse⟩ := hanswered r
  have hwrite : s.applyWrite false w = ({ r with dict := d } : State).answerQueued w := by
    unfold State.applyWrite
    simp only [hcopy, Bool.false_eq_true, if_false, if_true]
    exact congrArg (State.answerQueued w) hd
  rw [hwrite, State.answerQueued, hvia, ← hresponse]
  dsimp only
  split
  · exact ⟨_, rfl, Option.map_map ..⟩
  · exact ⟨_, rfl, rfl⟩

theorem State.ownerTakes_otp {w : QueuedWrite} (hindex : w.index = 0x2300) (s : State) :
    s.ownerTakes w = if w.sub = 8 then s.otpCommand w.access else s.otpStaging w.access := by
  unfold State.ownerTakes
  dsimp only
  rw [if_pos hindex]

/-- An OTP write that is refused: the code is answered, and `OTP_OP_STATUS` reads the status. -/
theorem State.otpRefuse_effect {a : Access} (hindex : a.index = 0x2300) {code : Nat} (hcode : code = 0x800E ∨ code = 0x800F) (status : Nat)
    (s : State) :
    ∃ d : Dict, s.otpRefuse a code status = { s with otp.opStatus := status, dict := d } ∧
      d.response.map Response.verdict = some (code, if code = 0x800E then status else 0) := by
  have hcredit : ¬code = 0x800A := by omega
  have himage : ¬a.index = 0x5000 := by omega
  unfold State.otpRefuse State.reject
  simp only [hcredit, himage, false_and, if_false]
  split
  · split
    · exact ⟨_, rfl, rfl⟩
    · split <;> exact ⟨_, rfl, rfl⟩
  · exact ⟨_, rfl, rfl⟩

theorem State.otpRefusal_code (s : State) (cmd : Nat) :
    (s.otpRefusal cmd).1 = 0 ∨ (s.otpRefusal cmd).1 = 0x800E ∨ (s.otpRefusal cmd).1 = 0x800F := by
  unfold State.otpRefusal
  dsimp only
  (repeat' split) <;> simp

theorem State.otpCommand_refused {a : Access} {s : State} (h : (s.otpRefusal a.value).1 ≠ 0) :
    s.otpCommand a = s.otpRefuse a (s.otpRefusal a.value).1 (s.otpRefusal a.value).2 := by
  unfold State.otpCommand
  split
  next heq => simp [heq] at h
  next heq => rw [heq]

theorem State.otpCommand_accepted {a : Access} {s : State} (h : (s.otpRefusal a.value).1 = 0) :
    s.otpCommand a = (s.startOtp a.value).accept a := by
  unfold State.otpCommand
  split
  next => rfl
  next hne heq => exact absurd (by rw [← h, heq]) hne

theorem State.accept_verdict (a : Access) (s : State) : (s.accept a).dict.response.map Response.verdict = some (0, 0) := by
  unfold State.accept
  dsimp only
  split
  · simp [Response.verdict]
  · rfl

/-! ### Staging -/

theorem State.stageWord_staging (value : Nat) (s : State) (i : Nat) (hi : i < 512) :
    (s.stageWord value).otp.staging.getLsbD i =
      if s.otp.offset ≤ i ∧ i < s.otp.offset + 32 then value.testBit (i - s.otp.offset) else s.otp.staging.getLsbD i := by
  have hones : (0xFFFFFFFF : BitVec 512).getLsbD (i - s.otp.offset) = decide (i - s.otp.offset < 32) := by
    have hlt : i - s.otp.offset < 512 := by omega
    have hword : (0xFFFFFFFF : Nat).testBit (i - s.otp.offset) = decide (i - s.otp.offset < 32) := Nat.testBit_two_pow_sub_one 32 _
    rw [BitVec.ofNat_eq_ofNat, BitVec.getLsbD_ofNat]
    simpa [hlt] using hword
  have hvalue : (BitVec.ofNat 512 (value % 2 ^ 32)).getLsbD (i - s.otp.offset) =
      (decide (i - s.otp.offset < 32) && value.testBit (i - s.otp.offset)) := by
    rw [BitVec.getLsbD_ofNat, Nat.testBit_mod_two_pow]
    have hlt : i - s.otp.offset < 512 := by omega
    simp [hlt]
  simp only [State.stageWord, BitVec.getLsbD_or, BitVec.getLsbD_and, BitVec.getLsbD_not, BitVec.getLsbD_shiftLeft, hones, hvalue]
  by_cases hlo : s.otp.offset ≤ i
  · by_cases hhi : i < s.otp.offset + 32
    · have hin : i - s.otp.offset < 32 := by omega
      have hge : ¬i < s.otp.offset := by omega
      simp [hlo, hhi, hin, hge, hi]
    · have hout : ¬i - s.otp.offset < 32 := by omega
      simp [hlo, hhi, hout, hi]
  · have hbelow : i < s.otp.offset := by omega
    simp [hlo, hbelow, hi]

/-! ### The start of a command -/

/-- The sense amplifiers do not read the dictionary. -/
theorem State.senseFuses_dict (s : State) (d : Dict) : ({ s with dict := d } : State).senseFuses = { s.senseFuses with dict := d } := by
  unfold State.senseFuses
  refine List.foldl_hom (fun t : State => { t with dict := d }) fun t f => ?_
  rfl

theorem State.domainsWanted_burning {s : State} (h : s.otp.running.isSome = true) : s.domainsWanted.getLsbD 54 = true := by
  unfold State.domainsWanted
  refine BitVec.getLsbD_ofBoolListLE.trans ?_
  simp [h]

/-- A burning command has begun from `v`, and PD54 is on (R72, R175). -/
def State.BurnStarted (v : State) (run : OtpRun) (t : State) : Prop :=
  t.otp = { v.otp with running := some { run with since := v.localNow }, opStatus := if v.power.gateClosed then 2 else 1, progress := 0 } ∧
    t.power.domainCommand.getLsbD 54 = true

theorem State.startRun_started (run : OtpRun) (v : State) : v.BurnStarted run (v.startRun run) := by
  refine ⟨by simp [State.startRun], ?_⟩
  unfold State.startRun
  rw [State.applyDomains_power_command]
  exact State.domainsWanted_burning rfl

theorem State.senseFuses_select (s : State) : s.senseFuses.otp.select = s.otp.select := by rw [State.senseFuses_frozen]

theorem State.senseFuses_staging (s : State) : s.senseFuses.otp.staging = s.otp.staging := by rw [State.senseFuses_frozen]

theorem State.senseFuses_stagingWord (s : State) : s.senseFuses.otp.stagingWord = s.otp.stagingWord := by
  rw [State.senseFuses_frozen]
  rfl

theorem State.startOtp_section {cmd : Nat} (hcmd : cmd = 1 ∨ cmd = 2) {s : State} {sec : OtpSection}
    (hsec : sectionOfSelect s.otp.select = some sec) :
    s.startOtp cmd =
      if s.senseFuses.startStatus cmd sec = 0 then s.senseFuses.startRun { code := cmd, sel := sec, item := 0 }
      else { s.senseFuses with otp.opStatus := s.senseFuses.startStatus cmd sec } := by
  rw [← State.senseFuses_select] at hsec
  rcases hcmd with rfl | rfl <;> simp only [State.startOtp, hsec]

/-- No fuse is burned when a command starts. -/
theorem State.startOtp_banks (cmd : Nat) (s : State) :
    (s.startOtp cmd).otp.bank0 = s.senseFuses.otp.bank0 ∧ (s.startOtp cmd).otp.bank1 = s.senseFuses.otp.bank1 ∧
      (s.startOtp cmd).otp.bank2 = s.senseFuses.otp.bank2 := by
  unfold State.startOtp
  dsimp only
  (repeat' split) <;> simp [State.startRun]

theorem State.senseFuses_keeps (s : State) : State.keeps [.otp, .freeCount] s s.senseFuses := by
  intro p hp
  cases p <;> simp at hp <;> simp [State.agrees]

theorem Response.error_of_verdict {r : Option Response} {p : Nat × Nat} (h : r.map Response.verdict = some p) :
    r.map (fun a => a.error) = some p.1 := by
  obtain ⟨a, rfl, rfl⟩ := Option.map_eq_some_iff.mp h
  rfl

/-- A write of an OTP object that its owner refuses. -/
theorem State.applyWrite_refused {w : QueuedWrite} (hcopy : w.isCopy = false) (hvia : w.via = none) (hindex : w.index = 0x2300) {s : State}
    {code status : Nat} (hcode : code = 0x800E ∨ code = 0x800F)
    (h : State.ownerTakes w { s with dict.response := none } = State.otpRefuse w.access code status { s with dict.response := none }) :
    ∃ d : Dict, s.applyWrite false w = { s with otp.opStatus := status, dict := d } ∧
      d.response.map Response.verdict = some (code, if code = 0x800E then status else 0) := by
  obtain ⟨d, hd, hresponse⟩ := s.applyWrite_local hcopy hvia
  obtain ⟨d', hd', hresponse'⟩ := State.otpRefuse_effect (a := w.access) hindex hcode status { s with dict.response := none }
  rw [h, hd'] at hd hresponse
  exact ⟨d, hd, hresponse.trans hresponse'⟩

/-- A write of an OTP object that its owner accepts, having made `r` of the state. -/
theorem State.applyWrite_accepted {w : QueuedWrite} (hcopy : w.isCopy = false) (hvia : w.via = none) {s r : State}
    (h : State.ownerTakes w { s with dict.response := none } = r.accept w.access) :
    ∃ d : Dict, s.applyWrite false w = { r.accept w.access with dict := d } ∧ d.response.map Response.verdict = some (0, 0) := by
  obtain ⟨d, hd, hresponse⟩ := s.applyWrite_local hcopy hvia
  rw [h] at hd hresponse
  exact ⟨d, hd, hresponse.trans (r.accept_verdict w.access)⟩

section Owner

variable {w : QueuedWrite} (hcopy : w.isCopy = false) (hvia : w.via = none) (hindex : w.index = 0x2300) {s : State}
include hcopy hvia hindex

/-- A staging write while a command runs (R162). -/
theorem State.applyWrite_staging_busy (hsub : w.sub = 5 ∨ w.sub = 7) (hrun : s.otp.running ≠ none) :
    ∃ d : Dict, s.applyWrite false w = { s with otp.opStatus := 0x88, dict := d } ∧
      d.response.map Response.verdict = some (0x800E, 0x88) := by
  refine State.applyWrite_refused hcopy hvia hindex (.inl rfl) ?_
  have hsub : ¬w.sub = 8 := by omega
  rw [State.ownerTakes_otp hindex, if_neg hsub]
  exact if_pos (Option.isSome_iff_ne_none.mpr hrun)

/-- `OTP_SELECT` (R161). -/
theorem State.applyWrite_select (hsub : w.sub = 5) (hrun : s.otp.running = none) :
    ∃ d : Dict, s.applyWrite false w =
        { State.accept w.access (State.selectSection w.value { s with dict.response := none }) with dict := d } ∧
      d.response.map Response.verdict = some (0, 0) := by
  refine State.applyWrite_accepted hcopy hvia ?_
  rw [State.ownerTakes_otp hindex, if_neg (by omega), State.otpStaging, State.stagingWrite, if_neg (by simp [hrun])]
  exact congrArg _ (if_pos hsub)

/-- `OTP_DATA` (R161). -/
theorem State.applyWrite_data (hsub : w.sub = 7) (hrun : s.otp.running = none) :
    ∃ d : Dict, s.applyWrite false w =
        { State.accept w.access (State.stageWord w.value { s with dict.response := none }) with dict := d } ∧
      d.response.map Response.verdict = some (0, 0) := by
  refine State.applyWrite_accepted hcopy hvia ?_
  have h5 : ¬w.access.sub = 5 := fun h => by simp [QueuedWrite.access, hsub] at h
  have h6 : ¬w.access.sub = 6 := fun h => by simp [QueuedWrite.access, hsub] at h
  rw [State.ownerTakes_otp hindex, if_neg (by omega), State.otpStaging, State.stagingWrite, if_neg (by simp [hrun])]
  dsimp only
  rw [if_neg h5, if_neg h6]
  rfl

/-- `OTP_COMMAND` that Table 5-6 refuses. -/
theorem State.applyWrite_command_refused (hsub : w.sub = 8) (hcode : (s.otpRefusal w.value).1 ≠ 0) :
    ∃ d : Dict, s.applyWrite false w = { s with otp.opStatus := (s.otpRefusal w.value).2, dict := d } ∧
      d.response.map (fun a => a.error) = some (s.otpRefusal w.value).1 := by
  have howner : State.ownerTakes w { s with dict.response := none } =
      State.otpRefuse w.access (s.otpRefusal w.value).1 (s.otpRefusal w.value).2 { s with dict.response := none } := by
    rw [State.ownerTakes_otp hindex, if_pos hsub]
    exact State.otpCommand_refused hcode
  obtain ⟨d, hd, hresponse⟩ := State.applyWrite_refused hcopy hvia hindex ((s.otpRefusal_code w.value).resolve_left hcode) howner
  have herror := Response.error_of_verdict hresponse
  exact ⟨d, hd, herror⟩

/-- `OTP_COMMAND` that is permitted. -/
theorem State.applyWrite_command (hsub : w.sub = 8) (hcode : (s.otpRefusal w.value).1 = 0) :
    ∃ d : Dict, s.applyWrite false w =
        { State.accept w.access (State.startOtp w.value { s with dict.response := none }) with dict := d } ∧
      d.response.map Response.verdict = some (0, 0) := by
  refine State.applyWrite_accepted hcopy hvia ?_
  rw [State.ownerTakes_otp hindex, if_pos hsub]
  exact State.otpCommand_accepted hcode

end Owner

/-- Settles O43: the owner of an OTP write stages a word, refuses, or starts what Table 5-6 permits; around it the write touches the
dictionary and the store alone. -/
theorem otpCommandsStart : Obligations.OtpCommandsStart := by
  unfold Obligations.OtpCommandsStart
  refine ⟨fun s => ⟨fun f => s.senseFuses_fuse f, s.senseFuses_frozen, fun h => ?_, s.senseFuses_keeps⟩, fun w s hcopy hvia hindex => ?_⟩
  · rw [State.senseFuses, h, List.foldl_nil]
  intro t v
  have ht : t = s.applyWrite false w := rfl
  clear_value t
  refine ⟨fun hsub hrun => ?_, fun hsub hrun => ?_, fun hsub hrun => ?_, fun code status hsub hrefusal hcode => ?_,
    fun hsub hrefusal => ?_⟩
  · obtain ⟨d, hd, hresponse⟩ := State.applyWrite_staging_busy hcopy hvia hindex hsub hrun
    obtain rfl := ht.trans hd
    refine ⟨rfl, hresponse, fun p hp => ?_⟩
    cases p <;> simp at hp <;> rfl
  · obtain ⟨d, hd, hresponse⟩ := State.applyWrite_select hcopy hvia hindex hsub hrun
    obtain rfl := ht.trans hd
    refine ⟨?_, Response.error_of_verdict hresponse, fun p hp => ?_⟩
    · simp [State.selectSection, State.senseFuses_dict, v]
    · cases p <;> simp at hp <;> simp [State.agrees]
  · obtain ⟨d, hd, hresponse⟩ := State.applyWrite_data hcopy hvia hindex hsub hrun
    obtain rfl := ht.trans hd
    refine ⟨?_, fun i hi => ?_, Response.error_of_verdict hresponse, fun p hp => ?_⟩
    · simp [State.stageWord]
    · simpa using State.stageWord_staging w.value { s with dict.response := none } i hi
    · cases p <;> simp at hp <;> simp [State.agrees]
  · obtain ⟨d, hd, hresponse⟩ := State.applyWrite_command_refused hcopy hvia hindex hsub (by rwa [hrefusal])
    obtain rfl := ht.trans hd
    rw [hrefusal] at hresponse
    refine ⟨by rw [hrefusal], hresponse, fun p hp => ?_⟩
    cases p <;> simp at hp <;> rfl
  · obtain ⟨d, hd, hresponse⟩ := State.applyWrite_command hcopy hvia hindex hsub (by rw [hrefusal])
    obtain rfl := ht.trans hd
    intro running
    have hstarted {run : OtpRun}
        (h : State.startOtp w.value { s with dict.response := none } =
          State.startRun run { v with dict := { s.dict with response := none } }) :
        running { run with since := s.localNow } := by
      obtain ⟨hotp, hdomain⟩ := State.startRun_started run { v with dict := { s.dict with response := none } }
      rw [← h] at hotp hdomain
      refine ⟨?_, by simpa using hdomain⟩
      simpa [v, State.localNow] using hotp
    obtain ⟨h0, h1, h2⟩ := State.startOtp_banks w.value { s with dict.response := none }
    have hsense : State.senseFuses { s with dict.response := none } = { v with dict := { s.dict with response := none } } :=
      s.senseFuses_dict { s.dict with response := none }
    rw [hsense] at h0 h1 h2
    refine ⟨by simpa using h0, by simpa using h1, by simpa using h2, Response.error_of_verdict hresponse, fun sec hsec hcmd => ?_,
      fun hcmd => ?_, fun hcmd => ?_, fun hcmd => ?_, fun hcmd => ?_, fun p hp => ?_⟩
    · have h := State.startOtp_section hcmd (s := { s with dict.response := none }) hsec
      rw [hsense] at h
      refine ⟨fun hstatus => ?_, fun hstatus => hstarted (h.trans (if_pos hstatus))⟩
      have hotp : (State.startOtp w.value { s with dict.response := none }).otp = { v.otp with opStatus := v.startStatus w.value sec } :=
        congrArg State.otp (h.trans (if_neg hstatus))
      simpa using hotp
    · refine hstarted (run := { code := 3, sel := .lifecycle, item := s.otp.stagingWord % 256 - 2 }) ?_
      rw [hcmd, State.startOtp, hsense]
      exact congrArg (fun n => State.startRun { code := 3, sel := .lifecycle, item := n % 256 - 2 } _) s.senseFuses_stagingWord
    · simp [hcmd, State.startOtp, hsense, v, State.senseFuses_select, State.senseFuses_staging]
    · simp [hcmd, State.startOtp, hsense]
    · refine hstarted (run := { code := 6, sel := .lifecycle, item := 5 }) ?_
      rw [hcmd, State.startOtp, hsense]
    · cases p <;> simp at hp <;> simp [State.agrees]


end Sys2Proof.Machine
